-- ==== Sys2Proof/Word.lean ====
section
/-! DEFINITION. The word types of the Folfel 2048. -/

namespace Sys2Proof

/-- A byte of a packet, a request, a memory or a bundle. -/
abbrev Byte := BitVec 8

/-- A register, or an aligned word of memory (00 R4). -/
abbrev W32 := BitVec 32

end Sys2Proof
end

