-- ==== Sys2Proof/Packets.lean ====
section
/-! DEFINITION. The data that commands and events carry: requests, packets and their parts. -/

namespace Sys2Proof

/-- A request entry as a cage receives it (16 Table 16.1), with its argument block (ARG_LEN is its length).
`reachable` says whether the argument or result block could be reached (R379), an input of the transport. -/
structure Req where
  cage : Nat := 0
  opcode : Nat := 0
  tag : Nat := 0
  client : Nat := 1
  forward : Bool := false
  host : Bool := false
  part : Bool := false
  /-- Bit 12 of bytes 6 to 7, reserved. -/
  rsv : Bool := false
  dest : Nat := 0
  argAddr : Nat := 0
  resMax : Nat := 0
  /-- Bytes 24 to 63. -/
  body : List Byte := List.replicate 40 0
  arg : List Byte := []
  reachable : Bool := true
  /-- The entry states an ARG_LEN or RES_MAX that its transport cannot carry (R380, R382, R383). -/
  badLen : Bool := false
  /-- Identity of the sender, for cage 7 (R383). -/
  peer : Nat := 0
  /-- Management port, IPv4 address and UDP port that the request came from, for cages 4 and 5 (R380). -/
  origin : Nat × Nat × Nat := (0, 0, 0)
  deriving DecidableEq, Repr, Inhabited

/-- How an access of a pit memory channel ends (12 Table 12.2). -/
inductive PitOutcome where
  | ok
  /-- One byte of a line was corrected; the TAG was rewritten. -/
  | corrected | tagFix
  /-- A link error was corrected; a transfer succeeded on a retry. -/
  | linkCorrected | linkRetried
  /-- Uncorrectable data, a command error, a link error that two retries did not mend: of one line of the request. -/
  | uncorrectable (line : Nat) | command (line : Nat) | linkFailed (line : Nat)
  deriving DecidableEq, Repr, Inhabited

/-- Faults that an access of a pit memory channel meets (12 R257, R258, R261): of its data line `line`, how many bytes are in
error and whether the decoder places an error in an address byte; the bits of the TAG that read wrong; how many transfers
failed beyond the link's correction, and whether the link corrected one. -/
structure PitFault where
  line : Nat := 0
  bytes : Nat := 0
  place : Bool := false
  tag : Nat := 0
  tries : Nat := 0
  linkFix : Bool := false
  deriving DecidableEq, Repr, Inhabited

/-- An Announce message as PTP takes it (13 R311): the sender's identity and receiving port, the grandmaster's dataset, and
the time properties (PTP_UTC layout). -/
structure Announce where
  port : Nat := 0
  sender : Nat := 0
  domain : Nat := 0
  majorSdo : Nat := 0
  /-- 1 layer 2, 2 UDP. -/
  transport : Nat := 1
  gm : Nat := 0
  priority1 : Nat := 128
  clockClass : Nat := 248
  accuracy : Nat := 254
  variance : Nat := 65535
  priority2 : Nat := 128
  stepsRemoved : Nat := 0
  utc : Nat := 0
  deriving DecidableEq, Repr, Inhabited

/-- A memory error that meets an access: none, a correctable one, or an uncorrectable one. -/
inductive MemErr where
  | none | ce | ue
  deriving DecidableEq, Repr, Inhabited

/-- A record of the shift log that its memory gives back altered (14 R329): the bits of the record that changed. -/
inductive LogFault where
  /-- The journal entry of a command, and the entry of the reply cache, by client and tag. -/
  | journal (client tag flips : Nat) | reply (client tag flips : Nat)
  /-- A record of the device checkpoint. -/
  | checkpoint (flips : Nat)
  deriving DecidableEq, Repr, Inhabited

/-- A record of the firmware region (14 R330): the bundle, the beam terms, the Assay and the trigger configuration, and the
image of an Assayer. -/
inductive RegionRec where
  | bundle | beams | assay | trigger | image (core : Nat)
  deriving DecidableEq, Repr, Inhabited

/-- What a register write names: a BAR0 offset, or an address of the writing Suhel core's own space (15 Table 15.1). -/
inductive RegAddr where
  | bar0 (off : Nat) | suhel (addr : Nat)
  deriving DecidableEq, Repr, Inhabited

/-- A character as the 8b/10b decoder gives it: a valid 10-bit character or not, control or data, its byte (02 R28). -/
structure RxChar where
  valid : Bool := true
  ctl : Bool := false
  byte : Nat := 0
  deriving DecidableEq, Repr, Inhabited

/-- How a packet ends at a lane port (02 Table 2.5). -/
inductive RxEnd where
  /-- EOP on a word boundary. -/
  | eop
  /-- EAB: abandoned by the sender. -/
  | eab
  /-- SOP, IDLE, SKIP or TRAIN before EOP, or EOP off a word boundary. -/
  | framing
  /-- Longer than the longest Seam packet. -/
  | tooLong
  deriving DecidableEq, Repr, Inhabited

end Sys2Proof
end

