-- ==== Sys2Proof/Syntax.lean ====
section
/-! DEFINITION. The commands and events of the block: one constructor per row of the opcode table.
A command row carries its request entry `r` and the timer count `t` at which the firmware acts on it;
an event row carries what the event brings with it (a lane, a packet, a measured value). -/

namespace Sys2Proof

inductive Instr where
  /-- A write to a register that has no row of its own, acting by its field access codes (RW, W1C, W1S, WO). (R5) -/
  | registerWrite (agent : Nat) (a : RegAddr) (v t : Nat)
  /-- A narrow, wide or unaligned register access is discarded or reads 0 and sets the access-error bit. (R4) -/
  | illegalRegisterAccess (agent o kind : Nat)
  /-- A read of the lowest word of a quantity wider than 32 bits latches its higher words into a snapshot. (R9) -/
  | wideQuantityLowRead (agent o : Nat)
  /-- A write to the highest word of a wide quantity commits all of its words at once. (R9) -/
  | wideQuantityHighWrite (agent o v t : Nat)
  /-- Command that sets receive enables, transmit roles and rates, and dual path. (R24) -/
  | laneAssign (r : Req) (t : Nat)
  /-- A transmit lane removed from a path finishes its packet and then turns to OFF. (R27) -/
  | txLaneTurnOff (n : Nat)
  /-- A transmit lane's 10 ms of continuous TRAIN ends, and the lane sets TX_UP and enters service. (R40) -/
  | txTrainDone (n : Nat)
  /-- After 1,024 lane words without a SKIP, the lane sends a SKIP at the next word boundary outside a packet. (R30) -/
  | txSkipSend (n w : Nat)
  /-- After 61,440 words without one, the lane sends a TRAIN with REPORT 0 at the next word boundary outside a packet. (R30) -/
  | txTrainSend (n w : Nat)
  /-- After 256 words without a TRAIN, a RETURN lane sends a TRAIN with REPORT 1 for the next enabled receive lane. (R29) -/
  | txTrainReport (n w : Nat)
  /-- A transmit serialiser loses lock: the packet in progress is ended with EAB and the lane falls silent. (R37) -/
  | txFault (n : Nat)
  /-- The serialiser relocks and the lane begins its 10 ms TRAIN. (R37) -/
  | txSerialiserRelock (n : Nat)
  /-- A TRAIN received outside a packet updates the lane's PEER fields. (R32) -/
  | rxTrain (n info lane : Nat)
  /-- A received SKIP may be deleted or followed by an inserted SKIP to recentre the elastic buffer. (R31) -/
  | rxSkip (n fill : Nat)
  /-- The elastic buffer overflows or underflows, is recentred, and ends any packet in progress. (R31) -/
  | elasticEvent (n : Nat) (inPkt : Bool)
  /-- Eight consecutive IDLE, SKIP or TRAIN sets with K28.5 in position 0 declare word alignment. (R28) -/
  | wordAlignment (n : Nat) (words : List (List RxChar))
  /-- A character with a code or disparity error is counted and sets CODE or DISP. (R36) -/
  | codeError (n w pos : Nat) (word : List RxChar) (disp inPkt : Bool)
  /-- A packet ends at EOP, EAB or a cut, and is delivered or discarded and counted. (R36) -/
  | rxPacket (n : Nat) (how : RxEnd) (bytes crc : List Byte) (t : Nat)
  /-- Input amplitude below 60 mV for 2 us asserts LOS, and with it LOL. (R35) -/
  | losAssert (n : Nat) (inPkt : Bool)
  /-- Input amplitude above 100 mV for 2 us deasserts LOS. (R35) -/
  | losDeassert (n : Nat)
  /-- Loss of frequency or word alignment asserts LOL, and a lane in UP enters RELOCK. (R35) -/
  | lolAssert (n : Nat) (inPkt : Bool)
  /-- The loop locks and word alignment is declared again. (R35) -/
  | lolDeassert (n : Nat)
  /-- A rate trial achieves lock, alignment and 256 clean words, and the lane enters ADAPT. (R38) -/
  | rateTrialSuccess (n : Nat)
  /-- A rate trial reaches 2 ms without success, and the next rate is tried. (R38) -/
  | rateTrialFail (n : Nat)
  /-- The 5 ms saved-rate attempt ends without success, and the full ladder starts. (R38) -/
  | savedRateAttemptEnd (n : Nat)
  /-- The 1 ms ADAPT ends, and the lane enters UP or continues its search, or enters FAILED. (R38) -/
  | adaptEnd (n : Nat) (clean : Bool) (ctle : Nat) (taps : List Int)
  /-- A RELOCK attempt, made on entry and every 5 ms after, returns the lane to UP when it succeeds. (R39) -/
  | relockAttempt (n : Nat) (ok : Bool)
  /-- Command that starts bring-up of the named receive lanes. (R38) -/
  | laneBringup (r : Req) (t : Nat)
  /-- Command that returns lane counters or per-peer CONTROL counts. (R399) -/
  | laneStatus (r : Req) (t : Nat)
  /-- A write of LANE_CNT_CTRL_n.CLEAR clears the lane counters at the next word boundary. (R42) -/
  | laneCounterClear (n : Nat)
  /-- A delivered DATA packet is judged and then placed or discarded, which may seal its slot. (R71) -/
  | dataPacket (lane : Nat)
  /-- A delivered PROMPT packet is judged by its block, and is placed, opening or closing blocks. (R80) -/
  | promptPacket (lane : Nat)
  /-- The prompt wait passes after a block's first packet, and the block closes. (R82) -/
  | promptWaitExpiry (n : Nat)
  /-- A CONTROL message is received, and is delivered, discarded or acknowledged by session and sequence. (R62) -/
  | controlMessage (lane t : Nat)
  /-- A pure acknowledgement is received and releases acknowledged messages from the window. (R63) -/
  | controlAck (lane : Nat)
  /-- No outgoing message carries an acknowledgement within 100 us, so a pure acknowledgement is sent. (R63) -/
  | pureAckSend (id : Nat)
  /-- A queued CONTROL message leaves on the eligible lanes or paths. (R64) -/
  | controlSend (id : Nat)
  /-- The oldest message goes 1 ms unacknowledged, and every unacknowledged message is resent. (R63) -/
  | controlRetransmit (id t : Nat)
  /-- At a_j + I/2 the seal window opens, and a COMPLETE slot seals. (R68) -/
  | sealWindowOpen (j : Nat)
  /-- At a_j + 3I/2 a slot is deadline-sealed, its consumption begins, the previous consumption ends and a slot reopens. (R69) -/
  | chunkBoundary (opens : Nat) (admitted stalls : List Nat) (t : Nat)
  /-- A write of HOP_CNT_CTRL.CLEAR requests a clear of the Hopper counters. (R83) -/
  | hopCounterClear
  /-- A run ends: the beads go to the shadow beads, are cleared, and the next run starts, or the frame stalls. (R93) -/
  | runHandover (k : Nat)
  /-- The shadow beads finish emptying into promotion staging, which ends any stall. (R93) -/
  | shadowEmptied (k cycles : Nat)
  /-- A bead-store word has a correctable or an uncorrectable error. (R92) -/
  | beadStoreError (k ctx : Nat) (ue : Bool)
  /-- A frame holding u prompt units, or a frame at its block's close, is preempted for prompt work. (R100) -/
  | preemptionLatch (k n admitted : Nat)
  /-- The prompt units and the restore end, cells are freed, and the run resumes. (R101) -/
  | preemptionEnd (k done : Nat)
  /-- Deferred prompt work starts when the frame finishes its slice, or first in the next interval. (R103) -/
  | preemptionDeferredStart (k : Nat)
  /-- Command that latches a drain in every frame. (R105) -/
  | drain (r : Req) (t : Nat)
  /-- The last frame finishes its drain, the drain record is written and the Abacus is DRAINED. (R107) -/
  | drainDone (admitted stalls : List Nat) (t : Nat)
  /-- A write of ABA_CNT_CTRL.CLEAR requests a clear of the Abacus counters. (R109) -/
  | abaCounterClear
  /-- The promotion engine issues the promotions of a line, with T32E rescale and damage handling. (R124) -/
  | linePromotion (g : Nat) (ue : Bool) (inflight : List Nat)
  /-- A dump record's last line is written, and the record is posted to the Hoist. (R130) -/
  | dumpRecordPosted
  /-- Command that sets the integration schedule. (R114) -/
  | integSchedule (r : Req) (t : Nat)
  /-- Command that ends an integration at a last chunk cycle. (R129) -/
  | integStop (r : Req) (t : Nat)
  /-- After DRAIN_DONE and its promotions, the open integration's channel records are copied to the ring. (R133) -/
  | closeSweep
  /-- The close sweep ends and the schedule ends. (R133) -/
  | closeDone (t : Nat)
  /-- A write of TAL_CNT_CTRL.CLEAR requests a clear of the tally counters. (R135) -/
  | talCounterClear
  /-- Command that changes a beam set's parameters from an update chunk. (R139) -/
  | beamsetDefine (r : Req) (t : Nat)
  /-- Command that loads a new generation of input or beam terms. (R143) -/
  | beamDelays (r : Req) (t : Nat)
  /-- A new generation has been staged for every frame, which is its commit point. (R144) -/
  | generationCommit (t : Nat)
  /-- Command that writes weight blocks to a bank that is not in use. (R147) -/
  | beamWeightTable (r : Req) (t : Nat)
  /-- Command that sets the prompt-beam parameters. (R154) -/
  | promptConfig (r : Req) (t : Nat)
  /-- A tabulated weight block arrives from P3, which ends any weight stall. (R148) -/
  | weightBlockArrival (set r cycles : Nat)
  /-- Every unit of a position has ended, and its beam blocks pass to the Hoist. (R150) -/
  | beamBlocksHandover (pos : Nat)
  /-- A closed prompt block's units have ended, its group parts are joined and PBEAM blocks pass on. (R155) -/
  | promptBlockJoin (n : Nat)
  /-- A block's prompt power samples are handed over once every earlier block has been handed over. (R158) -/
  | promptPowerHandover (n : Nat)
  /-- A write of BEAM_CNT_CTRL.CLEAR requests a clear of the beam counters. (R160) -/
  | beamCounterClear
  /-- A tour begins: every input queue is snapshot, and a staged ASSAY_CONFIG commits. (R164) -/
  | tourStart (t : Nat)
  /-- A series' slot processes up to 64 snapshot samples through blocker, filters and detectors, and emits events. (R167) -/
  | seriesSlot (n : Nat)
  /-- Command that configures series and banks, or freezes or releases a DC blocker. (R177) -/
  | assayConfig (r : Req) (t : Nat)
  /-- A write of ASSAY_CNT_CTRL.CLEAR clears the Assay counters at the next tour boundary. (R179) -/
  | assayCounterClear
  /-- A write of ASSAY_PROBE_SEL clears PROBE_VALID and selects the series to probe. (R180) -/
  | assayProbeSelWrite (n : Nat)
  /-- Assayer ALU add. (R185) -/
  | add (a : Nat) (dd ds dt : BitVec 4)
  /-- Assayer ALU subtract. (R185) -/
  | sub (a : Nat) (dd ds dt : BitVec 4)
  /-- Assayer ALU AND. (R185) -/
  | and (a : Nat) (dd ds dt : BitVec 4)
  /-- Assayer ALU OR. (R185) -/
  | or (a : Nat) (dd ds dt : BitVec 4)
  /-- Assayer ALU XOR. (R185) -/
  | xor (a : Nat) (dd ds dt : BitVec 4)
  /-- Assayer shift left by register. (R185) -/
  | shl (a : Nat) (dd ds dt : BitVec 4)
  /-- Assayer arithmetic shift right by register. (R185) -/
  | shra (a : Nat) (dd ds dt : BitVec 4)
  /-- Assayer logical shift right by register. (R185) -/
  | shrl (a : Nat) (dd ds dt : BitVec 4)
  /-- Assayer signed set-less-than. (R185) -/
  | slt (a : Nat) (dd ds dt : BitVec 4)
  /-- Assayer unsigned set-less-than. (R185) -/
  | sltu (a : Nat) (dd ds dt : BitVec 4)
  /-- Assayer signed minimum. (R185) -/
  | min (a : Nat) (dd ds dt : BitVec 4)
  /-- Assayer signed maximum. (R185) -/
  | max (a : Nat) (dd ds dt : BitVec 4)
  /-- Assayer absolute value modulo 2^32. (R185) -/
  | abs (a : Nat) (dd ds : BitVec 4)
  /-- Assayer add of a sign-extended immediate. (R185) -/
  | addi (a : Nat) (dd ds : BitVec 4) (imm : BitVec 18)
  /-- Assayer AND with a zero-extended immediate. (R185) -/
  | andi (a : Nat) (dd ds : BitVec 4) (imm : BitVec 18)
  /-- Assayer OR with a zero-extended immediate. (R185) -/
  | ori (a : Nat) (dd ds : BitVec 4) (imm : BitVec 18)
  /-- Assayer XOR with a zero-extended immediate. (R185) -/
  | xori (a : Nat) (dd ds : BitVec 4) (imm : BitVec 18)
  /-- Assayer shift left by an immediate. (R185) -/
  | shli (a : Nat) (dd ds : BitVec 4) (sh : BitVec 5)
  /-- Assayer arithmetic shift right by an immediate. (R185) -/
  | shrai (a : Nat) (dd ds : BitVec 4) (sh : BitVec 5)
  /-- Assayer logical shift right by an immediate. (R185) -/
  | shrli (a : Nat) (dd ds : BitVec 4) (sh : BitVec 5)
  /-- Assayer load of a sign-extended 22-bit immediate. (R185) -/
  | movi (a : Nat) (dd : BitVec 4) (imm : BitVec 22)
  /-- Assayer write of a register's upper halfword. (R185) -/
  | movhi (a : Nat) (dd : BitVec 4) (imm : BitVec 16)
  /-- Assayer ACC := product of halves, with an optional parallel load. (R185) -/
  | mul (a : Nat) (ds dt : BitVec 4) (hs ht ld : Bool) (al : BitVec 3) (dl : BitVec 4) (e : MemErr)
  /-- Assayer ACC := ACC + product, with an optional parallel load. (R185) -/
  | mac (a : Nat) (ds dt : BitVec 4) (hs ht ld : Bool) (al : BitVec 3) (dl : BitVec 4) (e : MemErr)
  /-- Assayer ACC := ACC - product, with an optional parallel load. (R185) -/
  | msu (a : Nat) (ds dt : BitVec 4) (hs ht ld : Bool) (al : BitVec 3) (dl : BitVec 4) (e : MemErr)
  /-- Assayer read of a 32-bit window of ACC. (R183) -/
  | mova (a : Nat) (dd : BitVec 4) (sh : BitVec 5)
  /-- Assayer read of ACC[39:32], sign-extended. (R185) -/
  | mfah (a : Nat) (dd : BitVec 4)
  /-- Assayer write of ACC from two registers. (R185) -/
  | mta (a : Nat) (ds dt : BitVec 4)
  /-- Assayer clear of ACC. (R185) -/
  | clra (a : Nat)
  /-- Assayer word load from DMEM. (R185) -/
  | ld (a : Nat) (d : BitVec 4) (ar : BitVec 3) (post : Bool) (off : BitVec 18) (e : MemErr)
  /-- Assayer signed halfword load from DMEM. (R185) -/
  | ldh (a : Nat) (d : BitVec 4) (ar : BitVec 3) (post : Bool) (off : BitVec 18) (e : MemErr)
  /-- Assayer word store to DMEM. (R185) -/
  | st (a : Nat) (d : BitVec 4) (ar : BitVec 3) (post : Bool) (off : BitVec 18)
  /-- Assayer halfword store by read, merge and rewrite. (R185) -/
  | sth (a : Nat) (d : BitVec 4) (ar : BitVec 3) (post : Bool) (off : BitVec 18) (e : MemErr)
  /-- Assayer load of an address register from an immediate. (R185) -/
  | movai (a : Nat) (ar : BitVec 3) (imm : BitVec 17)
  /-- Assayer add to an address register. (R185) -/
  | adda (a : Nat) (ar : BitVec 3) (off : BitVec 18)
  /-- Assayer move from a data register to an address register. (R185) -/
  | movda (a : Nat) (ar : BitVec 3) (d : BitVec 4)
  /-- Assayer move from an address register to a data register. (R185) -/
  | movad (a : Nat) (d : BitVec 4) (ar : BitVec 3)
  /-- Assayer branch with two delay slots. (R186) -/
  | br (a : Nat) (target : BitVec 14)
  /-- Assayer branch if zero. (R186) -/
  | beqz (a : Nat) (d : BitVec 4) (target : BitVec 14)
  /-- Assayer branch if not zero. (R186) -/
  | bnez (a : Nat) (d : BitVec 4) (target : BitVec 14)
  /-- Assayer branch if negative. (R186) -/
  | bltz (a : Nat) (d : BitVec 4) (target : BitVec 14)
  /-- Assayer branch if not negative. (R186) -/
  | bgez (a : Nat) (d : BitVec 4) (target : BitVec 14)
  /-- Assayer call, linking in d15. (R185) -/
  | call (a : Nat) (target : BitVec 14)
  /-- Assayer jump to the address in a register. (R185) -/
  | jr (a : Nat) (d : BitVec 4)
  /-- Assayer hardware loop with a register count. (R188) -/
  | loop (a : Nat) (d : BitVec 4) (stop : BitVec 14)
  /-- Assayer hardware loop with an immediate count. (R188) -/
  | loopi (a : Nat) (count : BitVec 12) (stop : BitVec 14)
  /-- Assayer write of LC, LS, LE or EPC. (R185) -/
  | mtl (a : Nat) (d : BitVec 4) (r : BitVec 2)
  /-- Assayer read of LC, LS, LE or EPC. (R185) -/
  | mfl (a : Nat) (d : BitVec 4) (r : BitVec 2)
  /-- Assayer read of a port, which latches CYCLE or NOW high words. (R194) -/
  | pin (a : Nat) (d : BitVec 4) (port : BitVec 8) (t : Nat)
  /-- Assayer write to a port that has no behaviour row of its own. (R194) -/
  | pout (a : Nat) (d : BitVec 4) (port : BitVec 8)
  /-- Assayer no operation. (R185) -/
  | nop (a : Nat)
  /-- Assayer interrupt enable. (R185) -/
  | ei (a : Nat)
  /-- Assayer interrupt disable. (R185) -/
  | di (a : Nat)
  /-- The Assayer core idles in WAITING until an enabled cause is pending. (R191) -/
  | wait (a : Nat)
  /-- An enabled cause becomes pending, and a WAITING core continues or takes the interrupt. (R191) -/
  | waitWake (a n : Nat)
  /-- Assayer return to EPC, setting IE after the delay slots. (R190) -/
  | reti (a : Nat)
  /-- The Assayer core stops in HALTED. (R191) -/
  | halt (a : Nat)
  /-- An unlisted or malformed instruction is fetched. (R184) -/
  | illegalInstruction (a : Nat) (e : MemErr)
  /-- At an interruptible boundary with IE and a masked cause, EPC is saved and fetch goes to 0x0004. (R189) -/
  | interruptEntry (a : Nat)
  /-- A write of the TICK port loads or stops the down-counter. (R194) -/
  | tickLoad (a : Nat) (d : BitVec 4)
  /-- TICK reaches 0 and sets ICAUSE.TICK. (R194) -/
  | tickExpiry (a : Nat)
  /-- A write of EV_FREE frees the head record of the event queue. (R195) -/
  | evFree (a : Nat) (d : BitVec 4)
  /-- A write of INJ_VALUE hands a sample to an owned series and advances INJ_STAMP. (R196) -/
  | injValue (a : Nat) (d : BitVec 4)
  /-- A write of FRZ makes a freeze or release request for a prompt series. (R197) -/
  | frz (a : Nat) (d : BitVec 4)
  /-- A write of TRQ_GO places a trigger request in the core's request queue. (R198) -/
  | trqGo (a : Nat) (d : BitVec 4)
  /-- A write of OUT_SEND copies the staged message into the outbox. (R199) -/
  | outSend (a : Nat) (d : BitVec 4)
  /-- A write of IN_FREE frees the head inbox message. (R199) -/
  | inFree (a : Nat) (d : BitVec 4)
  /-- A host or core write frees the head outbox message. (R199) -/
  | ayrOutFree (a : Nat)
  /-- A host or core write sends the staged inbound message. (R199) -/
  | ayrInSend (a : Nat)
  /-- A window write to IMEM or DMEM, rejected for IMEM while the core runs. (R193) -/
  | assayerWindowWrite (a off : Nat) (v : W32)
  /-- Command that loads an Assayer image and sets series ownership. (R201) -/
  | assayerLoad (r : Req) (t : Nat)
  /-- Command that starts, stops or continues an Assayer core. (R202) -/
  | assayerRun (r : Req) (t : Nat)
  /-- A pending STOP takes effect at the next interruptible boundary. (R202) -/
  | assayerStopCommit (a t : Nat)
  /-- No interruptible boundary comes within 1,024 cycles, so the core stops at the next instruction boundary with FORCED. (R202) -/
  | forcedStop (a t : Nat)
  /-- A write of AYR_CNT_CTRL.CLEAR clears the Assayer counters. (R204) -/
  | ayrCounterClear (a : Nat)
  /-- An external trigger edge passes or fails its filter. (R206) -/
  | trigInEdge (n : Nat) (level : Bool) (held tick : Nat)
  /-- A hit reaches the trigger unit, enters the store, and may form candidates. (R207) -/
  | hitArrival (src : Nat)
  /-- A hit leaves the store HIT_HOLD after its arrival. (R207) -/
  | hitExpiry
  /-- At the decision instant a candidate is vetoed or accepted, and prescaled or fired. (R209) -/
  | candidateDecision (cond tick : Nat)
  /-- A scheduled TRIG_OUT pulse begins. (R212) -/
  | pulseStart (n : Nat)
  /-- A TRIG_OUT pulse ends after its width. (R212) -/
  | pulseEnd (n : Nat)
  /-- Command that sets condition, output and input parameters. (R211) -/
  | triggerConfig (r : Req) (t : Nat)
  /-- Command that sets the armed mask of the conditions. (R211) -/
  | triggerArm (r : Req) (t : Nat)
  /-- Command that configures the capture ring. (R216) -/
  | captureConfig (r : Req) (t : Nat)
  /-- Command that freezes the capture ring at a stamp. (R217) -/
  | captureFreeze (r : Req) (t : Nat)
  /-- Command that returns the capture ring to RECORDING. (R221) -/
  | captureRelease (r : Req) (t : Nat)
  /-- The last protected block is sent on every path, and the ring enters DONE or is auto-released. (R220) -/
  | captureReadoutDone (t : Nat)
  /-- A write of TRG_CNT_CTRL.CLEAR clears the trigger and capture counters. (R223) -/
  | trgCounterClear
  /-- The Hoist builds a unit's packets into its queue and assigns STREAM_SEQ, or counts the unit not built. (R226) -/
  | packetBuild (stream : Nat)
  /-- A STAT packet is built at 128 records or 1 ms after its first record. (R232) -/
  | statPacketBuild (elapsed : Bool)
  /-- At a lane's packet boundary the Hoist picks the next packet by class and starts it. (R239) -/
  | lanePacketStart (n : Nat) (aged : List Nat) (now : Nat)
  /-- A packet ends with EOP, and a finished dump or capture record advances its tail. (R233) -/
  | packetSent (n : Nat)
  /-- A dual-path copy passes its time or sequence bound and is dropped. (R235) -/
  | copyDrop (path : Nat) (timed : List Nat)
  /-- Before DP leaves Run, the flush of built packets ends, and the unsent packets are recorded. (R237) -/
  | hoistFlushEnd
  /-- Command that sets the class allotments. (R238) -/
  | hoistStreams (r : Req) (t : Nat)
  /-- Command that turns dual path on or off. (R234) -/
  | hoistPaths (r : Req) (t : Nat)
  /-- Command that sets the Crusher mode of the DUMP and CAPT streams. (R241) -/
  | crushConfig (r : Req) (t : Nat)
  /-- A Crusher engine finishes compressing a frame. (R245) -/
  | crusherFrameDone (stream : Nat)
  /-- The next queued Expander job starts. (R249) -/
  | expanderJobStart
  /-- An Expander job ends OK, EXPAND_LIMIT or BAD_ARG. (R250) -/
  | expanderJobEnd (ok : Bool) (t : Nat)
  /-- A write of HST_CNT_CTRL.CLEAR clears the Hoist counters. (R251) -/
  | hstCounterClear
  /-- A port request leaves its regulator once tokens allow, or is refused as out of range. (R263) -/
  | pitRequest (port addr len : Nat) (data : Option (List Byte)) (ns : Nat)
  /-- A channel serves a request in order, with decode, correction, retries and damage marking. (R262) -/
  | pitRequestServed (c : Nat) (f : PitFault) (ns : Nat)
  /-- A rank is refreshed per bank at the rate its temperature indication calls for. (R267) -/
  | perBankRefresh (r : Nat) (doubled : Bool)
  /-- A channel pauses every 64 ms to check timing, with ZQ calibration every 128 ms. (R268) -/
  | retrainPause (c : Nat) (ok : Bool)
  /-- P7 scrubs the next line, correcting, failing a rank or retiring a spare. (R270) -/
  | scrubRead (f : PitFault)
  /-- A queued migration becomes due: SOURCE and TARGET are set, or the rank becomes DEGRADED. (R271) -/
  | migrationStart
  /-- A block is copied to the target, M advances, and held requests are released. (R272) -/
  | migrationBlockCopy (faults : List PitFault) (targetFails : Bool)
  /-- Command that returns the pit status registers. (R275) -/
  | pitStatus (r : Req) (t : Nat)
  /-- Command that retires a physical rank. (R275) -/
  | pitRetireRank (r : Req) (t : Nat)
  /-- Command that sets the P4 to P6 regulators and MIG_RATE. (R275) -/
  | pitRegulator (r : Req) (t : Nat)
  /-- Command that enables scrubbing and sets its period. (R270) -/
  | pitScrub (r : Req) (t : Nat)
  /-- A write of PIT_CNT_CTRL.CLEAR clears the pit counters. (R276) -/
  | pitCounterClear
  /-- At each second boundary the TU evaluates frequencies, the frame, the tests, the states and the selection. (R284) -/
  | tuSecondEvaluation (ns t : Nat)
  /-- PPS_OUT falls after PPS_WIDTH. (R310) -/
  | ppsOutFall
  /-- A candidate's failure condition holds, and the candidate enters FAILED. (R282) -/
  | signalFailure (cand why : Nat)
  /-- A failed signal has held no failure condition for 1 s, and the candidate enters QUALIFYING. (R282) -/
  | signalRestore (cand : Nat)
  /-- A candidate phase is measured and the loop updates, with the slope limit, SLEW_DONE and coarse set. (R292) -/
  | phaseMeasurement (cand : Nat) (raw : Int) (ns : Nat)
  /-- An edge on PPSA or PPSB is accepted or rejected. (R282) -/
  | ppsEdge (cand : Nat) (off : Option Int)
  /-- The error has stayed within LOCK_THR for LOCK_TIME with U equal to G, and the output enters LOCKED. (R294) -/
  | lockDeclared
  /-- Every 16 s the TU stores a history record and refits the holdover model. (R302) -/
  | historyRecord (mean temp : Int)
  /-- No temperature reading has arrived for 10 s. (R305) -/
  | tempStale
  /-- XO_IN shows no edge for 1 us, and the output moves to the backup oscillator. (R309) -/
  | xoLost
  /-- XO_IN has been present for 1 s, and the output returns to it. (R309) -/
  | xoReturn
  /-- Command that sets the candidate parameters. (R283) -/
  | timeRefs (r : Req) (t : Nat)
  /-- Command that sets the loop bandwidths, slope and thresholds. (R293) -/
  | timeLoop (r : Req) (t : Nat)
  /-- Command that adds a phase step to the user offset. (R298) -/
  | timePhaseStep (r : Req) (t : Nat)
  /-- Command that sets array time, in SEC or FULL mode. (R300) -/
  | timeSet (r : Req) (t : Nat)
  /-- Command that returns time and TU status. (R399) -/
  | timeStatus (r : Req) (t : Nat)
  /-- Command that sets the PTP parameters. (R315) -/
  | ptpConfig (r : Req) (t : Nat)
  /-- Command that reads, loads or clears the holdover model, or sets its parameters. (R308) -/
  | holdoverModel (r : Req) (t : Nat)
  /-- A received Announce feeds the choice of grandmaster. (R311) -/
  | ptpAnnounce (a : Announce)
  /-- A Sync, with its Follow_Up where two-step, gives a NET phase or an outlier. (R313) -/
  | ptpSync (port sender : Nat) (twoStep : Bool) (t1 t2 cs log : Int) (ns : Nat)
  /-- A Delay_Resp completes an exchange and gives a path delay. (R313) -/
  | ptpDelayResp (port sender seq : Nat) (t4 cr log : Int)
  /-- A Delay_Req is sent at the announced interval and timestamped at egress. (R311) -/
  | ptpDelayReqSend (t3 : Int)
  /-- A PTP message is forwarded to the other port, with its residence time added where required. (R312) -/
  | ptpTcForward (port : Nat) (frame : List Byte) (residence : Int)
  /-- A forwarded message cannot leave within 1 ms and is dropped. (R312) -/
  | ptpTcDrop
  /-- A write of TU_CNT_CTRL.CLEAR clears the TU counters. (R316) -/
  | tuCounterClear
  /-- No kick comes within WDT_TIMEOUT, and the core on shift relinquishes. (R320) -/
  | watchdogExpiry (ms : Nat)
  /-- A write by the core on shift restarts the watchdog. (R321) -/
  | shiftWdtKick (agent : Nat)
  /-- A write by the core on shift relinquishes with a reason and starts a shift change. (R320) -/
  | shiftRelinquish (agent v t : Nat)
  /-- An uncorrectable memory error seen by the core on shift makes it relinquish. (R320) -/
  | coreMemUe
  /-- A core bus transaction goes unanswered for 100 us, and the core relinquishes. (R320) -/
  | busHang
  /-- Firmware runs its periodic self-test every 60 s. (R321) -/
  | selfTest (ok : Bool)
  /-- The incoming core ends its takeover: the journal is acted on, Bell sources are steered, and it becomes ON_SHIFT. (R324) -/
  | takeoverComplete (t : Nat) (bad : List LogFault)
  /-- The incoming core fails its check and becomes FAULTY. (R326) -/
  | takeoverFailed
  /-- A relinquished core ends its repair pass as READY or FAULTY. (R327) -/
  | repairPassEnd (c : Nat) (ok : Bool)
  /-- A write of 0xA5 to RESET_REQ causes a hard reset. (R328) -/
  | resetReq (agent v : Nat)
  /-- HRST_N held low for at least 1 us. (R438) -/
  | hrstNAssert
  /-- PORST_N held low for at least 10 us. (R438) -/
  | porstNAssert
  /-- A reset ends and the boot stages start. (R438) -/
  | resetRelease
  /-- PERST_N resets the PCIe endpoint only. (R438) -/
  | perstNAssert
  /-- Stage S0, ROM digest and SRAM march, ends. (R332) -/
  | bootS0 (ok : Bool) (dur : Nat)
  /-- Stage S1, XO check and clock synthesis, ends. (R332) -/
  | bootS1 (ok : Bool) (dur : Nat)
  /-- Stage S2, pit training and zero fill, ends. (R269) -/
  | bootS2 (bad : List Nat) (full dur : Nat)
  /-- Stage S3, reading of firmware, bundle and persistent records, ends. (R335) -/
  | bootS3 (ok area : Bool) (dur : Nat)
  /-- Stage S4, DP to Run, frame tests, mapping and admission, ends. (R91) -/
  | bootS4 (dpOk : Bool) (pass dur t : Nat)
  /-- Stage S5, lane bring-up, ends when the lanes settle. (R41) -/
  | bootS5 (dur : Nat)
  /-- Stage S6, the wait for TU lock, ends. (R332) -/
  | bootS6 (elapsed : Bool) (dur : Nat)
  /-- Stage S7 activates the bundle, aligns the timetable, opens the cages and sets DEVICE_STATE. (R334) -/
  | bootS7 (now dur : Nat)
  /-- DP's return to Run ends: timetable aligned, RUN_START sent, a new session, parked channels resumed. (R339) -/
  | dpReturnComplete (pass : Nat) (bad : List RegionRec) (now : Nat)
  /-- A stream sequence or session record is appended to the persistent record area. (R336) -/
  | persistRecordWrite (kind : Nat)
  /-- Command that returns shift, reset and boot status. (R399) -/
  | shiftStatus (r : Req) (t : Nat)
  /-- Command that hands the shift over in a planned way. (R322) -/
  | shiftHandover (r : Req) (t : Nat)
  /-- Command that returns bytes of the boot ledger. (R399) -/
  | ledgerRead (r : Req) (t : Nat)
  /-- Command that clears the stage, lane, frame and training records of the ledger. (R338) -/
  | ledgerClear (r : Req) (t : Nat)
  /-- Command that takes DP from Run to QUIESCE. (R369) -/
  | quiesce (r : Req) (t : Nat)
  /-- The flush, the Winder parking and self-refresh are complete, and DP is powered down. (R369) -/
  | dpQuiesced (t : Nat)
  /-- Command that returns DP to Run from QUIESCE, or the Abacus from DRAINED. (R339) -/
  | resume (r : Req) (t : Nat)
  /-- Command that makes a hard reset or a datapath restart. (R399) -/
  | devReset (r : Req) (t : Nat)
  /-- A write of 1 to a software source acts as a rising edge. (R355) -/
  | bellSwset (w v : Nat)
  /-- A read of BELL_CLAIM_t claims the preferred deliverable source, or returns 0x7FF. (R350) -/
  | bellClaim (agent t : Nat)
  /-- A write of BELL_COMPLETE_t ends a source's activity on t. (R350) -/
  | bellComplete (agent t n : Nat)
  /-- A write of 1 to BELL_PEND_w clears pending bits. (R346) -/
  | bellPendClear (w v : Nat)
  /-- A write of BELL_CTRL.MODE changes the routing, or is ignored with MODE_ERR. (R351) -/
  | bellModeWrite (v : Nat)
  /-- A write of REMAP changes what address zero holds for the core. (R344) -/
  | coreRemapWrite (core v : Nat)
  /-- A write of WND_CTRL_c.START clears the channel and starts it at instruction 0. (R356) -/
  | winderStart (c v : Nat)
  /-- Clearing WND_CTRL_c.EN ends the channel at once. (R365) -/
  | winderDisable (c v : Nat)
  /-- A write of WND_EVENT_c sets event bits. (R361) -/
  | winderEventSet (c v : Nat)
  /-- Winder MOVE instruction, starting a transfer through the packing register. (R359) -/
  | move (c : Nat)
  /-- A channel's burst is issued by priority round robin and completes, or stops the channel in ERROR. (R359) -/
  | winderBurst (host : List Byte) (ok : Bool) (t : Nat)
  /-- Winder LOOP instruction. (R360) -/
  | winderLoop (c : Nat)
  /-- Winder WAIT instruction, by EVENT, DELAY or POLL. (R361) -/
  | winderWait (c : Nat)
  /-- A WAIT POLL reads its register once per microsecond. (R361) -/
  | winderPoll (c : Nat)
  /-- A channel's wait condition is met, and the channel runs on. (R361) -/
  | winderWaitEnd (c ns : Nat)
  /-- Winder SIGNAL, acting after every earlier write has completed. (R362) -/
  | signal (c : Nat)
  /-- A write of 0x5A by the core on shift requests CTL Sleep. (R367) -/
  | pwrSleepReq (agent v : Nat)
  /-- Every sleep condition holds, and CTL enters Sleep. (R367) -/
  | ctlSleepEntry
  /-- A doorbell, an interrupt or a timer wakes CTL within 20 us, or cancels a held request. (R21) -/
  | ctlWake
  /-- A write of PWR_TIMER starts or stops the wake timer. (R368) -/
  | pwrTimerWrite (v : Nat)
  /-- The wake timer expires, sets TIMER and wakes CTL. (R368) -/
  | pwrTimerExpiry (ticks : Nat)
  /-- A selected edge on a GPIO or TRIG_IN pin sets its seen bit. (R373) -/
  | gpioEdge (n : Nat) (rising : Bool)
  /-- CAGE_CTRL_n.ENABLE going from 0 to 1 takes the ring bases and sizes, and resets the indices. (R377) -/
  | cageEnable (n v : Nat)
  /-- A write of CAGE_REQ_TAIL_n makes the cage fetch request entries. (R377) -/
  | cageDoorbell (n tail : Nat) (entries : List Req) (ok : Bool)
  /-- The host frees completion slots, and waiting entries are written. (R378) -/
  | cageCplHeadWrite (n head : Nat)
  /-- Firmware takes a request in order, classifies its tag, checks it and executes it or forwards it. (R385) -/
  | requestAccept (t : Nat)
  /-- A completion is posted in commit order to its ring, datagram or overflow store. (R389) -/
  | completionPost (client : Nat)
  /-- The moderation count or timer is reached, and CPL is set. (R393) -/
  | moderationTimer (n : Nat)
  /-- A UDP datagram carries a request, or a part of one, to cage 4 or 5. (R380) -/
  | udpRequest (port : Nat) (frame : List Byte) (t : Nat)
  /-- An assembly of parts left idle for 1 s is discarded. (R381) -/
  | partAssemblyTimeout (n client tag : Nat)
  /-- Command code 0x10 carries a request to cage 6. (R382) -/
  | smbusBlockWrite (bytes : List Byte) (pec : Option Byte) (t : Nat)
  /-- Command code 0x11 returns and removes the oldest completion of cage 6. (R382) -/
  | smbusBlockRead
  /-- Command code 0x12 returns the cage 6 status byte. (R382) -/
  | smbusStatusRead
  /-- The function enters D3hot, and host writes and messages are held. (R395) -/
  | d3hotEntry (pmeEn : Bool)
  /-- On return to D0 with Bus Master Enable, overflow entries are written and pending vectors sent. (R395) -/
  | d0Return (busMaster : Bool)
  /-- The PCIe link goes down, and completions wait in the overflow store. (R396) -/
  | pcieLinkDown
  /-- The link returns, and waiting completions are written and signalled. (R396) -/
  | pcieLinkUp (busMaster : Bool)
  /-- Command that returns the identity values. (R399) -/
  | devInfo (r : Req) (t : Nat)
  /-- Command that returns the device status words. (R399) -/
  | devStatus (r : Req) (t : Nat)
  /-- Command that aborts an earlier request of the same client. (R391) -/
  | abort (r : Req) (t : Nat)
  /-- Command that returns its body and argument. (R399) -/
  | echo (r : Req) (t : Nat)
  /-- Command that loads a bundle segment or a flash slot and stages the bundle. (R400) -/
  | bundleLoad (r : Req) (t : Nat)
  /-- Command that activates a staged bundle by changeover or restart. (R402) -/
  | bundleActivate (r : Req) (t : Nat)
  /-- Command that returns the active and staged digests. (R399) -/
  | configDigest (r : Req) (t : Nat)
  /-- Command that returns the array layout in force. (R399) -/
  | arrayLayout (r : Req) (t : Nat)
  /-- Command that evaluates the frame-cycle budget of a mix. (R399) -/
  | frameBudget (r : Req) (t : Nat)
  /-- Command that replaces the sequencer table. (R412) -/
  | monSequence (r : Req) (t : Nat)
  /-- With no table conversion in progress, the new table takes effect. (R412) -/
  | monSequenceCommit (t : Nat)
  /-- Command that measures zero or full scale, or computes calibration. (R408) -/
  | monCalibrate (r : Req) (t : Nat)
  /-- Command that returns the last converter results. (R399) -/
  | monRead (r : Req) (t : Nat)
  /-- Command that queues one urgent conversion. (R416) -/
  | monUrgent (r : Req) (t : Nat)
  /-- An entry starts on the first edge at which its converters are free. (R409) -/
  | sequencerEntryStart
  /-- An urgent request takes its converter, preempting or after the conversion in progress. (R414) -/
  | urgentConversionStart (m t : Nat)
  /-- A conversion ends, and its result is formed and routed. (R407) -/
  | conversionEnd (m raw t : Nat)
  /-- A read of MON_FIFO_LO_m removes the head FIFO entry. (R411) -/
  | monFifoRead (m : Nat)
  /-- A write of MON_CNT_CTRL.CLEAR clears the monitor counters. (R418) -/
  | monCounterClear
  /-- Command that joins a constellation and starts beacons. (R423) -/
  | constJoin (r : Req) (t : Nat)
  /-- Command that returns the constellation state and peer records. (R399) -/
  | constState (r : Req) (t : Nat)
  /-- Command that sets the disagreement policy and the time bound. (R431) -/
  | constPolicy (r : Req) (t : Nat)
  /-- A beacon is taken or discarded, time is measured and states compared. (R425) -/
  | beaconReceived (lane ingress : Nat)
  /-- No beacon has been taken from a peer for 3 s. (R425) -/
  | peerSilent (source now : Nat)
  /-- Firmware realigns a follower's schedule to the leader's, or holds. (R431) -/
  | constRealign (t : Nat)
  /-- Every 100 ms firmware raises ALARM_SOURCE for newly set CONST_CAUSE bits. (R432) -/
  | constAlarmPoll
  /-- A write of CONST_PEER_SEL selects the peer that the PEER registers show. (R433) -/
  | constPeerSelWrite (v : Nat)
  /-- A write of CONST_CNT_CTRL.CLEAR clears the constellation counters. (R433) -/
  | constCounterClear
  /-- VAUX falls out of range for 1 us, causing a cold reset. (R436) -/
  | vauxLoss
  /-- VIN is absent: IO, CTL and DP are unpowered and AON runs. (R436) -/
  | vinLoss
  /-- VIN returns, and the device makes a hard reset. (R436) -/
  | vinReturn
  /-- VLANE is absent, and the lanes reach LOS and TX fault. (R436) -/
  | vlaneLoss (inPkt : Nat)
  /-- VLANE returns, and the lanes recover by their own rules. (R436) -/
  | vlaneReturn
  /-- A VIO bank supply is absent, and its pins act as Table 19.3 states. (R436) -/
  | vioLoss (k : Nat)
  /-- A VIO bank supply returns to its range. (R437) -/
  | vioReturn (k : Nat)
  /-- Every 1 ms Tj_max is sampled, and warning, trip or shut-off is acted on. (R445) -/
  | thermalSample (sensors : List Int) (rankHot : Bool)
  /-- While a lane is UP, the DFE taps update by sign-sign LMS once every 256 lane words, and the CTLE may move one step per 10 ms. (R34) -/
  | equaliserAdapt (n ctle : Nat) (taps : List Int)
  /-- In HOLDOVER or FREE_RUN, the frequency departure of SLOPE that applies a phase step ends after |s| / SLOPE seconds. (R298) -/
  | phaseStepSlewEnd (ns : Nat)
  /-- An Ethernet frame on M0 or M1 is an ARP or ICMP echo request that the device answers, or it is not addressed to the device and is forwarded to the other port. (R380) -/
  | managementFrame (port : Nat) (frame : List Byte)
  /-- Clearing CAGE_CTRL_n.ENABLE stops the cage fetching, and requests in progress complete into the overflow store. (R397) -/
  | cageDisable (n v : Nat)
  /-- PERST_N rises, and the PCIe endpoint answers configuration requests 100 ms later. (R438) -/
  | perstNRelease
  deriving DecidableEq, Repr

end Sys2Proof
end

