-- ==== Sys2Proof/Machine/Bytes.lean ====
section
/-! DEFINITION. Byte strings, saturating counters and list cells: the helpers every unit uses. -/

namespace Sys2Proof.Machine

/-- Byte `i` of a byte string as a number, 0 beyond its end. -/
def u8 (b : List Byte) (i : Nat) : Nat := (b.getD i 0).toNat

/-- `n` bytes at offset `i` as a little-endian number (00 R3). -/
def leAt (b : List Byte) (i : Nat) : Nat → Nat
  | 0 => 0
  | n + 1 => u8 b i + 256 * leAt b (i + 1) n

def u16 (b : List Byte) (i : Nat) : Nat := leAt b i 2
def u24 (b : List Byte) (i : Nat) : Nat := leAt b i 3
def u32 (b : List Byte) (i : Nat) : Nat := leAt b i 4
def u48 (b : List Byte) (i : Nat) : Nat := leAt b i 6
def u64 (b : List Byte) (i : Nat) : Nat := leAt b i 8

/-- A number below `2 ^ w` read as a two's-complement number of `w` bits. -/
def signed (w n : Nat) : Int := if 2 ^ w ≤ 2 * n then (n : Int) - 2 ^ w else n

def s16 (b : List Byte) (i : Nat) : Int := signed 16 (u16 b i)
def s24 (b : List Byte) (i : Nat) : Int := signed 24 (u24 b i)
def s32 (b : List Byte) (i : Nat) : Int := signed 32 (u32 b i)
def s64 (b : List Byte) (i : Nat) : Int := signed 64 (u64 b i)

/-- The `w` low bits of an integer, as a number. -/
def wrap (w : Nat) (z : Int) : Nat := (z % (2 ^ w : Int)).toNat

/-- `n` little-endian bytes of a number (00 R3). -/
def leBytes : Nat → Nat → List Byte
  | 0, _ => []
  | n + 1, v => BitVec.ofNat 8 v :: leBytes n (v / 256)

/-- `n` little-endian bytes of a signed number. -/
def leBytesI (n : Nat) (z : Int) : List Byte := leBytes n (wrap (8 * n) z)

/-- `n` big-endian bytes of a number (Seam headers, 00 R3). -/
def beBytes (n v : Nat) : List Byte := (leBytes n v).reverse

/-- `n` bytes at offset `i` as a big-endian number. -/
def beAt (b : List Byte) (i n : Nat) : Nat := leAt ((b.drop i).take n).reverse 0 n

/-- Bit `k` of a number. -/
def bit (v k : Nat) : Bool := v.testBit k

/-- Bits `lo + w - 1 … lo` of a number. -/
def bits (v lo w : Nat) : Nat := v / 2 ^ lo % 2 ^ w

def b2n (b : Bool) : Nat := if b then 1 else 0

/-- A 32-bit counter saturates at its maximum. -/
def sat32 (n : Nat) : Nat := min n (2 ^ 32 - 1)

/-- A 64-bit counter saturates at its maximum. -/
def sat64 (n : Nat) : Nat := min n (2 ^ 64 - 1)

/-- Element `i` of a list replaced by its image; beyond the end nothing changes. -/
def upd {α : Type} (l : List α) (i : Nat) (f : α → α) : List α := l.modify i f

/-- `0 … n - 1`. -/
def upTo (n : Nat) : List Nat := List.range n

/-- A byte string cut or zero-filled to `n` bytes. -/
def padTo (n : Nat) (b : List Byte) : List Byte := (b ++ List.replicate (n - b.length) 0).take n

/-- The first `n` bytes of `b` written over `base` at offset `off`. -/
def overlay (base : List Byte) (off : Nat) (b : List Byte) : List Byte :=
  base.take off ++ b.take (base.length - off) ++ base.drop (off + b.length)

/-- The number of bits set among the low `n` bits. -/
def popcount (n v : Nat) : Nat := ((upTo n).filter (bit v)).length

/-- The set bits of a mask below `n`, ascending. -/
def bitsSet (n v : Nat) : List Nat := (upTo n).filter (bit v)

/-- The mask of the listed bit numbers. -/
def maskOf : List Nat → Nat
  | [] => 0
  | k :: r => 2 ^ k ||| maskOf r

def cdiv (a b : Nat) : Nat := (a + b - 1) / b

/-- Division of an integer by a positive number, rounded to the nearest integer, a half going to the even one. -/
def divHalfEven (v : Int) (d : Nat) : Int :=
  let q := v / (d : Int)
  let r := v % (d : Int)
  if 2 * r < d then q else if 2 * r = d then (if q % 2 = 0 then q else q + 1) else q + 1

/-- The integer square root, bit by bit: `r` holds the bits found, `k` more bits follow. -/
def isqrtGo (n r : Nat) : Nat → Nat
  | 0 => r
  | k + 1 => if (r + 2 ^ k) * (r + 2 ^ k) ≤ n then isqrtGo n (r + 2 ^ k) k else isqrtGo n r k

/-- The integer nearest to the square root of `a / b`, a half going to the even one. -/
def sqrtHalfEven (a b : Nat) : Nat :=
  let r := isqrtGo (a / b) 0 40
  let x := 4 * a
  let y := b * (4 * r * r + 4 * r + 1)
  if y < x then r + 1 else if x = y ∧ r % 2 = 1 then r + 1 else r

/-- An integer clamped to `[lo, hi]`. -/
def clampI (lo hi v : Int) : Int := max lo (min hi v)

/-- Sets the listed bits of a cause register (set wins over a clear in the same cycle, 00 R6). -/
def setBits (c : Nat) (ks : List Nat) : Nat := c ||| maskOf ks

/-- Writes a W1C register: ones clear (00 Table 0.2). -/
def w1c (c v : Nat) : Nat := c ^^^ (c &&& v)

/-- Membership of a number in an inclusive range. -/
def inRange (lo hi v : Nat) : Bool := decide (lo ≤ v) && decide (v ≤ hi)

end Sys2Proof.Machine
end

