-- ==== Sys2Proof/Machine/Digest.lean ====
section
/-! DEFINITION. CRC-32 (03 R46) and SHA-256 (the manual names it; FIPS 180-4 defines it, log 6). -/

namespace Sys2Proof.Machine

/-- One bit of the reflected CRC-32 register. -/
def crcBit (c : Nat) : Nat := if c % 2 = 1 then (c / 2) ^^^ 0xEDB88320 else c / 2

/-- One byte shifted through the CRC-32 register. -/
def crcByte (c : Nat) (b : Byte) : Nat :=
  crcBit (crcBit (crcBit (crcBit (crcBit (crcBit (crcBit (crcBit (c ^^^ b.toNat))))))))

/-- CRC-32 of R46: reflected, initial value and final exclusive-or of all ones. -/
def crc32 (bs : List Byte) : Nat := bs.foldl crcByte 0xFFFFFFFF ^^^ 0xFFFFFFFF

/-- One bit of the CRC-8 register with polynomial x^8 + x^2 + x + 1. -/
def crc8Bit (c : Nat) : Nat := if 128 ≤ c then (2 * c % 256) ^^^ 7 else 2 * c

/-- The CRC-8 of SMBus (16 R382; log 137). -/
def crc8 (bs : List Byte) : Nat :=
  bs.foldl (fun c b => crc8Bit (crc8Bit (crc8Bit (crc8Bit (crc8Bit (crc8Bit (crc8Bit (crc8Bit (c ^^^ b.toNat))))))))) 0

/-- The first 64 primes: the places of the bits of one number. -/
def shaPrimes : List Nat :=
  bitsSet 312 0x8800200a20a08208028228800800a28028208820a00a08800228a20208828828208a20a08a28ac

/-- The greatest number below `2 ^ k` added to `r` whose power `e` does not exceed `n`, found bit by bit. -/
def rootFrom (e n : Nat) : Nat → Nat → Nat
  | 0, r => r
  | k + 1, r => rootFrom e n k (if (r + 2 ^ k) ^ e ≤ n then r + 2 ^ k else r)

/-- The first 32 bits of the fraction of the root of degree `e` of a prime, which FIPS 180-4 takes as its constants. -/
def rootWord (e p : Nat) : Nat := rootFrom e (p * 2 ^ (32 * e)) 37 0 % 2 ^ 32

/-- The round constants, from cube roots, and the initial hash value, from square roots. -/
def shaK : List Nat := shaPrimes.map (rootWord 3)
def shaInit : List Nat := (shaPrimes.take 8).map (rootWord 2)

def add32 (a b : Nat) : Nat := (a + b) % 2 ^ 32

/-- Right rotation of a 32-bit word. -/
def ror32 (x n : Nat) : Nat := (x >>> n) ||| ((x <<< (32 - n)) % 2 ^ 32)

def shaS0 (x : Nat) : Nat := ror32 x 7 ^^^ ror32 x 18 ^^^ (x >>> 3)
def shaS1 (x : Nat) : Nat := ror32 x 17 ^^^ ror32 x 19 ^^^ (x >>> 10)
def shaE0 (x : Nat) : Nat := ror32 x 2 ^^^ ror32 x 13 ^^^ ror32 x 22
def shaE1 (x : Nat) : Nat := ror32 x 6 ^^^ ror32 x 11 ^^^ ror32 x 25

/-- The message schedule, newest word first: `n` more words. -/
def shaExtend : Nat → List Nat → List Nat
  | 0, w => w
  | n + 1, w =>
    shaExtend n (add32 (add32 (shaS1 (w.getD 1 0)) (w.getD 6 0)) (add32 (shaS0 (w.getD 14 0)) (w.getD 15 0)) :: w)

/-- One round on the eight working words. -/
def shaRound (v : List Nat) (kw : Nat × Nat) : List Nat :=
  match v with
  | [a, b, c, d, e, f, g, h] =>
    let t1 := (h + shaE1 e + ((e &&& f) ^^^ ((e ^^^ 0xFFFFFFFF) &&& g)) + kw.1 + kw.2) % 2 ^ 32
    let t2 := (shaE0 a + ((a &&& b) ^^^ (a &&& c) ^^^ (b &&& c))) % 2 ^ 32
    [add32 t1 t2, a, b, c, add32 d t1, e, f, g]
  | _ => v

/-- The sixteen big-endian words of a 64-byte block. -/
def shaWords (blk : List Byte) : List Nat := (upTo 16).map (fun i => beAt blk (4 * i) 4)

def shaBlock (h : List Nat) (blk : List Byte) : List Nat :=
  let w := (shaExtend 48 (shaWords blk).reverse).reverse
  List.zipWith add32 h ((shaK.zip w).foldl shaRound h)

/-- A byte string cut into blocks of 64 bytes; `fuel` bounds the number of blocks. -/
def shaChunks : Nat → List Byte → List (List Byte)
  | 0, _ => []
  | n + 1, b => if b.isEmpty then [] else b.take 64 :: shaChunks n (b.drop 64)

/-- SHA-256 padding: 0x80, zeros, and the length in bits. -/
def shaPad (b : List Byte) : List Byte :=
  b ++ [0x80] ++ List.replicate ((119 - b.length % 64) % 64) 0 ++ beBytes 8 (8 * b.length)

def sha256 (b : List Byte) : List Byte :=
  let p := shaPad b
  ((shaChunks (p.length / 64) p).foldl shaBlock shaInit).flatMap (beBytes 4)

/-- The first 128 bits of the SHA-256 digest, as bytes. -/
def digest128 (b : List Byte) : List Byte := (sha256 b).take 16

/-- A digest as one number. -/
def digestNat (b : List Byte) : Nat := leAt (digest128 b) 0 16

end Sys2Proof.Machine
end

