-- ==== Sys2Proof/Config.lean ====
section
/-! DEFINITION. What an implementation fixes, and the values the manual leaves open. -/

namespace Sys2Proof

/-- A value the manual leaves open, for the `n`-th time the machine needs one.
It has no body, so nothing can be proved about which number it is (log 4). -/
opaque Config.free : Nat → Nat

/-- Die constants of DEV_INFO and the identity registers, which the manual gives no values for (14, Table 14.12). -/
opaque Config.stepping : Nat
opaque Config.romVersion : Nat
opaque Config.idLot : Nat
opaque Config.idWafer : Nat
opaque Config.idDieX : Nat
opaque Config.idDieY : Nat
opaque Config.firmwareVersion : Nat
/-- FW_DIGEST of DEV_INFO: sixteen bytes as one number. -/
opaque Config.firmwareDigest : Nat

/-- Byte `i` of the saved training parameters of pit channel `c`, whose layout the manual does not give (14 Table 14.9). -/
opaque Config.trainByte : Nat → Nat → Nat

/-- The link-local IPv4 address that ARP probing settles on when the bundle names none (16 R380). -/
opaque Config.linkLocal : Nat

/-- MAC address of management port M0 or M1, as a number of six bytes, most significant first. -/
opaque Config.mac : Nat → Nat

/-- Factory calibration of an internal input: the result of converter `m`, input code `k`, from the input-referred
value u (17 R407, which gives no coefficients). -/
opaque Config.factoryCal (m k : Nat) : Int → Int

/-- The check word of a data line of pit memory, by physical rank, line number and data: the spec gives neither the field nor
the generator of its Reed-Solomon code (12 R257). -/
opaque Config.rsCheck : Nat → Nat → List Byte → Nat

end Sys2Proof
end

