-- ==== Sys2Proof/Machine/Mem.lean ====
section
/-! DEFINITION. Addressed memories: sparse lists of (address, value) in one canonical form.
Addresses rise strictly and no entry holds what an unlisted address reads as (`dflt`). -/

namespace Sys2Proof.Machine

/-- The canonical form: addresses strictly rising from `lo`, no entry equal to `dflt`. -/
def memWfFrom {α : Type} [DecidableEq α] (dflt : α) : Nat → List (Nat × α) → Bool
  | _, [] => true
  | lo, (a, v) :: r => decide (lo ≤ a) && decide (v ≠ dflt) && memWfFrom dflt (a + 1) r

/-- Canonical form of a byte memory that reads zero where nothing is listed. -/
def Memory.wf (m : List Host.Cell) : Bool := memWfFrom 0 0 m

/-- What address `a` reads as. -/
def memGet {α : Type} (dflt : α) : List (Nat × α) → Nat → α
  | [], _ => dflt
  | (b, v) :: r, a => if b = a then v else if a < b then dflt else memGet dflt r a

/-- Address `a` set to `v`, keeping the canonical form. -/
def memSet {α : Type} [DecidableEq α] (dflt : α) : List (Nat × α) → Nat → α → List (Nat × α)
  | [], a, v => if v = dflt then [] else [(a, v)]
  | (b, w) :: r, a, v =>
    if a < b then (if v = dflt then (b, w) :: r else (a, v) :: (b, w) :: r)
    else if a = b then (if v = dflt then r else (a, v) :: r)
    else (b, w) :: memSet dflt r a v

/-- One byte. -/
def memByte (m : List Host.Cell) (a : Nat) : Byte := memGet 0 m a

/-- `n` bytes from address `a`. -/
def memRead (m : List Host.Cell) (a n : Nat) : List Byte := (upTo n).map (fun i => memByte m (a + i))

/-- Bytes stored from address `a` upwards. -/
def memWrite (m : List Host.Cell) (a : Nat) : List Byte → List Host.Cell
  | [] => m
  | b :: r => memWrite (memSet 0 m a b) (a + 1) r

end Sys2Proof.Machine
end

