-- ==== Sys2Proof/Machine/StBundle.lean ====
section
/-! DEFINITION. The configuration that a bundle holds (16 Tables 16.17 to 16.21) and the staging of bundles. -/

namespace Sys2Proof.Machine

/-- Correlation modes (01 Table 1.3). -/
inductive Mode where
  | w4f | w8f | x4
  deriving DecidableEq, Repr, Inhabited

def Mode.code : Mode → Nat
  | .w4f => 0 | .w8f => 1 | .x4 => 2

/-- A route of the ROUTES section. -/
structure Route where
  source : Nat := 0
  downstream : Bool := false
  mask : Nat := 0
  deriving DecidableEq, Repr, Inhabited

/-- A command image: opcode, request bytes 24 to 63, and argument. -/
structure Image where
  /-- Directory index of the section. -/
  index : Nat := 0
  opcode : Nat := 0
  body : List Byte := []
  arg : List Byte := []
  deriving DecidableEq, Repr, Inhabited

/-- A peer of the CONSTELLATION section's local part. -/
structure ConstPeer where
  source : Nat := 0
  lane : Nat := 0
  asym : Int := 0
  deriving DecidableEq, Repr, Inhabited

/-- The CONSTELLATION section (16 R404). -/
structure ConstCfg where
  index : Nat := 0
  alarmSource : Nat := 928
  members : List Nat := []
  /-- The shared part, whose digest R422 compares. -/
  shared : List Byte := []
  peers : List ConstPeer := []
  deriving DecidableEq, Repr, Inhabited

/-- A bundle's configuration, parsed. -/
structure Bundle where
  epoch : Nat := 0
  /-- First 128 bits of the SHA-256 digest of the expanded bytes. -/
  digest : List Byte := List.replicate 16 0
  mode : Mode := .w4f
  channels : Nat := 1
  groups : Nat := 1
  pGroups : Nat := 0
  source : Nat := 0
  intake : Nat := 0
  specPeriod : Nat := 1
  t0Sec : Nat := 0
  t0Ns : Nat := 0
  t0Frac : Nat := 0
  fwBase : Nat := 0
  lockWait : Nat := 0
  ipv4 : Nat := 0
  netmask : Nat := 0
  gateway : Nat := 0
  /-- F_c of each channel (07 R140). -/
  freqs : List Int := []
  /-- Four permitted SOURCE values per group. -/
  permit : List (List Nat) := []
  routes : Option (List Route) := none
  const : Option ConstCfg := none
  /-- Assayer images: INDEX and bytes. -/
  ayrImages : List (Nat × List Byte) := []
  images : List Image := []
  /-- Directory indices of LAYOUT, CHANNELS, PERMIT and ROUTES. -/
  dirIndex : List Nat := []
  deriving DecidableEq, Repr, Inhabited

/-- Active and staged configurations. -/
structure Bundles where
  active : Option Bundle := none
  /-- A registered changeover: activation index and the bundle that comes into force there (R55, R78). -/
  changeover : Option (Nat × Bundle) := none
  /-- The configuration that was in force below an activation index that has been reached (R55). -/
  past : Option (Nat × Bundle) := none
  /-- The bundle that boot stage S3 read, or that a restart will activate (14 R332, 16 R402). -/
  coming : Option Bundle := none
  /-- Bytes held in the staging area. -/
  staging : List Byte := []
  staged : Option Bundle := none
  /-- Command images are being applied: admission is evaluated for the configuration as a whole (16 R402). -/
  applying : Bool := false
  /-- Bundle slots 0 and 1 of the boot flash (14 R335): header and stream. -/
  slots : List (List Byte) := [[], []]
  deriving DecidableEq, Repr, Inhabited

end Sys2Proof.Machine
end

