-- ==== Sys2Proof/Machine/StHopper.lean ====
section
/-! DEFINITION. State of the Hopper and the prompt buffer (04). -/

namespace Sys2Proof.Machine

/-- Slot states (04 Table 4.1). -/
inductive SlotState where
  | free | opened | complete | sealed | consuming
  deriving DecidableEq, Repr, Inhabited

def SlotState.code : SlotState → Nat
  | .free => 0 | .opened => 1 | .complete => 2 | .sealed => 3 | .consuming => 4

/-- A block placed in a slot (R67): FILLED is its presence. -/
structure Placed where
  group : Nat := 0
  block : Nat := 0
  allBlank : Bool := false
  /-- 4,096 bytes; empty when ALL_BLANK. -/
  payload : List Byte := []
  deriving DecidableEq, Repr, Inhabited

/-- The seal record of R77. -/
structure SealRec where
  pos : Nat := 0
  /-- Deadline seal; otherwise complete. -/
  deadline : Bool := false
  missing : Nat := 0
  missMask : Nat := 0
  blankMask : Nat := 0
  deriving DecidableEq, Repr, Inhabited

structure Slot where
  state : SlotState := .free
  pos : Nat := 0
  /-- The seal window has opened (Table 4.2 step 3). -/
  window : Bool := false
  placed : List Placed := []
  record : SealRec := {}
  deriving DecidableEq, Repr, Inhabited

/-- A packet placed in an open prompt block. -/
structure PbPair where
  channel : Nat := 0
  group : Nat := 0
  deriving DecidableEq, Repr, Inhabited

/-- An open prompt block (R80). -/
structure PbBlock where
  num : Nat := 0
  pairs : List PbPair := []
  /-- Its first packet has been placed, so the prompt wait is running (R82). -/
  waiting : Bool := false
  deriving DecidableEq, Repr, Inhabited

/-- The close record of a prompt block (R81, R82). -/
structure PbClose where
  num : Nat := 0
  /-- (channel, group) pairs with no packet. -/
  missing : List PbPair := []
  /-- The block begins a restart of the prompt stream (R81). -/
  restart : Bool := false
  deriving DecidableEq, Repr, Inhabited

/-- One prompt unit: a placed packet waiting for, or under, the Abacus's prompt work (R79, R100). -/
structure PbUnit where
  num : Nat := 0
  channel : Nat := 0
  group : Nat := 0
  payload : List Byte := []
  deriving DecidableEq, Repr, Inhabited

structure Hopper where
  running : Bool := false
  /-- The first position served after alignment (R70). -/
  first : Nat := 0
  /-- The position whose slot opens at the next chunk boundary instant. -/
  nextOpen : Nat := 0
  slots : List Slot := List.replicate 3 {}
  /-- HOP_HEAD: position being consumed. -/
  head : Nat := 0
  cause : Nat := 0
  irqEn : Nat := 0
  clearPending : Bool := false
  placed : Nat := 0
  fill : Nat := 0
  sealFull : Nat := 0
  sealShort : Nat := 0
  malformed : Nat := 0
  misroute : Nat := 0
  foreign : Nat := 0
  early : Nat := 0
  late : Nat := 0
  dup : Nat := 0
  /-- HOP_LAST_FOREIGN: SOURCE and EPOCH. -/
  lastForeign : Option (Nat × Nat) := none
  /-- HOP_LAST_MISROUTE: REASON, GROUP, SOURCE, CHANNEL. -/
  lastMisroute : Nat × Nat × Nat × Nat := (0, 0, 0, 0)
  grpMiss : List Nat := List.replicate 32 0
  /-- Prompt buffer cells in use, of 512 (R79). -/
  cells : Nat := 0
  blocks : List PbBlock := []
  /-- The highest prompt block opened in this datapath run (R81). -/
  highest : Option Nat := none
  /-- Close records handed to the prompt beams, oldest first. -/
  closes : List PbClose := []
  /-- The next block opened begins a restart of the prompt stream. -/
  restartNext : Bool := false
  pbPlaced : Nat := 0
  pbShort : Nat := 0
  pbMissing : Nat := 0
  pbLate : Nat := 0
  pbDup : Nat := 0
  pbOverflow : Nat := 0
  pbJump : Nat := 0
  deriving DecidableEq, Repr, Inhabited

end Sys2Proof.Machine
end

