-- ==== Sys2Proof/Machine/StAbacus.lean ====
section
/-! DEFINITION. State of the Abacus (05). -/

namespace Sys2Proof.Machine

/-- ABA_STAT.STATE (05 Table 5.8). -/
inductive AbaState where
  | stopped | running | draining | drained
  deriving DecidableEq, Repr, Inhabited

def AbaState.code : AbaState → Nat
  | .stopped => 0 | .running => 1 | .draining => 2 | .drained => 3

/-- A bead: exact sums and the count of valid pairs (R85, R86). -/
structure Bead where
  re : Int := 0
  im : Int := 0
  count : Nat := 0
  deriving DecidableEq, Repr, Inhabited

/-- A work item of the schedule (R95), with groups by rank. -/
inductive WorkItem where
  | pair (a b : Nat)
  | beam (set rank : Nat)
  deriving DecidableEq, Repr, Inhabited

/-- The schedule in force: what R95 pours, and the frames it pours over. -/
structure Sched where
  mode : Mode := .w4f
  /-- Group number of each rank. -/
  ranks : List Nat := []
  pGroups : Nat := 0
  sets : Nat := 0
  /-- Served logical frames, ascending. -/
  frames : List Nat := []
  deriving DecidableEq, Repr, Inhabited

/-- A run of a frame: spectra `lo … hi - 1` of a work item of position `pos`.
Its beads hold `base`, words of a context that the bead store gave back (R104), and the products from `sumFrom` on; `lost`
spectra went with a bead-store error (R92). -/
structure Run where
  pos : Nat := 0
  item : WorkItem := .pair 0 0
  lo : Nat := 0
  hi : Nat := 0
  sumFrom : Nat := 0
  base : List (BitVec 64) := []
  lost : Nat := 0
  deriving DecidableEq, Repr, Inhabited

/-- What a frame's shadow beads, or its drained beads, hold. -/
structure Shadow where
  run : Run := {}
  /-- Spectra admitted: `lo … upTo - 1`. -/
  upTo : Nat := 0
  beads : List Bead := []
  deriving DecidableEq, Repr, Inhabited

/-- Prompt work in progress on a frame (R100, R101): the units that have not ended. -/
structure Preempt where
  block : Nat := 0
  units : List PbUnit := []
  /-- It interrupted a run, and so many spectra of that run had been admitted when it was latched. -/
  inRun : Bool := true
  admitted : Nat := 0
  /-- The bead context lies in the bead store. -/
  saved : Bool := false
  deriving DecidableEq, Repr, Inhabited

/-- One served logical frame. -/
structure Frame where
  logical : Nat := 0
  /-- Runs of the slice not yet handed over, the current one first. -/
  runs : List Run := []
  /-- Whether no spectrum of the slice has been admitted in this interval. -/
  fresh : Bool := true
  shadow : Option Shadow := none
  stalled : Bool := false
  /-- Drained beads waiting in the second context (R104, R106): their run; the beads are the words of that context. -/
  second : Option Shadow := none
  /-- The bead store: its two contexts, in row-major cell order (R104). -/
  ctx0 : List (BitVec 64) := []
  ctx1 : List (BitVec 64) := []
  /-- Prompt units held, by block, oldest block first. -/
  held : List (Nat × List PbUnit) := []
  /-- Blocks whose preemption is deferred (R103). -/
  deferred : List Nat := []
  /-- Those of them that were deferred before this chunk interval and run first in it. -/
  carried : List Nat := []
  preempt : Option Preempt := none
  /-- Frame-cycles of prompt work done in this chunk interval. -/
  promptUsed : Nat := 0
  /-- Run is stalled for a tabulated weight block (R148). -/
  weightStall : Bool := false
  deriving DecidableEq, Repr, Inhabited

/-- Physical frame status (05 Table 5.9). TEST: 0 not run, 1 passed, 2 failed, 3 mapped out. -/
structure PhysFrame where
  inService : Bool := false
  spare : Bool := false
  test : Nat := 0
  logical : Nat := 0
  ceCount : Nat := 0
  cause : Nat := 0
  deriving DecidableEq, Repr, Inhabited

/-- A line assembled in promotion staging (R97, R123). -/
structure StagedLine where
  pos : Nat := 0
  /-- Index of the block-pair in sequence order. -/
  pair : Nat := 0
  gallery : Nat := 0
  /-- Spectra of the block-pair accounted for: handed over or recorded absent; and those absent. -/
  seen : Nat := 0
  absent : Nat := 0
  beads : List Bead := []
  /-- Staging reported an uncorrectable error in the line (R127). -/
  damaged : Bool := false
  deriving DecidableEq, Repr, Inhabited

/-- Spectra admitted per block-pair of a drained position. -/
structure DrainCut where
  pos : Nat := 0
  counts : List ((Nat × Nat) × Nat) := []
  deriving DecidableEq, Repr, Inhabited

structure Abacus where
  state : AbaState := .stopped
  sched : Option Sched := none
  /-- A rebuilt schedule and the activation index where it takes effect (R98). -/
  nextSched : Option (Nat × Sched) := none
  /-- The position being consumed, and whether one is. -/
  pos : Nat := 0
  consuming : Bool := false
  /-- A position has been consumed in this datapath run. -/
  began : Bool := false
  frames : List Frame := []
  phys : List PhysFrame := List.replicate 36 {}
  cause : Nat := 0
  irqEn : Nat := 0
  clearPending : Bool := false
  preempts : Nat := 0
  stallCycles : Nat := 0
  promptDefer : Nat := 0
  overruns : Nat := 0
  beadUe : Nat := 0
  drainPos : Nat := 0
  drainSamples : Nat := 0
  /-- RESUME brings the Abacus back at the next chunk boundary (R108). -/
  resumePending : Bool := false
  /-- A chunk boundary fell between a drain's latch and its end: the position drained, and its counts (R105, R107). -/
  cut : Option DrainCut := none
  deriving DecidableEq, Repr, Inhabited

end Sys2Proof.Machine
end

