-- ==== Sys2Proof/Machine/StAssay.lean ====
section
/-! DEFINITION. State of the Assay chain (08). -/

namespace Sys2Proof.Machine

/-- Series parameters (08 Table 8.2). -/
structure SeriesParams where
  enable : Bool := false
  dcOn : Bool := false
  dcK : Nat := 4
  dcInit : Int := 0
  autoFreeze : Bool := false
  stages : Nat := 0
  taps : List Nat := [1, 1, 1]
  decim : List Nat := [1, 1, 1]
  bank : List Nat := [0, 0, 0]
  shift : List Nat := [0, 0, 0]
  peakW : Nat := 1
  peakMode : Nat := 0
  peakThr : Int := 0
  peakMul : Nat := 0
  peakReport : Bool := false
  rmsW : Nat := 1
  rmsReport : Bool := false
  envA : Nat := 0
  envR : Nat := 0
  envOn : Nat := 0
  envOff : Nat := 0
  mask : Nat := 0
  step : Nat := 1
  deriving DecidableEq, Repr, Inhabited

/-- A sample of a series: stamp and 24-bit signed value. -/
structure Sample where
  stamp : Nat := 0
  value : Int := 0
  deriving DecidableEq, Repr, Inhabited

/-- An event record (08 Table 8.3). -/
structure AssayEvent where
  stamp : Nat := 0
  value : Int := 0
  series : Nat := 0
  kind : Nat := 0
  saturated : Bool := false
  lost : Bool := false
  frozen : Bool := false
  isPartial : Bool := false
  settling : Bool := false
  deriving DecidableEq, Repr, Inhabited

/-- A command freeze or release waiting for its stamp (R173). -/
structure FreezeReq where
  stamp : Nat := 0
  freeze : Bool := false
  deriving DecidableEq, Repr, Inhabited

/-- One series: parameters, queue and chain state. -/
structure Series where
  params : SeriesParams := {}
  queue : List Sample := []
  /-- Samples of the queue that belong to the tour's snapshot (R164). -/
  snap : Nat := 0
  /-- Expected stamp; none forces a gap with VALUE −1 (R174). -/
  expected : Option Nat := none
  hist : List (List Int) := [[], [], []]
  sinceGap : Nat := 0
  dc : Int := 0
  cmdFrozen : Bool := false
  requests : List FreezeReq := []
  lastStamp : Option Nat := none
  /-- The highest stamp processed (R173). -/
  maxStamp : Option Nat := none
  env : Nat := 0
  envOn : Bool := false
  rmsSum : Nat := 0
  rmsCount : Nat := 0
  /-- Every sample of the open RMS window was SETTLING. -/
  rmsAllSettling : Bool := true
  rmsLast : Option Nat := none
  peak : Option (Int × Nat) := none
  peakCount : Nat := 0
  /-- Last detector-rate stamp, for a window that a gap closes. -/
  lastDet : Nat := 0
  satSince : Bool := false
  deriving DecidableEq, Repr, Inhabited

/-- A staged ASSAY_CONFIG: series records, bank records, group power fields (R177); a command's own, or a bundle's image. -/
structure AssayStage where
  series : List (Nat × SeriesParams) := []
  banks : List (Nat × List Int) := []
  group : Option (Nat × Nat) := none
  command : Bool := true
  deriving DecidableEq, Repr, Inhabited

structure Assay where
  running : Bool := false
  tours : Nat := 0
  /-- A tour of this datapath run has begun. -/
  started : Bool := false
  /-- The slot in progress; 1,024 when every slot of the tour has ended. -/
  slot : Nat := 0
  series : List Series := List.replicate 1024 {}
  banks : List (List Int) := List.replicate 64 []
  groupMask : Nat := 0
  groupShift : Nat := 0
  /-- Configurations that wait for the next tour, the earliest first (R177). -/
  staged : List AssayStage := []
  queues : List (List AssayEvent) := List.replicate 4 []
  lost : List Bool := List.replicate 4 false
  cause : Nat := 0
  irqEn : Nat := 0
  clearPending : Bool := false
  events : Nat := 0
  gap : Nat := 0
  qdrop : Nat := 0
  sat : Nat := 0
  evqLost : Nat := 0
  freezeLate : Nat := 0
  probeSel : Nat := 0
  probeValid : Bool := false
  /-- The write came in the selected series' own slot: the next slot does not count (R180). -/
  probeSkip : Bool := false
  probePeak : Int := 0
  probeRms : Option Nat := none
  probeEnv : Nat := 0
  probeDc : Int := 0
  probeStamp : Nat := 0
  deriving DecidableEq, Repr, Inhabited

end Sys2Proof.Machine
end

