-- ==== Sys2Proof/Machine/StAyr.lean ====
section
/-! DEFINITION. State of the Assayer cores (09). -/

namespace Sys2Proof.Machine

/-- Core states (09 Table 9.7). -/
inductive AyrState where
  | empty | loaded | running | waiting | stopped | halted | faulted
  deriving DecidableEq, Repr, Inhabited

def AyrState.code : AyrState → Nat
  | .empty => 0 | .loaded => 1 | .running => 2 | .waiting => 3 | .stopped => 4 | .halted => 5 | .faulted => 6

/-- What R189 asks of an instruction fetched: is it of the branch class, an ACC writer or an MTL (`long`);
is it a load or a POUT (`short`)? -/
structure AyrKind where
  long : Bool := false
  short : Bool := false
  deriving DecidableEq, Repr, Inhabited

/-- Targets of MTL and MFL (09 Table 9.3). -/
inductive LoopReg where
  | lc | ls | le | epc
  deriving DecidableEq, Repr, Inhabited

/-- A trigger request (09 R198). -/
structure TrigReq where
  line : Nat := 0
  stamp : Nat := 0
  info : Nat := 0
  deriving DecidableEq, Repr, Inhabited

/-- One Assayer core (09 Tables 9.1, 9.6, 9.12). -/
structure AyrCore where
  state : AyrState := .empty
  /-- Instruction words; an unlisted address holds HALT (0xF400_0000). -/
  imem : List (Nat × W32) := []
  dmem : List Host.Cell := []
  d : List W32 := List.replicate 16 0
  a : List (BitVec 17) := List.replicate 8 0
  /-- ACC now, and as it stood one and two instructions ago (R186). -/
  acc : BitVec 40 := 0
  acc1 : BitVec 40 := 0
  acc2 : BitVec 40 := 0
  accOv : Bool := false
  lc : W32 := 0
  ls : BitVec 14 := 0
  le : BitVec 14 := 0
  epc : BitVec 14 := 0
  ie : Bool := false
  pc : BitVec 14 := 0
  entry : BitVec 14 := 0
  /-- A load whose register changes after the next instruction. -/
  load : Option (BitVec 4 × W32) := none
  /-- MTL writes and how many more fetches see the old value. -/
  mtl : List (LoopReg × W32 × Nat) := []
  /-- Delay slots left, and the target of a branch that is taken. -/
  slots : Nat := 0
  target : Option (BitVec 14) := none
  /-- IE is set when the delay slots of a RETI end. -/
  retiIe : Bool := false
  /-- The two instructions fetched last: one and two before. -/
  prev1 : AyrKind := {}
  prev2 : AyrKind := {}
  /-- The next instruction is fetched in the cycle after a START or CONTINUE. -/
  started : Bool := false
  /-- Port values as they stood before the last POUT acted, for a PIN one after it. -/
  portOld : List (Nat × W32) := []
  /-- BOOT port. -/
  boot : Nat := 0
  cycle : Nat := 0
  cycleHi : W32 := 0
  nowHi : W32 := 0
  tick : Nat := 0
  tickCause : Bool := false
  imask : Nat := 0
  injSeries : Nat := 0
  injStamp : Nat := 0
  frzStamp : Nat := 0
  trqStamp : Nat := 0
  trqInfo : Nat := 0
  requests : List TrigReq := []
  outStage : List W32 := List.replicate 8 0
  outbox : List (List W32) := []
  inbox : List (List W32) := []
  inStage : List W32 := List.replicate 8 0
  cause : Nat := 0
  irqEn : Nat := 0
  faultCode : Nat := 0
  faultPc : BitVec 14 := 0
  cycles : Nat := 0
  trqSent : Nat := 0
  trqLost : Nat := 0
  msgLost : Nat := 0
  reject : Nat := 0
  memCe : Nat := 0
  forced : Bool := false
  ownFirst : Nat := 0
  ownCount : Nat := 0
  /-- A STOP waits for its boundary, and the cycles it has waited (R202). -/
  stopPending : Bool := false
  stopCycles : Nat := 0
  /-- The image loaded, kept by firmware in pit memory (R203), and whether the core ran when DP left Run. -/
  image : List Byte := []
  restart : Bool := false
  deriving DecidableEq, Repr, Inhabited

end Sys2Proof.Machine
end

