-- ==== Sys2Proof/Machine/StBeams.lean ====
section
/-! DEFINITION. State of the beamformer (07). -/

namespace Sys2Proof.Machine

/-- Beam set parameters (07 Table 7.2). -/
structure SetParams where
  tabulated : Bool := false
  width4 : Bool := false
  shift : Nat := 0
  powerShift : Nat := 0
  powerMask : Nat := 0
  base0 : Nat := 0
  base1 : Nat := 0
  bank : Nat := 0
  deriving DecidableEq, Repr, Inhabited

/-- Input term (07 Table 7.3). -/
structure InputTerm where
  x : Int := 0
  y : Int := 0
  z : Int := 0
  t : Int := 0
  p : Nat := 0
  a : Nat := 0
  deriving DecidableEq, Repr, Inhabited

/-- Beam term (07 Table 7.4). -/
structure BeamTerm where
  l : Int := 0
  m : Int := 0
  n : Int := 0
  lRate : Int := 0
  mRate : Int := 0
  nRate : Int := 0
  p : Nat := 0
  a : Nat := 0
  deriving DecidableEq, Repr, Inhabited

/-- Up to two generations of one kind (R143): the one in force and a pending one with its update chunk. -/
structure InputGens where
  curK : Nat := 0
  cur : List InputTerm := []
  next : Option (Nat × List InputTerm) := none
  deriving DecidableEq, Repr, Inhabited

structure BeamGens where
  curK : Nat := 0
  cur : List BeamTerm := []
  next : Option (Nat × List BeamTerm) := none
  deriving DecidableEq, Repr, Inhabited

structure BeamSet where
  params : SetParams := {}
  nextParams : Option (Nat × SetParams) := none
  terms : BeamGens := {}
  deriving DecidableEq, Repr, Inhabited

/-- Prompt parameters (07 Table 7.5). -/
structure PromptParams where
  channels : List Nat := []
  delays : List Nat := []
  beams : Nat := 1
  shift : Nat := 0
  width4 : Bool := false
  pbeam : Bool := false
  powerMask : Nat := 0
  wait : Nat := 100
  deriving DecidableEq, Repr, Inhabited

/-- A generation accepted and not yet staged for every frame (R144). -/
inductive StagedGen where
  | input (k : Nat) (terms : List InputTerm)
  | beam (k set : Nat) (terms : List BeamTerm)
  | both (k set : Nat) (inputs : List InputTerm) (terms : List BeamTerm)
  | params (k set : Nat) (p : SetParams)
  | prompt (k : Nat) (p : PromptParams)
  deriving DecidableEq, Repr, Inhabited

/-- A group's part of the beam sums of a set over spectra `lo … hi - 1`:
per spectrum, 64 sums (R137). -/
structure BeamPart where
  set : Nat := 0
  rank : Nat := 0
  lo : Nat := 0
  hi : Nat := 0
  sums : List (List (Int × Int)) := []
  deriving DecidableEq, Repr, Inhabited

/-- A tabulated weight block that P3 has delivered (R148). -/
structure WeightBlock where
  set : Nat := 0
  rank : Nat := 0
  bytes : List Byte := []
  deriving DecidableEq, Repr, Inhabited

/-- Beam work of one consumed position. -/
structure BeamPos where
  pos : Nat := 0
  channel : Nat := 0
  chunk : Nat := 0
  sealRec : SealRec := {}
  epoch : Nat := 0
  timeSuspect : Bool := false
  /-- Parameters of each set for this position's chunk. -/
  setParams : List SetParams := []
  ranks : Nat := 0
  parts : List BeamPart := []
  /-- Spectra of beam units accounted for: formed, or not admitted. -/
  seen : Nat := 0
  /-- Sets of which a unit admitted fewer than all of its spectra (R151). -/
  cutSets : List Nat := []
  weights : List WeightBlock := []
  /-- Sets of which a weight block was damaged. -/
  damagedSets : List Nat := []
  /-- The blocks have passed to the Hoist; the power has been summed. -/
  handed : Bool := false
  summed : Bool := false
  deriving DecidableEq, Repr, Inhabited

/-- Power sums of a chunk in progress: per set, per beam, 128 samples (R152); per group, 128 samples (R162). -/
structure PowerAcc where
  chunk : Nat := 0
  /-- (set, beam, t, sum) for non-zero sums only. -/
  beam : List (Nat × Nat × Nat × Nat) := []
  /-- (group, t, sum). -/
  group : List (Nat × Nat × Nat) := []
  /-- Channels consumed in the chunk, and (set, channel) with beam spectra admitted. -/
  channels : List Nat := []
  formed : List (Nat × Nat) := []
  deriving DecidableEq, Repr, Inhabited

/-- Prompt work of one block: its unit sums, and its voltages once joined (R155, R157). -/
structure PromptJob where
  num : Nat := 0
  /-- Units made and units ended. -/
  units : Nat := 0
  ended : Nat := 0
  /-- Per ended unit: channel and, per spectrum, 64 sums. -/
  sums : List (Nat × List (List (Int × Int))) := []
  params : PromptParams := {}
  closed : Option PbClose := none
  /-- Per prompt channel, per spectrum, per beam: requantised voltages. -/
  volts : Option (List (List (List (Int × Int)))) := none
  /-- The delay history is cleared before this block (R157, R158). -/
  clears : Bool := false
  deriving DecidableEq, Repr, Inhabited

/-- The delay history (R157): the block handed over last, its parameters and its voltages. -/
structure PromptHist where
  num : Nat := 0
  params : PromptParams := {}
  volts : List (List (List (Int × Int))) := []
  deriving DecidableEq, Repr, Inhabited

structure Beams where
  sets : List BeamSet := []
  inputs : InputGens := {}
  promptTerms : BeamGens := {}
  prompt : Option PromptParams := none
  nextPrompt : Option (Nat × PromptParams) := none
  staged : Option StagedGen := none
  pos : List BeamPos := []
  power : List PowerAcc := []
  jobs : List PromptJob := []
  hist : Option PromptHist := none
  cause : Nat := 0
  irqEn : Nat := 0
  clearPending : Bool := false
  blocks : Nat := 0
  pblocks : Nat := 0
  beamSat : Nat := 0
  pbeamSat : Nat := 0
  powerSat : Nat := 0
  wstall : Nat := 0
  powerGap : Nat := 0
  promptRestart : Nat := 0
  deriving DecidableEq, Repr, Inhabited

end Sys2Proof.Machine
end

