-- ==== Sys2Proof/Machine/StBell.lean ====
section
/-! DEFINITION. State of the Bell, the Winder, the cores' remap registers, and the power and GPIO block (15). -/

namespace Sys2Proof.Machine

/-- The Bell (15 Tables 15.3 and 15.4). Bits of sources and targets are numbers read as masks. -/
structure Bell where
  /-- Pending bits as far as the source lines have been looked at, and the lines as they were then. -/
  pend : Nat := 0
  lines : Nat := 0
  en : Nat := 0
  /-- BELL_PRIO_m. -/
  prio : List Nat := List.replicate 256 0x80808080
  /-- BELL_ROUTE_n. -/
  route : List Nat := List.replicate 1024 0
  tierBits : Nat := 8
  claimMode : Bool := false
  agentErr : Bool := false
  modeErr : Bool := false
  claimTgt : List Nat := List.range 8
  tgtEn : Nat := 0
  thresh : List Nat := List.replicate 34 255
  /-- Sources claimed and not completed, per target. -/
  active : List (List Nat) := List.replicate 34 []
  /-- Targets that had a deliverable source when last looked at (R352). -/
  asked : Nat := 0
  deriving DecidableEq, Repr, Inhabited

/-- Winder channel states (15 Table 15.7). -/
inductive WndState where
  | idle | running | waiting | parked | done | error
  deriving DecidableEq, Repr, Inhabited

def WndState.code : WndState → Nat
  | .idle => 0 | .running => 1 | .waiting => 2 | .parked => 3 | .done => 4 | .error => 5

/-- One Winder channel (15 Tables 15.8 and 15.9). -/
structure WndChan where
  en : Bool := false
  prio : Nat := 0
  state : WndState := .idle
  err : Nat := 0
  pc : Nat := 0
  cause : Nat := 0
  irqEn : Nat := 0
  prog : Nat := 0
  hostLo : Nat := 0
  hostBase : Nat := 0
  event : Nat := 0
  signal : Nat := 0
  loop : Nat := 0
  /-- Index of the active LOOP. -/
  loopAt : Option Nat := none
  srcAdj : Int := 0
  dstAdj : Int := 0
  bytes : Nat := 0
  errAddr : Nat := 0
  /-- A MOVE under way: bytes read and bytes written. -/
  move : Option (Nat × Nat) := none
  /-- The packing register: bytes read and not yet written. -/
  pack : List Byte := []
  /-- The last read of a WAIT POLL met its condition. -/
  met : Bool := false
  deriving DecidableEq, Repr, Inhabited

structure Winder where
  chan : List WndChan := List.replicate 16 {}
  /-- The channel served last, per priority. -/
  last : List Nat := [15, 15, 15, 15]
  /-- The last burst written to host memory: address and bytes. -/
  hostOut : Option (Nat × List Byte) := none
  deriving DecidableEq, Repr, Inhabited

/-- A transition of DP in progress: what it is for. -/
inductive DpMove where
  /-- QUIESCE, RESTART by DEV_RESET DATAPATH or by BUNDLE_ACTIVATE, and the thermal trip. -/
  | quiesce | restart | activate | trip
  deriving DecidableEq, Repr, Inhabited

/-- Power and GPIO (15 Tables 15.12 and 15.13), and the cores' REMAP and APERTURE (Table 15.1). -/
structure Pwr where
  cause : Nat := 0
  irqEn : Nat := 0
  timer : Nat := 0
  sleepHold : Bool := false
  ctlSleep : Bool := false
  /-- DP is leaving Run, and whether with FORCE (R369, R372). -/
  leaving : Option DpMove := none
  force : Bool := false
  /-- DP is returning to Run (R339). -/
  returning : Option DpMove := none
  /-- Steps of Table 14.10 taken: 0 powered, 1 frames tested, 2 lanes started. -/
  retStep : Nat := 0
  gpioIn : Nat := 0
  seen : Nat := 0
  gpioIrqEn : Nat := 0
  edge : Nat := 0
  dir : Nat := 0
  out : Nat := 0
  remap : List Bool := [false, false]
  aperture : List Nat := [0, 0]
  /-- Supplies present (19 R436), in the order VIN, VAUX, VLANE, VIO_M, VIO_G, VIO_T. -/
  supply : List Bool := List.replicate 6 true
  /-- Tj_max of the last sample in units of 1 °C, and the shut-off of R445. -/
  tj : Int := 25
  /-- The readings of the five sensors (19 R445). -/
  sensors : List Int := [25, 25, 25, 25, 25]
  warm : Bool := false
  shutOff : Bool := false
  deriving DecidableEq, Repr, Inhabited

end Sys2Proof.Machine
end

