-- ==== Sys2Proof/Machine/StCages.lean ====
section
/-! DEFINITION. State of the cages, the reply cache and the bundles (16). -/

namespace Sys2Proof.Machine

/-- A completion entry (16 Table 16.2). PHASE is set when the entry is written to a ring. -/
structure Completion where
  cage : Nat := 0
  opcode : Nat := 0
  tag : Nat := 0
  client : Nat := 0
  status : Nat := 0
  phase : Bool := false
  overflow : Bool := false
  resultBlock : Bool := false
  forwarded : Bool := false
  orig : Nat := 0
  detail : Nat := 0
  sideEffects : Nat := 0
  resLen : Nat := 0
  commitTime : Nat := 0
  /-- RESULT, bytes 24 to 63. -/
  result : List Byte := []
  /-- The result block as written, cut at RES_MAX. -/
  block : List Byte := []
  /-- The order of its commit point among all commands (R389). -/
  order : Nat := 0
  /-- Identity that a forwarded request came from, when `cage` is 7. -/
  peer : Nat := 0
  /-- Management port, IPv4 address and UDP port to which cage 4 or 5 sends it. -/
  origin : Nat × Nat × Nat := (0, 0, 0)
  deriving DecidableEq, Repr, Inhabited

/-- Journal phases (14 R323). -/
inductive CmdPhase where
  /-- Taken, checks not passed or nothing staged yet. -/
  | accepted
  /-- Staged, before the commit point. -/
  | staged
  /-- Committed, work that the reply follows still in progress. -/
  | committed
  deriving DecidableEq, Repr, Inhabited

/-- A command that has been taken and not completed: an entry of the commit journal. -/
structure OpenCmd where
  req : Req := {}
  phase : CmdPhase := .accepted
  digest : Nat := 0
  /-- Order of its commit point; meaningful when `phase` is `committed`. -/
  order : Nat := 0
  commitTime : Nat := 0
  /-- A word of the command's own, such as the tour or the lanes it waits for. -/
  key : Nat := 0
  /-- RESULT bytes already fixed at the commit point. -/
  result : List Byte := []
  deriving DecidableEq, Repr, Inhabited

/-- A tag of a client's window (R387). `done` is none while the request is in progress;
`stored` is false for a command whose commit point is acceptance (R388). -/
structure CacheEntry where
  tag : Nat := 0
  digest : Nat := 0
  done : Option Completion := none
  stored : Bool := true
  deriving DecidableEq, Repr, Inhabited

/-- A client place of the reply cache (R387). -/
structure ClientPlace where
  client : Nat := 0
  newest : Nat := 0
  /-- Timer count at which the newest request completed; none while it is in progress. -/
  newestDone : Option Nat := none
  entries : List CacheEntry := []
  deriving DecidableEq, Repr, Inhabited

/-- Parts of an argument being assembled in cage 4 or 5 (R381). -/
structure Assembly where
  client : Nat := 0
  tag : Nat := 0
  bytes : List Byte := []
  deriving DecidableEq, Repr, Inhabited

/-- One cage: its register page (16 Tables 16.6, 16.7) and its queues. -/
structure Cage where
  enable : Bool := false
  reqLog2 : Nat := 4
  cplLog2 : Nat := 4
  cause : Nat := 0
  irqEn : Nat := 0
  /-- Ring bases as written, and as taken when ENABLE rose (R377). -/
  reqBase : Nat := 0
  cplBase : Nat := 0
  /-- Lower word of a base waiting for the commit of R9. -/
  reqBaseLo : Nat := 0
  cplBaseLo : Nat := 0
  takenReqBase : Nat := 0
  takenCplBase : Nat := 0
  takenReqLog2 : Nat := 4
  takenCplLog2 : Nat := 4
  reqTail : Nat := 0
  reqHead : Nat := 0
  cplHead : Nat := 0
  cplTail : Nat := 0
  modCount : Nat := 1
  modTime : Nat := 1
  accepted : Nat := 0
  replayed : Nat := 0
  conflict : Nat := 0
  busyCnt : Nat := 0
  /-- STAT.BUSY. -/
  busy : Bool := false
  /-- PHASE of the pass being written (R378). -/
  pass : Bool := true
  /-- Completion ring in host memory: slot number and entry. -/
  ring : List (Nat × Completion) := []
  overflow : List Completion := []
  /-- Completions not yet signalled, and the moderation timer (R393). -/
  unsignalled : Nat := 0
  timerOn : Bool := false
  /-- Requests in the host's ring from CAGE_REQ_HEAD up to the tail, not yet fetched. -/
  inRing : List Req := []
  /-- The last fetch failed; the cage fetches again at the next doorbell (R377). -/
  stalled : Bool := false
  /-- Overflow entries, from the oldest, that a CPL signal has counted already (R393, R394). -/
  overSignalled : Nat := 0
  /-- Cages 4 and 5: arguments being assembled. -/
  assembly : List Assembly := []
  /-- Cage 6: completions the host has not read. -/
  unread : List Completion := []
  /-- The last answer that left cage 4, 5, 6 or 7. -/
  lastOut : Option Completion := none
  deriving DecidableEq, Repr, Inhabited

/-- A request this device sent on to a peer and waits on (R383). -/
structure Forwarded where
  req : Req := {}
  peer : Nat := 0
  deriving DecidableEq, Repr, Inhabited

structure Cages where
  cage : List Cage := List.replicate 8 {}
  /-- Requests fetched or arrived and not yet taken, in order of acceptance (R385). -/
  fetched : List Req := []
  openCmds : List OpenCmd := []
  /-- Completions formed and not yet posted, in order of commit. -/
  ready : List Completion := []
  places : List ClientPlace := []
  forwards : List Forwarded := []
  /-- Commit points passed so far (R389). -/
  commits : Nat := 0
  linkUp : Bool := false
  busMaster : Bool := false
  d3hot : Bool := false
  pmeStatus : Bool := false
  pmeEn : Bool := false
  /-- PM_PME has been sent since the function entered D3hot (R395). -/
  pmPme : Bool := false
  /-- MSI-X vectors asked for while none could be sent, in order (R395). -/
  pendingVectors : List Nat := []
  /-- The last result block written to host memory: bus address and bytes (R377). -/
  hostBlock : Option (Nat × List Byte) := none
  /-- The last vector sent to the host. -/
  lastVector : Option Nat := none
  /-- Messages sent for each vector so far (15 R352). -/
  vectorsSent : List Nat := List.replicate 32 0
  /-- The PCIe endpoint answers configuration requests (R438). -/
  endpointUp : Bool := false
  /-- The last ARP or ICMP echo answer, or frame passed on: management port and frame (R380). -/
  mgmtOut : Option (Nat × List Byte) := none
  deriving DecidableEq, Repr, Inhabited

end Sys2Proof.Machine
end

