-- ==== Sys2Proof/Machine/StConst.lean ====
section
/-! DEFINITION. State of the beacon unit and the constellation (18). -/

namespace Sys2Proof.Machine

/-- A joined peer (18 Table 18.4). -/
structure Peer where
  source : Nat := 0
  /-- 0 UNKNOWN, 1 AGREE, 2 DISAGREE, 3 SILENT. -/
  state : Nat := 0
  /-- In disagreement: TIME, CONFIG, COMPAT, INTEG. -/
  kinds : List Bool := [false, false, false, false]
  /-- Consecutive measurements or beacons that differ, and that agree, per kind. -/
  differ : List Nat := [0, 0, 0, 0]
  agree : List Nat := [0, 0, 0, 0]
  fwDiff : Bool := false
  peerSuspect : Bool := false
  /-- θ and d, in 2^-17 ns: twice the value in 2^-16 ns. -/
  theta : Option Int := none
  delay : Option Int := none
  integId : Nat := 0
  integLength : Nat := 0
  integFirst : Nat := 0
  integOpen : Bool := false
  rx : Nat := 0
  seq : Nat := 0
  /-- Ingress of the last beacon taken, as array time in 2^-16 ns. -/
  lastAt : Option Nat := none
  /-- Array time in 2^-16 ns from which its silence is judged: it joined, or DP came back (R425). -/
  since : Nat := 0
  /-- Beacons sent: the next SEQ, and those still recorded with their egress times. -/
  txSeq : Nat := 0
  sent : List (Nat × Nat) := []
  deriving DecidableEq, Repr, Inhabited

/-- What CONST_PEER_STAT, THETA and DELAY show. -/
structure PeerShown where
  source : Nat := 0
  state : Nat := 0
  kinds : Nat := 0
  theta : Int := 0
  delay : Int := 0
  deriving DecidableEq, Repr, Inhabited

structure Const where
  joined : Bool := false
  number : Nat := 0
  peers : List Peer := []
  /-- HOLD_AND_ALARM; otherwise FOLLOW_LEADER. -/
  hold : Bool := false
  /-- The leader that CONST_POLICY named. -/
  leader : Option Nat := none
  /-- TIME_BOUND in ns. -/
  bound : Nat := 1000
  holding : Bool := false
  leaderLost : Bool := false
  /-- A realignment or a hold is due at the next firmware work (R431). -/
  due : Bool := false
  /-- A realignment met a stop or a drain of the host, and is reconsidered at the next beacon (Table 18.3). -/
  again : Bool := false
  /-- A CONST_JOIN waits for its first beacon: number and peers (R423). -/
  staged : Option (Nat × List Nat) := none
  cause : Nat := 0
  /-- CONST_CAUSE bits newly set since the last poll of R432. -/
  newly : Nat := 0
  peerSel : Nat := 0
  shown : PeerShown := {}
  tx : Nat := 0
  rx : Nat := 0
  foreign : Nat := 0
  suspectS : Nat := 0
  realign : Nat := 0
  deriving DecidableEq, Repr, Inhabited

end Sys2Proof.Machine
end

