-- ==== Sys2Proof/Machine/StTally.lean ====
section
/-! DEFINITION. State of promotion and the tallies (06). -/

namespace Sys2Proof.Machine

/-- An integration schedule (06 Table 6.1). -/
structure IntegSched where
  firstChunk : Nat := 0
  length : Nat := 0
  repeats : Nat := 0
  firstId : Nat := 0
  format : Nat := 0
  countPlane : Bool := false
  tallyBase : Nat := 0
  countBase : Nat := 0
  ringBase : Nat := 0
  ringRecords : Nat := 2
  deriving DecidableEq, Repr, Inhabited

/-- The open integration, or the last one (TAL_INTEG registers). -/
structure Integ where
  sched : IntegSched := {}
  /-- Its number in the schedule. -/
  num : Nat := 0
  id : Nat := 0
  k0 : Nat := 0
  continues : Option Nat := none
  /-- Chunk of the chunk cycle in progress. -/
  chunk : Nat := 0
  /-- The current chunk cycle is its last, and the END code it will carry. -/
  last : Bool := false
  endCode : Nat := 0
  overlength : Bool := false
  /-- Last chunk of a pending or committed INTEG_STOP (R129). -/
  stop : Option Nat := none
  stopCommitted : Bool := false
  /-- A changeover fell inside it. -/
  epochChanged : Bool := false
  deriving DecidableEq, Repr, Inhabited

/-- A record header (06 Table 6.5). FLAGS and DAMAGE_MAP are numbers. -/
structure RecHdr where
  id : Nat := 0
  continues : Nat := 0
  first : Nat := 0
  chunks : Nat := 0
  channel : Nat := 0
  format : Nat := 0
  endCode : Nat := 0
  flags : Nat := 0
  missBlocks : Nat := 0
  missGroups : Nat := 0
  blankGroups : Nat := 0
  absent : Nat := 0
  epoch : Nat := 0
  lines : Nat := 0
  damage : Nat := 0
  deriving DecidableEq, Repr, Inhabited

/-- Promotion of one position: where its lines go, and what its header gathers (R126). -/
structure PromJob where
  pos : Nat := 0
  channel : Nat := 0
  integ : Integ := {}
  /-- Lines not yet promoted. -/
  linesLeft : Nat := 0
  /-- The header has been read (R124), and whether its lines are written without being read. -/
  begun : Bool := false
  fresh : Bool := false
  /-- Last chunk cycle: the total goes to a dump record. -/
  last : Bool := false
  /-- The ring was full when consumption began (R131). -/
  lost : Bool := false
  /-- Base of the dump record. -/
  dest : Nat := 0
  entry : Nat := 0
  header : RecHdr := {}
  sealRec : SealRec := {}
  absent : Nat := 0
  timeSuspect : Bool := false
  epoch : Nat := 0
  /-- What the tally held where its lines have been written, by address, the newest first: a position that is not promoted
  whole gives it back (R134). -/
  undo : List (Nat × List Byte) := []
  deriving DecidableEq, Repr, Inhabited

/-- A dump record in the ring and how far the Hoist has come with it. -/
structure RingRec where
  /-- Its ring, by base and records, and its own address. -/
  base : Nat := 0
  cap : Nat := 0
  addr : Nat := 0
  entry : Nat := 0
  channel : Nat := 0
  id : Nat := 0
  countPlane : Bool := false
  fmt : Nat := 0
  /-- Its last line and its header are in pit memory. -/
  written : Bool := false
  /-- It is the last record of its integration. -/
  final : Bool := false
  /-- It has been posted to the Hoist (R130). -/
  posted : Bool := false
  /-- Its header, and the bytes of its ring entry. -/
  header : RecHdr := {}
  stride : Nat := 0
  deriving DecidableEq, Repr, Inhabited

/-- What a close sweep has still to do (R133, R134). -/
structure Sweep where
  integ : Integ := {}
  /-- The next channel to copy. -/
  channel : Nat := 0
  endCode : Nat := 4
  /-- The first position that was not consumed whole. -/
  bound : Nat := 0
  deriving DecidableEq, Repr, Inhabited

structure Tally where
  sched : Option IntegSched := none
  /-- Integrations of the schedule begun so far, continuations apart; and integration IDs used (R113). -/
  begun : Nat := 0
  idsUsed : Nat := 0
  /-- The schedule that replaces it, and the chunk from which it counts (R454). -/
  next : Option IntegSched := none
  /-- No further integration of the schedule starts (after a stop or a close). -/
  ended : Bool := false
  cur : Option Integ := none
  /-- IDs of integrations begun since the last hard reset (R129). -/
  idsBegun : List Nat := []
  sweep : Option Sweep := none
  /-- A drain is to be followed by a close sweep. -/
  sweepDue : Bool := false
  jobs : List PromJob := []
  staging : List StagedLine := []
  ring : List RingRec := []
  /-- Ring in use: base, records (R452). -/
  ringBase : Nat := 0
  cause : Nat := 0
  irqEn : Nat := 0
  clearPending : Bool := false
  integId : Nat := 0
  integFirst : Nat := 0
  integCycles : Nat := 0
  ringHead : Nat := 0
  ringTail : Nat := 0
  ringCap : Nat := 0
  promo : Nat := 0
  dumps : Nat := 0
  dumpLost : Nat := 0
  damaged : Nat := 0
  overlength : Nat := 0
  rescale : Nat := 0
  idlePos : Nat := 0
  inflightPeak : Nat := 0
  galInflight : List Nat := List.replicate 4 0
  deriving DecidableEq, Repr, Inhabited

end Sys2Proof.Machine
end

