-- ==== Sys2Proof/Machine/StHoist.lean ====
section
/-! DEFINITION. State of the Hoist, the Crusher and the Expander (11). -/

namespace Sys2Proof.Machine

/-- An output packet in the Hoist's queue (03 Table 3.9). Its copy on a path waits, is on a lane, or has been sent;
a copy that is none of these was never wanted, or was dropped. -/
structure HPkt where
  num : Nat := 0
  /-- Stream index i of HST_SEQ (11 Table 11.7). -/
  stream : Nat := 0
  typ : Nat := 0
  sid : Nat := 0
  seq : Nat := 0
  flags : Nat := 0
  ref : Nat := 0
  tword : Nat := 0
  epoch : Nat := 0
  /-- SOURCE when it was built: every copy and resend carries it (03 R65). -/
  source : Nat := 0
  payload : List Byte := []
  /-- Bytes that the packet's start charges to its class (R238). -/
  charge : Nat := 0
  waitA : Bool := false
  waitB : Bool := false
  onA : Bool := false
  onB : Bool := false
  sentA : Bool := false
  sentB : Bool := false
  /-- The copy was ended by EAB and goes out again first (R236). -/
  redoA : Bool := false
  redoB : Bool := false
  /-- Packets of the stream sent on a path by the time this copy had been sent there (R235). -/
  markA : Nat := 0
  markB : Nat := 0
  /-- The packet ends the dump record at an address, or the capture record of a ring entry. -/
  endsDump : Option Nat := none
  endsCapt : Option Nat := none
  deriving DecidableEq, Repr, Inhabited

/-- A raw frame given to a Crusher engine (R241). -/
structure CruJob where
  mode : Nat := 1
  raw : List Byte := []
  /-- The frame's packets without payload, OFFSET, FIRST and LAST. -/
  tmpl : HPkt := {}
  deriving DecidableEq, Repr, Inhabited

/-- Content handed to the Hoist and not yet built into packets (R226). -/
inductive HUnit where
  /-- A posted dump record and how many of its packets have been built. -/
  | dump (r : RingRec) (next : Nat)
  /-- Packets without numbers; those of DUMP and COUNT are built one by one, others as a whole. -/
  | pkts (stream : Nat) (l : List HPkt)
  /-- A protected capture record: ring entry and position. -/
  | capt (entry pos : Nat)
  /-- A unit of a crushed stream: packets ready and frames that the Crusher still has. -/
  | crush (stream : Nat) (l : List HPkt) (jobs : List CruJob) (endsDump endsCapt : Option Nat)
  deriving DecidableEq, Repr, Inhabited

/-- An Expander job (R249, R250): its owner, input and limit. -/
structure ExpJob where
  /-- The open command it belongs to: client and tag; 0 0 for firmware's own. -/
  client : Nat := 0
  tag : Nat := 0
  /-- 0 bundle, 1 Assayer image. -/
  use : Nat := 0
  frame : Bool := false
  input : List Byte := []
  limit : Nat := 0
  /-- Exact size a bundle's header states; 0 when none. -/
  expect : Nat := 0
  deriving DecidableEq, Repr, Inhabited

/-- A STAT record (11 Table 11.3). -/
structure StatRec where
  kind : Nat := 0
  arg0 : Nat := 0
  arg1 : Nat := 0
  arg2 : Nat := 0
  sec : Nat := 0
  ns : Nat := 0
  /-- The spectrum number current when the record was made (11 Table 11.1). -/
  ref : Nat := 0
  deriving DecidableEq, Repr, Inhabited

structure Hoist where
  /-- HST_SEQ: next number of each stream; kept except at a cold reset. -/
  seq : List Nat := List.replicate 15 0
  /-- Per stream the last packet sent: SOURCE and number; kept except at a cold reset (R227). -/
  lastSent : List (Option (Nat × Nat)) := List.replicate 15 none
  units : List HUnit := []
  queue : List HPkt := []
  nextNum : Nat := 0
  /-- RUN_START of this run has been noted (R237). -/
  started : Bool := false
  /-- STAT records gathered. -/
  stat : List StatRec := []
  /-- Runs of units not built: stream index, first REF_INDEX, units (R240). -/
  notBuiltRuns : List (Nat × Nat × Nat) := []
  /-- Copies dropped per path since the last COPY_DROPPED record. -/
  dropRun : List Nat := [0, 0]
  /-- Packets sent per path and stream: path A first (R235). -/
  sentCount : List Nat := List.replicate 30 0
  /-- UNSENT records to make after DP returns to Run (R237): stream, first number, count. -/
  unsent : List (Nat × Nat × Nat) := []
  /-- CONTROL and BEACON packets waiting on path A and path B. -/
  ctlA : List (List Byte) := []
  ctlB : List (List Byte) := []
  /-- Allotments in MB/s: DUMP and COUNT, BEAM, PBEAM, TRIG, CAPT, STAT (R238). -/
  allot : List Nat := [0, 0, 0, 1, 0, 2]
  /-- Bytes charged per class in the last 1 ms, on path A and then on path B (R239), and the highest use in percent. -/
  used : List Nat := List.replicate 12 0
  peakUse : List Nat := [0, 0, 0, 0, 0, 0]
  /-- The setting of dual path, and the one that each stream's unit in progress was begun under (R234). -/
  dual : Bool := false
  unitDual : List Bool := List.replicate 15 false
  crushDump : Nat := 0
  crushCapt : Nat := 0
  jobs : List ExpJob := []
  expRunning : Bool := false
  /-- What the last Expander job left at its destination (R250). -/
  expOut : List Byte := []
  /-- Lanes that have become free so far: their order (R233). -/
  freeTick : Nat := 0
  /-- The flush before DP leaves Run is in progress (R237). -/
  flushing : Bool := false
  cause : Nat := 0
  irqEn : Nat := 0
  pktA : Nat := 0
  pktB : Nat := 0
  resend : Nat := 0
  copyDrop0 : Nat := 0
  copyDrop1 : Nat := 0
  notBuilt : Nat := 0
  queuePeak : Nat := 0
  cruIn : Nat := 0
  cruOut : Nat := 0
  cruStored : Nat := 0
  expJobs : Nat := 0
  expLimit : Nat := 0
  expMalformed : Nat := 0
  allotSel : Nat := 0
  deriving DecidableEq, Repr, Inhabited

end Sys2Proof.Machine
end

