-- ==== Sys2Proof/Machine/StLanes.lean ====
section
/-! DEFINITION. State of the 64 lane ports (02). -/

namespace Sys2Proof.Machine

/-- Receive lane states (02 Table 2.6). -/
inductive RxState where
  | off | search | adapt | up | relock | failed
  deriving DecidableEq, Repr, Inhabited

/-- Table 2.6's value of a state. -/
def RxState.code : RxState → Nat
  | .off => 0 | .search => 1 | .adapt => 2 | .up => 3 | .relock => 4 | .failed => 5

/-- Where a bring-up stands (02 Table 2.7): not running, in the saved-rate attempt, or on the ladder. -/
inductive Bringup where
  | none | saved | ladder
  deriving DecidableEq, Repr, Inhabited

/-- A packet that a transmit lane is sending: `ctl` for a CONTROL or BEACON packet, else the Hoist's packet number. -/
structure TxPkt where
  ctl : Bool := true
  num : Nat := 0
  /-- Header, payload and trailer as sent on this lane. -/
  bytes : List Byte := []
  deriving DecidableEq, Repr, Inhabited

/-- One lane port: its receive lane, its transmit lane, its counters and registers (02 Tables 2.10 to 2.13). -/
structure Lane where
  rxEnabled : Bool := false
  rxState : RxState := .off
  rxRate : Nat := 0
  los : Bool := false
  lol : Bool := false
  /-- Word alignment declared (R28). -/
  aligned : Bool := false
  /-- Lane-word numbers of the most recent code errors, newest last, at most four (R35). -/
  errWords : List Nat := []
  /-- A character error has been seen in the packet being received (R36). -/
  pktErr : Bool := false
  bringup : Bringup := .none
  /-- The bring-up in progress, or the last one, asked for the freeze option (R34). -/
  freezeReq : Bool := false
  peerValid : Bool := false
  peerLane : Nat := 0
  peerMax : Nat := 0
  /-- LANE_PEER_n: INFO of the last TRAIN taken. -/
  peerInfo : Nat := 0
  /-- Fill of the elastic buffer, in words (R31). -/
  elastic : Nat := 8
  frozen : Bool := false
  ctle : Nat := 0
  tap1 : Int := 0
  tap2 : Int := 0
  tap3 : Int := 0
  tap4 : Int := 0
  tap5 : Int := 0
  tap6 : Int := 0
  cause : Nat := 0
  irqEn : Nat := 0
  codeErr : Nat := 0
  dispErr : Nat := 0
  crcErr : Nat := 0
  abortCnt : Nat := 0
  elasticCnt : Nat := 0
  losCnt : Nat := 0
  lolCnt : Nat := 0
  rxPkt : Nat := 0
  txPktCnt : Nat := 0
  /-- Transmit role (02 Table 2.1): 0 OFF, 1 PATH_A, 2 PATH_B, 3 RETURN. -/
  txRole : Nat := 0
  txRate : Nat := 0
  txUp : Bool := false
  /-- The 10 ms of continuous TRAIN is in progress (R40). -/
  txTraining : Bool := false
  /-- The serialiser has lost lock and not yet relocked (R37). -/
  txFault : Bool := false
  /-- Removed from its role: the lane finishes its packet and turns OFF, then takes this role and rate (R27). -/
  txNext : Option (Nat × Nat) := none
  txCur : Option TxPkt := none
  /-- CONTROL packets waiting to leave on this RETURN lane, or BEACON packets on this beacon lane. -/
  txCtl : List (List Byte) := []
  /-- Its place in the order in which transmit lanes became free (11 R233). -/
  freed : Nat := 0
  /-- Lane words sent since the last SKIP, the last TRAIN with REPORT 0, and the last TRAIN of either kind. -/
  sinceSkip : Nat := 0
  sinceTrain0 : Nat := 0
  sinceTrain : Nat := 0
  /-- The last TRAIN sent: INFO and LANE bytes. -/
  lastTrain : Option (Nat × Nat) := none
  /-- The receive lane reported last by a RETURN lane (R29). -/
  lastReport : Option Nat := none
  deriving DecidableEq, Repr, Inhabited

/-- A packet delivered by a lane port and not yet taken by the unit it is for. -/
structure RxPkt where
  lane : Nat := 0
  /-- Timer count of the end of the trailer check (04 R71). -/
  time : Nat := 0
  /-- Header and payload. -/
  bytes : List Byte := []
  deriving DecidableEq, Repr, Inhabited

/-- Receive record of the boot ledger (02 Table 2.8). -/
structure LaneRec where
  valid : Bool := false
  tap1 : Int := 0
  ctle : Nat := 0
  rate : Nat := 0
  deriving DecidableEq, Repr, Inhabited

/-- The lane ports and the packets they have delivered. -/
structure Lanes where
  lane : List Lane := List.replicate 64 {}
  /-- In order of delivery, and of lane number within one instant (04 R72). -/
  delivered : List RxPkt := []
  /-- Lane records of the boot ledger. -/
  records : List LaneRec := List.replicate 64 {}
  deriving DecidableEq, Repr, Inhabited

end Sys2Proof.Machine
end

