-- ==== Sys2Proof/Machine/StMon.lean ====
section
/-! DEFINITION. State of the monitor converters (17). -/

namespace Sys2Proof.Machine

/-- Who asked for an urgent conversion (R413). -/
inductive UrgSource where
  | tu
  /-- MON_URGENT, with the number of its open command's client and tag. -/
  | command (client tag : Nat)
  /-- A calibration measurement: its full-scale value, none for ZERO; and client × 65,536 + tag of its command. -/
  | calibrate (full : Option Int) (cmd : Nat)
  deriving DecidableEq, Repr, Inhabited

/-- An urgent request. -/
structure UrgReq where
  source : UrgSource := .tu
  input : Nat := 0
  rate : Nat := 0
  /-- FINISH_FIRST; otherwise PREEMPT_RESUME. -/
  finish : Bool := false
  /-- Conversions still to make, and the sum of u of those made. -/
  left : Nat := 1
  sum : Int := 0
  deriving DecidableEq, Repr, Inhabited

/-- What a converter is doing. -/
inductive ConvState where
  | idle | table
  /-- Urgent work runs; conversions of the table may be left. -/
  | urgent
  /-- Conversions of the table are left, and the next waits for urgent work. -/
  | paused
  deriving DecidableEq, Repr, Inhabited

structure Conv where
  state : ConvState := .idle
  /-- Table conversions of the entry still to end. -/
  left : Nat := 0
  /-- Results of the entry from now on carry SHIFTED. -/
  shifted : Bool := false
  /-- OFF and GAIN that the conversion in progress started with. -/
  off : Int := 0
  gain : Int := 0
  /-- The urgent request being served, and those that wait, at most four. -/
  serving : Option UrgReq := none
  queue : List UrgReq := []
  fifo : List (Nat × Nat) := []
  lost : Nat := 0
  /-- The next entry pushed carries LOST. -/
  lostNext : Bool := false
  /-- The high word latched by the last read of MON_FIFO_LO_m (R9, R411). -/
  hi : Nat := 0
  res : Int := 0
  resEntry : Nat := 0xFFFF
  resStamp : Option Nat := none
  urgRes : Int := 0
  deriving DecidableEq, Repr, Inhabited

/-- Calibration of one external input: registers, and the measurements held (R408). -/
structure CalReg where
  off : Int := 0
  gain : Int := 0x01000000
  u0 : Option Int := none
  u1 : Option Int := none
  full : Int := 0
  deriving DecidableEq, Repr, Inhabited

/-- Where the sequencer stands (R409). -/
inductive SeqPhase where
  | stopped
  /-- The entry waits for its starting edge. -/
  | ready
  | converting
  /-- The delay after the entry runs. -/
  | delay
  deriving DecidableEq, Repr, Inhabited

structure Mon where
  conv : List Conv := List.replicate 4 {}
  /-- Input k of converter m at 8m + k. -/
  cal : List CalReg := List.replicate 32 {}
  table : List (List Byte) := []
  phase : SeqPhase := .stopped
  entry : Nat := 0
  /-- A MON_SEQUENCE waits for its commit: table and RUN. -/
  staged : Option (List (List Byte) × Bool) := none
  winLo : List Int := List.replicate 8 (-8388608)
  winHi : List Int := List.replicate 8 8388607
  urgMode : Nat := 0
  cause : Nat := 0
  irqEn : Nat := 0
  passes : Nat := 0
  redo : Nat := 0
  urgCnt : Nat := 0
  urgLost : Nat := 0
  deriving DecidableEq, Repr, Inhabited

end Sys2Proof.Machine
end

