-- ==== Sys2Proof/Machine/StPit.lean ====
section
/-! DEFINITION. State of pit memory and its controller (12). -/

namespace Sys2Proof.Machine

/-- Physical rank states (12 Table 12.1). -/
inductive RankState where
  | spare | inService | source | target | retired | degraded | absent
  deriving DecidableEq, Repr, Inhabited

def RankState.code : RankState → Nat
  | .spare => 0 | .inService => 1 | .source => 2 | .target => 3 | .retired => 4 | .degraded => 5 | .absent => 6

/-- A response to a port: read data (empty for a write), the damaged flag, or an address error (R256). -/
structure PitResp where
  data : List Byte := []
  damaged : Bool := false
  addrErr : Bool := false
  deriving DecidableEq, Repr, Inhabited

/-- A request of a port, with its place in the port's order of issue. -/
structure PitReq where
  port : Nat := 0
  id : Nat := 0
  addr : Nat := 0
  len : Nat := 0
  /-- The bytes to write; none for a read. -/
  data : Option (List Byte) := none
  /-- What a read that has left its regulator returns: memory as the requests before it have left it (R262). -/
  resp : PitResp := {}
  deriving DecidableEq, Repr, Inhabited

/-- A port and its regulator (R263). RATE in units of 0.1 GB/s, BURST in KiB, tokens in tenths of a byte. -/
structure PitPort where
  rate : Nat := 0
  burst : Nat := 256
  tokens : Nat := 2621440
  bytes : Nat := 0
  held : Nat := 0
  lat : Nat := 0
  /-- Timer count up to which the bucket has been filled. -/
  last : Nat := 0
  /-- Requests issued, and requests answered: responses come in the order of issue (R262). -/
  issued : Nat := 0
  answered : Nat := 0
  /-- Responses that wait for those of earlier requests, and the responses that the last event gave the port. -/
  early : List (Nat × PitResp) := []
  resps : List PitResp := []
  /-- Requests that wait for tokens, in order of issue (R263). -/
  waiting : List PitReq := []
  deriving DecidableEq, Repr, Inhabited

structure PitChan where
  trained : Bool := false
  fullTrain : Bool := false
  /-- Ranks 0 and 1 refresh at the doubled rate. -/
  hot0 : Bool := false
  hot1 : Bool := false
  cause : Nat := 0
  ce : Nat := 0
  linkRetried : Nat := 0
  linkCe : Nat := 0
  cmdErr : Nat := 0
  ue : Nat := 0
  /-- Timing checks since the last ZQ calibration (R268). -/
  pauses : Nat := 0
  queue : List PitReq := []
  deriving DecidableEq, Repr, Inhabited

/-- A running migration (12 Table 12.6). -/
structure Migration where
  /-- Logical rank, its old and new physical rank, and the blocks copied. -/
  logical : Nat := 0
  source : Nat := 0
  target : Nat := 0
  m : Nat := 0
  deriving DecidableEq, Repr, Inhabited

/-- PIT_STAT.STATE. -/
inductive PitState where
  | off | training | run | selfRefresh
  deriving DecidableEq, Repr, Inhabited

def PitState.code : PitState → Nat
  | .off => 0 | .training => 1 | .run => 2 | .selfRefresh => 3

structure Pit where
  state : PitState := .off
  /-- Data bytes by pit address; an unlisted address reads zero (S2 zero fill, R269). -/
  mem : List Host.Cell := []
  /-- Data lines (address div 64) marked damaged, ascending (R259). -/
  damaged : List Nat := []
  /-- Rank map and rank states: the boot ledger's copy (R254). -/
  rankMap : List Nat := List.range 60
  rankState : List RankState := List.replicate 60 .inService ++ List.replicate 4 .spare
  queue : List Nat := []
  mig : Option Migration := none
  /-- Requests held for the block in copy, in arrival order (R273). -/
  held : List PitReq := []
  ports : List PitPort := [{}, {}, {}, {}, { rate := 40 }, { rate := 10 }, { rate := 5 }, { rate := 124 }]
  migRate : Nat := 20
  scrubOn : Bool := false
  scrubHours : Nat := 24
  /-- The next line to scrub: physical rank and line number; and passes completed. -/
  scrubRank : Nat := 0
  scrubLine : Nat := 0
  scrubPasses : Nat := 0
  chans : List PitChan := List.replicate 32 {}
  cause : Nat := 0
  irqEn : Nat := 0
  chIrqEn : Nat := 0
  deriving DecidableEq, Repr, Inhabited

end Sys2Proof.Machine
end

