-- ==== Sys2Proof/Machine/StSeam.lean ====
section
/-! DEFINITION. State of the CONTROL protocol (03). -/

namespace Sys2Proof.Machine

/-- One message of a sender's window (R61 to R63). -/
structure CtlMsg where
  seq : Nat := 0
  sync : Bool := false
  /-- It has left at least once. -/
  sent : Bool := false
  /-- It is waiting to leave, for the first time or again. -/
  queued : Bool := true
  /-- The 72-byte message. -/
  msg : List Byte := []
  deriving DecidableEq, Repr, Inhabited

/-- What the device keeps about one other end of CONTROL: as a sender of messages to it, and as a receiver from it. -/
structure Party where
  id : Nat := 0
  /-- Receiver side: current session and next expected number (R62). -/
  session : Option Nat := none
  expected : Nat := 0
  /-- Number of the last message received in order in that session. -/
  lastRx : Option Nat := none
  /-- An acknowledgement is owed (R63). -/
  ackDue : Bool := false
  /-- Sender side: the next number, and the messages not yet acknowledged, oldest first. -/
  nextSeq : Nat := 0
  window : List CtlMsg := []
  /-- A message has been issued in the session, so the next one is not SYNC. -/
  opened : Bool := false
  /-- Resends since the last progress (R63). -/
  resends : Nat := 0
  unreachable : Bool := false
  /-- Counts of LANE_STATUS MODE 1: retransmissions, duplicates, discards. -/
  retrans : Nat := 0
  dups : Nat := 0
  discards : Nat := 0
  deriving DecidableEq, Repr, Inhabited

structure Seam where
  /-- The device's own session number (R61). -/
  session : Nat := 0
  parties : List Party := []
  /-- Messages that wait in the inbox for the on-shift core, with their senders, oldest first, at most 64. -/
  inbox : List (Nat × List Byte) := []
  /-- Messages acknowledged, then discarded and counted (Table 3.8, R453). -/
  kindDiscards : Nat := 0
  /-- CONTROL packets for another DEST (R64). -/
  destDiscards : Nat := 0
  deriving DecidableEq, Repr, Inhabited

end Sys2Proof.Machine
end

