-- ==== Sys2Proof/Machine/StShift.lean ====
section
/-! DEFINITION. State of the shift controller, the boot stages, the boot ledger and the boot flash (14). -/

namespace Sys2Proof.Machine

/-- Core states (14 Table 14.1). -/
inductive CoreState where
  | off | ready | booting | onShift | relinquished | repair | faulty
  deriving DecidableEq, Repr, Inhabited

def CoreState.code : CoreState → Nat
  | .off => 0 | .ready => 1 | .booting => 2 | .onShift => 3 | .relinquished => 4 | .repair => 5 | .faulty => 6

/-- DEVICE_STATE (14 Table 14.12). -/
inductive DevState where
  | booting | ready | noBundle | noData | noPit | halted
  deriving DecidableEq, Repr, Inhabited

def DevState.code : DevState → Nat
  | .booting => 0 | .ready => 1 | .noBundle => 2 | .noData => 3 | .noPit => 4 | .halted => 5

/-- A stage record of the ledger (14 Table 14.9): result 0 NONE, 1 OK, 2 DEGRADED, 3 FAILED. -/
structure StageRec where
  result : Nat := 0
  altered : Bool := false
  attempts : Nat := 0
  failures : Nat := 0
  duration : Nat := 0
  deriving DecidableEq, Repr, Inhabited

/-- The boot flash beside its bundle slots (14 R335, R336). -/
structure Flash where
  /-- MAGIC and VERSION of the flash directory, and for the firmware image and the two bundle slots LENGTH and digest
  (Table 14.8). The images of reset are empty. -/
  magic : Nat := 0x4F5A4644
  version : Nat := 1
  lens : List Nat := [0, 0, 0]
  digests : List (List Byte) := List.replicate 3
    [0xE3, 0xB0, 0xC4, 0x42, 0x98, 0xFC, 0x1C, 0x14, 0x9A, 0xFB, 0xF4, 0xC8, 0x99, 0x6F, 0xB9, 0x24]
  firmware : List Byte := []
  /-- PERSIST: offset and length of the persistent record area, 0 when absent. -/
  persistOff : Nat := 0x3800000
  persistLen : Nat := 8192
  /-- The erase sectors of the area: the 32-byte records written into each since it was erased, oldest first. -/
  sectors : List (List (List Byte)) := [[], []]
  /-- The sector that takes the next record. -/
  sector : Nat := 0
  deriving DecidableEq, Repr, Inhabited

/-- Reset lines that are held: HRST_N, or PORST_N or VAUX. -/
inductive Held where
  | none | hard | cold
  deriving DecidableEq, Repr, Inhabited

structure Shift where
  /-- Cores A and B. -/
  core : List CoreState := [.off, .off]
  /-- Core-local SRAM of each core, 128 KiB (15 Table 15.1). -/
  coreMem : List (List Host.Cell) := [[], []]
  /-- ON_SHIFT: 0 A, 1 B, 2 none, 3 DOWN. -/
  onShift : Nat := 2
  lastReason : Nat := 0
  logBad : Bool := false
  relinq : List Nat := [0, 0]
  /-- A shift change in progress: the core that comes in. -/
  incoming : Option Nat := none
  /-- A boot was cut by a shift change and resumes at this stage after S0 (Table 14.4). -/
  bootResume : Option Nat := none
  cause : Nat := 0
  irqEn : Nat := 0
  count : Nat := 0
  wdtCfg : Nat := 100
  ceLimit : Nat := 16
  /-- Milliseconds until the watchdog expires. -/
  wdtLeft : Nat := 100
  /-- DEV_ACCESS_ERR: ERR, KIND, AGENT, offset. -/
  accErr : Bool := false
  accKind : Nat := 0
  accAgent : Nat := 0
  accOff : Nat := 0
  held : Held := .cold
  /-- BOOT_STAT. -/
  stage : Nat := 0
  done : Bool := false
  dev : DevState := .booting
  altered : Nat := 0
  results : List Nat := List.replicate 8 0
  /-- RESET_CAUSE. -/
  resetCause : Nat := 0
  hardResets : Nat := 0
  /-- Ledger: COLD, boot count, last reset kind, stage records, BOOT_CORE, BUNDLE_SLOT. -/
  cold : Bool := true
  boots : Nat := 0
  lastKind : Nat := 0
  stages : List StageRec := List.replicate 8 {}
  /-- How the last S5 of a boot or of a return to Run ended: 0 none, 1 OK, 2 DEGRADED, 3 FAILED or cut short (02 R41). -/
  s5 : Nat := 0
  bootCore : Nat := 0
  slot : Nat := 0
  /-- Channels whose training parameters are saved. -/
  trained : List Bool := List.replicate 32 false
  /-- Ledger: last CONTROL session number, and k of each stream's sequence record plus one, 0 for none (R227). -/
  sessionRec : Option Nat := none
  /-- The stream numbers have not been resumed since the cold reset (R227). -/
  seqDue : Bool := true
  seqRec : List (Option Nat) := List.replicate 15 none
  flash : Flash := {}
  /-- The last S3 found the persistent record area (R336). -/
  persistOk : Bool := true
  /-- Shift-log header: the number of the shift (Table 14.5), and the number that each core has recorded (R327). -/
  shiftNo : Nat := 0
  coreLog : List Nat := [0, 0]
  /-- IDs of integrations lost with pit memory (R134). -/
  lostIds : List Nat := []
  /-- ID_FRAME_MAP. -/
  idMap : List Nat := List.replicate 36 0
  /-- Stages that ran in this boot; the others count as NONE next time (R333). -/
  ran : Nat := 0
  /-- DEVICE_STATE that S7 will set. -/
  bootTo : DevState := .ready
  /-- PERST_N is low. -/
  perst : Bool := false
  /-- DEV_RESET with KIND HARD has passed; the reset follows once its completion is written. -/
  resetDue : Bool := false
  /-- The last R9 snapshot of a wide quantity: offset of its lowest word, and its higher words. -/
  snaps : List (Nat × List Nat) := []
  deriving DecidableEq, Repr, Inhabited

end Sys2Proof.Machine
end

