-- ==== Sys2Proof/Machine/StSys.lean ====
section
/-! DEFINITION. State of the power domains. -/

namespace Sys2Proof.Machine

/-- States of the datapath domain (01 R22). -/
inductive DpState where
  | off | run | quiesce
  deriving DecidableEq, Repr, Inhabited

/-- How the last access by a command of the register map ended: for a read the value that it returned, and whether a Suhel core
got a bus error (00 R4; 15 R345). -/
structure BusReply where
  agent : Nat := 0
  value : Nat := 0
  error : Bool := false
  deriving DecidableEq, Repr, Inhabited

structure Sys where
  dp : DpState := .off
  sec : Nat := 0
  ns : Nat := 0
  /-- Outputs are time-suspect (18 R427). -/
  suspect : Bool := false
  /-- Frame fault mask of the boot ledger (05 R91). -/
  faultMask : Nat := 0
  /-- Frame map of the boot ledger, a byte per physical frame (14 Table 14.9). -/
  frameMap : List Nat := List.replicate 36 0
  /-- Shared SRAM, 4 MiB. -/
  sram : List Host.Cell := []
  /-- Incorrect inputs discarded where no chapter states an outcome (00 R2); the model's own count (log 111). -/
  discarded : Nat := 0
  /-- The answer of the last access by an agent (00 R4). -/
  reply : BusReply := {}
  deriving DecidableEq, Repr, Inhabited

end Sys2Proof.Machine
end

