-- ==== Sys2Proof/Machine/StTrig.lean ====
section
/-! DEFINITION. State of the trigger unit and the capture ring (10). -/

namespace Sys2Proof.Machine

/-- A hit in the store, with its arrival order and the conditions for which it is consumed. -/
structure Hit where
  input : Nat := 0
  stamp : Nat := 0
  info : Nat := 0
  order : Nat := 0
  consumed : Nat := 0
  deriving DecidableEq, Repr, Inhabited

/-- A candidate waiting for its decision (R208). -/
structure Candidate where
  cond : Nat := 0
  stamp : Nat := 0
  /-- Chosen hits: input and stamp, in ascending input number. -/
  chosen : List (Nat × Nat) := []
  info : Nat := 0
  deriving DecidableEq, Repr, Inhabited

/-- A trigger condition (10 Table 10.2). -/
structure Condition where
  mask : Nat := 0
  m : Nat := 1
  w : Nat := 0
  vetoMask : Nat := 0
  vetoW : Nat := 0
  vetoWait : Nat := 0
  prescale : Nat := 1
  dead : Nat := 0
  outputs : Nat := 0
  record : Bool := false
  freeze : Bool := false
  /-- Prescale counter, and the trigger stamps whose deadtime is in force. -/
  counter : Nat := 0
  deadFrom : List Nat := []
  fired : Nat := 0
  deriving DecidableEq, Repr, Inhabited

/-- A pulse, in units of 0.8 ns of array time: start and end. -/
structure Pulse where
  start : Nat := 0
  stop : Nat := 0
  deriving DecidableEq, Repr, Inhabited

structure TrigOut where
  at_ : Bool := false
  width : Nat := 1
  activeLow : Bool := false
  delay : Nat := 0
  /-- Scheduled and active pulses, in order of start. -/
  pulses : List Pulse := []
  active : Bool := false
  deriving DecidableEq, Repr, Inhabited

/-- Capture ring states (10 Table 10.6). -/
inductive CaptState where
  | idle | recording | pending | held | readout | done
  deriving DecidableEq, Repr, Inhabited

def CaptState.code : CaptState → Nat
  | .idle => 0 | .recording => 1 | .pending => 2 | .held => 3 | .readout => 4 | .done => 5

structure CaptCfg where
  groups : Nat := 0
  first : Nat := 0
  count : Nat := 0
  base : Nat := 0
  records : Nat := 0
  readout : Bool := false
  autoRelease : Bool := false
  deriving DecidableEq, Repr, Inhabited

/-- A capture record in the ring: what its header says (10 Table 10.5). -/
structure CaptRec where
  entry : Nat := 0
  pos : Nat := 0
  chunk : Nat := 0
  channel : Nat := 0
  deadline : Bool := false
  w8f : Bool := false
  groups : Nat := 0
  missing : Nat := 0
  blank : Nat := 0
  epoch : Nat := 0
  /-- FREEZE_NUMBER. -/
  freeze : Nat := 0xFFFFFFFF
  /-- Its position was consumed while outputs were time-suspect. -/
  timeSuspect : Bool := false
  deriving DecidableEq, Repr, Inhabited

structure Capture where
  state : CaptState := .idle
  cfg : CaptCfg := {}
  /-- Records in the ring, oldest first. -/
  entries : List CaptRec := []
  head : Nat := 0
  /-- Runs of selected positions, first and last, recorded since the ring was last emptied. -/
  spans : List (Nat × Nat) := []
  /-- The position consumed now is being recorded. -/
  writing : Option Nat := none
  /-- First protected chunk k_a, and FREEZE_NUMBER of the freeze in force. -/
  firstChunk : Int := 0
  freezeNumber : Nat := 0xFFFFFFFF
  isPartial : Bool := false
  protRecords : Nat := 0
  /-- Protected records not yet handed to the Hoist's queue, and those not yet fully sent. -/
  toBuild : List (Nat × Nat) := []
  toSend : List (Nat × Nat) := []
  /-- CAPTURE_RELEASE with DISCARD: stop after the record being sent (R221). -/
  discard : Bool := false
  deriving DecidableEq, Repr, Inhabited

structure Trig where
  hits : List Hit := []
  nextOrder : Nat := 0
  /-- HIT_HOLD in µs. -/
  hold : Nat := 1000
  filter : List Nat := [0, 0]
  falling : List Bool := [false, false]
  level : List Bool := [false, false]
  /-- External hits on their way to the trigger unit: input, stamp, INFO (R206). -/
  edges : List (Nat × Nat × Nat) := []
  conds : List Condition := List.replicate 8 {}
  armed : Nat := 0
  candidates : List Candidate := []
  outs : List TrigOut := List.replicate 4 {}
  /-- Next trigger number of the datapath run (R210). -/
  number : Nat := 0
  capt : Capture := {}
  cause : Nat := 0
  irqEn : Nat := 0
  fired : Nat := 0
  hitCount : Nat := 0
  hitLost : Nat := 0
  vetoed : Nat := 0
  prescaled : Nat := 0
  deadHits : Nat := 0
  outLate : Nat := 0
  outMerged : Nat := 0
  outLost : Nat := 0
  inGlitch : Nat := 0
  skipped : Nat := 0
  freezeRefused : Nat := 0
  partials : Nat := 0
  captDamaged : Nat := 0
  deriving DecidableEq, Repr, Inhabited

end Sys2Proof.Machine
end

