-- ==== Sys2Proof/Machine/StTu.lean ====
section
/-! DEFINITION. State of the timing unit and PTP (13). Phases are in units of 2^-16 ns, fractional frequencies are exact
rational numbers. -/

namespace Sys2Proof.Machine

/-- Candidate states (13 Table 13.4). -/
inductive CandState where
  | disabled | monitor | qualifying | qualified | drifting | failed | waitToRestore
  deriving DecidableEq, Repr, Inhabited

def CandState.code : CandState → Nat
  | .disabled => 0 | .monitor => 1 | .qualifying => 2 | .qualified => 3 | .drifting => 4 | .failed => 5
  | .waitToRestore => 6

/-- TIME_REFS parameters of a candidate (13 Table 13.3). -/
structure CandParams where
  enable : Bool := false
  eligible : Bool := true
  falling : Bool := false
  ql : Nat := 15
  priority : Nat := 8
  lane : Nat := 0
  comp : Int := 0
  tol : Nat := 50
  qualTime : Nat := 10
  wtr : Nat := 300
  driftRate : Nat := 100
  driftWin : Nat := 100
  measWin : Nat := 10
  /-- 0, 1, 2: 10, 25, 100 MHz. -/
  refFreq : Nat := 0
  /-- In ns. -/
  ppsWin : Nat := 1000
  deriving DecidableEq, Repr, Inhabited

/-- A candidate (13 Tables 13.3, 13.5, 13.17). -/
structure Cand where
  par : CandParams := {}
  state : CandState := .disabled
  returning : Bool := false
  signal : Bool := false
  voter : Bool := false
  driftCause : Nat := 0
  /-- Seconds left of QUAL_TIME or WTR. -/
  timer : Nat := 0
  /-- It has been QUALIFIED since it was last enabled. -/
  wasQualified : Bool := false
  /-- Consecutive evaluations at which the tolerance test failed. -/
  tolFails : Nat := 0
  /-- φ, and whether it has been resolved since QUALIFYING was entered. -/
  phi : Int := 0
  resolved : Bool := false
  /-- φ at the second boundaries, newest first. -/
  phis : List Int := []
  /-- a at the second boundaries, newest first. -/
  aHist : List (Option Rat) := []
  a : Option Rat := none
  r : Option Rat := none
  fails : Nat := 0
  drifts : Nat := 0
  /-- PPS: expected instants without an accepted edge; an edge has come since the signal was lost; an accepted edge waits
  to be measured. -/
  misses : Nat := 0
  armed : Bool := false
  edge : Bool := false
  deriving DecidableEq, Repr, Inhabited

/-- Output states (13 Table 13.6). -/
inductive OutState where
  | freeRun | acquire | locked | switching | holdover
  deriving DecidableEq, Repr, Inhabited

def OutState.code : OutState → Nat
  | .freeRun => 0 | .acquire => 1 | .locked => 2 | .switching => 3 | .holdover => 4

/-- A history record (R302): array time in s, mean XO frequency in 10^-12, mean temperature in mK. -/
structure HistRec where
  sec : Nat := 0
  freq : Int := 0
  temp : Int := 0
  locked : Bool := false
  deriving DecidableEq, Repr, Inhabited

/-- Coefficients of the holdover model in the units of 13 Table 13.11. -/
structure HoldModel where
  c0 : Int := 0
  c1 : Int := 0
  c2 : Int := 0
  age : Int := 0
  tRef : Int := 0
  /-- t_fit in TAI seconds. -/
  tFit : Nat := 0
  deriving DecidableEq, Repr, Inhabited

/-- PTP parameters (R315). -/
structure PtpCfg where
  domain : Nat := 0
  majorSdo : Nat := 0
  ports : Nat := 3
  transports : Nat := 3
  announceTimeout : Nat := 3
  qlMode : Nat := 1
  tcEnable : Bool := true
  /-- In ns. -/
  netWin : Nat := 10000
  deriving DecidableEq, Repr, Inhabited

structure Ptp where
  cfg : PtpCfg := {}
  /-- Foreign masters, by their last Announce. -/
  masters : List Announce := []
  gm : Option Announce := none
  twoStep : Bool := false
  /-- logSyncInterval of the grandmaster's Syncs. -/
  syncLog : Int := -4
  /-- t2 − t1 − c_s of the last Sync. -/
  lastMs : Option Int := none
  /-- Delay_Req: sequenceId, and egress time of the one outstanding. -/
  reqSeq : Nat := 0
  reqT3 : Option Int := none
  /-- logMinDelayReqInterval that the last Delay_Resp announced. -/
  delayLog : Int := 0
  /-- The last 16 path delays, newest first, and the last 8 accepted phases. -/
  delays : List Rat := []
  accepted : List Int := []
  outlierRun : Nat := 0
  offset : Int := 0
  utc : Nat := 0
  /-- The last PTP message passed on: port, and frame with its frame check sequence (R312). -/
  forwarded : Option (Nat × List Byte) := none
  cause : Nat := 0
  irqEn : Nat := 0
  syncRx : Nat := 0
  outliers : Nat := 0
  tcFwd : Nat := 0
  tcDrop : Nat := 0
  deriving DecidableEq, Repr, Inhabited

/-- Defaults of 13 Table 13.3 by kind: REF, PPS, LREF, NET. -/
def candDefault (tol qual meas drift : Nat) : Cand :=
  { par := { tol := tol, qualTime := qual, measWin := meas, driftRate := drift } }

structure Tu where
  frac : Nat := 0
  cands : List Cand :=
    [candDefault 50 10 10 100, candDefault 50 10 10 100, candDefault 50 60 100 100, candDefault 50 60 100 100,
     candDefault 1000 10 10 1000, candDefault 1000 10 10 1000, candDefault 1000 60 100 1000]
  revertive : Bool := true
  /-- In µs. -/
  ppsWidth : Nat := 100000
  clkA : Nat := 0
  clkB : Nat := 0
  out : OutState := .freeRun
  selected : Option Nat := none
  /-- U, G and O. -/
  u : Rat := 0
  g : Int := 0
  userOff : Int := 0
  /-- The loop's integrator I, and the output frequency relative to XO_IN. -/
  integ : Rat := 0
  freq : Rat := 0
  /-- e of the last measurement since the last retarget, in 2^-16 ns. -/
  err : Option Rat := none
  /-- Time for which |e| has been within LOCK_THR, and above 16 × LOCK_THR, in ns. -/
  lockNs : Nat := 0
  bigNs : Nat := 0
  /-- A phase step that HOLDOVER or FREE_RUN applies as a departure of SLOPE (R298). -/
  departure : Rat := 0
  service : List Nat := [6, 3, 12, 5]
  acquire : List Nat := [12, 5, 15, 8]
  override : Option Nat := none
  /-- In ns/s, ns, s, ns. -/
  slope : Nat := 100
  lockThr : Nat := 100
  lockTime : Nat := 30
  jumpThr : Nat := 1000000
  frameWeak : Bool := false
  xoLost : Bool := false
  /-- A TIME_SET in SEC mode waits for the next second boundary. -/
  setSec : Option Nat := none
  ppsOut : Bool := false
  /-- CLKOUT_A and CLKOUT_B run, each with a rising edge at the last second boundary (R310). -/
  clkOut : List Bool := [false, false]
  /-- PPS_OUT and CLKOUT are held inactive until the next whole second (R299). -/
  outHeld : Bool := false
  hist : List HistRec := []
  model : HoldModel := {}
  /-- HOLD_LEARN in h, HOLD_MIN in min, HOLD_RES in 10^-12, TEMP_INPUT. -/
  holdLearn : Nat := 24
  holdMin : Nat := 120
  holdRes : Nat := 2000
  tempInput : Nat := 32
  /-- Mean square residual of the last fit; a load with VALID stands until the TU's own fit replaces it. -/
  residual : Option Rat := none
  loaded : Bool := false
  valid : Bool := false
  rewound : Bool := false
  tempStale : Bool := false
  temp : Int := 0
  cause : Nat := 0
  irqEn : Nat := 0
  switches : Nat := 0
  holdoverS : Nat := 0
  coarse : Nat := 0
  steps : Nat := 0
  ptp : Ptp := {}
  deriving DecidableEq, Repr, Inhabited

end Sys2Proof.Machine
end

