-- ==== Sys2Proof/Machine/State.lean ====
section
/-! DEFINITION. The whole state of the block. -/

namespace Sys2Proof.Machine

structure State where
  /-- Commands and events waiting, first in, first out. -/
  pending : List Instr
  /-- How many free values (Config.free) have been used: the model's own field. -/
  freeCount : Nat
  lanes : Lanes
  seam : Seam
  hop : Hopper
  aba : Abacus
  tal : Tally
  beams : Beams
  assay : Assay
  ayr : List AyrCore
  trig : Trig
  hst : Hoist
  pit : Pit
  tu : Tu
  cages : Cages
  bell : Bell
  wnd : Winder
  pwr : Pwr
  shift : Shift
  mon : Mon
  con : Const
  bun : Bundles
  sys : Sys
  deriving DecidableEq, Repr

/-- Why the machine stops with a fault. The manual gives every command and event an effect, so no meaning raises one. -/
inductive Fault where
  /-- Raised by no meaning; safe. -/
  | unused
  deriving DecidableEq, Repr

/-- Why a command is refused. -/
inductive Refusal where
  /-- The command has no meaning yet; safe. -/
  | notModelled (mnemonic : String)
  deriving DecidableEq, Repr

/-- The machine after a cold reset, before the boot stages run (00 R8, 14 R331). -/
def State.reset : State where
  pending := []
  freeCount := 0
  lanes := {}
  seam := {}
  hop := {}
  aba := {}
  tal := {}
  beams := {}
  assay := {}
  ayr := List.replicate 4 {}
  trig := {}
  hst := {}
  pit := {}
  tu := {}
  cages := {}
  bell := {}
  wnd := {}
  pwr := {}
  shift := {}
  mon := {}
  con := {}
  bun := {}
  sys := {}

end Sys2Proof.Machine
end

