-- ==== Sys2Proof/Machine/Ops.lean ====
section
/-! DEFINITION. Shared operations on the state, and the figures that follow from a bundle. -/

namespace Sys2Proof.Machine

/-- DP is in Run (01 R22): its blocks are powered. -/
def dpRun (s : State) : Bool := decide (s.sys.dp = .run)

/-- A fresh free value below `2 ^ w` (log 4). -/
def freeVal (w : Nat) (s : State) : Nat := Config.free s.freeCount % 2 ^ w

/-- The next free value will be another one. -/
def freeNext (s : State) : State := { s with freeCount := s.freeCount + 1 }

/-! Supplies (19 R436), in the order of Pwr.supply. -/

def supplyOn (s : State) (k : Nat) : Bool := s.pwr.supply.getD k false

def vin : Nat := 0
def vaux : Nat := 1
def vlane : Nat := 2
def vioM : Nat := 3
def vioG : Nat := 4
def vioT : Nat := 5

/-- An incorrect input for which no chapter states an outcome is discarded and counted (00 R2). -/
def discardInput (s : State) : State := { s with sys := { s.sys with discarded := s.sys.discarded + 1 } }

/-- An access by an agent ends: a read's value, and whether it ended in a bus error (15 Table 15.2). -/
def answerBus (agent v : Nat) (err : Bool) (s : State) : State :=
  { s with sys := { s.sys with reply := { agent := agent, value := v, error := err } } }

/-- The bus matrix lets the agent through: of the cores (agents 1 and 2), only one that boots or is on shift (14 R319). JTAG
(agent 4) is silent without VIO_M (19 Table 19.3). -/
def agentReaches (s : State) (agent : Nat) : Bool :=
  if agent = 1 ∨ agent = 2 then
    decide (s.shift.core.getD (agent - 1) .faulty = .booting) || decide (s.shift.core.getD (agent - 1) .faulty = .onShift)
  else decide (agent ≠ 4) || supplyOn s vioM

/-! Units. -/

def laneAt (s : State) (n : Nat) : Lane := s.lanes.lane.getD n {}

def modLane (n : Nat) (f : Lane → Lane) (s : State) : State :=
  { s with lanes := { s.lanes with lane := upd s.lanes.lane n f } }

def ayrAt (s : State) (a : Nat) : AyrCore := s.ayr.getD a {}

def modAyr (a : Nat) (f : AyrCore → AyrCore) (s : State) : State := { s with ayr := upd s.ayr a f }

def modHop (f : Hopper → Hopper) (s : State) : State := { s with hop := f s.hop }
def modAba (f : Abacus → Abacus) (s : State) : State := { s with aba := f s.aba }
def modTal (f : Tally → Tally) (s : State) : State := { s with tal := f s.tal }
def modBeams (f : Beams → Beams) (s : State) : State := { s with beams := f s.beams }
def modAssay (f : Assay → Assay) (s : State) : State := { s with assay := f s.assay }
def modTrig (f : Trig → Trig) (s : State) : State := { s with trig := f s.trig }
def modCapt (f : Capture → Capture) (s : State) : State :=
  { s with trig := { s.trig with capt := f s.trig.capt } }
def modHst (f : Hoist → Hoist) (s : State) : State := { s with hst := f s.hst }
def modTu (f : Tu → Tu) (s : State) : State := { s with tu := f s.tu }
def modBell (f : Bell → Bell) (s : State) : State := { s with bell := f s.bell }
def modWnd (f : Winder → Winder) (s : State) : State := { s with wnd := f s.wnd }
def modPwr (f : Pwr → Pwr) (s : State) : State := { s with pwr := f s.pwr }
def modShift (f : Shift → Shift) (s : State) : State := { s with shift := f s.shift }
def modMon (f : Mon → Mon) (s : State) : State := { s with mon := f s.mon }
def modCon (f : Const → Const) (s : State) : State := { s with con := f s.con }
def modPit (f : Pit → Pit) (s : State) : State := { s with pit := f s.pit }
def modCages (f : Cages → Cages) (s : State) : State := { s with cages := f s.cages }
def modCage (n : Nat) (f : Cage → Cage) (s : State) : State :=
  modCages (fun c => { c with cage := upd c.cage n f }) s
def cageAt (s : State) (n : Nat) : Cage := s.cages.cage.getD n {}

/-- A STAT record is made and gathered by the Hoist (11 R232). `ref` is the spectrum number current. -/
def noteStat (kind a0 a1 a2 ref : Nat) (s : State) : State :=
  modHst (fun h => { h with
    stat := h.stat ++ [{ kind := kind, arg0 := a0 % 2 ^ 32, arg1 := a1 % 2 ^ 64, arg2 := a2 % 2 ^ 64,
                         sec := s.sys.sec, ns := s.sys.ns, ref := ref }] }) s

/-- Group size of a mode (01 Table 1.3). -/
def groupSize : Mode → Nat
  | .w8f => 32
  | _ => 64

/-- Active groups of a bundle, ascending: their places are the group ranks (16 R403). -/
def activeGroups (b : Bundle) : List Nat := bitsSet 32 b.groups

/-- Inputs of a bundle. -/
def inputsOf (b : Bundle) : Nat := (activeGroups b).length * groupSize b.mode

/-- The bundle whose epoch and layout are in force at a sample index: during a changeover the one to come from A upwards,
otherwise the active one everywhere (03 R55, 04 R78). -/
def bundleAt (s : State) (idx : Nat) : Option Bundle :=
  match s.bun.changeover with
  | some (a, b) => if a ≤ idx then some b else s.bun.active
  | none => s.bun.active

/-- Channels C of the active bundle. -/
def chans (s : State) : Nat :=
  match s.bun.active with
  | some b => b.channels
  | none => 1

/-- Chunk and channel of a position (03 R57). -/
def chunkOf (s : State) (pos : Nat) : Nat := pos / chans s
def channelOf (s : State) (pos : Nat) : Nat := pos % chans s

/-- Bundle that the data of a position was taken under: once a changeover has ended, the one before it for positions below
its activation index (03 R55; log 64). -/
def bundleOfPos (s : State) (pos : Nat) : Option Bundle :=
  let idx := 8192 * chunkOf s pos
  match s.bun.past with
  | some (a, b) => if idx < a then some b else bundleAt s idx
  | none => bundleAt s idx

/-- Epoch in force for a position; 0 with no bundle. -/
def epochOfPos (s : State) (pos : Nat) : Nat :=
  match bundleOfPos s pos with
  | some b => b.epoch
  | none => 0

/-- Epoch of the configuration now in force; 0 with no bundle (log 115). -/
def epochNow (s : State) : Nat :=
  match s.bun.active with
  | some b => b.epoch
  | none => 0

/-- Own SOURCE identity (03 R48); 0 with no bundle (log 115). -/
def ownSource (s : State) : Nat :=
  match s.bun.active with
  | some b => b.source
  | none => 0

/-- Array time as timer count (13 R280): units of 2^-16 ns, modulo 2^64. -/
def timerOf (sec ns frac : Nat) : Nat := ((sec * 1000000000 + ns) * 65536 + frac) % 2 ^ 64

/-- The timer count now, as far as the state knows it (log 24). -/
def timeNow (s : State) : Nat := timerOf s.sys.sec s.sys.ns 0

/-- T0 in 2^-16 ns since the PTP epoch. -/
def originTime (b : Bundle) : Nat := (b.t0Sec * 1000000000 + b.t0Ns) * 65536 + b.t0Frac

/-- Array time of a spectrum under a bundle, in 2^-16 ns since the PTP epoch (13 R279). -/
def spectrumTime (b : Bundle) (spec : Nat) : Nat :=
  originTime b + spec * b.specPeriod / 65536

/-- The spectrum that contains an array time given in 2^-16 ns; 0 before T0 (13 R279). -/
def spectrumAt (b : Bundle) (t : Nat) : Nat :=
  (t - originTime b) * 65536 / max 1 b.specPeriod

/-- The array time in 2^-16 ns that a timer count stands for: the one nearest the array time of now (13 R280). -/
def fullTime (s : State) (t : Nat) : Nat :=
  let now := (s.sys.sec * 1000000000 + s.sys.ns) * 65536
  let d := (t + 2 ^ 64 - now % 2 ^ 64) % 2 ^ 64
  if d < 2 ^ 63 then now + d else now + d - 2 ^ 64

/-- The spectrum number current at timer count `t`, under the bundle whose timetable runs; 0 without one (09 R194, 04 R70). -/
def spectrumNow (s : State) (t : Nat) : Nat :=
  match s.bun.active with
  | some b => if s.hop.running then spectrumAt b (fullTime s t) else 0
  | none => 0

/-- Seconds, nanoseconds and 2^-16 ns of an array time in 2^-16 ns. -/
def splitTime (t : Nat) : Nat × Nat × Nat :=
  (t / 65536 / 1000000000, t / 65536 % 1000000000, t % 65536)

/-- A chunk interval I in 2^-16 ns is `intervalNum` over `intervalDen` (13 R279). -/
def intervalNum (b : Bundle) : Nat := 8192 * b.specPeriod

def intervalDen (b : Bundle) : Nat := 65536 * b.channels

/-- The nominal arrival time a_j in 2^-16 ns since the PTP epoch, truncated (13 R279, 04 R68). -/
def arrivalTime (b : Bundle) (j : Nat) : Nat :=
  originTime b + (j + b.channels + b.intake) * intervalNum b / intervalDen b

/-- The lowest position whose nominal arrival time is not before `t`, in 2^-16 ns. -/
def firstArrival (b : Bundle) (t : Nat) : Nat :=
  cdiv ((t - originTime b) * intervalDen b) (max 1 (intervalNum b)) - (b.channels + b.intake)

/-- B ≤ 62.5 MHz (01 R16): C / SPEC_PERIOD against 1 / 16 ns. -/
def bandwidthOk (b : Bundle) : Bool := decide (16 * b.channels * 2 ^ 32 ≤ b.specPeriod)

/-- Most channels of a mode (01 R16). -/
def maxChannels : Mode → Nat
  | .w4f => 2048
  | _ => 4096

/-- K′ of R96: 128 × floor(K / 128), with K = 1.25 GHz × I. -/
def kPrime (b : Bundle) : Nat := 128 * (80 * b.specPeriod / (max 1 b.channels * 2 ^ 32))

/-- Bits per sample (01 R18). -/
def sampleBits : Mode → Nat
  | .w8f => 16
  | _ => 8

/-- Ladder payload rate of a rate code, in Mb/s (02 Table 2.4). -/
def ladderMbps (rate : Nat) : Nat := 2500 * 2 ^ rate

/-- Receive capacity of R25: lanes that are UP, in Mb/s. -/
def rxCapacity (s : State) : Nat :=
  (s.lanes.lane.map (fun l =>
    if l.rxEnabled && decide (l.rxState = .up) then ladderMbps l.rxRate else 0)).sum

/-- The payload rule R18 for a bundle with `q` prompt channels, against a capacity in Mb/s.
Rates are compared after multiplying by SPEC_PERIOD: Δf = 2^32 × 10^9 / SPEC_PERIOD Hz. -/
def payloadOk (b : Bundle) (q cap : Nat) : Bool :=
  let perDf := inputsOf b * sampleBits b.mode * 2 ^ 32 * 1000000000
  let main := perDf * b.channels
  let both := main + perDf * q
  let capScaled := cap * 1000000 * b.specPeriod
  decide (100 * main ≤ 80 * capScaled) && decide (100 * both ≤ 90 * capScaled)

/-- The position being consumed; before the next boundary, the one that it will consume: two before the next to open, and
no earlier than the first served. -/
def consumePos (s : State) : Nat :=
  if s.aba.consuming then s.aba.pos else if s.hop.running then max s.hop.first (s.hop.nextOpen - 2) else 0

/-- The chunk being consumed. -/
def consumeChunk (s : State) : Nat := chunkOf s (consumePos s)

/-- The spectrum number current: the newest spectrum of the position being consumed stands for it
where a STAT record needs one (log 14). -/
def currentSpectrum (s : State) : Nat := 8192 * consumeChunk s

/-- The spectrum number of the first spectrum of the chunk the Hopper is filling (03 R56). -/
def fillingSpectrum (s : State) : Nat := 8192 * chunkOf s (s.hop.nextOpen - 1)

/-- Bytes of addressable pit memory (12 R253). -/
def pitBytes : Nat := 60397977600

/-- Bytes read, and whether any data line read is marked damaged, in which case that line's bytes read as zero (12 R259). -/
def pitGet (p : Pit) (a n : Nat) : List Byte × Bool :=
  let bad := fun x => p.damaged.contains (x / 64)
  ((upTo n).map (fun i => if bad (a + i) then 0 else memByte p.mem (a + i)), (upTo n).any (fun i => bad (a + i)))

/-- Data lines wholly covered by `n` bytes from `a`. -/
def coversLine (a n line : Nat) : Bool := decide (a ≤ 64 * line) && decide (64 * line + 64 ≤ a + n)

/-- Bytes written: they clear the mark of every line that they cover whole (12 R259). -/
def pitPut (a : Nat) (bs : List Byte) (p : Pit) : Pit :=
  { p with mem := memWrite p.mem a bs, damaged := p.damaged.filter (fun l => !coversLine a bs.length l) }

/-- A read by a unit of the datapath. It comes after every request that has left its regulator (12 R262). -/
def pitRead (s : State) (a n : Nat) : List Byte × Bool := pitGet s.pit a n

/-- A write by a unit of the datapath. -/
def pitWrite (a : Nat) (bs : List Byte) (s : State) : State := modPit (pitPut a bs) s

/-- The bucket of a port when `ns` more nanoseconds have passed (12 R263). -/
def fillBucket (ns : Nat) (q : PitPort) : PitPort := { q with tokens := min (q.burst * 10240) (q.tokens + ns * q.rate) }

/-- `n` bytes leave the regulator: at once, or when the bucket has gained what they lack (12 R263). -/
def takeTokens (n : Nat) (q : PitPort) : PitPort :=
  if 10 * n ≤ q.tokens then { q with tokens := q.tokens - 10 * n }
  else
    let wait := cdiv (10 * n - q.tokens) (max 1 q.rate)
    { q with tokens := q.tokens + wait * q.rate - 10 * n, held := sat32 (q.held + cdiv (5 * wait) 8) }

/-- Nanoseconds from one timer count to a later one. -/
def nsSince (now last : Nat) : Nat := (now + 2 ^ 64 - last % 2 ^ 64) % 2 ^ 64 / 65536

/-- A unit's own traffic of `n` data bytes passes its port's regulator and is counted (12 R263, Table 12.8). -/
def servePort (p n : Nat) (s : State) : State :=
  let now := timeNow s
  modPit (fun x => { x with ports := upd x.ports p (fun q =>
    { takeTokens n (fillBucket (nsSince now q.last) q) with bytes := sat64 (q.bytes + n), last := now }) }) s

/-- The Hoist has finished a record: TAL_RING_TAIL names the oldest that it has not (06 R130, R452). -/
def finishRecord (addr : Nat) (s : State) : State :=
  modTal (fun a =>
    let ring := a.ring.filter (fun r => decide (r.addr ≠ addr))
    { a with ring := ring, ringTail := match ring with | r :: _ => r.entry | [] => a.ringHead }) s

/-- No copy of the packet waits or is on a lane. -/
def pktOver (p : HPkt) : Bool := !p.waitA && !p.waitB && !p.onA && !p.onB

/-- Packets that are over leave the queue; one that ended a dump record or a capture record finishes it
(06 R130, 10 R220). -/
def settleQueue (s : State) : State :=
  let done := s.hst.queue.filter pktOver
  if done.isEmpty then s else
    done.foldl (fun s p =>
      let s := match p.endsDump with
        | some a => finishRecord a s
        | none => s
      match p.endsCapt with
      | some e => modCapt (fun c => { c with toSend := c.toSend.filter (fun x => decide (x.1 ≠ e)) }) s
      | none => s) (modHst (fun h => { h with queue := h.queue.filter (fun p => !pktOver p) }) s)

/-- Paths of the Hoist: a path is up while one of its lanes is TX_UP (11 R234). Path 0 is A, role 1. -/
def pathUp (s : State) (path : Nat) : Bool :=
  s.lanes.lane.any (fun l => decide (l.txRole = path + 1) && l.txUp)

/-- After a change of the lanes: a path that went down or came up is reported (11 R234, R252).
`before` is the state the change started from. -/
def notePath (before : State) (path : Nat) (s : State) : State :=
  match pathUp before path, pathUp s path with
  | true, false =>
    noteStat 6 path 0 0 (currentSpectrum s) (modHst (fun h => { h with cause := setBits h.cause [0] }) s)
  | false, true =>
    noteStat 7 path 0 0 (currentSpectrum s) (modHst (fun h => { h with cause := setBits h.cause [1] }) s)
  | _, _ => s

def notePaths (before : State) (s : State) : State := notePath before 1 (notePath before 0 s)

end Sys2Proof.Machine
end

