-- ==== Sys2Proof/Machine/Cmd.lean ====
section
/-! DEFINITION. How a request becomes a completion (16): checks common to every command, the reply cache,
the commit journal, and the CONTROL messages that firmware issues. -/

namespace Sys2Proof.Machine

/-- What a command answers: STATUS, DETAIL, SIDE_EFFECTS, RESULT from byte 24, and a result block. -/
structure Reply where
  status : Nat := 0
  detail : Nat := 0
  side : Nat := 0
  result : List Byte := []
  block : Option (List Byte) := none
  deriving DecidableEq, Repr, Inhabited

/-- The outcome of a command's own meaning: the state, the reply, and, when the command stays open, its journal phase. -/
structure Out where
  st : State
  reply : Reply := {}
  stay : Option CmdPhase := none
  key : Nat := 0

/-- STATUS codes (Table 16.3). -/
def stOk : Nat := 0
def stAlready : Nat := 1
def stAborted : Nat := 2
def stReplayed : Nat := 3
def stConflict : Nat := 4
def stBusy : Nat := 5
def stLimit : Nat := 6
def stBadArg : Nat := 7
def stNotInState : Nat := 8
def stEpoch : Nat := 9
def stExpand : Nat := 10
def stDigest : Nat := 11
def stHardware : Nat := 12
def stTimeout : Nat := 13
def stUnknown : Nat := 14

def refuse (s : State) (status detail : Nat) : Out := { st := s, reply := { status := status, detail := detail } }
def badRange (s : State) : Out := refuse s stBadArg 2
def badReserved (s : State) : Out := refuse s stBadArg 1
def badLen (s : State) : Out := refuse s stBadArg 3
def admission (s : State) : Out := refuse s stLimit 13
def notInState (s : State) : Out := refuse s stNotInState 0
def answer (s : State) (result : List Byte) : Out := { st := s, reply := { result := result } }

/-- RESULT bytes from fields at completion offsets 24 to 63; every other byte is 0. -/
def fields (l : List (Nat × List Byte)) : List Byte :=
  l.foldl (fun acc f => overlay acc (f.1 - 24) f.2) (List.replicate 40 0)

/-- Body fields, by their offset in the request entry. -/
def b8 (r : Req) (o : Nat) : Nat := u8 r.body (o - 24)
def b16 (r : Req) (o : Nat) : Nat := u16 r.body (o - 24)
def b24 (r : Req) (o : Nat) : Nat := u24 r.body (o - 24)
def b32 (r : Req) (o : Nat) : Nat := u32 r.body (o - 24)
def b48 (r : Req) (o : Nat) : Nat := u48 r.body (o - 24)
def b64 (r : Req) (o : Nat) : Nat := u64 r.body (o - 24)

/-- What Tables 16.9 to 16.14 say of a command's request: opcode, commit point at acceptance, need of DP in Run
(01 R23), named body bytes as (offset, length), and the argument length when it is fixed. -/
structure CmdSpec where
  op : Nat
  acceptance : Bool := false
  needsRun : Bool := false
  named : List (Nat × Nat) := []
  argLen : Option Nat := some 0
  deriving DecidableEq, Repr, Inhabited

/-- The commands of Tables 16.9 to 16.11. -/
def cmdTableA : List CmdSpec :=
  [ { op := 0x0101, acceptance := true }, { op := 0x0102, acceptance := true },
    { op := 0x0103, named := [(24, 1), (28, 4)] }, { op := 0x0104, named := [(24, 2)] },
    { op := 0x0105, acceptance := true, named := [(24, 40)], argLen := none },
    { op := 0x0201, named := [(24, 6)], argLen := none },
    { op := 0x0202, named := [(24, 11), (40, 16)] },
    { op := 0x0203, acceptance := true },
    { op := 0x0301, needsRun := true, named := [(24, 9)] },
    { op := 0x0302, acceptance := true, needsRun := true, named := [(24, 4)] },
    { op := 0x0303, needsRun := true, named := [(24, 1)], argLen := some 256 },
    { op := 0x0401, needsRun := true, named := [(24, 33)] },
    { op := 0x0402, needsRun := true, named := [(24, 4)] }, { op := 0x0403, needsRun := true },
    { op := 0x0404, acceptance := true }, { op := 0x0405, acceptance := true, named := [(24, 12)] },
    { op := 0x0501, needsRun := true, named := [(24, 6), (32, 14)], argLen := none },
    { op := 0x0502, needsRun := true, named := [(24, 2), (32, 8)], argLen := none },
    { op := 0x0503, needsRun := true, named := [(24, 6), (30, 2)], argLen := none },
    { op := 0x0504, needsRun := true, named := [(24, 5), (30, 12)], argLen := some 48 },
    { op := 0x0601, needsRun := true, named := [(24, 16)], argLen := none },
    { op := 0x0602, needsRun := true, named := [(24, 8)], argLen := none },
    { op := 0x0603, needsRun := true, named := [(24, 2)] },
    { op := 0x0604, needsRun := true, named := [(24, 7)], argLen := none },
    { op := 0x0605, needsRun := true, named := [(24, 1)] } ]

/-- The commands of Tables 16.11 to 16.14. -/
def cmdTableB : List CmdSpec :=
  [ { op := 0x0701, needsRun := true, named := [(24, 4), (28, 7), (36, 7)] },
    { op := 0x0702, needsRun := true, named := [(24, 8)] }, { op := 0x0703, needsRun := true, named := [(24, 1)] },
    { op := 0x0801, needsRun := true, named := [(24, 24)] }, { op := 0x0802, needsRun := true, named := [(24, 1)] },
    { op := 0x0803, needsRun := true, named := [(24, 2)] },
    { op := 0x0901, acceptance := true, needsRun := true },
    { op := 0x0902, needsRun := true, named := [(24, 1)] },
    { op := 0x0903, needsRun := true, named := [(24, 14)] },
    { op := 0x0904, needsRun := true, named := [(24, 1), (26, 2)] },
    { op := 0x0A01, named := [(24, 8)], argLen := none },
    { op := 0x0A02, named := [(24, 9), (34, 14)] },
    { op := 0x0A03, named := [(24, 5)] }, { op := 0x0A04, named := [(24, 1), (32, 12)] },
    { op := 0x0A05, acceptance := true }, { op := 0x0A06, named := [(24, 7), (32, 4)] },
    { op := 0x0A07, named := [(24, 2), (28, 26), (56, 8)] },
    { op := 0x0B01, named := [(24, 2)], argLen := none }, { op := 0x0B02, named := [(24, 3), (28, 4)] },
    { op := 0x0B03, acceptance := true }, { op := 0x0B04, named := [(24, 4)] },
    { op := 0x0C01, named := [(24, 3)], argLen := none }, { op := 0x0C02, acceptance := true },
    { op := 0x0C03, named := [(24, 8)] },
    { op := 0x0D01, acceptance := true }, { op := 0x0D02 },
    { op := 0x0D03, acceptance := true, named := [(24, 4)] }, { op := 0x0D04, named := [(24, 4)] },
    { op := 0x0D05, named := [(24, 1)] }, { op := 0x0D06 } ]

def cmdTable : List CmdSpec := cmdTableA ++ cmdTableB

def cmdSpec (op : Nat) : Option CmdSpec := cmdTable.find? (fun c => c.op == op)

/-- The group of an opcode. -/
def cmdGroup (op : Nat) : Nat := op / 256

/-- Does a body byte that no field names hold anything but 0 (R374, R384)? -/
def reservedClear (named : List (Nat × Nat)) (body : List Byte) : Bool :=
  (upTo 40).all (fun i => named.any (fun f => decide (f.1 ≤ i + 24) && decide (i + 24 < f.1 + f.2)) || u8 body i == 0)

/-- Which cage takes which command (Table 16.4). -/
def cagePermits (cage op : Nat) : Bool :=
  if cage ≤ 5 then true
  else if cage = 6 then [1, 11, 13].contains (cmdGroup op) || op == 0x0A05
  else (cmdGroup op == 1 && op != 0x0103) || cmdGroup op == 12 || [0x0A05, 0x0203, 0x0D01].contains op

/-- A request entry as its 64 bytes (Table 16.1). -/
def reqBytes (r : Req) : List Byte :=
  leBytes 2 r.opcode ++ leBytes 2 r.tag ++ leBytes 2 r.client ++
  leBytes 2 (r.dest % 4096 + 4096 * b2n r.rsv + 8192 * b2n r.part + 16384 * b2n r.host + 32768 * b2n r.forward) ++
  leBytes 8 r.argAddr ++ leBytes 4 r.arg.length ++ leBytes 4 r.resMax ++ padTo 40 r.body

/-- The request digest of R387. -/
def reqDigest (r : Req) : Nat :=
  digestNat (reqBytes { r with argAddr := 0, resMax := 0, host := false } ++ r.arg)

/-- A request entry read from 64 bytes, with its argument. -/
def reqOfBytes (cage : Nat) (e : List Byte) (arg : List Byte) : Req :=
  { cage := cage, opcode := u16 e 0, tag := u16 e 2, client := u16 e 4,
    forward := bit (u16 e 6) 15, host := bit (u16 e 6) 14, part := bit (u16 e 6) 13, rsv := bit (u16 e 6) 12,
    dest := u16 e 6 % 4096, argAddr := u64 e 8, resMax := u32 e 20, body := padTo 40 (e.drop 24), arg := arg }

/-- A completion as its 64 bytes (Table 16.2). -/
def cplBytes (c : Completion) : List Byte :=
  leBytes 2 c.opcode ++ leBytes 2 c.tag ++ leBytes 2 c.client ++ leBytes 1 c.status ++
  leBytes 1 (b2n c.phase + 2 * b2n c.overflow + 4 * b2n c.resultBlock + 8 * b2n c.forwarded) ++
  leBytes 1 c.orig ++ leBytes 1 c.detail ++ leBytes 2 c.sideEffects ++ leBytes 4 c.resLen ++
  leBytes 8 c.commitTime ++ padTo 40 c.result

/-- The shared SRAM host area (R379). -/
def hostArea (a n : Nat) : Bool := decide (0x200000 ≤ a) && decide (a + n ≤ 0x3F0000)

/-- Commands that need an active bundle, which NO_BUNDLE and NO_DATA lack (14 R334). -/
def bundleOps : List Nat := [0x0401, 0x0402, 0x0403, 0x0501, 0x0502, 0x0503, 0x0504, 0x0701, 0x0702, 0x0703]

/-- Checks of the request entry that precede a command's own (R374, R379, R380, R384). DP that leaves Run or returns to it is not in Run. -/
def entryCheck (c : CmdSpec) (r : Req) (s : State) : Option (Nat × Nat) :=
  if !cagePermits r.cage r.opcode || (r.forward && decide (5 < r.cage)) then some (stBadArg, 5)
  else if r.rsv || (!r.forward && decide (r.dest ≠ 0)) || (r.host && decide (3 < r.cage)) || (r.part && r.cage != 4 && r.cage != 5) then
    some (stBadArg, 1)
  else if r.client = 0 || decide (0xFFFF ≤ r.client) then some (stBadArg, 2)
  else if r.badLen then some (stBadArg, 3)
  else if r.arg.length % 4 ≠ 0 || r.resMax % 4 ≠ 0 || decide (1048576 < r.arg.length) then some (stBadArg, 3)
  else if (r.cage = 4 ∨ r.cage = 5) ∧ 1408 < r.resMax then some (stBadArg, 3)
  else if r.cage = 6 ∧ (128 < r.arg.length ∨ 128 < r.resMax) then some (stBadArg, 3)
  else if r.cage = 7 ∧ (0 < r.arg.length ∨ 0 < r.resMax) then some (stBadArg, 3)
  else if !reservedClear c.named r.body then some (stBadArg, 1)
  else if (match c.argLen with | some n => decide (r.arg.length ≠ n) | none => false) then some (stBadArg, 3)
  else if r.cage ≤ 3 ∧ (0 < r.arg.length ∨ 0 < r.resMax) ∧
      (!r.reachable ∨ (!r.host ∧ !hostArea r.argAddr (max r.arg.length r.resMax))) then some (stBadArg, 4)
  else if c.needsRun && (!dpRun s || s.pwr.leaving.isSome || s.pwr.returning.isSome) then some (stNotInState, 12)
  else if bundleOps.contains c.op && s.bun.active.isNone then some (stNotInState, 0)
  else none

/-- The completion of a request. -/
def completionOf (r : Req) (order time : Nat) (a : Reply) : Completion :=
  let blk := a.block.getD []
  { cage := r.cage, opcode := r.opcode, tag := r.tag, client := r.client, status := a.status,
    resultBlock := a.block.isSome && decide (0 < r.resMax), orig := a.status, detail := a.detail,
    sideEffects := a.side, resLen := blk.length, commitTime := time, result := padTo 40 a.result,
    block := blk.take r.resMax, order := order, peer := r.peer, origin := r.origin }

/-- The argument block of a PCI Express request without HOST lies in the host area of shared SRAM, and is what stands there when
the request is taken (R377, R379); any other comes with the request. -/
def withArg (s : State) (r : Req) : Req :=
  if r.cage ≤ 3 ∧ !r.host ∧ hostArea r.argAddr r.arg.length then
    { r with arg := memRead s.sys.sram r.argAddr r.arg.length }
  else r

/-- A completion joins those waiting to be posted; its result block is written at ARG_ADDR, over the argument: in shared SRAM, or
in host memory (R377, R379). -/
def issue (r : Req) (c : Completion) (s : State) : State :=
  let s := modCages (fun g => { g with ready := g.ready ++ [c] }) s
  if r.cage ≤ 3 ∧ c.resultBlock then
    if r.host then modCages (fun g => { g with hostBlock := some (r.argAddr, c.block) }) s
    else { s with sys := { s.sys with sram := memWrite s.sys.sram r.argAddr c.block } }
  else s

/-- Signed 16-bit difference, later minus earlier, as a number below 2^16. -/
def tagDiff (later earlier : Nat) : Nat := (later + 65536 - earlier % 65536) % 65536

def placeOf (s : State) (client : Nat) : Option ClientPlace := s.cages.places.find? (fun p => p.client == client)

def modPlace (client : Nat) (f : ClientPlace → ClientPlace) (s : State) : State :=
  modCages (fun g => { g with places := g.places.map (fun p => if p.client = client then f p else p) }) s

/-- Minutes-old places may be reassigned: 60 s of timer count (R387). -/
def sixtySeconds : Nat := 60 * 1000000000 * 65536

/-- The place whose newest request completed longest ago, if that is at least 60 s. -/
def oldestPlace (s : State) (t : Nat) : Option ClientPlace :=
  let age := fun (p : ClientPlace) => match p.newestDone with
    | some d => (t + 2 ^ 64 - d) % 2 ^ 64
    | none => 0
  s.cages.places.foldl (fun best p =>
    if age p < sixtySeconds then best else match best with
      | some q => if age q < age p then some p else some q
      | none => some p) none

/-- A place for a client: its own, a free one, or a reassigned one (R387). -/
def takePlace (client t : Nat) (s : State) : Option State :=
  match placeOf s client with
  | some _ => some s
  | none =>
    let fresh : ClientPlace := { client := client }
    if s.cages.places.length < 32 then
      some (modCages (fun g => { g with places := g.places ++ [fresh] }) s)
    else match oldestPlace s t with
      | some p => some (modCages (fun g => { g with
          places := g.places.filter (fun q => decide (q.client ≠ p.client)) ++ [fresh] }) s)
      | none => none

/-- Outcome of Table 16.5 for a request: run it, or answer at once. -/
inductive TagClass where
  | new | repeatOf (c : Completion) | conflict (orig : Option Nat) (stale : Bool) | inProgress
  deriving DecidableEq, Repr

def classify (p : ClientPlace) (tag digest : Nat) : TagClass :=
  let fwd := tagDiff tag p.newest
  if p.entries.isEmpty && p.newestDone.isNone && decide (p.newest = 0) then .new
  else if 1 ≤ fwd ∧ fwd ≤ 32767 then .new
  else if 64 ≤ tagDiff p.newest tag then .conflict none true
  else match p.entries.find? (fun e => e.tag == tag) with
    | none => .new
    | some e =>
      if e.digest ≠ digest then .conflict (e.done.map (·.status)) false
      else if !e.stored then .new
      else match e.done with
        | some c => .repeatOf c
        | none => .inProgress

/-- The tag enters its client's window (R387). -/
def enterTag (client tag digest : Nat) (stored : Bool) (s : State) : State :=
  modPlace client (fun p =>
    let first := p.entries.isEmpty && p.newestDone.isNone && decide (p.newest = 0)
    let moves := first || (decide (1 ≤ tagDiff tag p.newest) && decide (tagDiff tag p.newest ≤ 32767))
    let newest := if moves then tag else p.newest
    let kept := p.entries.filter (fun e => decide (tagDiff newest e.tag < 64) && decide (e.tag ≠ tag))
    { p with newest := newest, newestDone := if moves then none else p.newestDone
             entries := kept ++ [{ tag := tag, digest := digest, stored := stored }] }) s

/-- The completion is kept with its tag (R387). -/
def cacheDone (client tag time : Nat) (c : Completion) (s : State) : State :=
  modPlace client (fun p => { p with
    newestDone := if p.newest = tag then some time else p.newestDone
    entries := p.entries.map (fun e => if e.tag = tag then { e with done := some c } else e) }) s

/-- A command ends: its completion is formed, cached and issued. -/
def conclude (r : Req) (order time : Nat) (a : Reply) (s : State) : State :=
  let c := completionOf r order time a
  issue r c (cacheDone r.client r.tag time c s)

/-- A commit point passes: the next place in the order of R389. -/
def nextCommit (s : State) : State := modCages (fun g => { g with commits := g.commits + 1 }) s

/-- What a command's meaning answered is taken over: completed now, or kept open in the journal. -/
def settle (r : Req) (digest t : Nat) (o : Out) : State :=
  let s := nextCommit o.st
  match o.stay with
  | none => conclude r s.cages.commits t o.reply s
  | some ph =>
    modCages (fun g => { g with openCmds := g.openCmds ++
      [{ req := r, phase := ph, digest := digest, order := g.commits, commitTime := t, key := o.key,
         result := o.reply.result }] }) s

/-- A status of Table 16.3, of those the device writes: the status of an original that has none yet, or is no longer known
(Table 16.2; log 4). -/
def freeStatus (s : State) : Nat := Config.free s.freeCount % 15

/-- Answers that execute nothing and are not stored: a repeat, a conflict, a full cache (Table 16.5). -/
def answerOnly (r : Req) (t : Nat) (a : Reply) (orig : Nat) (s : State) : State :=
  let s := nextCommit s
  issue r { completionOf r s.cages.commits t a with orig := orig } s

def accepted (r : Req) (s : State) : State :=
  modCage r.cage (fun c => { c with accepted := sat32 (c.accepted + 1) }) s

/-- Requests of a cage taken in and not completed (R386). -/
def inProgress (s : State) (n : Nat) : Nat :=
  (s.cages.fetched.filter (fun r => r.cage == n)).length +
  (s.cages.openCmds.filter (fun o => o.req.cage == n)).length +
  (s.cages.ready.filter (fun c => c.cage == n)).length +
  (s.cages.forwards.filter (fun f => f.req.cage == n)).length

/-- A cage takes a new request only while these number fewer than 256 (R386). -/
def hasRoom (s : State) (n : Nat) : Bool := decide (inProgress s n + (cageAt s n).overflow.length < 256)

/-- BUSY in CAGE_STAT_n and CAGE_CAUSE_n, and its count (R386, Table 16.6). -/
def setBusy (n : Nat) (s : State) : State :=
  modCage n (fun c => { c with busy := true, cause := setBits c.cause [2], busyCnt := sat32 (c.busyCnt + 1) }) s

/-- A request arrives over a transport that has no ring: cages 4 to 7 (R386). -/
def arrive (r : Req) (t : Nat) (s : State) : State :=
  if hasRoom s r.cage then
    modCages (fun g => { g with fetched := g.fetched ++ [r] }) (modCage r.cage (fun c => { c with busy := false }) s)
  else
    let s := setBusy r.cage s
    if r.cage = 6 then s else answerOnly r t { status := stBusy, detail := 14 } stBusy s

/-- The CONTROL party with an identity; a new one if none is known yet. -/
def partyAt (s : State) (id : Nat) : Party := (s.seam.parties.find? (fun p => p.id == id)).getD { id := id }

def setParty (p : Party) (s : State) : State :=
  { s with seam := { s.seam with
    parties := s.seam.parties.filter (fun q => decide (q.id ≠ p.id)) ++ [p] } }

/-- A message is issued to a receiver: the next sequence number, SYNC on the session's first (03 R61). -/
def queueMsg (id kind : Nat) (body : List Byte) (s : State) : State :=
  let p := partyAt s id
  setParty { p with
    nextSeq := (p.nextSeq + 1) % 2 ^ 32, opened := true
    window := p.window ++ [{ seq := p.nextSeq, sync := !p.opened,
                             msg := leBytes 2 kind ++ List.replicate 6 0 ++ padTo 64 body }] } s

/-- A request for a peer is sent on to its cage 7 and waited for (R383); identity 0xFFF is no peer's (03 R48). -/
def forwardReq (r : Req) (s : State) : State :=
  queueMsg r.dest 1 (reqBytes { r with forward := false, dest := 0 })
    (modCages (fun g => { g with forwards := g.forwards ++ [{ req := r, peer := r.dest }] }) s)

/-- Commands that an admission rule of R16, R17, R18, R238 or R265 may refuse (R385). -/
def admissionOp (op : Nat) : Bool :=
  [0x0202, 0x0401, 0x0501, 0x0504, 0x0701, 0x0801, 0x0803, 0x0903].contains op

/-- Does a request wait for an earlier one (R385)? `earlier` are the requests accepted before it and not yet taken. -/
def mustWait (earlier : List Req) (op : Nat) (s : State) : Bool :=
  let blocks := fun (o : Nat) => cmdGroup o == cmdGroup op || (admissionOp o && admissionOp op)
  decide (cmdGroup op ≠ 1) &&
  (earlier.any (fun r => !r.forward && blocks r.opcode) ||
   s.cages.openCmds.any (fun o => decide (o.phase ≠ .committed) && blocks o.req.opcode))

/-- Is the commit point acceptance (R388)? HOLDOVER_MODEL commits a READ there (Table 16.13). -/
def atAcceptance (c : CmdSpec) (r : Req) : Bool := c.acceptance || (c.op == 0x0A07 && b8 r 24 == 0)

/-- The stored completion as a repeat gets it (R388), by the way that the repeat came (R376): its result block is not sent again. -/
def replayOf (r : Req) (order : Nat) (c : Completion) : Completion :=
  { c with
    cage := r.cage, peer := r.peer, origin := r.origin, status := stReplayed, orig := c.status, resultBlock := false
    block := [], phase := false, overflow := false, order := order }

/-- A request that is taken: classification by tag, the checks of its entry, then its meaning `f` (R383 to R388). -/
def runNow (op : Nat) (f : Req → Nat → State → Out) (r0 : Req) (t : Nat) (s0 : State) : State :=
  let r := withArg s0 { r0 with opcode := op }
  let s := accepted r s0
  if r.forward ∧ r.cage ≤ 5 then
    if r.dest = 4095 then answerOnly r t { status := stBadArg, detail := 2 } stBadArg s else forwardReq r s
  else match takePlace r.client t s with
  | none => answerOnly r t { status := stBusy, detail := 9 } stBusy s
  | some s =>
    let dg := reqDigest r
    let spec := (cmdSpec op).getD { op := op }
    match classify ((placeOf s r.client).getD {}) r.tag dg with
    | .repeatOf c =>
      modCage r.cage (fun g => { g with replayed := sat32 (g.replayed + 1) })
        (modCages (fun g => { g with ready := g.ready ++
          [replayOf r (nextCommit s).cages.commits c] }) (nextCommit s))
    | .conflict orig stale =>
      modCage r.cage (fun g => { g with conflict := sat32 (g.conflict + 1) })
        (match orig with
         | some o => answerOnly r t { status := stConflict, detail := if stale then 8 else 0 } o s
         | none => freeNext (answerOnly r t { status := stConflict, detail := if stale then 8 else 0 } (freeStatus s) s))
    | .inProgress => answerOnly r t { status := stBusy, detail := 7 } stBusy s
    | .new =>
      let s := enterTag r.client r.tag dg (!atAcceptance spec r) s
      match if (cmdSpec op).isNone then some (stUnknown, 0) else entryCheck spec r s with
      | some (st, d) => settle r dg t (refuse s st d)
      | none => settle r dg t (f r t s)

/-- Firmware takes requests: a core is on shift, the cages have opened (S7), CTL is awake, and no SHIFT_HANDOVER is under way
(14 R322, R328, R334; 01 R21). -/
def cagesOpen (s : State) : Bool :=
  decide (s.shift.onShift < 2) && s.shift.done && decide (s.shift.dev ≠ .halted) && !s.pwr.ctlSleep &&
  !s.cages.openCmds.any (fun o => o.req.opcode == 0x0D02)

/-- A command row: the request is taken, or waits in the queue of R385; without room it stays in its ring, or is answered
BUSY (R386). -/
def runCommand (op : Nat) (f : Req → Nat → State → Out) (r : Req) (t : Nat) (s : State) : State :=
  if !hasRoom s r.cage then
    if r.cage ≤ 3 then setBusy r.cage (modCage r.cage (fun c => { c with inRing := c.inRing ++ [{ r with opcode := op }] }) s)
    else arrive { r with opcode := op } t s
  else if !cagesOpen s || (mustWait s.cages.fetched op s && !r.forward) then
    modCages (fun g => { g with fetched := g.fetched ++ [{ r with opcode := op }] }) s
  else runNow op f r t s

/-- Open commands that satisfy `p` end with the reply `mk` gives them, in order of commit; a command still before its
commit point commits now. -/
def finishOpen (p : OpenCmd → Bool) (mk : OpenCmd → Reply) (t : Nat) (s : State) : State :=
  let done := s.cages.openCmds.filter p
  let s := modCages (fun g => { g with openCmds := g.openCmds.filter (fun o => !p o) }) s
  done.foldl (fun s o =>
    match o.phase with
    | .committed => conclude o.req o.order o.commitTime (mk o) s
    | _ => let s := nextCommit s; conclude o.req s.cages.commits t (mk o) s) s

/-- Open commands that satisfy `p` pass their commit point and stay open. -/
def commitOpen (p : OpenCmd → Bool) (t : Nat) (s : State) : State :=
  let n := s.cages.commits + 1
  let s := if s.cages.openCmds.any p then nextCommit s else s
  modCages (fun g => { g with openCmds := g.openCmds.map (fun o =>
    if p o then { o with phase := .committed, order := n, commitTime := t } else o) }) s

def isOp (op : Nat) (o : OpenCmd) : Bool := o.req.opcode == op

end Sys2Proof.Machine
end

