-- ==== Sys2Proof/Machine/Assay.lean ====
section
/-! DEFINITION. The Assay chain (08). -/

namespace Sys2Proof.Machine

def seriesAt (s : State) (n : Nat) : Series := s.assay.series.getD n {}

def modSeries (n : Nat) (f : Series → Series) (s : State) : State :=
  modAssay (fun a => { a with series := upd a.series n f }) s

def assayCause (k : Nat) (a : Assay) : Assay := { a with cause := setBits a.cause [k] }

/-- ASSAY_SAT (R162, R167). -/
def assaySat (n : Nat) (s : State) : State :=
  if n = 0 then s else modAssay (fun a => assayCause 2 { a with sat := sat32 (a.sat + n) }) s

/-- A sample is handed over to a series (R164, Table 8.2). -/
def handOver (n stamp : Nat) (value : Int) (s : State) : State :=
  let sr := seriesAt s n
  if !sr.params.enable then s
  else if 256 ≤ sr.queue.length then modAssay (fun a => assayCause 1 { a with qdrop := sat32 (a.qdrop + 1) }) s
  else modSeries n (fun sr => { sr with queue := sr.queue ++ [{ stamp := stamp, value := value }] }) s

/-- Step of a series (Table 8.1). -/
def stepOf (n : Nat) (p : SeriesParams) : Nat := if n < 64 then 1 else if n < 672 then 64 else max 1 p.step

def sat24 (v : Int) : Int := clampI (-8388608) 8388607 v

/-- A series at work: its state, the events it has generated, saturations and gaps. -/
structure ChainWork where
  sr : Series := {}
  ev : List AssayEvent := []
  sats : Nat := 0
  gaps : Nat := 0

/-- Parameter k of a list of three. -/
def third (l : List Nat) (k : Nat) : Nat := l.getD k 0

/-- T1 + D1 (T2 + D2 T3), a stage not in use counting as taps 0 and decimation 1 (R175). -/
def settleLen (p : SeriesParams) : Nat :=
  let t := fun k => if k < p.stages then third p.taps k else 0
  let d := fun k => if k < p.stages then third p.decim k else 1
  t 0 + d 0 * (t 1 + d 1 * t 2)

/-- Is the DC blocker of a series frozen (R172)? -/
def blockerFrozen (n : Nat) (sr : Series) : Bool :=
  decide (n < 64) && (sr.cmdFrozen || (sr.params.autoFreeze && sr.envOn))

/-- An event is generated (Table 8.3). -/
def emit (n kind stamp : Nat) (value : Int) (frozen partial_ : Bool) (w : ChainWork) : ChainWork :=
  { w with
    ev := w.ev ++ [{ stamp := stamp, value := value, series := n, kind := kind, saturated := w.sr.satSince,
                     frozen := frozen, isPartial := partial_,
                     settling := decide (w.sr.sinceGap < settleLen w.sr.params) }]
    sr := { w.sr with satSince := false } }

/-- sat24, counting a saturation. -/
def satWork (v : Int) (w : ChainWork) : Int × ChainWork :=
  if sat24 v = v then (v, w) else (sat24 v, { w with sats := w.sats + 1, sr := { w.sr with satSince := true } })

/-- The RMS window ends (R169); one that a gap cuts is partial (R174). -/
def closeRms (n : Nat) (frozen cut : Bool) (w : ChainWork) : ChainWork :=
  if w.sr.rmsCount = 0 then w else
    let r := sqrtHalfEven w.sr.rmsSum w.sr.rmsCount
    let part := cut || decide (w.sr.rmsCount ≠ w.sr.params.rmsW)
    let w := if part || w.sr.rmsAllSettling then w else { w with sr := { w.sr with rmsLast := some r } }
    let w := if w.sr.params.rmsReport then emit n 2 w.sr.lastDet r frozen part w else w
    { w with sr := { w.sr with rmsSum := 0, rmsCount := 0, rmsAllSettling := true } }

/-- Does a peak pass its threshold (R170)? -/
def peakPasses (p : SeriesParams) (rms : Option Nat) (v : Int) : Bool :=
  match p.peakMode, rms with
  | 1, _ => decide (p.peakThr ≤ v)
  | 2, some r => decide ((p.peakMul * r : Nat) ≤ 16 * v)
  | _, _ => false

/-- The peak window ends (R170); one that a gap cuts is partial (R174). -/
def closePeak (n : Nat) (frozen cut : Bool) (w : ChainWork) : ChainWork :=
  match w.sr.peak with
  | none => w
  | some (v, stamp) =>
    let part := cut || decide (w.sr.peakCount ≠ w.sr.params.peakW)
    let pass := peakPasses w.sr.params w.sr.rmsLast v
    let w := if pass then emit n 0 stamp v frozen part w
      else if w.sr.params.peakReport then emit n 1 stamp v frozen part w else w
    { w with sr := { w.sr with peak := none, peakCount := 0 } }

/-- Envelope tracking and its events (R171). -/
def envelope (n stamp : Nat) (v : Int) (frozen : Bool) (w : ChainWork) : ChainWork :=
  let p := w.sr.params
  let d : Int := 256 * (v.natAbs : Int) - w.sr.env
  let e := (w.sr.env + divHalfEven d (2 ^ (if 0 < d then p.envA else p.envR)) : Int).toNat
  let w := { w with sr := { w.sr with env := e } }
  if !w.sr.envOn && decide (256 * p.envOn ≤ e) then
    let w := emit n 3 stamp e frozen false w
    { w with sr := { w.sr with envOn := true } }
  else if w.sr.envOn && decide (e < 256 * p.envOff) then
    let w := emit n 4 stamp e frozen false w
    { w with sr := { w.sr with envOn := false } }
  else w

/-- One detector-rate sample: RMS, then peak, then envelope (R168). -/
def detect (n : Nat) (v : Int) (m stamp : Nat) (frozen : Bool) (w : ChainWork) : ChainWork :=
  let p := w.sr.params
  let settling := decide (w.sr.sinceGap < settleLen p)
  let w := { w with sr := { w.sr with
    rmsSum := w.sr.rmsSum + v.natAbs * v.natAbs, rmsCount := w.sr.rmsCount + 1
    rmsAllSettling := w.sr.rmsAllSettling && settling, lastDet := stamp } }
  let w := if m % p.rmsW = p.rmsW - 1 then closeRms n frozen false w else w
  let best := match w.sr.peak with
    | some (q, st) => if q < v then some (v, stamp) else some (q, st)
    | none => some (v, stamp)
  let w := { w with sr := { w.sr with peak := best, peakCount := w.sr.peakCount + 1 } }
  let w := if m % p.peakW = p.peakW - 1 then closePeak n frozen false w else w
  envelope n stamp v frozen w

/-- R174: what a gap does before its sample is processed. -/
def takeGap (n stamp : Nat) (w : ChainWork) : ChainWork :=
  let fz := blockerFrozen n w.sr
  let w := closePeak n fz true (closeRms n fz true w)
  let value : Int := match w.sr.expected with
    | some e => if stamp < e then -1 else min ((stamp - e) / stepOf n w.sr.params : Nat) (2 ^ 31 - 1)
    | none => -1
  let w := { w with gaps := w.gaps + 1, sr := { w.sr with
    hist := [[], [], []], rmsLast := none, env := 0, envOn := false, sinceGap := 0 } }
  emit n 5 stamp value (blockerFrozen n w.sr) false w

/-- FIR stage `k`, and those after it, on value `v` with sample number `m` (R167). None when a stage gives no output. -/
def firStages (banks : List (List Int)) (k : Nat) (v : Int) (m : Nat) (w : ChainWork) :
    Nat → Option (Int × Nat) × ChainWork
  | 0 => (some (v, m), w)
  | left + 1 =>
    let p := w.sr.params
    let h := (v :: w.sr.hist.getD k []).take 32
    let w := { w with sr := { w.sr with hist := upd w.sr.hist k (fun _ => h) } }
    let d := max 1 (third p.decim k)
    if m % d ≠ d - 1 then (none, w) else
      let coef := banks.getD (third p.bank k) []
      let sum := ((upTo (third p.taps k)).map (fun j => coef.getD j 0 * h.getD j 0)).sum
      let r := satWork (divHalfEven sum (2 ^ third p.shift k)) w
      firStages banks (k + 1) r.1 (m / d) r.2 left

/-- Command freezes and releases that apply at a sample; of several the one that arrived last wins (R173). -/
def applyFreezes (stamp : Nat) (sr : Series) : Series :=
  match (sr.requests.filter (fun q => decide (q.stamp ≤ stamp))).getLast? with
  | some q => { sr with cmdFrozen := q.freeze, requests := sr.requests.filter (fun q => decide (stamp < q.stamp)) }
  | none => sr

/-- The DC blocker on one sample (R167). -/
def dcBlock (n : Nat) (x : Int) (frozen : Bool) (w : ChainWork) : Int × ChainWork :=
  if decide (n < 64) && w.sr.params.dcOn then
    let r := satWork (x - divHalfEven w.sr.dc 65536) w
    if frozen then r else
      (r.1, { r.2 with sr := { r.2.sr with dc := r.2.sr.dc + divHalfEven (x * 65536 - r.2.sr.dc) (2 ^ r.2.sr.params.dcK) } })
  else (x, w)

/-- One sample through the whole chain (R167). -/
def chainSample (n : Nat) (banks : List (List Int)) (w : ChainWork) (x : Sample) : ChainWork :=
  let w := if w.sr.expected = some x.stamp then w else takeGap n x.stamp w
  let w := { w with sr := applyFreezes x.stamp w.sr }
  let fz := blockerFrozen n w.sr
  let b := dcBlock n x.value fz w
  let f := firStages banks 0 b.1 (x.stamp / stepOf n w.sr.params) b.2 w.sr.params.stages
  let w := match f.1 with
    | some (v, m) => detect n v m x.stamp fz f.2
    | none => f.2
  { w with sr := { w.sr with
    expected := some (x.stamp + stepOf n w.sr.params), sinceGap := w.sr.sinceGap + 1, lastStamp := some x.stamp
    maxStamp := some (max x.stamp (w.sr.maxStamp.getD 0)) } }

/-- An event goes to the queue of each Assayer its series names (R176). -/
def queueEvent (mask : Nat) (e : AssayEvent) (s : State) : State :=
  (bitsSet 4 mask).foldl (fun s k =>
    if 256 ≤ (s.assay.queues.getD k []).length then
      modAssay (fun a => assayCause 3 { a with evqLost := sat32 (a.evqLost + 1), lost := upd a.lost k (fun _ => true) }) s
    else modAssay (fun a => { a with
      queues := upd a.queues k (fun q => q ++ [{ e with lost := a.lost.getD k false }])
      lost := upd a.lost k (fun _ => false) }) s)
    (modAssay (fun a => { a with events := sat64 (a.events + 1) }) s)

/-- The probe registers take the state of the selected series at the end of its slot (R180). -/
def updateProbe (n : Nat) (a : Assay) : Assay :=
  if a.probeSel = n then
    if a.probeSkip then { a with probeSkip := false }
    else
      let sr := a.series.getD n {}
      { a with probeValid := true, probePeak := (sr.peak.map (·.1)).getD 0, probeRms := sr.rmsLast, probeEnv := sr.env
               probeDc := divHalfEven sr.dc 65536, probeStamp := sr.lastStamp.getD 0 }
  else a

/-- The slot of series `n` ends: up to 64 samples of its snapshot have been processed (R164, R167). -/
def execSeriesSlot (n : Nat) (s : State) : Host.Outcome State Fault Refusal :=
  .next (if s.assay.running && decide (s.assay.slot = n) && decide (n < 1024) then
      let sr := seriesAt s n
      let k := if sr.params.enable then min 64 (min sr.snap sr.queue.length) else 0
      let w := (sr.queue.take k).foldl (chainSample n s.assay.banks) { sr := { sr with queue := sr.queue.drop k, snap := 0 } }
      let s := modSeries n (fun _ => w.sr) s
      let s := assaySat w.sats s
      let s := if w.gaps = 0 then s else
        modAssay (fun a => assayCause 0 { a with gap := sat32 (a.gap + w.gaps) }) s
      let s := w.ev.foldl (fun s e => queueEvent sr.params.mask e s) s
      modAssay (fun a => updateProbe n { a with slot := n + 1 }) s
    else s)

/-- A series takes a gap with its first sample, VALUE −1 (R174, R177). -/
def forceGap (sr : Series) : Series := { sr with expected := none }

/-- New parameters for a series: a blocker that starts takes its starting estimate (Table 8.2). -/
def takeParams (p : SeriesParams) (sr : Series) : Series :=
  forceGap { sr with params := p, dc := p.dcInit * 65536, queue := if p.enable then sr.queue else [] }

def usesBank (p : SeriesParams) (b : Nat) : Bool := (upTo p.stages).any (fun k => third p.bank k == b)

/-- A staged configuration takes effect (R177). -/
def commitStage (s : State) (g : AssayStage) : State :=
  let s := g.series.foldl (fun s r => modSeries r.1 (takeParams r.2) s) s
  modAssay (fun x => assayCause 5 { x with
    banks := g.banks.foldl (fun bs b => upd bs b.1 (fun _ => b.2)) x.banks
    series := x.series.map (fun sr => if g.banks.any (fun b => usesBank sr.params b.1) then forceGap sr else sr)
    groupMask := (g.group.getD (x.groupMask, x.groupShift)).1
    groupShift := (g.group.getD (x.groupMask, x.groupShift)).2 }) s

/-- Every staged configuration takes effect, in the order in which they were staged. -/
def commitAssay (s : State) : State := modAssay (fun x => { x with staged := [] }) (s.assay.staged.foldl commitStage s)

/-- R179: every counter of Table 8.5. -/
def clearAssay (a : Assay) : Assay :=
  { a with clearPending := false, tours := 0, events := 0, gap := 0, qdrop := 0, sat := 0, evqLost := 0, freezeLate := 0 }

/-- R163, R164, R177, R179: a tour begins at timer count `t`; ASSAY_TOURS counts it. -/
def execTourStart (t : Nat) (s : State) : Host.Outcome State Fault Refusal :=
  .next (if s.assay.running && (decide (1024 ≤ s.assay.slot) || !s.assay.started) then
      let s := modAssay (fun a => if a.clearPending then clearAssay a else a) s
      let s := modAssay (fun a => { a with tours := sat64 (a.tours + 1), started := true, slot := 0 }) s
      let s := if s.assay.staged.isEmpty then s else
        finishOpen (isOp 0x0601) (fun _ => { result := fields [(24, leBytes 8 s.assay.tours)] }) t (commitAssay s)
      modAssay (fun a => { a with series := a.series.map (fun sr => { sr with snap := sr.queue.length }) }) s
    else s)

/-- A series record of ASSAY_CONFIG (16 Table 16.15). -/
def seriesParams (b : List Byte) : SeriesParams :=
  let f := u8 b 2
  { enable := bit f 0, dcOn := bit f 1, autoFreeze := bit f 2, peakReport := bit f 3, rmsReport := bit f 4
    dcK := u8 b 3, dcInit := s32 b 4, stages := u8 b 8, mask := u8 b 9, peakMode := u8 b 10
    envA := bits (u8 b 11) 0 4, envR := bits (u8 b 11) 4 4
    taps := [u8 b 12, u8 b 13, u8 b 14], decim := [u8 b 15, u8 b 16, u8 b 17]
    bank := [u8 b 18, u8 b 19, u8 b 20], shift := [u8 b 21, u8 b 22, u8 b 23]
    peakW := u16 b 24, peakMul := u16 b 26, peakThr := s32 b 28, rmsW := u16 b 32, step := u16 b 34
    envOn := u32 b 36, envOff := u32 b 40 }

def is24 (v : Int) : Bool := decide (-8388608 ≤ v) && decide (v ≤ 8388607)

/-- Ranges of Table 8.2 and the refusals of R178 for series `n`. -/
def seriesInRange (n : Nat) (p : SeriesParams) : Bool :=
  decide (n < 1024) && inRange 4 24 p.dcK && is24 p.dcInit && decide (p.stages ≤ 3) && decide (p.mask < 16) &&
  decide (p.peakMode ≤ 2) && p.taps.all (inRange 1 32) && p.decim.all (inRange 1 16) &&
  p.bank.all (inRange 0 63) && p.shift.all (inRange 0 31) && decide (0 < p.peakW) && is24 p.peakThr && decide (0 < p.rmsW) &&
  decide (p.envOn ≤ 8388607) && decide (p.envOff ≤ p.envOn) && !(p.dcOn && decide (63 < n)) &&
  (if n < 672 then decide (p.step = 0) else decide (0 < p.step))

/-- Slot cost in multiply-accumulates (R178). -/
def slotCost (p : SeriesParams) : Nat :=
  let on := fun k => if k < p.stages then third p.taps k else 0
  let d0 := third p.decim 0
  let d1 := d0 * third p.decim 1
  on 0 * cdiv 64 d0 + on 1 * cdiv 64 d1 + on 2 * cdiv 64 (d1 * third p.decim 2)

/-- R166: may a series be enabled at this spectrum period? -/
def inputRateOk (n specPeriod : Nat) : Bool :=
  if n < 64 then decide (1048576 * 2 ^ 32 ≤ 640 * specPeriod)
  else if n < 672 then decide (2097152 * 2 ^ 32 ≤ 81920 * specPeriod) else true

/-- The series records of a CONFIGURE argument, from offset `o`. -/
def seriesRecords (arg : List Byte) (o count : Nat) : List (List Byte) :=
  (upTo count).map (fun i => (arg.drop (o + 48 * i)).take 48)

def bankRecords (arg : List Byte) (o count : Nat) : List (List Byte) :=
  (upTo count).map (fun i => (arg.drop (o + 132 * i)).take 132)

def bankCoefs (b : List Byte) : List Int := (upTo 32).map (fun j => s32 b (4 + 4 * j))

/-- A mask of `c` bits held as whole 32-bit words: no bit at or above `c` is set. -/
def maskFits (c m : Nat) : Bool := decide (m < 2 ^ c)

/-- Number of mask bytes for C channels: ceil(C / 32) words. -/
def maskBytes (s : State) : Nat := 4 * cdiv (chans s) 32

/-- ASSAY_CONFIG with OP CONFIGURE: checks, then staging for the next tour (R177, R178). -/
def assayConfigure (r : Req) (s : State) : Out :=
  let nS := b16 r 28
  let nB := b8 r 30
  let mb := maskBytes s
  let srs := seriesRecords r.arg mb nS
  let bks := bankRecords r.arg (mb + 48 * nS) nB
  if 1 < b8 r 25 || b8 r 27 ≠ 0 || b8 r 31 ≠ 0 || b64 r 32 ≠ 0 then badReserved s
  else if r.arg.length ≠ mb + 48 * nS + 132 * nB then badLen s
  else if srs.any (fun b => 31 < u8 b 2 || u32 b 44 ≠ 0) || bks.any (fun b => leAt b 1 3 ≠ 0) then badReserved s
  else if srs.any (fun b => !seriesInRange (u16 b 0) (seriesParams b)) ||
      bks.any (fun b => 63 < u8 b 0 || (bankCoefs b).any (fun c => c < -131072 || 131071 < c)) ||
      !maskFits (chans s) (leAt r.arg 0 mb) then badRange s
  else if srs.any (fun b => 2048 < slotCost (seriesParams b)) ||
      (match s.bun.active with
       | some u => srs.any (fun b => (seriesParams b).enable && !inputRateOk (u16 b 0) u.specPeriod)
       | none => false) then admission s
  else
    { st := modAssay (fun a => { a with staged := a.staged ++ [{
        series := srs.map (fun b => (u16 b 0, seriesParams b)), banks := bks.map (fun b => (u8 b 0, bankCoefs b))
        group := if bit (b8 r 25) 0 then some (leAt r.arg 0 mb, b8 r 26) else none, command := !s.bun.applying }] }) s
      stay := some .staged }

/-- A command freeze or release reaches the chain (R173). -/
def requestFreeze (n stamp : Nat) (freeze : Bool) (s : State) : State :=
  let sr := seriesAt s n
  let late := match sr.maxStamp with
    | some m => decide (stamp ≤ m)
    | none => false
  let s := modSeries n (fun sr => { sr with
    requests := sr.requests ++ [{ stamp := if late then 0 else stamp, freeze := freeze }] }) s
  if late then modAssay (fun a => assayCause 4 { a with freezeLate := sat32 (a.freezeLate + 1) }) s else s

/-- ASSAY_CONFIG (R173, R177, R178). -/
def assayConfig (r : Req) (_ : Nat) (s : State) : Out :=
  match b8 r 24 with
  | 0 => assayConfigure r s
  | 1 | 2 =>
    if b8 r 25 ≠ 0 || b32 r 28 ≠ 0 then badReserved s
    else if !r.arg.isEmpty then badLen s
    else if 63 < b16 r 26 then badRange s
    else { st := requestFreeze (b16 r 26) (b64 r 32) (decide (b8 r 24 = 1)) s }
  | _ => badRange s

def execAssayConfig (r : Req) (t : Nat) (s : State) : Host.Outcome State Fault Refusal :=
  .next (runCommand 0x0601 assayConfig r t s)

/-- R179: cleared at the next tour boundary; before the first tour within 1 µs. -/
def assayClear (s : State) : State :=
  modAssay (fun a => if a.running && a.started then { a with clearPending := true } else clearAssay a) s

def execAssayCounterClear (s : State) : Host.Outcome State Fault Refusal := .next (if dpRun s then assayClear s else s)

/-- R180: PROBE_VALID clears; a write made in the selected series' own slot skips the end of that slot. -/
def probeSelect (n : Nat) (s : State) : State :=
  modAssay (fun a => { a with probeSel := n % 1024, probeValid := false
                              probeSkip := a.running && decide (a.slot = n % 1024) }) s

def execAssayProbeSelWrite (n : Nat) (s : State) : Host.Outcome State Fault Refusal :=
  .next (if dpRun s then probeSelect n s else s)

end Sys2Proof.Machine
end

