-- ==== Sys2Proof/Machine/Budget.lean ====
section
/-! DEFINITION. The schedule of work (05 R95), record sizes (06 R118, R119) and the admission rules that rest on them. -/

namespace Sys2Proof.Machine

/-! Work items. -/

/-- Block-pairs in sequence order, by rank: group numbers `gs`, P mask in X4 (R95). -/
def pairList (mode : Mode) (gs : List Nat) (pMask : Nat) : List (Nat × Nat) :=
  let n := gs.length
  let inP := fun r => bit pMask (gs.getD r 0)
  match mode with
  | .x4 => (upTo n).flatMap (fun a => ((upTo n).filter (fun b => decide (a < b) && (inP a != inP b))).map (fun b => (a, b)))
  | _ => (upTo n).flatMap (fun a => ((upTo n).filter (fun b => decide (a ≤ b))).map (fun b => (a, b)))

/-- The work sequence with the cost of each item in frame-cycles (R95). -/
def workItems (sc : Sched) : List (WorkItem × Nat) :=
  (pairList sc.mode sc.ranks sc.pGroups).map (fun p => (.pair p.1 p.2, 8192)) ++
  (upTo sc.sets).flatMap (fun k => (upTo sc.ranks.length).map (fun g => (.beam k g, 16384)))

def workTotal (sc : Sched) : Nat := ((workItems sc).map (·.2)).sum

/-- The slice S (R95). -/
def sliceLen (sc : Sched) : Nat := if sc.frames.isEmpty then 0 else 128 * cdiv (workTotal sc) (128 * sc.frames.length)

/-- Runs that the k-th served frame takes of items starting at cycle `off` (R95). -/
def pourFrom (pos s k : Nat) : Nat → List (WorkItem × Nat) → List Run
  | _, [] => []
  | off, (it, c) :: r =>
    let lo := max (k * s) off
    let hi := min ((k + 1) * s) (off + c)
    let rest := pourFrom pos s k (off + c) r
    if lo < hi then
      { pos := pos, item := it, lo := (lo - off) * 8192 / c, hi := (hi - off) * 8192 / c
        sumFrom := (lo - off) * 8192 / c } :: rest
    else rest

def runsOf (sc : Sched) (pos k : Nat) : List Run := pourFrom pos (sliceLen sc) k 0 (workItems sc)

/-- The schedule of a bundle over the frames now served (R95, R98). -/
def schedOf (b : Bundle) (sets : Nat) (frames : List Nat) : Sched :=
  { mode := b.mode, ranks := activeGroups b, pGroups := b.pGroups, sets := sets, frames := frames }

/-- Logical frames served, ascending (R90). -/
def servedFrames (s : State) : List Nat :=
  (upTo 32).filter (fun n => s.aba.phys.any (fun p => p.inService && p.logical == n))

/-- F: served logical frames. -/
def frameCount (s : State) : Nat := (servedFrames s).length

/-- u of R100 for `q` prompt channels and `g` groups over `f` frames. -/
def unitsPerFrame (q g f : Nat) : Nat := cdiv (q * g) (max 1 f)

/-- The prompt cost of one block, 128 u + 400 (R101). -/
def promptCost (q g f : Nat) : Nat := 128 * unitsPerFrame q g f + 400

/-- R102. -/
def promptFits (c q g f : Nat) : Bool := decide (cdiv 128 (max 1 c) * promptCost q g f ≤ 8192)

/-- The budget of R17, with K taken as K′ (R96); `k` is K′. -/
def committed (pairs g sets f : Nat) : Nat := cdiv (pairs * 8192 + 16384 * g * sets) (max 1 f) + 8192

def budgetFits (pairs g sets f k : Nat) : Bool :=
  decide (0 < f) && decide (pairs * 8192 + 16384 * g * sets + 8192 * f ≤ k * f)

def pairsOf (b : Bundle) : List (Nat × Nat) := pairList b.mode (activeGroups b) b.pGroups

/-! Record sizes. -/

/-- Visibilities of a block-pair (06 R118). -/
def visOf (mode : Mode) (p : Nat × Nat) : Nat :=
  let g := groupSize mode
  if p.1 = p.2 then g * (g + 1) / 2 else g * g

/-- Bytes of a line of `n` visibilities (06 Table 6.4). -/
def lineBytes (fmt n : Nat) : Nat := if fmt = 1 then 64 + 10 * n else if fmt = 2 then 16 * n else 8 * n

def roundUp4k (n : Nat) : Nat := cdiv n 4096 * 4096

/-- Visibilities of each line of a position. -/
def lineVis (b : Bundle) : List Nat := (pairsOf b).map (visOf b.mode)

def recordBytes (b : Bundle) (fmt : Nat) : Nat := 256 + ((lineVis b).map (lineBytes fmt)).sum

/-- Channel record stride (R119). -/
def recordStride (b : Bundle) (fmt : Nat) : Nat := roundUp4k (recordBytes b fmt)

def countBytes (b : Bundle) : Nat := 4 * (lineVis b).sum

def countStride (b : Bundle) : Nat := roundUp4k (countBytes b)

/-- Stride of a dump record: header and lines, and the count lines from the next 4 KiB boundary (06 R130). -/
def dumpStride (b : Bundle) (fmt : Nat) (count : Bool) : Nat :=
  recordStride b fmt + (if count then countStride b else 0)

/-- D of R132: more for each frame of a crushed record (11 R248). -/
def dumpCharge (s : State) (b : Bundle) (fmt : Nat) (count : Bool) : Nat :=
  let d := dumpStride b fmt count
  if s.hst.crushDump = 0 then d
  else d + (if count then 2 else 1) * (32 + 5 * cdiv d 65535)

/-- The limit of Table 6.2 in chunk cycles. -/
def formatLimit (fmt : Nat) (count : Bool) : Nat :=
  if fmt = 0 then 2048 else if fmt = 1 then (if count then 524287 else 524288)
  else if count then 524287 else 134217728

def allotOf (s : State) (k : Nat) : Nat := s.hst.allot.getD k 0

/-- Least N of the minimum-integration rule: N × T_cc ≥ C × D / H (06 R132). -/
def minLength (s : State) (b : Bundle) (d : Nat) : Nat :=
  let h := allotOf s 0
  if h = 0 then 1 else max 1 (cdiv (b.channels * d * 1000 * 2 ^ 32) (max 1 (8192 * b.specPeriod * h)))

/-- Least RING_RECORDS of the ring capacity rule (06 R132). -/
def minRing (s : State) (b : Bundle) (d : Nat) : Nat :=
  let h := allotOf s 0
  if h = 0 then max 2 (b.channels + 1)
  else max 2 (b.channels - 8192 * b.specPeriod * h / (1000 * 2 ^ 32 * max 1 d) + 1)

/-- Does a schedule meet both rules of R132? -/
def ringRuleOk (s : State) (b : Bundle) (sc : IntegSched) : Bool :=
  let d := dumpCharge s b sc.format sc.countPlane
  (decide (sc.length = 0) || decide (minLength s b d ≤ sc.length)) && decide (minRing s b d ≤ sc.ringRecords)

/-! Regions of pit memory. -/

def schedRegions (b : Bundle) (sc : IntegSched) : List (Nat × Nat) :=
  [(sc.tallyBase, b.channels * recordStride b sc.format)] ++
  (if sc.countPlane then [(sc.countBase, b.channels * countStride b)] else []) ++
  [(sc.ringBase, sc.ringRecords * dumpStride b sc.format sc.countPlane)]

/-- Capture record stride (10 R215). -/
def captStride (c : CaptCfg) : Nat := 4096 + 524288 * (bitsSet 32 c.groups).length

def captRegion (s : State) : List (Nat × Nat) :=
  if s.trig.capt.state = .idle then [] else [(s.trig.capt.cfg.base, s.trig.capt.cfg.records * captStride s.trig.capt.cfg)]

/-- The firmware region: 256 MiB at FW_BASE (14 R330). -/
def fwRegion (b : Bundle) : List (Nat × Nat) := [(4096 * b.fwBase, 268435456)]

def regionsApart (a b : Nat × Nat) : Bool :=
  decide (a.1 + a.2 ≤ b.1) || decide (b.1 + b.2 ≤ a.1) || decide (a.2 = 0) || decide (b.2 = 0)

def allApart : List (Nat × Nat) → Bool
  | [] => true
  | a :: r => r.all (regionsApart a) && allApart r

def regionsFit (l : List (Nat × Nat)) : Bool := l.all (fun r => decide (r.1 + r.2 ≤ pitBytes))

/-! Port rates (12 R263, R265), in units of 0.1 GB/s. -/

/-- RATE for `n` bytes per chunk interval and `mb` MB/s besides: 102 %, to the nearest step (log 16). -/
def portRate (b : Bundle) (n mb : Nat) : Nat :=
  let num := n * 2 ^ 32 * 1000 * 102 * b.channels + mb * 102 * 8192 * b.specPeriod
  let den := 8192 * b.specPeriod * 10000
  if den = 0 then 0 else (2 * num + den) / (2 * den)

/-- Promotion traffic of a position (06 R125). -/
def promotionBytes (b : Bundle) (sc : IntegSched) : Nat :=
  let per := if sc.format = 0 then 16 else if sc.format = 1 then 20 else 32
  (lineVis b).sum * (per + (if sc.countPlane then 8 else 0)) +
  (if sc.format = 1 then 128 * (lineVis b).length else 0) + 512

/-- Sets whose weights are tabulated, pending parameters counted as in force. -/
def tabulatedSets (s : State) : Nat :=
  (s.beams.sets.filter (fun x => x.params.tabulated || (match x.nextParams with | some p => p.2.tabulated | none => false))).length

/-- RATE of P0 to P3 under an integration schedule and the rest of the configuration in a state (R265). -/
def ratesUnder (sc : Option IntegSched) (s : State) : List Nat :=
  match s.bun.active with
  | none => [0, 0, 0, 0]
  | some b =>
    [ match sc with | some x => portRate b (promotionBytes b x) 0 | none => 0,
      portRate b 0 (allotOf s 0),
      if s.trig.capt.state = .idle then 0 else portRate b (captStride s.trig.capt.cfg) (allotOf s 4),
      portRate b (tabulatedSets s * weightBlockBytesOf b) 0 ]
where
  weightBlockBytesOf (b : Bundle) : Nat := 128 * groupSize b.mode * (activeGroups b).length

/-- RATE of P0 to P3 for the configuration in force. -/
def firmRates (s : State) : List Nat := ratesUnder s.tal.sched s

/-- The sum of RATE over P0 to P6 stays within 430 GB/s under a schedule. -/
def sumOk (sc : Option IntegSched) (s : State) : Bool :=
  decide ((ratesUnder sc s).sum + ((s.pit.ports.drop 4).take 3).foldl (fun n p => n + p.rate) 0 ≤ 4300)

/-- The check of R265: under the schedule in force, and under one that is to follow it. -/
def ratesOk (s : State) : Bool := sumOk s.tal.sched s && (s.tal.next.isNone || sumOk s.tal.next s)

/-- Firmware sets RATE and BURST of P0 to P3 at each admission (R263). -/
def setRates (s : State) : State :=
  modPit (fun p => { p with ports := p.ports.zipIdx.map (fun x =>
    if x.2 < 4 then { x.1 with rate := (firmRates s).getD x.2 0, burst := 256, tokens := min x.1.tokens 2621440 } else x.1) }) s

/-! Allotments (11 R238). -/

/-- Capacity of a path in Mb/s: every lane assigned to it, whatever its state. -/
def pathCapacity (s : State) (path : Nat) : Nat :=
  (s.lanes.lane.map (fun l =>
    let (role, rate) := l.txNext.getD (l.txRole, l.txRate)
    if role = path + 1 then ladderMbps rate else 0)).sum

/-- Dual path as it will stand. -/
def dualWanted (s : State) : Bool := s.hst.dual

/-- Beam sets counted at WIDTH 8 and WIDTH 4. -/
def beamUnitBytes (s : State) : Nat :=
  (s.beams.sets.map (fun x =>
    let p := match x.nextParams with | some n => n.2 | none => x.params
    if p.width4 then 4096 * 128 else 8192 * 128)).sum

/-- Bytes of a PBEAM block (07 R156). -/
def pbeamBytes (p : PromptParams) : Nat := (if p.width4 then 64 else 128) * p.beams

def allotmentsOk (s : State) : Bool :=
  match s.bun.active with
  | none => true
  | some b =>
    let sum := s.hst.allot.sum
    let pr := match s.beams.nextPrompt with | some p => some p.2 | none => s.beams.prompt
    decide (800 * sum ≤ 95 * pathCapacity s 0) &&
    (!dualWanted s || decide (800 * sum ≤ 95 * pathCapacity s 1)) &&
    decide (beamUnitBytes s * 2 ^ 32 * 1000 * b.channels ≤ allotOf s 1 * 8192 * b.specPeriod) &&
    (match pr with
     | some p => !p.pbeam || decide (p.channels.length * pbeamBytes p * 2 ^ 32 * 1000 ≤ allotOf s 2 * 64 * b.specPeriod)
     | none => true) &&
    decide (1 ≤ allotOf s 3) && decide (2 ≤ allotOf s 5)

/-- Crusher input (11 R248): STATIC rates plus twice the DYNAMIC rates within 25.6 GB/s. -/
def crusherOk (s : State) (dump capt : Nat) : Bool :=
  let cost := fun (m r : Nat) => if m = 0 then 0 else m * r
  decide (cost dump (allotOf s 0) + cost capt (allotOf s 4) ≤ 25600)

end Sys2Proof.Machine
end

