-- ==== Sys2Proof/Machine/Samples.lean ====
section
/-! DEFINITION. Samples of slots and prompt packets (03 R52, R53), weights (07 R141, R146) and the sums over them. -/

namespace Sys2Proof.Machine

/-- A complex integer: real and imaginary part. -/
abbrev Cx := Int × Int

def cxAdd (a b : Cx) : Cx := (a.1 + b.1, a.2 + b.2)

/-- Input `i` at sample `s` of a 4,096-byte payload; none when blank (R52, R53). -/
def payloadSample (mode : Mode) (p : List Byte) (s i : Nat) : Option Cx :=
  match mode with
  | .w8f =>
    let re := u8 p (64 * s + 2 * i)
    let im := u8 p (64 * s + 2 * i + 1)
    if re = 128 ∨ im = 128 then none else some (signed 8 re, signed 8 im)
  | _ =>
    let b := u8 p (64 * s + i)
    if b / 16 = 8 ∨ b % 16 = 8 then none else some (signed 4 (b / 16), signed 4 (b % 16))

/-- Input `i` of group `g` at spectrum `s` of a slot's position; none when blank, missing or ALL_BLANK (04 R75). -/
def slotSample (mode : Mode) (sl : Slot) (g s i : Nat) : Option Cx :=
  match sl.placed.find? (fun p => p.group == g && p.block == s / 64) with
  | some p => if p.allBlank then none else payloadSample mode p.payload (s % 64) i
  | none => none

/-- x_p · conj(x_q) (05 R85). -/
def visProduct (x y : Cx) : Cx := (x.1 * y.1 + x.2 * y.2, x.2 * y.1 - x.1 * y.2)

/-- One spectrum added to a bead: a blank in either sample adds nothing (R86). -/
def beadAdd (b : Bead) (x y : Option Cx) : Bead :=
  match x, y with
  | some x, some y =>
    let p := visProduct x y
    { re := b.re + p.1, im := b.im + p.2, count := b.count + 1 }
  | _, _ => b

/-- The bead of a cell over spectra `lo … hi - 1`. -/
def beadOf (mode : Mode) (sl : Slot) (ga gb i k lo hi : Nat) : Bead :=
  (upTo (hi - lo)).foldl (fun b n => beadAdd b (slotSample mode sl ga (lo + n) i) (slotSample mode sl gb (lo + n) k)) {}

/-- Stored cells of a line in index order (06 R118): row and column positions. -/
def lineCells (size : Nat) (same : Bool) : List (Nat × Nat) :=
  (upTo size).flatMap (fun i => ((upTo size).filter (fun k => !same || decide (i ≤ k))).map (fun k => (i, k)))

/-- Weight times sample, without conjugation (07 R137). -/
def weigh (w x : Cx) : Cx := (w.1 * x.1 - w.2 * x.2, w.2 * x.1 + w.1 * x.2)

/-- Products in 64-bit two's complement (R141). -/
def wrap64 (z : Int) : Int := signed 64 (wrap 64 z)

/-- Arithmetic right shift: rounds towards minus infinity. -/
def asr (z : Int) (n : Nat) : Int := z / (2 ^ n : Int)

def clamp32 (z : Int) : Int := clampI (-2147483648) 2147483647 z

/-- The generated weight of a beam at an input for a channel of sky frequency `f`, `d` chunk cycles after k_u (R141). -/
def generatedWeight (it : InputTerm) (bt : BeamTerm) (f : Int) (d : Nat) : Cx :=
  let d : Int := min d (2 ^ 31 - 1)
  let l := clamp32 (bt.l + asr (wrap64 (bt.lRate * d)) 14)
  let m := clamp32 (bt.m + asr (wrap64 (bt.mRate * d)) 14)
  let n := clamp32 (bt.n + asr (wrap64 (bt.nRate * d)) 14)
  let tau := it.t + asr (wrap64 (it.x * l + it.y * m + it.z * n)) 27
  let theta := wrap 32 (asr (wrap64 (f * tau)) 12 + ((bt.p + it.p) * 65536 : Nat))
  let idx := (divHalfEven theta (2 ^ 22)).toNat % 1024
  let a : Int := (bt.a * it.a : Nat)
  (divHalfEven (a * cosAt idx) (2 ^ 24), divHalfEven (a * cosAt (idx + 768)) (2 ^ 24))

/-- A tabulated weight component: 0x80 reads as −127 (R146). -/
def tabComp (n : Nat) : Int := if n = 128 then -127 else signed 8 n

/-- Weight of beam `b` at position `i` of a weight block (R146). -/
def tabulatedWeight (mode : Mode) (blk : List Byte) (b i : Nat) : Cx :=
  let o := 2 * groupSize mode * b + 2 * i
  (tabComp (u8 blk o), tabComp (u8 blk (o + 1)))

/-- Size of a weight block (R146). -/
def weightBlockBytes (mode : Mode) : Nat := 128 * groupSize mode

/-- The 64 sums of one spectrum over one group, given its samples and its weights (R137). -/
def groupSums (size : Nat) (x : Nat → Option Cx) (w : Nat → Nat → Cx) : List Cx :=
  (upTo 64).map (fun b => (upTo size).foldl (fun acc i => match x i with
    | some v => cxAdd acc (weigh (w b i) v)
    | none => acc) (0, 0))

/-- Sums of two groups of one spectrum, beam by beam. -/
def addSums (a b : List Cx) : List Cx := (upTo 64).map (fun i => cxAdd (a.getD i (0, 0)) (b.getD i (0, 0)))

/-- Requantisation of one component; the second part counts a saturation (R149). -/
def requant (shift : Nat) (width4 : Bool) (v : Int) : Int × Nat :=
  let o := divHalfEven v (2 ^ shift)
  let m : Int := if width4 then 7 else 127
  (clampI (-m) m o, if clampI (-m) m o = o then 0 else 1)

/-- A requantised beam sample, and its saturations. -/
def requantCx (shift : Nat) (width4 : Bool) (v : Cx) : Cx × Nat :=
  let r := requant shift width4 v.1
  let i := requant shift width4 v.2
  ((r.1, i.1), r.2 + i.2)

/-- Output bytes of a beam sample (R150). -/
def beamBytes (width4 : Bool) (v : Cx) : List Byte :=
  if width4 then [BitVec.ofNat 8 (16 * wrap 4 v.1 + wrap 4 v.2)]
  else [BitVec.ofNat 8 (wrap 8 v.1), BitVec.ofNat 8 (wrap 8 v.2)]

def power (v : Cx) : Nat := v.1.natAbs * v.1.natAbs + v.2.natAbs * v.2.natAbs

end Sys2Proof.Machine
end

