-- ==== Sys2Proof/Machine/Beams.lean ====
section
/-! DEFINITION. The beams (07) and group power (08 R162): generations, sums, blocks and power series. -/

namespace Sys2Proof.Machine

def beamCause (k : Nat) (b : Beams) : Beams := { b with cause := setBits b.cause [k] }

/-! Generations (R143). -/

def inputsFor (s : State) (chunk : Nat) : List InputTerm :=
  match s.beams.inputs.next with
  | some (k, l) => if k ≤ chunk then l else s.beams.inputs.cur
  | none => s.beams.inputs.cur

/-- Update chunk and beam terms that apply to a chunk. -/
def termsFor (g : BeamGens) (chunk : Nat) : Nat × List BeamTerm :=
  match g.next with
  | some (k, l) => if k ≤ chunk then (k, l) else (g.curK, g.cur)
  | none => (g.curK, g.cur)

def paramsFor (x : BeamSet) (chunk : Nat) : SetParams :=
  match x.nextParams with
  | some (k, p) => if k ≤ chunk then p else x.params
  | none => x.params

/-- Sky frequency F_c under the bundle in force at a chunk (R140). -/
def skyFreq (s : State) (chunk channel : Nat) : Int :=
  match bundleAt s (8192 * chunk) with
  | some b => b.freqs.getD channel 0
  | none => 0

def modeAt (s : State) (chunk : Nat) : Mode :=
  match bundleAt s (8192 * chunk) with
  | some b => b.mode
  | none => .w4f

/-- The generated weight of beam `b` at position `i` of group rank `r` (R141). -/
def genWeight (s : State) (g : BeamGens) (chunk channel r b i : Nat) : Cx :=
  let t := termsFor g chunk
  generatedWeight ((inputsFor s chunk).getD (r * groupSize (modeAt s chunk) + i) {}) (t.2.getD b {})
    (skyFreq s chunk channel) (chunk - t.1)

/-- Group number of a rank in the schedule in force. -/
def rankGroup (s : State) (r : Nat) : Nat :=
  match s.aba.sched with
  | some sc => sc.ranks.getD r 0
  | none => 0

/-- Weight of a main-beam unit: generated, or read from the block that P3 delivered (R141, R146). -/
def mainWeight (s : State) (bp : BeamPos) (set r b i : Nat) : Cx :=
  if (bp.setParams.getD set {}).tabulated then
    match bp.weights.find? (fun w => w.set == set && w.rank == r) with
    | some w => tabulatedWeight (modeAt s bp.chunk) w.bytes b i
    | none => (0, 0)
  else genWeight s (s.beams.sets.getD set {}).terms bp.chunk bp.channel r b i

def beamPosAt (s : State) (pos : Nat) : Option BeamPos := s.beams.pos.find? (fun p => p.pos == pos)

def modBeamPos (pos : Nat) (f : BeamPos → BeamPos) (s : State) : State :=
  modBeams (fun b => { b with pos := b.pos.map (fun p => if p.pos = pos then f p else p) }) s

/-- The part of a beam unit over spectra `lo … hi - 1` of the slot consumed (R137). -/
def beamPart (s : State) (bp : BeamPos) (set r lo hi : Nat) : BeamPart :=
  let sl := s.hop.slots.getD (bp.pos % 3) {}
  let m := modeAt s bp.chunk
  { set := set, rank := r, lo := lo, hi := hi
    sums := (upTo (hi - lo)).map (fun n =>
      groupSums (groupSize m) (slotSample m sl (rankGroup s r) (lo + n)) (mainWeight s bp set r)) }

/-- A beam run ended: spectra `lo … upTo - 1` were admitted, the rest up to `hi` were not (R151). -/
def beamRunDone (pos set r lo admitted hi : Nat) (s : State) : State :=
  match beamPosAt s pos with
  | none => s
  | some bp =>
    let part := if lo < admitted then [beamPart s bp set r lo admitted] else []
    modBeamPos pos (fun p => { p with
      parts := p.parts ++ part, seen := p.seen + (hi - lo)
      cutSets := if admitted < hi then p.cutSets ++ [set] else p.cutSets }) s

/-- Beam sum of a set at a spectrum: the parts of every group that admitted it (R137, R151). -/
def beamSums (bp : BeamPos) (set sp : Nat) : List Cx :=
  (bp.parts.filter (fun p => p.set == set && decide (p.lo ≤ sp) && decide (sp < p.hi))).foldl
    (fun acc p => addSums acc (p.sums.getD (sp - p.lo) [])) (List.replicate 64 (0, 0))

/-- Requantised samples of a set at a spectrum (R149). -/
def beamOut (bp : BeamPos) (set sp : Nat) : List (Cx × Nat) :=
  let p := bp.setParams.getD set {}
  (beamSums bp set sp).map (requantCx p.shift p.width4)

/-! Beam work of a position. -/

/-- Consumption of position `j` begins: its beam work (R95, R143). -/
def beginBeams (j : Nat) (s : State) : State :=
  let k := chunkOf s j
  let bp : BeamPos := {
    pos := j, channel := channelOf s j, chunk := k, sealRec := (s.hop.slots.getD (j % 3) {}).record
    epoch := epochOfPos s j, timeSuspect := s.sys.suspect, setParams := (s.beams.sets.take ((s.aba.sched.map (·.sets)).getD 0)).map (fun x => paramsFor x k)
    ranks := (s.aba.sched.map (fun sc => sc.ranks.length)).getD 0 }
  modBeams (fun b => { b with pos := b.pos ++ [bp] }) s

/-- Generations whose update chunk begins are now in force alone, and the older ones are retired (R143). -/
def retireGens (k : Nat) (s : State) : State :=
  let b := s.beams
  let now := fun (o : Option Nat) => match o with | some q => decide (q ≤ k) | none => false
  let any := now (b.inputs.next.map (·.1)) || now (b.promptTerms.next.map (·.1)) || now (b.nextPrompt.map (·.1)) ||
    b.sets.any (fun x => now (x.nextParams.map (·.1)) || now (x.terms.next.map (·.1)))
  let gens := fun (g : BeamGens) => match g.next with
    | some (q, l) => if q ≤ k then { curK := q, cur := l, next := none } else g
    | none => g
  let s := modBeams (fun b => { b with
    inputs := match b.inputs.next with
      | some (q, l) => if q ≤ k then { curK := q, cur := l, next := none } else b.inputs
      | none => b.inputs
    promptTerms := gens b.promptTerms
    prompt := match b.nextPrompt with
      | some (q, p) => if q ≤ k then some p else b.prompt
      | none => b.prompt
    nextPrompt := match b.nextPrompt with
      | some (q, p) => if q ≤ k then none else some (q, p)
      | none => none
    sets := b.sets.map (fun x => { x with
      terms := gens x.terms
      params := paramsFor x k
      nextParams := match x.nextParams with
        | some (q, p) => if q ≤ k then none else some (q, p)
        | none => none }) }) s
  if any then modBeams (beamCause 4) s else s

/-- Output flags of Table 3.9. -/
def outFlags (damaged suspect overlength cont crushed blanked last first : Bool) : Nat :=
  128 * b2n damaged + 64 * b2n suspect + 32 * b2n overlength + 16 * b2n cont + 8 * b2n crushed + 4 * b2n blanked +
  2 * b2n last + b2n first

/-- Content passes to the Hoist (11 R226). -/
def handUnit (u : HUnit) (s : State) : State := modHst (fun h => { h with units := h.units ++ [u] }) s

/-- Block `m` of a set of a position as a BEAM packet without its number (R150, 11 Table 11.1). -/
def beamPacket (bp : BeamPos) (set m : Nat) : HPkt :=
  let p := bp.setParams.getD set {}
  let dmg := bp.damagedSets.contains set
  let blank := decide (bp.sealRec.missMask ≠ 0) || decide (bp.sealRec.blankMask ≠ 0) || bp.cutSets.contains set
  { stream := 2 + set, typ := 10, sid := set, epoch := bp.epoch, ref := 8192 * bp.chunk + 64 * m
    flags := outFlags dmg bp.timeSuspect false false false (blank && !dmg) (decide (m = 127)) (decide (m = 0))
    tword := 2 ^ 48 * bp.channel + 2 ^ 40 * m + 2 ^ 32 * (if p.width4 then 4 else 8)
    payload := (upTo 64).flatMap (fun n => (beamOut bp set (64 * m + n)).flatMap (fun x => beamBytes p.width4 x.1)) }

/-- Saturated components of a set's blocks. -/
def beamSats (bp : BeamPos) (set : Nat) : Nat :=
  ((upTo 8192).map (fun sp => ((beamOut bp set sp).map (·.2)).sum)).sum

/-- Beam work that is both handed over and summed into the power series is over. -/
def dropBeamPos (s : State) : State :=
  modBeams (fun b => { b with pos := b.pos.filter (fun p => !(p.handed && p.summed)) }) s

/-- R150: every unit of position `pos` has ended, and its blocks pass to the Hoist. -/
def execBeamBlocksHandover (pos : Nat) (s : State) : Host.Outcome State Fault Refusal :=
  .next (match s.beams.pos.find? (fun p => !p.handed) with
    | some bp =>
      let n := bp.setParams.length
      if bp.pos = pos ∧ bp.seen = n * bp.ranks * 8192 then
        let sats := ((upTo n).map (beamSats bp)).sum
        let s := (upTo n).foldl (fun s k => handUnit (.pkts (2 + k) ((upTo 128).map (beamPacket bp k))) s) s
        let s := modBeams (fun b => { b with blocks := sat64 (b.blocks + 128 * n), beamSat := sat32 (b.beamSat + sats) }) s
        let s := if sats = 0 then s else modBeams (beamCause 0) s
        dropBeamPos (modBeamPos pos (fun p => { p with handed := true }) s)
      else s
    | none => s)

/-! Power series. -/

/-- Adds to the sum held for a key. -/
def accAdd (k : Nat × Nat × Nat) (v : Nat) : List (Nat × Nat × Nat × Nat) → List (Nat × Nat × Nat × Nat)
  | [] => [(k.1, k.2.1, k.2.2, v)]
  | x :: r => if (x.1, x.2.1, x.2.2.1) = k then (k.1, k.2.1, k.2.2, x.2.2.2 + v) :: r else x :: accAdd k v r

def accGet (k : Nat × Nat × Nat) (l : List (Nat × Nat × Nat × Nat)) : Nat :=
  ((l.find? (fun x => decide ((x.1, x.2.1, x.2.2.1) = k))).map (fun x => x.2.2.2)).getD 0

/-- Σ |o|² of beam `b` of a set over the 64 spectra of power sample `t` (R152). -/
def beamPower (bp : BeamPos) (set t b : Nat) : Nat :=
  ((upTo 64).map (fun n => power ((beamOut bp set (64 * t + n)).getD b ((0, 0), 0)).1)).sum

/-- Σ (a² + b²) of a group over the 64 spectra of power sample `t` (08 R162). -/
def groupPower (mode : Mode) (sl : Slot) (g t : Nat) : Nat :=
  ((upTo 64).flatMap (fun n => (upTo (groupSize mode)).map (fun i =>
    match slotSample mode sl g (64 * t + n) i with
    | some v => power v
    | none => 0))).sum

def powerAt (s : State) (chunk : Nat) : PowerAcc :=
  (s.beams.power.find? (fun p => p.chunk == chunk)).getD { chunk := chunk }

/-- Consumption of position `j` ends: its samples enter the power sums of its chunk (R152, 08 R162). -/
def sumPower (j : Nat) (s : State) : State :=
  match beamPosAt s j with
  | none => s
  | some bp =>
    let sl := s.hop.slots.getD (j % 3) {}
    let m := modeAt s bp.chunk
    let acc := powerAt s bp.chunk
    let sets := (upTo bp.setParams.length).filter (fun k => bit (bp.setParams.getD k {}).powerMask bp.channel)
    let keys := sets.flatMap (fun k => (upTo 64).flatMap (fun b => (upTo 128).map (fun t => (k, b, t))))
    let groups := if bit s.assay.groupMask bp.channel then groupsOfPos bp.pos s else []
    let gkeys := groups.flatMap (fun g => (upTo 128).map (fun t => (g, t)))
    let acc := { acc with
      beam := keys.foldl (fun l k => accAdd k (beamPower bp k.1 k.2.2 k.2.1) l) acc.beam
      group := gkeys.foldl (fun l k => addG k (groupPower m sl k.1 k.2) l) acc.group
      channels := acc.channels ++ [bp.channel]
      formed := acc.formed ++ ((upTo bp.setParams.length).filter (fun k =>
        bp.parts.any (fun p => p.set == k))).map (fun k => (k, bp.channel)) }
    let s := modBeams (fun b => { b with power := b.power.filter (fun p => decide (p.chunk ≠ bp.chunk)) ++ [acc] }) s
    dropBeamPos (modBeamPos j (fun p => { p with summed := true }) s)
where
  groupsOfPos (j : Nat) (s : State) : List Nat :=
    match bundleOfPos s j with
    | some b => activeGroups b
    | none => []
  addG (k : Nat × Nat) (v : Nat) : List (Nat × Nat × Nat) → List (Nat × Nat × Nat)
    | [] => [(k.1, k.2, v)]
    | x :: r => if (x.1, x.2.1) = k then (k.1, k.2, x.2.2 + v) :: r else x :: addG k v r

/-- A power sample: scaled, rounded and saturated (R152). -/
def powerSample (sum shift : Nat) : Nat × Bool :=
  let v := (divHalfEven sum (2 ^ shift)).toNat
  (min v 8388607, decide (8388607 < v))

/-- Power samples of one set for a chunk, or a gap (R152, R153). -/
def handSetPower (acc : PowerAcc) (c set : Nat) (s : State) : State :=
  let p := paramsFor (s.beams.sets.getD set {}) acc.chunk
  if p.powerMask = 0 then s
  else if (bitsSet c p.powerMask).all (fun ch => acc.formed.contains (set, ch)) then
    (upTo 64).foldl (fun s b => (upTo 128).foldl (fun s t =>
      let v := powerSample (accGet (set, b, t) acc.beam) p.powerShift
      let s := if v.2 then modBeams (fun x => beamCause 2 { x with powerSat := sat32 (x.powerSat + 1) }) s else s
      handOver (64 + 64 * set + b) (8192 * acc.chunk + 64 * t) v.1 s) s) s
  else modBeams (fun x => beamCause 2 { x with powerGap := sat32 (x.powerGap + 1) }) s

/-- Power samples of every active group for a chunk (08 R162). -/
def handGroupPower (acc : PowerAcc) (c : Nat) (groups : List Nat) (s : State) : State :=
  if s.assay.groupMask ≠ 0 ∧ (bitsSet c s.assay.groupMask).all (fun ch => acc.channels.contains ch) then
    groups.foldl (fun s g => (upTo 128).foldl (fun s t =>
      let sum := ((acc.group.find? (fun x => x.1 == g && x.2.1 == t)).map (·.2.2)).getD 0
      let v := powerSample sum s.assay.groupShift
      handOver (640 + g) (8192 * acc.chunk + 64 * t) v.1 (assaySat (b2n v.2) s)) s) s
  else s

/-- The instant at which consumption of position (k + 1) C − 1 ends, or would end (R152, R153). -/
def handPower (k : Nat) (s : State) : State :=
  let acc := powerAt s k
  let groups := match bundleAt s (8192 * k) with
    | some b => activeGroups b
    | none => []
  let s := (upTo ((s.aba.sched.map (·.sets)).getD 0)).foldl (fun s n => handSetPower acc (chans s) n s) s
  let s := handGroupPower acc (chans s) groups s
  modBeams (fun b => { b with power := b.power.filter (fun p => decide (k < p.chunk)) }) s

/-! Weight blocks. -/

/-- Base of the bank in use of a set's parameters (R146). -/
def bankBase (p : SetParams) (bank : Nat) : Nat := if bank = 0 then p.base0 else p.base1

/-- Address of weight block (c, g) of a bank (R146). -/
def weightAddr (b : Bundle) (base c r : Nat) : Nat :=
  base + (c * (activeGroups b).length + r) * weightBlockBytes b.mode

/-- A tabulated weight block of the position consumed arrives on P3; frames stalled for it run on. `cycles` frame-cycles
were stalled (R148). -/
def execWeightBlockArrival (set r cycles : Nat) (s : State) : Host.Outcome State Fault Refusal :=
  .next (match beamPosAt s s.aba.pos, bundleOfPos s s.aba.pos with
    | some bp, some b =>
      let p := bp.setParams.getD set {}
      if s.aba.consuming && p.tabulated && decide (r < bp.ranks) &&
          !bp.weights.any (fun w => w.set == set && w.rank == r) then
        let rd := pitRead s (weightAddr b (bankBase p p.bank) bp.channel r) (weightBlockBytes b.mode)
        let hit := fun (f : Frame) => f.weightStall && (match f.runs.head? with
          | some run => decide (run.item = .beam set r)
          | none => false)
        let n := if s.aba.frames.any hit then cycles else 0
        let s := servePort 3 (weightBlockBytes b.mode) s
        let s := modBeamPos bp.pos (fun q => { q with
          weights := q.weights ++ [{ set := set, rank := r, bytes := rd.1 }]
          damagedSets := if rd.2 then q.damagedSets ++ [set] else q.damagedSets }) s
        let s := modAba (fun a => { a with
          stallCycles := sat64 (a.stallCycles + n)
          frames := a.frames.map (fun f => if hit f then { f with weightStall := false } else f) }) s
        if n = 0 then s else modBeams (fun x => beamCause 3 { x with wstall := sat32 (x.wstall + n) }) s
      else s
    | _, _ => s)

/-! Prompt beams. -/

/-- The sums of one prompt unit (R155): per spectrum, 64 beams. -/
def promptUnitSums (s : State) (u : PbUnit) : List (List Cx) :=
  let k := u.num / 128
  let m := modeAt s k
  let r := match bundleAt s (8192 * k) with
    | some b => (activeGroups b).findIdx (fun g => g == u.group)
    | none => 0
  (upTo 64).map (fun n =>
    groupSums (groupSize m) (payloadSample m u.payload n) (genWeight s s.beams.promptTerms k u.channel r))

/-- Units of a block have ended: their sums join the block's job, and their cells are freed (05 R100). -/
def endUnits (us : List PbUnit) (s : State) : State :=
  let s1 := modBeams (fun b => { b with jobs := b.jobs.map (fun j =>
    let mine := us.filter (fun u => u.num == j.num)
    { j with ended := j.ended + mine.length, sums := j.sums ++ mine.map (fun u => (u.channel, promptUnitSums s u)) }) }) s
  modHop (fun h => { h with cells := h.cells - us.length }) s1

/-- Voltages of a prompt channel of a block: per spectrum, per beam, requantised with its saturations (R155). -/
def promptVolts (j : PromptJob) (channel : Nat) : List (List (Cx × Nat)) :=
  (upTo 64).map (fun n =>
    ((j.sums.filter (fun x => x.1 == channel)).foldl (fun acc x => addSums acc (x.2.getD n []))
      (List.replicate 64 (0, 0))).take j.params.beams |>.map (requantCx j.params.shift j.params.width4))

/-- A PBEAM packet without its number (R156, 11 Table 11.1). -/
def pbeamPacket (s : State) (j : PromptJob) (q : Nat) (volts : List (List Cx)) : HPkt :=
  let p := j.params
  { stream := 11, typ := 11, sid := 0, ref := 64 * j.num
    epoch := ((bundleAt s (64 * j.num)).map (·.epoch)).getD 0
    flags := outFlags false s.sys.suspect false false false
      (match j.closed with | some c => !c.missing.isEmpty | none => false)
      (decide (q + 1 = p.channels.length)) (decide (q = 0))
    tword := 2 ^ 48 * p.channels.getD q 0 + 2 ^ 40 * q + 2 ^ 32 * (if p.width4 then 4 else 8) + 2 ^ 24 * p.beams
    payload := volts.flatMap (fun row => row.flatMap (beamBytes p.width4)) }

/-- R155, R156: block `n` is closed and its units have ended; its group parts are joined. -/
def execPromptBlockJoin (n : Nat) (s : State) : Host.Outcome State Fault Refusal :=
  .next (match s.beams.jobs.find? (fun j => j.volts.isNone) with
    | some j =>
      if j.num = n ∧ j.closed.isSome ∧ j.ended = j.units then
        let vs := j.params.channels.map (promptVolts j)
        let sats := (vs.flatMap (fun c => c.flatMap (fun row => row.map (·.2)))).sum
        let out := vs.map (fun c => c.map (fun row => row.map (·.1)))
        let s := modBeams (fun b => { b with
          pbeamSat := sat32 (b.pbeamSat + sats)
          cause := if sats = 0 then b.cause else setBits b.cause [1]
          jobs := b.jobs.map (fun x => if x.num = n then { x with volts := some out, sums := [] } else x) }) s
        if j.params.pbeam then
          modBeams (fun b => { b with pblocks := sat64 (b.pblocks + out.length) })
            (handUnit (.pkts 11 (out.zipIdx.map (fun x => pbeamPacket s j x.2 x.1))) s)
        else s
      else s
    | none => s)

/-- Voltage of prompt channel q, beam b, at spectrum `n − delay` of a block; the delay history gives what lies before
the block (R157). -/
def delayed (cur prev : List (List (List Cx))) (q b n delay : Nat) : Cx :=
  if delay ≤ n then ((cur.getD q []).getD (n - delay) []).getD b (0, 0)
  else ((prev.getD q []).getD (64 + n - delay) []).getD b (0, 0)

/-- The delay history that block `n` sees: its predecessor's voltages, unless a restart or a change of CHANNELS or
DELAY cleared it (R154, R157, R158). -/
def historyFor (s : State) (j : PromptJob) : List (List (List Cx)) × Bool :=
  match s.beams.hist with
  | none => ([], j.clears)
  | some h =>
    if j.clears || decide (h.params.channels ≠ j.params.channels) || decide (h.params.delays ≠ j.params.delays) then
      ([], true)
    else if h.num + 1 = j.num then (h.volts, false) else ([], false)

/-- R157, R158: the prompt power samples of block `n` are handed over. -/
def execPromptPowerHandover (n : Nat) (s : State) : Host.Outcome State Fault Refusal :=
  .next (match s.beams.jobs.head? with
    | some j =>
      match j.volts with
      | some v =>
        if j.num = n then
          let h := historyFor s j
          let qs := (upTo j.params.channels.length).filter (bit j.params.powerMask)
          let s := if h.2 then modBeams (fun b => beamCause 5 { b with promptRestart := sat32 (b.promptRestart + 1) }) s else s
          let s := (upTo j.params.beams).foldl (fun s b => (upTo 64).foldl (fun s k =>
            handOver b (64 * n + k)
              ((qs.map (fun q => power (delayed v h.1 q b k (j.params.delays.getD q 0)))).sum) s) s) s
          modBeams (fun b => { b with jobs := b.jobs.drop 1, hist := some { num := n, params := j.params, volts := v } }) s
        else s
      | none => s
    | none => s)

/-! Commands. -/

/-- Beam sets of the configuration in force; a bundle's images are tried under that bundle's number (R139, R160). -/
def setsNow (s : State) : Nat :=
  if s.bun.applying then s.beams.sets.length
  else match s.bun.active, s.aba.sched with
    | none, _ => 0
    | some _, some sc => min sc.sets s.beams.sets.length
    | some _, none => s.beams.sets.length

/-- k_u must be at least 2 greater than the chunk being consumed and the chunk of the newest open prompt block (R144). -/
def updateChunkOk (s : State) (k : Nat) : Bool :=
  !s.hop.running || decide (consumeChunk s + 2 ≤ k) && s.hop.blocks.all (fun b => decide (b.num / 128 + 2 ≤ k))

def stageGen (g : StagedGen) (k : Nat) (s : State) : Out :=
  { st := modBeams (fun b => { b with staged := some g }) s, stay := some .staged, key := k,
    reply := { result := fields [(24, leBytes 8 k)] } }

def busy (s : State) : Out := refuse s stBusy 0

/-- BEAMSET_DEFINE (R139, R144, 12 R265). -/
def beamsetDefine (r : Req) (_ : Nat) (s : State) : Out :=
  let set := b8 r 24
  let p : SetParams := {
    tabulated := decide (b8 r 25 = 1), width4 := decide (b8 r 26 = 4), shift := b8 r 27, powerShift := b8 r 28
    bank := b8 r 29, base0 := 4096 * b24 r 40, base1 := 4096 * b24 r 43, powerMask := leAt r.arg 0 r.arg.length }
  if r.arg.length ≠ maskBytes s then badLen s
  else if setsNow s ≤ set ∨ 1 < b8 r 25 ∨ (b8 r 26 ≠ 8 ∧ b8 r 26 ≠ 4) ∨ 31 < p.shift ∨ 31 < p.powerShift ∨
      1 < p.bank ∨ !maskFits (chans s) p.powerMask ∨ !updateChunkOk s (b64 r 32) then badRange s
  else if (s.beams.sets.getD set {}).nextParams.isSome then busy s
  else
    let s' := modBeams (fun b => { b with sets := upd b.sets set (fun x => { x with nextParams := some (b64 r 32, p) }) }) s
    if !s.bun.applying && !ratesOk s' then admission s
    else stageGen (.params (b64 r 32) set p) (b64 r 32) s

def execBeamsetDefine (r : Req) (t : Nat) (s : State) : Host.Outcome State Fault Refusal :=
  .next (runCommand 0x0501 beamsetDefine r t s)

/-- An input term record (Table 7.3). -/
def inputTerm (b : List Byte) : InputTerm :=
  { x := s32 b 0, y := s32 b 4, z := s32 b 8, t := s32 b 12, p := u16 b 16, a := u8 b 18 }

/-- A beam term record (Table 7.4). -/
def beamTerm (b : List Byte) : BeamTerm :=
  { l := s32 b 0, m := s32 b 4, n := s32 b 8, lRate := s32 b 12, mRate := s32 b 16, nRate := s32 b 20, p := u16 b 24,
    a := u8 b 26 }

/-- `n` records of `size` bytes from offset `o` of an argument. -/
def recordsOf (arg : List Byte) (o size n : Nat) : List (List Byte) :=
  (upTo n).map (fun i => (arg.drop (o + size * i)).take size)

def inputCount (s : State) : Nat :=
  match s.bun.active with
  | some b => inputsOf b
  | none => 0

/-- BEAM_DELAYS (R143, R144). -/
def beamDelays (r : Req) (_ : Nat) (s : State) : Out :=
  let inp := bit (b8 r 24) 0
  let bm := bit (b8 r 24) 1
  let set := b8 r 25
  let nIn := if inp then inputCount s else 0
  let ins := recordsOf r.arg 0 24 nIn
  let bts := recordsOf r.arg (24 * nIn) 32 (if bm then 64 else 0)
  let gens := if set = 9 then s.beams.promptTerms else (s.beams.sets.getD set {}).terms
  let k := b64 r 32
  if 3 < b8 r 24 then badReserved s
  else if r.arg.length ≠ 24 * nIn + 32 * bts.length then badLen s
  else if ins.any (fun b => leAt b 19 5 ≠ 0) || bts.any (fun b => leAt b 27 5 ≠ 0) then badReserved s
  else if (!inp && !bm) || (bm && decide (set ≠ 9) && decide (setsNow s ≤ set)) || !updateChunkOk s k then
    badRange s
  else if (inp && s.beams.inputs.next.isSome) || (bm && gens.next.isSome) then busy s
  else
    let it := ins.map inputTerm
    let bt := bts.map beamTerm
    if inp && bm then stageGen (.both k set it bt) k s
    else if inp then stageGen (.input k it) k s else stageGen (.beam k set bt) k s

def execBeamDelays (r : Req) (t : Nat) (s : State) : Host.Outcome State Fault Refusal :=
  .next (runCommand 0x0502 beamDelays r t s)

def setBeamGen (k set : Nat) (l : List BeamTerm) (b : Beams) : Beams :=
  if set = 9 then { b with promptTerms := { b.promptTerms with next := some (k, l) } }
  else { b with sets := upd b.sets set (fun x => { x with terms := { x.terms with next := some (k, l) } }) }

/-- The staged generation is committed: it waits for its update chunk (R144). -/
def commitGen (s : State) : State :=
  modBeams (fun b =>
    let b' := { b with staged := none }
    match b.staged with
    | some (.input k l) => { b' with inputs := { b'.inputs with next := some (k, l) } }
    | some (.beam k set l) => setBeamGen k set l b'
    | some (.both k set i l) => setBeamGen k set l { b' with inputs := { b'.inputs with next := some (k, i) } }
    | some (.params k set p) => { b' with sets := upd b'.sets set (fun x => { x with nextParams := some (k, p) }) }
    | some (.prompt k p) => { b' with nextPrompt := some (k, p) }
    | none => b) s

def genCommand (o : OpenCmd) : Bool :=
  (isOp 0x0501 o || isOp 0x0502 o || isOp 0x0504 o) && decide (o.phase = .staged)

/-- R144: the new generation is staged for every frame, at timer count `t`. -/
def execGenerationCommit (t : Nat) (s : State) : Host.Outcome State Fault Refusal :=
  .next (if s.beams.staged.isSome then
      setRates (finishOpen genCommand (fun o => { result := o.result }) t (commitGen s))
    else s)

/-- BEAM_WEIGHT_TABLE (R146, R147). -/
def beamWeightTable (r : Req) (_ : Nat) (s : State) : Out :=
  match s.bun.active with
  | none => notInState s
  | some b =>
    let set := b8 r 24
    let bank := b8 r 25
    let x := s.beams.sets.getD set {}
    let size := weightBlockBytes b.mode
    let c0 := b16 r 26
    let nc := b16 r 28
    let g0 := b8 r 30
    let ng := b8 r 31
    let base := bankBase ((x.nextParams.map (·.2)).getD x.params) bank
    if setsNow s ≤ set ∨ 1 < bank ∨ b.channels < c0 + nc ∨ (activeGroups b).length < g0 + ng ∨ nc = 0 ∨ ng = 0 then
      badRange s
    else if r.arg.length ≠ nc * ng * size then badLen s
    else if x.params.tabulated ∧ x.params.bank = bank then notInState s
    else if pitBytes < weightAddr b base b.channels 0 then badRange s
    else
      let blocks := (upTo nc).flatMap (fun c => (upTo ng).map (fun g => (c, g)))
      let s' := blocks.zipIdx.foldl (fun s p =>
        pitWrite (weightAddr b base (c0 + p.1.1) (g0 + p.1.2)) ((r.arg.drop (size * p.2)).take size) s) s
      answer (servePort 5 r.arg.length s') (fields [(24, leBytes 4 (nc * ng))])

def execBeamWeightTable (r : Req) (t : Nat) (s : State) : Host.Outcome State Fault Refusal :=
  .next (runCommand 0x0503 beamWeightTable r t s)

/-- PROMPT_CONFIG (R144, R154, R18, 05 R102). -/
def promptConfig (r : Req) (_ : Nat) (s : State) : Out :=
  let q := b8 r 24
  let p : PromptParams := {
    channels := (upTo q).map (fun i => u16 r.arg (2 * i)), delays := (upTo q).map (fun i => u8 r.arg (32 + i))
    beams := b8 r 25, shift := b8 r 26, width4 := decide (b8 r 27 = 4), pbeam := decide (b8 r 28 = 1)
    powerMask := b16 r 30, wait := b16 r 40 }
  let g := match s.bun.active with | some b => (activeGroups b).length | none => 0
  if !inRange 1 16 q || !inRange 1 64 p.beams || decide (31 < p.shift) || (b8 r 27 != 8 && b8 r 27 != 4) ||
      decide (1 < b8 r 28) || !inRange 5 1000 p.wait || p.channels.any (fun c => decide (chans s ≤ c)) ||
      decide (p.channels.eraseDups.length ≠ q) || p.delays.any (fun d => decide (63 < d)) ||
      !updateChunkOk s (b64 r 32) then badRange s
  else if (upTo 16).any (fun i => decide (q ≤ i) && (u16 r.arg (2 * i) != 0 || u8 r.arg (32 + i) != 0)) then badReserved s
  else if s.beams.nextPrompt.isSome then busy s
  else if !s.bun.applying && (!promptFits (chans s) q g (frameCount s) ||
      (match s.bun.active with | some b => !payloadOk b q (rxCapacity s) | none => false)) then admission s
  else stageGen (.prompt (b64 r 32) p) (b64 r 32) s

def execPromptConfig (r : Req) (t : Nat) (s : State) : Host.Outcome State Fault Refusal :=
  .next (runCommand 0x0504 promptConfig r t s)

def clearBeams (b : Beams) : Beams :=
  { b with clearPending := false, blocks := 0, pblocks := 0, beamSat := 0, pbeamSat := 0, powerSat := 0, wstall := 0,
           powerGap := 0, promptRestart := 0 }

/-- A write of CLEAR (R160, R451). -/
def beamClear (s : State) : State :=
  modBeams (fun b => if s.hop.running then { b with clearPending := true } else clearBeams b) s

def execBeamCounterClear (s : State) : Host.Outcome State Fault Refusal := .next (if dpRun s then beamClear s else s)

end Sys2Proof.Machine
end

