-- ==== Sys2Proof/Machine/Tally.lean ====
section
/-! DEFINITION. Promotion, tallies, integrations and the dump ring (06). -/

namespace Sys2Proof.Machine

def talCause (k : Nat) (a : Tally) : Tally := { a with cause := setBits a.cause [k] }

/-! Record headers (Table 6.5). -/

/-- FLAGS bits. -/
def fFresh : Nat := 1
def fDamaged : Nat := 2
def fOverlength : Nat := 4
def fContinuation : Nat := 8
def fBlanked : Nat := 16
def fCountPlane : Nat := 32
def fTimeSuspect : Nat := 64
def fEpochChanged : Nat := 128

def hdrBytes (h : RecHdr) : List Byte :=
  leBytes 4 h.id ++ leBytes 4 h.continues ++ leBytes 8 h.first ++ leBytes 4 h.chunks ++ leBytes 2 (h.channel % 4096) ++
  leBytes 1 (h.format % 4) ++ leBytes 1 h.endCode ++ leBytes 4 (h.flags % 256) ++ leBytes 4 h.missBlocks ++
  leBytes 4 h.missGroups ++ leBytes 4 h.blankGroups ++ leBytes 4 h.absent ++ leBytes 2 (h.epoch % 4096) ++
  leBytes 2 h.lines ++ List.replicate 16 0 ++ leBytes 66 h.damage ++ List.replicate 126 0

def hdrOf (b : List Byte) : RecHdr :=
  { id := u32 b 0, continues := u32 b 4, first := u64 b 8, chunks := u32 b 16, channel := u16 b 20 % 4096
    format := u8 b 22 % 4, endCode := u8 b 23, flags := u32 b 24 % 256, missBlocks := u32 b 28, missGroups := u32 b 32
    blankGroups := u32 b 36, absent := u32 b 40, epoch := u16 b 44 % 4096, lines := u16 b 46, damage := leAt b 64 66 }

/-- A header that describes an integration from its schedule (R126, R127). -/
def schedHdr (it : Integ) (channel lines epoch chunks : Nat) : RecHdr :=
  { id := it.id, continues := it.continues.getD 0xFFFFFFFF, first := it.k0, chunks := chunks, channel := channel
    format := it.sched.format, lines := lines, epoch := epoch
    flags := (if it.sched.countPlane then fCountPlane else 0) ||| (if it.continues.isSome then fContinuation else 0) }

/-- A tally header with only FRESH set (R126). -/
def freshHdr : RecHdr := { flags := fFresh }

/-! Lines. -/

/-- One T32 or T64 component: read, add, write, in `n` bytes. -/
def addWord (old : List Byte) (o n : Nat) (b : Int) : List Byte := leBytesI n (signed (8 * n) (leAt old o n) + b)

/-- A line of whole sums: T32 (`n` = 4) or T64 (`n` = 8). -/
def promoteSums (n : Nat) (old : List Byte) (beads : List Bead) : List Byte :=
  beads.zipIdx.flatMap (fun p => addWord old (2 * n * p.2) n p.1.re ++ addWord old (2 * n * p.2 + n) n p.1.im)

/-- Count words of a line (R116). -/
def promoteCounts (old : List Byte) (beads : List Bead) : List Byte :=
  beads.zipIdx.flatMap (fun p => leBytes 4 (u32 old (4 * p.2) + p.1.count))

/-- One T32E component at exponent `e`: mantissa and residue after the bead (R121). -/
def promoteE (e : Nat) (m : Int) (r : Nat) (b : Int) : Int × Nat :=
  let t := (r : Int) + b
  let q := t / (2 ^ e : Int)
  (m + q, (t - q * 2 ^ e).toNat)

/-- A T32E line after its beads, and whether it was rescaled (R117, R121). -/
def promoteT32E (old : List Byte) (beads : List Bead) : List Byte × Bool :=
  let n := beads.length
  let e0 := u8 old 0 % 64
  let resc := decide (2145386496 ≤ u32 old 4)
  let e := if resc then e0 + 1 else e0
  let man := fun (o : Nat) => let m := s32 old o; if resc then divHalfEven m 2 else m
  let res := beads.zipIdx.map (fun p =>
    (promoteE e (man (64 + 8 * p.2)) (u8 old (64 + 8 * n + 2 * p.2)) p.1.re,
     promoteE e (man (64 + 8 * p.2 + 4)) (u8 old (64 + 8 * n + 2 * p.2 + 1)) p.1.im))
  let peak := res.foldl (fun k x => max k (max x.1.1.natAbs x.2.1.natAbs)) 0
  (leBytes 4 e ++ leBytes 4 peak ++ List.replicate 56 0 ++
     res.flatMap (fun x => leBytesI 4 x.1.1 ++ leBytesI 4 x.2.1) ++ res.flatMap (fun x => leBytes 1 x.1.2 ++ leBytes 1 x.2.2),
   resc)

/-- A line after one promotion; an old line of zeros is a fresh one (e = 0, m = b, r = 0). -/
def promoteLine (fmt : Nat) (old : List Byte) (beads : List Bead) : List Byte × Bool :=
  if fmt = 1 then promoteT32E old beads
  else if fmt = 2 then (promoteSums 8 old beads, false) else (promoteSums 4 old beads, false)

/-- Bytes of the lines before line `k` of a record, and of its count lines. -/
def lineOffset (b : Bundle) (fmt k : Nat) : Nat := 256 + (((lineVis b).take k).map (lineBytes fmt)).sum
def countOffset (b : Bundle) (k : Nat) : Nat := 4 * ((lineVis b).take k).sum

/-- Address of the channel record, and of its count lines (R119). -/
def recordAddr (b : Bundle) (sc : IntegSched) (c : Nat) : Nat := sc.tallyBase + c * recordStride b sc.format
def countAddr (b : Bundle) (sc : IntegSched) (c : Nat) : Nat := sc.countBase + c * countStride b

/-! Promotion staging (R97, R123). -/

def jobAt (s : State) (pos : Nat) : Option PromJob := s.tal.jobs.find? (fun j => j.pos == pos)

def beadPlus (a b : Bead) : Bead := { re := a.re + b.re, im := a.im + b.im, count := a.count + b.count }

def zeroBeads (n : Nat) : List Bead := List.replicate n {}

/-- Bytes that a line takes of its gallery's promotion staging: 8 for the bead of a cell, 16 for that of a W8F unit (log 135). -/
def stagedBytes (m : Mode) (l : StagedLine) : Nat :=
  l.beads.length * (match m with | .w8f => 16 | _ => 8)

/-- Is there room in the 1.5 MiB of a gallery's staging for `n` more bytes (R123)? A run that joins a line takes none. -/
def stagingRoom (s : State) (m : Mode) (g n : Nat) : Bool :=
  decide (((s.tal.staging.filter (fun x => x.gallery == g)).map (stagedBytes m)).sum + n ≤ 1572864)

/-- A run's beads enter the staging of its gallery: `seen` spectra accounted for, `absent` of them missing. The runs of
a cut block-pair are joined in the lower gallery, and the line counts as ended with the later run (R97, R124). -/
def stageLine (l : StagedLine) (s : State) : State :=
  if (jobAt s l.pos).isNone then s else
    modTal (fun a =>
      match a.staging.find? (fun x => x.pos == l.pos && x.pair == l.pair) with
      | some x =>
        let y := { x with gallery := min x.gallery l.gallery, seen := x.seen + l.seen, absent := x.absent + l.absent
                          beads := x.beads.zipWith beadPlus l.beads }
        { a with staging := a.staging.erase x ++ [y] }
      | none => { a with staging := a.staging ++ [l] }) s

/-! One position's promotion. -/

/-- The record header as the engine reads it: from memory, fresh, or rebuilt when damaged (R126, R127). -/
def readHeader (s : State) (b : Bundle) (j : PromJob) : RecHdr × Bool :=
  let rd := pitRead s (recordAddr b j.integ.sched j.channel) 256
  let k := j.pos / max 1 b.channels
  let lines := (lineVis b).length
  if rd.2 then
    let h := schedHdr j.integ j.channel lines j.epoch (k - j.integ.k0)
    ({ h with flags := h.flags ||| fDamaged, damage := 2 ^ 528 - 1 }, decide (k = j.integ.k0))
  else
    let h := hdrOf rd.1
    if bit h.flags 0 || decide (k = j.integ.k0) then (schedHdr j.integ j.channel lines j.epoch 0, true) else (h, false)

def setJob (j : PromJob) (s : State) : State :=
  modTal (fun a => { a with jobs := a.jobs.map (fun x => if x.pos = j.pos then j else x) }) s

/-- The job with its header read (R124). -/
def beginJob (s : State) (b : Bundle) (j : PromJob) : PromJob :=
  if j.begun then j else
    let h := readHeader s b j
    { j with begun := true, header := h.1, fresh := h.2 }

/-- The header after its last line (R120, R126). -/
def finalHdr (j : PromJob) : RecHdr :=
  let h := j.header
  let miss := h.missBlocks + j.sealRec.missing
  let blank := h.blankGroups ||| j.sealRec.blankMask
  let absent := h.absent + j.absent
  { h with
    chunks := h.chunks + 1, missBlocks := sat32 miss, missGroups := h.missGroups ||| j.sealRec.missMask
    blankGroups := blank, absent := sat32 absent, epoch := j.epoch
    endCode := if j.last then j.integ.endCode else 0
    flags := h.flags ||| (if miss ≠ 0 ∨ blank ≠ 0 ∨ absent ≠ 0 then fBlanked else 0) |||
      (if j.timeSuspect then fTimeSuspect else 0) ||| (if h.chunks ≠ 0 ∧ h.epoch ≠ j.epoch then fEpochChanged else 0) |||
      (if j.last && j.integ.overlength then fOverlength else 0) }

/-- The last line of a position is done: the header is written, and a finished dump record is complete (R126, R131). -/
def finishJob (b : Bundle) (j : PromJob) (s : State) : State :=
  let here := recordAddr b j.integ.sched j.channel
  let s := if j.last then
      let s := if j.lost then s else pitWrite j.dest (hdrBytes (finalHdr j)) s
      pitWrite here (hdrBytes freshHdr) s
    else pitWrite here (hdrBytes (finalHdr j)) s
  let s := servePort 0 (if j.last && !j.lost then 768 else 512) s
  modTal (fun a => { a with
    jobs := a.jobs.filter (fun x => decide (x.pos ≠ j.pos))
    ring := a.ring.map (fun r => if j.last && !j.lost && decide (r.addr = j.dest) && !r.written then
      { r with written := true, header := finalHdr j } else r) }) s

/-- A position without lines is promoted by its header alone (R88). -/
def finishEmptyJobs (s : State) : State :=
  match s.bun.active with
  | none => s
  | some b => (s.tal.jobs.filter (fun j : PromJob => decide (j.linesLeft = 0))).foldl (fun s (j : PromJob) => finishJob b (beginJob s b j) s) s

/-- The first whole line that waits in a gallery's staging. -/
def nextLine (s : State) (g : Nat) : Option StagedLine :=
  s.tal.staging.find? (fun l => l.gallery == g && l.seen == 8192)

/-- One line of a position is promoted (R124, R126, R127). -/
def promote (b : Bundle) (j0 : PromJob) (l : StagedLine) (s : State) : State :=
  let j := beginJob s b j0
  let sc := j.integ.sched
  let n := (lineVis b).getD l.pair 0
  let size := lineBytes sc.format n
  let at_ := recordAddr b sc j.channel + lineOffset b sc.format l.pair
  let cAt := countAddr b sc j.channel + countOffset b l.pair
  let old := if j.fresh then (List.replicate size 0, false) else pitRead s at_ size
  let oldC := if j.fresh || !sc.countPlane then (List.replicate (4 * n) 0, false) else pitRead s cAt (4 * n)
  let bad := old.2 || oldC.2 || l.damaged
  let before := (pitRead s at_ size).1
  let beforeC := (pitRead s cAt (4 * n)).1
  let res := promoteLine sc.format (if bad then List.replicate size 0 else old.1) l.beads
  let cnt := promoteCounts (if bad then List.replicate (4 * n) 0 else oldC.1) l.beads
  let s := if j.last then
      if j.lost then s else
        let s := pitWrite (j.dest + lineOffset b sc.format l.pair) res.1 s
        if sc.countPlane then pitWrite (j.dest + recordStride b sc.format + countOffset b l.pair) cnt s else s
    else
      let s := pitWrite at_ res.1 s
      if sc.countPlane then pitWrite cAt cnt s else s
  let moved := size + (if sc.countPlane then 4 * n else 0)
  let s := servePort 0 ((if j.fresh then 0 else moved) + (if j.last && j.lost then 0 else moved)) s
  let s := modTal (fun a => { a with
    staging := a.staging.erase l, promo := sat64 (a.promo + n)
    rescale := if res.2 then sat32 (a.rescale + 1) else a.rescale
    damaged := if bad then sat32 (a.damaged + 1) else a.damaged
    cause := setBits a.cause ((if res.2 then [4] else []) ++ (if bad then [2] else [])) }) s
  let h : RecHdr := if bad then { j.header with flags := j.header.flags ||| fDamaged, damage := j.header.damage ||| 2 ^ l.pair }
           else j.header
  let j : PromJob := { j with
    header := h, linesLeft := j.linesLeft - 1, absent := j.absent + l.absent
    undo := if j.last then [] else (at_, before) :: (if sc.countPlane then [(cAt, beforeC)] else []) ++ j.undo }
  if j.linesLeft = 0 then finishJob b j s else setJob j s

/-- Promotions in flight in each gallery, and the peak over the device (R123, R135). -/
def inFlight (l : List Nat) (a : Tally) : Tally :=
  let gal := (upTo 4).map (fun g => min 65536 (l.getD g 0))
  { a with galInflight := gal, inflightPeak := max a.inflightPeak gal.sum }

/-- R124: the engine of gallery `g` promotes the next line of its staging. `ue` says that staging reported an
uncorrectable error in the line; `inflight` are the promotions now in flight in each gallery, at most 65,536 (R123). -/
def execLinePromotion (g : Nat) (ue : Bool) (inflight : List Nat) (s : State) : Host.Outcome State Fault Refusal :=
  .next (match nextLine s g, s.bun.active with
    | some l, some b => match jobAt s l.pos with
      | some j =>
        modTal (inFlight inflight)
          (if ue then
            promote b j { l with damaged := true } (modTal (fun a => { a with
              staging := a.staging.map (fun x => if x = l then { l with damaged := true } else x) }) s)
           else promote b j l s)
      | none => s
    | _, _ => s)

/-! The dump ring (R130, R131, R452). -/

/-- Entries of the ring in force that hold unfinished records. -/
def ringUsed (s : State) : Nat := (s.tal.ring.filter (fun r => r.base == s.tal.ringBase && r.cap == s.tal.ringCap)).length

/-- The ring of a schedule comes into use at its first dump record (R452). -/
def adoptRing (sc : IntegSched) (s : State) : State :=
  if s.tal.ringBase = sc.ringBase ∧ s.tal.ringCap = sc.ringRecords then s
  else modTal (fun a => { a with
    ringBase := sc.ringBase, ringCap := sc.ringRecords, ringHead := 0
    ringTail := if a.ring.isEmpty then 0 else a.ringTail }) s

/-- A place in the ring for a channel's dump record. -/
def takeEntry (b : Bundle) (it : Integ) (channel : Nat) (final : Bool) (s : State) : State × Nat × Nat :=
  let e := s.tal.ringHead
  let addr := it.sched.ringBase + e * dumpStride b it.sched.format it.sched.countPlane
  (modTal (fun a => { a with
    ring := a.ring ++ [{ base := a.ringBase, cap := a.ringCap, addr := addr, entry := e, channel := channel, id := it.id
                         countPlane := it.sched.countPlane, fmt := it.sched.format, final := final
                         stride := dumpStride b it.sched.format it.sched.countPlane }]
    ringHead := (e + 1) % max 1 a.ringCap }) s, e, addr)

/-- R130: the oldest complete record that has not been posted passes to the Hoist. -/
def execDumpRecordPosted (s : State) : Host.Outcome State Fault Refusal :=
  .next (match s.tal.ring.find? (fun r => !r.posted) with
    | some r =>
      if r.written then
        let r' := { r with posted := true }
        modHst (fun h => { h with units := h.units ++ [.dump r' 0] })
          (modTal (fun a => { a with
            ring := a.ring.map (fun x => if x = r then r' else x), dumps := sat32 (a.dumps + 1)
            cause := if r.final then setBits a.cause [0] else a.cause }) s)
      else s
    | none => s)

/-! Integrations. -/

/-- The open integration ends, all of its chunk cycles completed. -/
def closeInteg (s : State) : State :=
  modTal (fun a => { a with
    cur := none, integCycles := match a.cur with | some it => sat32 (it.chunk + 1 - it.k0) | none => a.integCycles }) s

/-- An integration opens at chunk `k`: a scheduled one, or a continuation of the one named (R113, R128). -/
def openInteg (k : Nat) (sc : IntegSched) (cont : Option Nat) (s : State) : State :=
  modTal (fun a =>
    let id := (sc.firstId + a.idsUsed) % 2 ^ 32
    { a with
      idsUsed := a.idsUsed + 1, begun := if cont.isSome then a.begun else a.begun + 1
      idsBegun := if a.idsBegun.contains id then a.idsBegun else a.idsBegun ++ [id]
      cur := some { sched := sc, num := a.idsUsed, id := id, k0 := k, chunk := k, continues := cont }
      integId := id, integFirst := k, integCycles := 0 }) s

/-- A tally header that the open integration has not written yet counts as FRESH, whatever lies there (log 18). -/
def headerFresh (it : Integ) (h : RecHdr) : Bool := bit h.flags 0 || decide (h.id ≠ it.id) || decide (h.first ≠ it.k0)

/-- May the schedule in force start another integration? -/
def moreToCome (a : Tally) (sc : IntegSched) : Bool :=
  !a.ended && a.next.isNone &&
  (if sc.length = 0 then decide (a.begun = 0) else decide (sc.repeats = 0) || decide (a.begun < sc.repeats))

/-- A stop that never reached its last chunk cycle finds its integration ended (R129, log 19). -/
def endPendingStop (t : Nat) (s : State) : State :=
  finishOpen (fun o => isOp 0x0402 o && decide (o.phase = .staged))
    (fun o => { status := stAlready, result := o.result }) t s

/-- The integration that ended with the last chunk cycle is followed by its continuation, by the next of the schedule,
or by none (R113, R128, R129, R454). -/
def followOn (k t : Nat) (s : State) : State :=
  match s.tal.cur with
  | none => s
  | some it =>
    if !it.last then s else
      let s := closeInteg s
      if it.endCode = 3 then openInteg k it.sched (some it.id) (endPendingStop t s)
      else if it.endCode = 2 then modTal (fun a => { a with ended := true }) s
      else if moreToCome s.tal it.sched then openInteg k it.sched none s else s

/-- A schedule's first integration starts at its FIRST_CHUNK (R113, R454). -/
def startSchedule (k : Nat) (s : State) : State :=
  if s.tal.cur.isSome then s else
    let s := match s.tal.next with
      | some n => if n.firstChunk = k then
          setRates (modTal (fun a => { a with sched := some n, next := none, begun := 0, idsUsed := 0, ended := false }) s) else s
      | none => s
    match s.tal.sched with
    | some sc =>
      if sc.firstChunk = k ∧ s.tal.begun = 0 ∧ moreToCome s.tal sc then openInteg k sc none s else s
    | none => s

/-- How the chunk cycle that begins ends its integration, if it does (R111, R128, R129). -/
def judgeCycle (k : Nat) (it : Integ) : Integ :=
  let sched := decide (it.sched.length ≠ 0) && decide (k + 1 = it.k0 + it.sched.length)
  let stop := decide (it.stop = some k)
  let limit := decide (k + 1 - it.k0 = formatLimit it.sched.format it.sched.countPlane)
  { it with
    chunk := k, last := sched || stop || limit, stopCommitted := it.stopCommitted || stop
    endCode := if stop then 2 else if sched then 1 else if limit then 3 else 0
    overlength := limit && !sched }

/-- The first position of chunk `k` begins consumption (R111, R128, R129). -/
def startCycle (k t : Nat) (s : State) : State :=
  let s := startSchedule k (followOn k t s)
  match s.tal.cur with
  | none => s
  | some it0 =>
    let it := judgeCycle k it0
    let s := modTal (fun a => { a with cur := some it, integCycles := sat32 (k - it.k0) }) s
    let s := if it.overlength then
        modTal (fun a => talCause 1 { a with overlength := sat32 (a.overlength + 1) }) s else s
    if it.stop = some k then
      finishOpen (fun o => isOp 0x0402 o && decide (o.phase = .staged))
        (fun o => { result := o.result }) t s
    else s

/-- A channel's last chunk cycle begins: the ring is tested (R131). -/
def ringTest (b : Bundle) (it : Integ) (c : Nat) (j : PromJob) (s : State) : PromJob × State :=
  let s := adoptRing it.sched s
  if s.tal.ringCap ≤ ringUsed s then
    ({ j with lost := true },
     noteStat 4 it.id c 0 (8192 * it.chunk)
       (modTal (fun a => talCause 3 { a with dumpLost := sat32 (a.dumpLost + 1) }) s))
  else
    let r := takeEntry b it c (decide (c + 1 = b.channels)) s
    ({ j with entry := r.2.1, dest := r.2.2 }, r.1)

/-- Consumption of position `j` begins: its promotion job, or a position that counts in TAL_IDLE_POS (R112), as do those that
begin while the integration is being closed (R133). -/
def beginTally (j t : Nat) (s : State) : State :=
  match bundleOfPos s j with
  | none => s
  | some b =>
    let k := chunkOf s j
    let c := channelOf s j
    let closing := s.tal.sweepDue || s.tal.sweep.isSome
    let s := if c = 0 ∧ !closing then startCycle k t s else s
    match (if closing then none else s.tal.cur) with
    | none => modTal (fun a => { a with idlePos := sat32 (a.idlePos + 1) }) s
    | some it =>
      let job : PromJob := {
        pos := j, channel := c, integ := it, linesLeft := (lineVis b).length, last := it.last
        sealRec := (s.hop.slots.getD (j % 3) {}).record, timeSuspect := s.sys.suspect, epoch := epochOfPos s j }
      let r := if it.last then ringTest b it c job s else (job, s)
      modTal (fun a => { a with jobs := a.jobs ++ [r.1] }) r.2

/-! Closing an integration early (R133, R134). -/

/-- The first channel that a sweep copies: those of the last chunk cycle that have begun consumption are left out. -/
def sweepFrom (s : State) (it : Integ) (pos : Nat) : Nat :=
  if it.last && decide (chunkOf s pos = it.chunk) then channelOf s pos + 1 else 0

/-- One line of a swept record, its tally and its count words: damage in either is damage of the line (R127), and a channel
never promoted has zeros. -/
def sweepLine (s : State) (at_ size cAt cSize : Nat) (none_ : Bool) : (List Byte × List Byte) × Bool :=
  let x := pitRead s at_ size
  let y := pitRead s cAt cSize
  let bad := !none_ && (x.2 || (decide (0 < cSize) && y.2))
  (if none_ || bad then (List.replicate size 0, List.replicate cSize 0) else (x.1, y.1), bad)

/-- Chunk cycles of the integration whose position for a channel has been consumed, the first position not consumed being
`bound`. -/
def cyclesDone (b : Bundle) (it : Integ) (c bound : Nat) : Nat :=
  if it.chunk * b.channels + c < bound then it.chunk + 1 - it.k0 else it.chunk - it.k0

/-- Channel `c` is copied to the next ring entry, and its tally header is reset (R133). -/
def sweepChannel (b : Bundle) (sw : Sweep) (c : Nat) (s : State) : State :=
  let it := sw.integ
  let sc := it.sched
  let s := adoptRing sc s
  let r := takeEntry b it c (decide (c + 1 = b.channels)) s
  let here := recordAddr b sc c
  let lines := lineVis b
  let rd := pitRead s here 256
  let h0 := if rd.2 then
      let h := schedHdr it c lines.length (epochOfPos s (it.chunk * b.channels + c)) (cyclesDone b it c sw.bound)
      { h with flags := h.flags ||| fDamaged, damage := 2 ^ 528 - 1 }
    else hdrOf rd.1
  let never := if rd.2 then decide (cyclesDone b it c sw.bound = 0) else headerFresh it h0
  let h := if never then schedHdr it c lines.length (epochNow s) 0 else h0
  let ls := lines.zipIdx.map (fun v =>
    (v.2, sweepLine s (here + lineOffset b sc.format v.2) (lineBytes sc.format v.1) (countAddr b sc c + countOffset b v.2)
      (if sc.countPlane then 4 * v.1 else 0) never))
  let badSet := (ls.filter (fun x => x.2.2)).map (·.1)
  let h := { h with endCode := sw.endCode, damage := h.damage ||| maskOf badSet
                    flags := h.flags ||| (if badSet.isEmpty then 0 else fDamaged) }
  let s := pitWrite r.2.2 (hdrBytes h) r.1
  let s := ls.foldl (fun s x =>
    let s := pitWrite (r.2.2 + lineOffset b sc.format x.1) x.2.1.1 s
    if sc.countPlane then pitWrite (r.2.2 + recordStride b sc.format + countOffset b x.1) x.2.1.2 s else s) s
  let s := pitWrite here (hdrBytes freshHdr) s
  let s := servePort 0 (768 + 2 * (lines.map (fun v => lineBytes sc.format v + if sc.countPlane then 4 * v else 0)).sum) s
  modTal (fun a => { a with
    ring := a.ring.map (fun x => if x.addr = r.2.2 && !x.written then { x with written := true, header := h } else x)
    damaged := sat32 (a.damaged + badSet.length)
    cause := if badSet.isEmpty then a.cause else setBits a.cause [2] }) s

/-- The sweep starts once every promotion of the drained position is done (R133). -/
def startSweep (s : State) : State :=
  match s.tal.cur with
  | some it =>
    if s.tal.sweepDue && s.tal.jobs.isEmpty && s.tal.sweep.isNone then
      modTal (fun a => { a with sweepDue := false
                                sweep := some { integ := it, channel := sweepFrom s it s.aba.drainPos, endCode := 4, bound := s.aba.drainPos + 1 } }) s
    else s
  | none => s

/-- May the close sweep go on: DP is in Run, and after a restart its frames have been tested (14 Table 14.10 step 3)? -/
def sweepsOn (s : State) : Bool := dpRun s && (s.pwr.returning.isNone || decide (1 ≤ s.pwr.retStep))

/-- Records of a schedule's ring. -/
def ringHolds (s : State) (sc : IntegSched) : Nat :=
  (s.tal.ring.filter (fun r => r.base == sc.ringBase && r.cap == sc.ringRecords)).length

/-- R133: the next channel record of the open integration is copied to the ring, once the ring has room. -/
def execCloseSweep (s0 : State) : Host.Outcome State Fault Refusal :=
  .next (if !sweepsOn s0 then s0 else
    let s := startSweep s0
    match s.tal.sweep, s.bun.active with
    | some sw, some b =>
      if sw.channel < b.channels ∧ ringHolds s sw.integ.sched < sw.integ.sched.ringRecords then
        let s := sweepChannel b sw sw.channel s
        modTal (fun a => { a with sweep := some { sw with channel := sw.channel + 1 } }) s
      else s
    | _, _ => s)

/-- R133: the sweep ends, and with it the schedule. -/
def execCloseDone (t : Nat) (s : State) : Host.Outcome State Fault Refusal :=
  .next (if !sweepsOn s then s else match s.tal.sweep, s.bun.active with
    | some sw, some b =>
      if b.channels ≤ sw.channel then
        endPendingStop t (modTal (fun a => talCause 5 { a with sweep := none, cur := none, ended := true }) s)
      else s
    | _, _ => s)

/-! Commands. -/

/-- The schedule a request describes (16 Table 16.10). -/
def schedOfReq (r : Req) : IntegSched :=
  { firstChunk := b64 r 24, length := b32 r 32, repeats := b32 r 36, firstId := b32 r 40, format := b8 r 44
    countPlane := decide (b8 r 45 = 1), ringRecords := b16 r 46
    tallyBase := 4096 * b24 r 48, countBase := 4096 * b24 r 51, ringBase := 4096 * b24 r 54 }

def formatSuits (m : Mode) (fmt : Nat) : Bool :=
  match m with
  | .w8f => fmt == 2
  | _ => decide (fmt ≤ 1)

/-- Ring entries of another ring that hold unsent records (R452). -/
def oldRing (s : State) (sc : IntegSched) : List (Nat × Nat) :=
  (s.tal.ring.filter (fun r => !(decide (s.tal.ringBase = sc.ringBase) && decide (s.tal.ringCap = sc.ringRecords) &&
    decide (r.base = sc.ringBase) && decide (r.cap = sc.ringRecords)))).map (fun r => (r.addr, r.stride))

/-- The ring registers as they are rebuilt from a schedule when no ring is in use (R135). -/
def rebuildRing (sc : IntegSched) (a : Tally) : Tally :=
  if a.ringCap = 0 ∧ a.ring.isEmpty then { a with ringBase := sc.ringBase, ringCap := sc.ringRecords, ringHead := 0, ringTail := 0 }
  else a

/-- INTEG_SCHEDULE (R114, R132, R452, R454, 12 R265). -/
def integSchedule (r : Req) (_ : Nat) (s : State) : Out :=
  match s.bun.active with
  | none => notInState s
  | some b =>
    let sc := schedOfReq r
    let regs := schedRegions b sc
    if 1 < b8 r 45 ∨ sc.ringRecords < 2 ∨ !formatSuits b.mode sc.format ∨
        !allApart (regs ++ captRegion s ++ fwRegion b) ∨ (oldRing s sc).any (fun o => !(regs.all (regionsApart o))) ∨
        sc.firstChunk < consumeChunk s + 2 then badRange s
    else if s.tal.sweep.isSome || s.tal.sweepDue then notInState s
    else if (match s.tal.cur with
        | some it => decide (it.sched.length = 0) || decide (sc.firstChunk < it.k0 + it.sched.length)
        | none => false) then notInState s
    else
      let s' := match s.tal.cur with
        | some _ => modTal (fun a => { a with next := some sc }) s
        | none => modTal (fun a => { a with sched := some sc, next := none, begun := 0, idsUsed := 0, ended := false }) s
      if formatLimit sc.format sc.countPlane < sc.length || (!s.bun.applying && (!regionsFit regs || !ringRuleOk s b sc || !ratesOk s')) then
        admission s
      else
        let d := dumpCharge s b sc.format sc.countPlane
        { st := modCon (fun c => { c with holding := false }) (setRates (modTal (rebuildRing sc) s')), reply := { result := fields [
          (24, leBytes 4 (recordStride b sc.format)), (28, leBytes 4 (countStride b)), (32, leBytes 4 (minLength s b d)),
          (36, leBytes 4 (minRing s b d))] } }

def execIntegSchedule (r : Req) (t : Nat) (s : State) : Host.Outcome State Fault Refusal :=
  .next (runCommand 0x0401 integSchedule r t s)

/-- The first chunk whose first position begins consumption, at a_j + 3I/2 with j = kC, no earlier than `ns` after
array time `t` (R129, 04 R68). -/
def chunkAfter (b : Bundle) (t ns : Nat) : Nat :=
  let d := 2 * intervalDen b
  cdiv (firstArrival b (cdiv ((t + ns * 65536) * d - 3 * intervalNum b) (max 1 d))) (max 1 b.channels)

/-- INTEG_STOP (R129). -/
def integStop (r : Req) (t : Nat) (s : State) : Out :=
  let id := b32 r 24
  match s.bun.active with
  | none => notInState s
  | some b =>
    if id = 0xFFFFFFFF ∧ s.tal.cur.isNone then notInState s
    else if id ≠ 0xFFFFFFFF ∧ !s.tal.idsBegun.contains id then badRange s
    else match s.tal.cur with
      | none => { st := s, reply := { status := stAlready, result := fields [(24, leBytes 4 id)] } }
      | some it =>
        let near := chunkAfter b (fullTime s t) 1000000
        let ownLast := it.k0 + it.sched.length - 1
        if (id ≠ 0xFFFFFFFF ∧ id ≠ it.id) ∨ it.last ∨ (it.sched.length ≠ 0 ∧ ownLast < near) then
          let res := fields [(24, leBytes 4 (if id = 0xFFFFFFFF then it.id else id))]
          { st := s, reply := { status := stAlready, result := res } }
        else
          let least := it.k0 + minLength s b (dumpCharge s b it.sched.format it.sched.countPlane) - 1
          let k := max (max near (it.chunk + 1)) least
          let k := if it.sched.length = 0 then k else min k ownLast
          let res := fields [(24, leBytes 4 it.id), (28, leBytes 8 k)]
          { st := modTal (fun a => { a with cur := some { it with stop := some k } }) s
            stay := some .staged, key := k, reply := { result := res } }

def execIntegStop (r : Req) (t : Nat) (s : State) : Host.Outcome State Fault Refusal :=
  .next (runCommand 0x0402 integStop r t s)

def clearTal (a : Tally) : Tally :=
  { a with clearPending := false, promo := 0, dumps := 0, dumpLost := 0, damaged := 0, overlength := 0, rescale := 0,
           idlePos := 0, inflightPeak := 0 }

/-- A write of CLEAR (R135, R451). -/
def talClear (s : State) : State :=
  modTal (fun a => if s.hop.running then { a with clearPending := true } else clearTal a) s

def execTalCounterClear (s : State) : Host.Outcome State Fault Refusal := .next (if dpRun s then talClear s else s)

end Sys2Proof.Machine
end

