-- ==== Sys2Proof/Machine/Abacus.lean ====
section
/-! DEFINITION. The Abacus (05): frames, runs, prompt work and drains. -/

namespace Sys2Proof.Machine

def frameAt (s : State) (k : Nat) : Option Frame := s.aba.frames[k]?

def modFrame (k : Nat) (f : Frame → Frame) (s : State) : State :=
  modAba (fun a => { a with frames := upd a.frames k f }) s

def abaCause (k : Nat) (a : Abacus) : Abacus := { a with cause := setBits a.cause [k] }

/-! Frames in service (R89 to R91). -/

/-- Is a physical frame fit: its test passed, and the frame fault mask does not name it? -/
def frameFit (pass mask p : Nat) : Bool := bit pass p && !bit mask p

/-- The logical frame that physical frame `p` serves (R90). -/
def frameServes (pass mask p : Nat) : Option Nat :=
  let g := p / 9
  let k := p % 9
  if !frameFit pass mask p then none
  else if k < 8 then some (8 * g + k)
  else ((upTo 8).find? (fun i => !frameFit pass mask (9 * g + i))).map (fun i => 8 * g + i)

/-- Frame map and frame status after the tests; `pass` has a bit per physical frame (R90, Table 5.9). -/
def mapFrames (pass mask : Nat) : List PhysFrame :=
  (upTo 36).map (fun p =>
    let fit := frameFit pass mask p
    { inService := (frameServes pass mask p).isSome, spare := fit && (frameServes pass mask p).isNone
      test := if !bit pass p then 2 else if bit mask p then 3 else 1
      logical := (frameServes pass mask p).getD 0, cause := if fit then 0 else 4 })

/-- The frame fault mask rewritten from a run's results (R91). -/
def maskAfter (pass mask : Nat) : Nat := maskOf ((upTo 36).filter (fun p => !frameFit pass mask p))

/-- The physical frame that serves a logical one. -/
def physOf (s : State) (logical : Nat) : Option Nat :=
  (upTo 36).find? (fun p => let f := s.aba.phys.getD p {}; f.inService && f.logical == logical)

def markFault (logical : Nat) (s : State) : State :=
  match physOf s logical with
  | some p => { s with sys := { s.sys with faultMask := s.sys.faultMask ||| 2 ^ p } }
  | none => s

/-! Runs (R93 to R97). -/

/-- Place of a block-pair in the sequence (R95). -/
def pairIndex (s : State) (a b : Nat) : Nat :=
  match s.aba.sched with
  | some sc => (pairList sc.mode sc.ranks sc.pGroups).findIdx (fun p => p == (a, b))
  | none => 0

/-! Contexts of the bead store (R104). -/

/-- The words of a cell's bead: one, or two of a W8F unit. -/
def beadWords (m : Mode) (b : Bead) : List (BitVec 64) :=
  match m with
  | .w8f => [BitVec.ofNat 64 (2 ^ 16 * wrap 48 b.re + b.count % 2 ^ 14), BitVec.ofNat 64 (2 ^ 16 * wrap 48 b.im)]
  | _ => [BitVec.ofNat 64 (2 ^ 40 * wrap 24 b.re + 2 ^ 16 * wrap 24 b.im + b.count % 2 ^ 14)]

/-- The bead that the words of cell `n` of a context hold. -/
def wordsBead (m : Mode) (ws : List (BitVec 64)) (n : Nat) : Bead :=
  match m with
  | .w8f =>
    let x := (ws.getD (2 * n) 0).toNat
    let y := (ws.getD (2 * n + 1) 0).toNat
    { re := signed 48 (x / 2 ^ 16), im := signed 48 (y / 2 ^ 16), count := x % 2 ^ 14 }
  | _ =>
    let x := (ws.getD n 0).toNat
    { re := signed 24 (x / 2 ^ 40), im := signed 24 (x / 2 ^ 16 % 2 ^ 24), count := x % 2 ^ 14 }

/-- The bead of a cell of run `r` of a block-pair once spectra below `upTo_` have been admitted. -/
def cellBead (s : State) (r : Run) (a b upTo_ : Nat) (c : Nat × Nat) : Bead :=
  let m := modeAt s (chunkOf s r.pos)
  let sl := s.hop.slots.getD (r.pos % 3) {}
  beadPlus (wordsBead m r.base (c.1 * groupSize m + c.2)) (beadOf m sl (rankGroup s a) (rankGroup s b) c.1 c.2 r.sumFrom upTo_)

/-- Beads of the stored cells of a run. -/
def pairBeads (s : State) (r : Run) (a b upTo_ : Nat) : List Bead :=
  (lineCells (groupSize (modeAt s (chunkOf s r.pos))) (decide (a = b))).map (cellBead s r a b upTo_)

/-- The context that the bead store saves of a run: every cell, in row-major order. -/
def contextOf (s : State) (r : Run) (upTo_ : Nat) : List (BitVec 64) :=
  match r.item with
  | .pair a b =>
    let m := modeAt s (chunkOf s r.pos)
    (lineCells (groupSize m) false).flatMap (fun c => beadWords m (cellBead s r a b upTo_ c))
  | .beam _ _ => []

/-- Beads of the stored cells that a context holds. -/
def contextBeads (s : State) (r : Run) (ws : List (BitVec 64)) : List Bead :=
  match r.item with
  | .pair a b =>
    let m := modeAt s (chunkOf s r.pos)
    (lineCells (groupSize m) (decide (a = b))).map (fun c => wordsBead m ws (c.1 * groupSize m + c.2))
  | .beam _ _ => []

/-- Shadow or drained beads reach the promotion staging of a logical frame's gallery. -/
def stageShadow (logical : Nat) (sh : Shadow) (s : State) : State :=
  match sh.run.item with
  | .pair a b => stageLine { pos := sh.run.pos, pair := pairIndex s a b, gallery := logical / 8
                             seen := sh.upTo - sh.run.lo, absent := sh.run.lost, beads := sh.beads } s
  | .beam _ _ => s

/-- Spectra of a run that were not admitted are accounted for as absent (R94, R105). -/
def stageAbsent (logical : Nat) (r : Run) (from_ : Nat) (s : State) : State :=
  match r.item with
  | .pair a b =>
    if from_ < r.hi then
      let n := (lineCells (groupSize (modeAt s (chunkOf s r.pos))) (decide (a = b))).length
      stageLine { pos := r.pos, pair := pairIndex s a b, gallery := logical / 8, seen := r.hi - from_
                  absent := r.hi - from_, beads := zeroBeads n } s
    else s
  | .beam set rk => beamRunDone r.pos set rk from_ from_ r.hi s

/-- Does a run wait for a tabulated weight block (07 R148)? -/
def lacksWeights (s : State) (r : Run) : Bool :=
  match r.item, beamPosAt s r.pos with
  | .beam set rk, some bp =>
    (bp.setParams.getD set {}).tabulated && !bp.weights.any (fun w => w.set == set && w.rank == rk)
  | _, _ => false

/-- The frame's next run starts, or stalls for its weights. -/
def startRun (k : Nat) (s : State) : State :=
  match frameAt s k with
  | some f => match f.runs.head? with
    | some r => modFrame k (fun f => { f with weightStall := lacksWeights s r }) s
    | none => modFrame k (fun f => { f with weightStall := false }) s
  | none => s

/-- What the shadow register of a frame holds after a run, or a drained part of one. -/
def shadowOf (s : State) (r : Run) (upTo_ : Nat) : Shadow :=
  match r.item with
  | .pair a b => { run := r, upTo := upTo_, beads := pairBeads s r a b upTo_ }
  | .beam _ _ => { run := r, upTo := upTo_, beads := [] }

/-- The frame's current run has admitted its last spectrum: handover, or a stall while the shadow beads are full. -/
def endRun (k : Nat) (s : State) : State :=
  match frameAt s k with
  | none => s
  | some f => match f.runs with
    | [] => s
    | r :: rest => match r.item with
      | .pair _ _ =>
        if f.shadow.isSome then modAba (abaCause 2) (modFrame k (fun f => { f with stalled := true }) s)
        else startRun k (modFrame k (fun f => { f with
          shadow := some (shadowOf s r r.hi), runs := rest, fresh := false, stalled := false }) s)
      | .beam set rk =>
        startRun k (modFrame k (fun f => { f with runs := rest, fresh := false }) (beamRunDone r.pos set rk r.lo r.hi r.hi s))

/-- May the frame's current run go on? -/
def runsOn (s : State) (f : Frame) : Bool :=
  decide (s.aba.state = .running) && s.aba.consuming && f.preempt.isNone && !f.stalled && !f.weightStall &&
  f.carried.isEmpty

/-- R93, R94: the run of served frame `k` ends. -/
def execRunHandover (k : Nat) (s : State) : Host.Outcome State Fault Refusal :=
  .next (match frameAt s k with
    | some f => if runsOn s f && !f.runs.isEmpty then endRun k s else s
    | none => s)

/-- Room that a frame's shadow beads need in promotion staging; a run that completes a line already there needs none (R97). -/
def shadowBytes (s : State) (sh : Shadow) : Nat :=
  match sh.run.item with
  | .pair a b =>
    if s.tal.staging.any (fun x => x.pos == sh.run.pos && x.pair == pairIndex s a b) then 0
    else stagedBytes (modeAt s (chunkOf s sh.run.pos)) { beads := sh.beads }
  | .beam _ _ => 0

/-- R93, R94, R106: the shadow beads of served frame `k` are empty, staging having room for them (R123); a stall ends, or drained beads follow them.
`cycles` frame-cycles were stalled. -/
def execShadowEmptied (k cycles : Nat) (s : State) : Host.Outcome State Fault Refusal :=
  .next (match frameAt s k with
    | some f => match f.shadow with
      | some sh =>
        if !stagingRoom s (modeAt s (chunkOf s sh.run.pos)) (f.logical / 8) (shadowBytes s sh) then s else
        let s := stageShadow f.logical sh s
        let next := f.second.map (fun x => { x with beads := contextBeads s x.run f.ctx1 })
        let s := modFrame k (fun f => { f with shadow := next, second := none, ctx1 := [], stalled := false }) s
        let n := if f.stalled then cycles else 0
        let s := modAba (fun a => { a with stallCycles := sat64 (a.stallCycles + n) }) s
        if f.stalled then endRun k s else s
      | none => s
    | none => s)

/-! Bead-store errors (R92). -/

/-- Is there a saved context in place `ctx` of a frame's bead store: 0 that of a preempted run, 1 that of drained beads (R104)? -/
def contextSaved (f : Frame) (ctx : Nat) : Bool :=
  if ctx = 0 then (match f.preempt with | some p => p.saved && !f.runs.isEmpty | none => false) else f.second.isSome

/-- Sums of a saved context are lost: its words become zero, and the run goes on from where it stood. The answer gives the
spectra lost, and their position. -/
def loseContext (k ctx : Nat) (s : State) : State × Nat × Nat :=
  match frameAt s k with
  | none => (s, 0, 0)
  | some f =>
    if ctx = 0 then
      match f.preempt, f.runs with
      | some p, r :: rest =>
        (modFrame k (fun f => { f with
            ctx0 := f.ctx0.map (fun _ => 0), runs := { r with lost := p.admitted - r.lo } :: rest }) s,
         p.admitted - r.lo - r.lost, r.pos)
      | _, _ => (s, 0, 0)
    else match f.second with
      | some sh =>
        (modFrame k (fun f => { f with
            ctx1 := f.ctx1.map (fun _ => 0), second := some { sh with run := { sh.run with lost := sh.upTo - sh.run.lo } } }) s,
         sh.upTo - sh.run.lo - sh.run.lost, sh.run.pos)
      | none => (s, 0, 0)

/-- R92: an error in context `ctx` of the bead store of served frame `k`, correctable or not. -/
def execBeadStoreError (k ctx : Nat) (ue : Bool) (s : State) : Host.Outcome State Fault Refusal :=
  .next (match frameAt s k with
    | none => s
    | some f =>
      let phys := fun (g : PhysFrame → PhysFrame) (s : State) => match physOf s f.logical with
        | some p => modAba (fun a => { a with phys := upd a.phys p g }) s
        | none => s
      if !ue then phys (fun p => { p with ceCount := min 0xFFFF (p.ceCount + 1), cause := setBits p.cause [0] }) s
      else if contextSaved f ctx then
        let r := loseContext k ctx s
        let s := phys (fun p => { p with cause := setBits p.cause [1] }) r.1
        let s := modAba (fun a => abaCause 5 { a with beadUe := sat32 (a.beadUe + 1) }) (markFault f.logical s)
        noteStat 3 r.2.1 r.2.2 0 (8192 * chunkOf s r.2.2) s
      else s)

/-! Prompt work (R100 to R103). -/

/-- u of the block's own parameters (R100). -/
def blockShare (s : State) (n : Nat) : Nat :=
  unitsPerFrame ((promptFor n).map (·.channels.length) |>.getD 0) ((s.aba.sched.map (·.ranks.length)).getD 0)
    s.aba.frames.length
where
  promptFor (block : Nat) : Option PromptParams :=
    match s.beams.nextPrompt with
    | some (k, p) => if 128 * k ≤ block then some p else s.beams.prompt
    | none => s.beams.prompt

def blockClosed (s : State) (n : Nat) : Bool := s.beams.jobs.any (fun j => j.num == n && j.closed.isSome)

/-- Has the frame admitted a spectrum of its slice in this interval? -/
def hasAdmitted (f : Frame) (admitted : Nat) : Bool :=
  !f.fresh || (match f.runs.head? with | some r => decide (r.lo < admitted) | none => false)

def sliceDone (s : State) (f : Frame) : Bool := f.runs.isEmpty || decide (s.aba.state ≠ .running)

/-- Cost of a preemption of `n` units and whether it saves the bead context (R101). -/
def preemptCost (s : State) (f : Frame) (admitted n : Nat) : Nat × Bool :=
  if sliceDone s f || !hasAdmitted f admitted then (128 * n + 136, false)
  else match f.runs.head? with
    | some r =>
      if admitted ≤ r.lo ∨ f.stalled ∨ r.hi ≤ admitted then (128 * n + 144, false)
      else match r.item with
        | .beam _ _ => (128 * n + 272, false)
        | .pair _ _ => (128 * n + 400, true)
    | none => (128 * n + 136, false)

/-- K′ of the configuration in force (R96). -/
def kNow (s : State) : Nat := match s.bun.active with | some b => kPrime b | none => 0

/-- S of the schedule in force. -/
def sNow (s : State) : Nat := match s.aba.sched with | some sc => sliceLen sc | none => 0

/-- What a preemption saves of the current run (R104). -/
def savedContext (s : State) (f : Frame) (admitted : Nat) (saved : Bool) : List (BitVec 64) :=
  match f.runs.head? with
  | some r => if saved then contextOf s r admitted else []
  | none => []

/-- The preemption of frame `k` for block `n` starts. -/
def startPreempt (k n : Nat) (us : List PbUnit) (admitted cost : Nat) (saved : Bool) (s : State) : State :=
  modAba (fun a => { a with preempts := sat64 (a.preempts + 1) })
    (modFrame k (fun f => { f with
      preempt := some { block := n, units := us, inRun := !sliceDone s f, admitted := admitted, saved := saved }
      ctx0 := savedContext s f admitted saved
      promptUsed := f.promptUsed + cost, deferred := f.deferred.filter (fun x => decide (x ≠ n))
      carried := f.carried.filter (fun x => decide (x ≠ n)), held := f.held.filter (fun x => decide (x.1 ≠ n)) }) s)

/-- R100, R103: frame `k` holds its share of block `n`, or the block has closed; the preemption starts or is deferred.
`admitted` is how far its current run has come. While the frame is preempted a second block waits: its latch follows (log 125). -/
def execPreemptionLatch (k n admitted : Nat) (s : State) : Host.Outcome State Fault Refusal :=
  .next (match frameAt s k with
    | none => s
    | some f => match f.held.find? (fun x => x.1 == n) with
      | none => s
      | some h =>
        if f.preempt.isSome ∨ f.deferred.contains n ∨ !(blockClosed s n || decide (blockShare s n ≤ h.2.length)) then s
        else
          let adm := match f.runs.head? with | some r => max r.lo (min r.hi admitted) | none => 0
          let c := preemptCost s f adm h.2.length
          if sliceDone s f || decide (f.promptUsed + c.1 ≤ kNow s - sNow s) then startPreempt k n h.2 adm c.1 c.2 s
          else modAba (fun a => abaCause 1 { a with promptDefer := sat32 (a.promptDefer + 1) })
            (modFrame k (fun f => { f with deferred := f.deferred ++ [n] }) s))

/-- The bead context is restored, and the run resumes at the next spectrum (R104). -/
def restoreRun (p : Preempt) (f : Frame) : Frame :=
  match p.saved, f.runs with
  | true, r :: rest => { f with preempt := none, ctx0 := [], runs := { r with base := f.ctx0, sumFrom := p.admitted } :: rest }
  | _, _ => { f with preempt := none }

/-- R100, R101: the next `done` units of the preemption have ended, and their cells are freed; with the last unit the
preemption ends. -/
def execPreemptionEnd (k done : Nat) (s : State) : Host.Outcome State Fault Refusal :=
  .next (match frameAt s k with
    | some f => match f.preempt with
      | some p =>
        let s := endUnits (p.units.take done) s
        if p.units.length ≤ done then modFrame k (restoreRun p) s
        else modFrame k (fun f => { f with preempt := some { p with units := p.units.drop done } }) s
      | none => s
    | none => s)

/-- R103: the oldest deferred work of frame `k` starts: its slice is finished, or the work was carried over a chunk boundary and
runs first. -/
def execPreemptionDeferredStart (k : Nat) (s : State) : Host.Outcome State Fault Refusal :=
  .next (match frameAt s k with
    | some f => match f.deferred with
      | n :: _ =>
        if f.preempt.isNone && (sliceDone s f || f.carried.contains n) then
          let us := ((f.held.find? (fun x => x.1 == n)).map (·.2)).getD []
          startPreempt k n us (match f.runs.head? with | some r => r.lo | none => 0) (128 * us.length + 136) false s
        else s
      | [] => s
    | none => s)

/-! Drain and overrun (R94, R105, R106). -/

/-- Spectra a frame's current run has admitted at a drain: all of them while it stalls at the run's end, those before
the preemption that interrupted it, else `admitted`. -/
def drainPoint (f : Frame) (r : Run) (admitted : Nat) : Nat :=
  if f.stalled then r.hi
  else match f.preempt with
    | some p => max r.lo (min r.hi (if p.inRun then p.admitted else admitted))
    | none => max r.lo (min r.hi admitted)

/-- The context of a run that is drained: what the bead store saved of it at a preemption, or its beads (R106). -/
def drainedContext (s : State) (f : Frame) (r : Run) (d : Nat) : List (BitVec 64) :=
  match f.preempt with
  | some p => if p.saved then f.ctx0 else contextOf s r d
  | none => contextOf s r d

/-- Drained beads follow the shadow beads; behind them they wait in the second context, and with both places taken they go
straight to staging. -/
def placeDrained (k : Nat) (f : Frame) (r : Run) (d : Nat) (s : State) : State :=
  let ws := drainedContext s f r d
  let sh : Shadow := { run := r, upTo := d }
  if f.shadow.isNone then modFrame k (fun f => { f with shadow := some { sh with beads := contextBeads s r ws } }) s
  else if f.second.isNone then modFrame k (fun f => { f with second := some sh, ctx1 := ws }) s
  else stageShadow f.logical { sh with beads := contextBeads s r ws } s

/-- A frame that stalls when it drains has stalled for `n` frame-cycles: for promotion (R94) or for weights (07 R148). -/
def countStall (f : Frame) (n : Nat) (s : State) : State :=
  let s := modAba (fun a => { a with stallCycles := sat64 (a.stallCycles + if f.stalled || f.weightStall then n else 0) }) s
  if f.weightStall ∧ n ≠ 0 then modBeams (fun x => beamCause 3 { x with wstall := sat32 (x.wstall + n) }) s else s

/-- A drain in one frame: what its current run has admitted is kept, and the rest of its slice is absent. A stall of `n`
frame-cycles ends. -/
def drainFrame (k admitted n : Nat) (s : State) : State :=
  match frameAt s k with
  | none => s
  | some f => match f.runs with
    | [] => s
    | r :: rest =>
      let d := drainPoint f r admitted
      let s := countStall f n s
      let s := match r.item with
        | .pair _ _ =>
          let s := if r.lo < d then placeDrained k f r d s else s
          stageAbsent f.logical r d s
        | .beam set rk => beamRunDone r.pos set rk r.lo d r.hi s
      let s := rest.foldl (fun s q => stageAbsent f.logical q q.lo s) s
      modFrame k (fun f => { f with
        runs := [], stalled := false, weightStall := false
        preempt := f.preempt.map (fun p => { p with saved := false, inRun := false }), ctx0 := [] }) s

/-- Spectra of each run of a frame's slice that a drain now would leave out. -/
def leftOut (f : Frame) (admitted : Nat) : List (WorkItem × Nat) :=
  match f.runs with
  | [] => []
  | r :: rest => (r.item, r.hi - drainPoint f r admitted) :: rest.map (fun q => (q.item, q.hi - q.lo))

def isPair : WorkItem → Bool
  | .pair _ _ => true
  | .beam _ _ => false

/-- Block-pair spectra that drains of every frame would leave out. -/
def pairsLeftOut (s : State) (admitted : List Nat) : List (WorkItem × Nat) :=
  (s.aba.frames.zipIdx.flatMap (fun x => leftOut x.1 (admitted.getD x.2 0))).filter (fun x => isPair x.1)

/-- R94: a frame with work left at a chunk boundary overruns. -/
def overrun (admitted stalls : List Nat) (s : State) : State :=
  let late := (upTo s.aba.frames.length).filter (fun k => match frameAt s k with
    | some f => !f.runs.isEmpty
    | none => false)
  if late.isEmpty then s else
    let n := ((pairsLeftOut s admitted).map (·.2)).sum
    let pos := s.aba.pos
    let s := late.foldl (fun s k =>
      let s := match frameAt s k with | some f => markFault f.logical s | none => s
      modAba (fun a => { a with overruns := sat32 (a.overruns + 1) }) (drainFrame k (admitted.getD k 0) (stalls.getD k 0) s)) s
    noteStat 3 n pos 0 (8192 * chunkOf s pos) (modAba (abaCause 3) s)

/-- DRAIN (R105): the drain is latched; the reply follows DRAIN_DONE. -/
def drainCmd (_ : Req) (_ : Nat) (s : State) : Out :=
  if s.aba.state = .running then
    { st := modAba (fun a => { a with state := .draining }) s, stay := some .committed }
  else notInState s

def execDrain (r : Req) (t : Nat) (s : State) : Host.Outcome State Fault Refusal :=
  .next (runCommand 0x0403 drainCmd r t s)

/-- Spectra of each block-pair admitted in the position drained (R107). -/
def drainCounts (s : State) (admitted : List Nat) : List ((Nat × Nat) × Nat) :=
  match s.aba.sched with
  | none => []
  | some sc =>
    let out := pairsLeftOut s admitted
    (pairList sc.mode sc.ranks sc.pGroups).map (fun p =>
      (p, if s.aba.consuming then
        8192 - ((out.filter (fun x => decide (x.1 = .pair p.1 p.2))).map (·.2)).sum else 0))

/-- The drain record of R107. -/
def drainRecord (s : State) (pos : Nat) (counts : List ((Nat × Nat) × Nat)) : List Byte :=
  leBytes 8 pos ++ leBytes 4 counts.length ++ leBytes 4 ((counts.map (·.2)).sum) ++
  counts.flatMap (fun c => leBytes 4 (2 ^ 21 * rankGroup s c.1.2 + 2 ^ 16 * rankGroup s c.1.1 + c.2 % 16384))

/-- Everything a frame holds after a drain reaches promotion staging (R105). -/
def flushFrame (k : Nat) (s : State) : State :=
  match frameAt s k with
  | none => s
  | some f =>
    let s := match f.shadow with | some sh => stageShadow f.logical sh s | none => s
    let s := match f.second with
      | some sh => stageShadow f.logical { sh with beads := contextBeads s sh.run f.ctx1 } s
      | none => s
    modFrame k (fun f => { f with shadow := none, second := none, ctx1 := [] }) s

/-- R107: the last frame finishes its drain. `admitted` gives, for each served frame, how far its run had come when the
drain was latched, and `stalls` the frame-cycles of a stall that the drain ended. -/
def execDrainDone (admitted stalls : List Nat) (t : Nat) (s : State) : Host.Outcome State Fault Refusal :=
  .next (if s.aba.state = .draining then
      let cut := s.aba.cut.getD { pos := consumePos s, counts := drainCounts s admitted }
      let pos := cut.pos
      let counts := cut.counts
      let total := (counts.map (·.2)).sum
      let s := { s with sys := { s.sys with sram := memWrite s.sys.sram 0x3F0000 (drainRecord s pos counts) } }
      let s := (upTo s.aba.frames.length).foldl (fun s k => flushFrame k (drainFrame k (admitted.getD k 0) (stalls.getD k 0) s)) s
      let s := modAba (fun a => abaCause 0 { a with state := .drained, cut := none, drainPos := pos, drainSamples := total % 2 ^ 32 }) s
      let s := modTal (fun a => { a with sweepDue := a.cur.isSome }) s
      finishOpen (isOp 0x0403) (fun _ => { result := fields [
        (24, leBytes 4 0x3F0000), (28, leBytes 4 (16 + 4 * counts.length)), (32, leBytes 8 pos), (40, leBytes 4 total)] }) t s
    else s)

/-! A position's consumption. -/

/-- The schedule that applies from a position, rebuilt where a changeover asked for it (R98). -/
def switchSched (j : Nat) (s : State) : State :=
  match s.aba.nextSched with
  | some (a, sc) =>
    if a ≤ 8192 * chunkOf s j then
      modBeams (fun b => { b with sets := b.sets.take sc.sets })
        (modAba (fun x => abaCause 4 { x with sched := some sc, nextSched := none }) s)
    else s
  | none => s

/-- Every frame takes its slice of position `j` (R95, R103). -/
def beginFrames (j : Nat) (s : State) : State :=
  match s.aba.sched with
  | none => s
  | some sc =>
    modAba (fun a => { a with
      pos := j, consuming := true, began := true
      frames := a.frames.zipIdx.map (fun x => { x.1 with
        runs := runsOf sc j x.2, fresh := true, stalled := false, weightStall := false, carried := x.1.deferred
        preempt := x.1.preempt.map (fun p => { p with inRun := true, admitted := 0, saved := false })
        promptUsed := match x.1.preempt with | some p => 128 * p.units.length + 136 | none => 0 }) }) s

/-- The first run of every frame starts, or stalls for its weights (07 R148). -/
def startFrames (s : State) : State := (upTo s.aba.frames.length).foldl (fun s k => startRun k s) s

def clearAba (a : Abacus) : Abacus :=
  { a with clearPending := false, preempts := 0, stallCycles := 0, promptDefer := 0, overruns := 0, beadUe := 0
           phys := a.phys.map (fun p => { p with ceCount := 0 }) }

/-- A write of CLEAR (R109, R451). -/
def abaClear (s : State) : State :=
  modAba (fun a => if s.hop.running then { a with clearPending := true } else clearAba a) s

def execAbaCounterClear (s : State) : Host.Outcome State Fault Refusal := .next (if dpRun s then abaClear s else s)

end Sys2Proof.Machine
end

