-- ==== Sys2Proof/Machine/Header.lean ====
section
/-! DEFINITION. Fields of Seam packet headers (03 Tables 3.2, 3.3, 3.6, 3.9, 3.10), read from header and payload bytes. -/

namespace Sys2Proof.Machine

def hVersion (b : List Byte) : Nat := bits (u8 b 0) 4 4
def hType (b : List Byte) : Nat := bits (u8 b 0) 0 4
def hFlags (b : List Byte) : Nat := u8 b 1
def hLength (b : List Byte) : Nat := beAt b 2 2
def hSource (b : List Byte) : Nat := bits (beAt b 4 3) 12 12
def hEpoch (b : List Byte) : Nat := bits (beAt b 4 3) 0 12
def hPayload (b : List Byte) : List Byte := b.drop 32

/-- DATA and PROMPT. -/
def hBlank (b : List Byte) : Nat := bits (hFlags b) 0 2
def hGroup (b : List Byte) : Nat := bits (u8 b 7) 0 5
def hChannel (b : List Byte) : Nat := bits (beAt b 8 2) 0 12
def hIndex (b : List Byte) : Nat := beAt b 10 8
def hCount (b : List Byte) : Nat := beAt b 18 2

/-- CONTROL. -/
def hMessage (b : List Byte) : Bool := bit (hFlags b) 2
def hSync (b : List Byte) : Bool := bit (hFlags b) 1
def hAckValid (b : List Byte) : Bool := bit (hFlags b) 0
def hDest (b : List Byte) : Nat := bits (beAt b 8 2) 0 12
def hSession (b : List Byte) : Nat := beAt b 10 2
def hSeq (b : List Byte) : Nat := beAt b 12 4
def hAckSession (b : List Byte) : Nat := beAt b 16 2
def hAck (b : List Byte) : Nat := beAt b 18 4

/-- LENGTH that TYPE and FLAGS require; none where the packet is malformed whatever its length (R47, R66). -/
def requiredLength (b : List Byte) : Option Nat :=
  match hType b with
  | 1 | 2 => match hBlank b with
    | 0 | 1 => some 4096
    | 2 => some 0
    | _ => none
  | 3 => some (if hMessage b then 72 else 0)
  | 4 => some 64
  | _ => none

/-- A malformed packet (R47). -/
def malformed (b : List Byte) : Bool :=
  decide (hVersion b ≠ 1) || decide (b.length ≠ 32 + hLength b) || decide (requiredLength b ≠ some (hLength b)) ||
  (decide (hType b = 1 ∨ hType b = 2) && (decide (hCount b ≠ 64) || decide (hIndex b % 64 ≠ 0)))

/-- Bytes 0 to 6 of a header the device builds (Table 3.2). -/
def commonHeader (typ flags len source epoch : Nat) : List Byte :=
  [BitVec.ofNat 8 (16 + typ), BitVec.ofNat 8 flags] ++ beBytes 2 len ++ beBytes 3 (source % 4096 * 4096 + epoch % 4096)

/-- Header and payload with their trailer: the CRC-32 over both, least significant byte first (R46). -/
def withTrailer (b : List Byte) : List Byte := b ++ leBytes 4 (crc32 b)

/-- A CONTROL packet (Table 3.6): `ack` is the session and number acknowledged. -/
def controlPacket (source epoch dest session seq : Nat) (sync : Bool) (ack : Option (Nat × Nat))
    (msg : Option (List Byte)) : List Byte :=
  let pl := msg.getD []
  withTrailer (commonHeader 3 (4 * b2n msg.isSome + 2 * b2n sync + b2n ack.isSome) pl.length source epoch ++ [0] ++
    beBytes 2 (dest % 4096) ++ beBytes 2 session ++ beBytes 4 seq ++
    beBytes 2 (ack.getD (0, 0)).1 ++ beBytes 4 (ack.getD (0, 0)).2 ++ List.replicate 10 0 ++ pl)

/-- A BEACON packet (Table 3.10). -/
def beaconPacket (source epoch dest : Nat) (body : List Byte) : List Byte :=
  withTrailer (commonHeader 4 0 64 source epoch ++ [0] ++ beBytes 2 (dest % 4096) ++ List.replicate 22 0 ++ padTo 64 body)

/-- An output packet (Table 3.9). -/
def outputPacket (typ flags source epoch path seq sid ref tword : Nat) (pl : List Byte) : List Byte :=
  withTrailer (commonHeader typ flags pl.length source epoch ++ [BitVec.ofNat 8 path] ++ beBytes 6 seq ++ beBytes 2 sid ++
    beBytes 8 ref ++ beBytes 8 tword ++ pl)

end Sys2Proof.Machine
end

