-- ==== Sys2Proof/Machine/Ether.lean ====
section
/-! DEFINITION. Ethernet frames of the management ports, from their destination address on, without the frame check sequence
(16 R380; 13 R312, Table 13.12). -/

namespace Sys2Proof.Machine

/-- The ones' complement of a sum of 16-bit words, carries folded. -/
def foldSum (v : Nat) : Nat :=
  let v := v % 65536 + v / 65536
  65535 - (v % 65536 + v / 65536)

/-- The 16-bit words of a message, padded to an even length. -/
def netWords (b : List Byte) : List Nat := (upTo ((b.length + 1) / 2)).map (fun i => beAt (b ++ [0]) (2 * i) 2)

/-- The ones' complement checksum of a message. -/
def inetSum (b : List Byte) : Nat := foldSum (netWords b).sum

/-- The reply to an ARP request for the device's address (RFC 826). -/
def arpReply (mac ip : Nat) (f : List Byte) : Option (List Byte) :=
  if beAt f 12 2 = 0x0806 ∧ beAt f 14 2 = 1 ∧ beAt f 16 2 = 0x0800 ∧ beAt f 18 2 = 0x0604 ∧ beAt f 20 2 = 1 ∧
      beAt f 38 4 = ip then
    some ((f.drop 6).take 6 ++ beBytes 6 mac ++ (f.drop 12).take 8 ++ beBytes 2 2 ++ beBytes 6 mac ++ beBytes 4 ip ++
      (f.drop 22).take 10)
  else none

/-- The reply to an ICMP echo request to the device's address (RFC 792); fragments are discarded. -/
def echoReply (mac ip : Nat) (f : List Byte) : Option (List Byte) :=
  let h := 14 + 4 * (u8 f 14 % 16)
  let msg := (f.drop h).take (14 + beAt f 16 2 - h)
  if beAt f 12 2 = 0x0800 ∧ u8 f 14 / 16 = 4 ∧ u8 f 23 = 1 ∧ beAt f 20 2 % 16384 = 0 ∧ beAt f 30 4 = ip ∧ beAt msg 0 2 = 0x0800 then
    let zero := beBytes 4 0 ++ msg.drop 4
    some ((f.drop 6).take 6 ++ beBytes 6 mac ++ (f.drop 12).take 14 ++ (f.drop 30).take 4 ++ (f.drop 26).take 4 ++
      (f.drop 34).take (h - 34) ++ beBytes 2 0 ++ beBytes 2 (inetSum zero) ++ msg.drop 4)
  else none

/-- Where the EtherType stands; one 802.1Q tag is accepted. -/
def typeAt (f : List Byte) : Nat := if beAt f 12 2 = 0x8100 then 16 else 12

/-! UDP datagrams (16 R380). -/

/-- A UDP datagram to the address `ip`, whole, unfragmented and with its checksum right where it has one: source address and
port, destination port, and payload. -/
def udpDatagram (ip : Nat) (f : List Byte) : Option (Nat × Nat × Nat × List Byte) :=
  let h := typeAt f + 2
  let u := h + 4 * (u8 f h % 16)
  let len := beAt f (u + 4) 2
  let msg := (f.drop u).take len
  let pseudo := (f.drop (h + 12)).take 8 ++ beBytes 2 17 ++ beBytes 2 len
  if beAt f (h - 2) 2 = 0x0800 ∧ u8 f h / 16 = 4 ∧ u8 f (h + 9) = 17 ∧ beAt f (h + 6) 2 % 16384 = 0 ∧ beAt f (h + 16) 4 = ip ∧
      8 ≤ len ∧ msg.length = len ∧ (beAt msg 6 2 = 0 ∨ inetSum (pseudo ++ msg) = 0) then
    some (beAt f (h + 12) 4, beAt f u 2, beAt f (u + 2) 2, msg.drop 8)
  else none

/-! PTP messages passed on (13 R312). -/

/-- Where a frame's PTP message begins, and where its UDP checksum stands if it has one; none where it carries no PTP. -/
def ptpAt (f : List Byte) : Option (Nat × Option Nat) :=
  let e := typeAt f
  let udp := e + 2 + 4 * (u8 f (e + 2) % 16)
  if beAt f e 2 = 0x88F7 then some (e + 2, none)
  else if beAt f e 2 = 0x0800 ∧ u8 f (e + 2) / 16 = 4 ∧ u8 f (e + 11) = 17 ∧
      (beAt f (udp + 2) 2 = 319 ∨ beAt f (udp + 2) 2 = 320) then some (udp + 8, some (udp + 6))
  else none

/-- The checksum `c` after words `old` of what it covers became `new`; 0 stays 0, for no checksum. -/
def newChecksum (c : Nat) (old new : List Nat) : Nat :=
  if c = 0 then 0
  else
    let v := foldSum (65535 - c + (old.map (65535 - ·)).sum + new.sum)
    if v = 0 then 65535 else v

/-- A PTP frame as it is passed on: a Sync or Delay_Req (message types 0 and 1) with its residence time, in 2^-16 ns, added to
correctionField, and any other message unchanged. -/
def tcFrame (residence : Int) (f : List Byte) : List Byte :=
  match ptpAt f with
  | none => f
  | some (p, sum) =>
    if u8 f p % 16 ≤ 1 then
      let old := (f.drop (p + 8)).take 8
      let new := beBytes 8 (wrap 64 (signed 64 (beAt f (p + 8) 8) + residence))
      let g := overlay f (p + 8) new
      match sum with
      | some c => overlay g c (beBytes 2 (newChecksum (beAt f c 2) (netWords old) (netWords new)))
      | none => g
    else f

/-- A Sync or a Delay_Req. -/
def tcEvent (f : List Byte) : Bool :=
  match ptpAt f with
  | some (p, _) => decide (u8 f p % 16 ≤ 1)
  | none => false

end Sys2Proof.Machine
end

