-- ==== Sys2Proof/Machine/AyrCode.lean ====
section
/-! DEFINITION. Assayer instructions and their encodings (09 Tables 9.2 to 9.4). -/

namespace Sys2Proof.Machine

/-- Functions of Table 9.4 with two sources. -/
inductive AluFn where
  | add | sub | and | or | xor | shl | shra | shrl | slt | sltu | min | max
  deriving DecidableEq, Repr

/-- ADDI, ANDI, ORI, XORI. -/
inductive ImmFn where
  | add | and | or | xor
  deriving DecidableEq, Repr

/-- SHLI, SHRAI, SHRLI. -/
inductive ShiftFn where
  | shl | shra | shrl
  deriving DecidableEq, Repr

/-- MUL, MAC, MSU. -/
inductive MacFn where
  | mul | mac | msu
  deriving DecidableEq, Repr

/-- LD, LDH, ST, STH. -/
inductive MemFn where
  | ld | ldh | st | sth
  deriving DecidableEq, Repr

/-- Conditions of BEQZ, BNEZ, BLTZ, BGEZ. -/
inductive BrFn where
  | eqz | nez | ltz | gez
  deriving DecidableEq, Repr

/-- An instruction of an Assayer. -/
inductive AyrOp where
  | alu (f : AluFn) (dd ds dt : BitVec 4)
  | abs (dd ds : BitVec 4)
  | imm (f : ImmFn) (dd ds : BitVec 4) (i : BitVec 18)
  | shift (f : ShiftFn) (dd ds : BitVec 4) (sh : BitVec 5)
  | movi (dd : BitVec 4) (i : BitVec 22)
  | movhi (dd : BitVec 4) (i : BitVec 16)
  | mac (f : MacFn) (ds dt : BitVec 4) (hs ht lden : Bool) (al : BitVec 3) (dl : BitVec 4)
  | mova (dd : BitVec 4) (sh : BitVec 5)
  | mfah (dd : BitVec 4)
  | mta (ds dt : BitVec 4)
  | clra
  | mem (f : MemFn) (d : BitVec 4) (a : BitVec 3) (post : Bool) (off : BitVec 18)
  | movai (a : BitVec 3) (i : BitVec 17)
  | adda (a : BitVec 3) (off : BitVec 18)
  | movda (a : BitVec 3) (d : BitVec 4)
  | movad (d : BitVec 4) (a : BitVec 3)
  | br (target : BitVec 14)
  | brc (f : BrFn) (d : BitVec 4) (target : BitVec 14)
  | call (target : BitVec 14)
  | jr (d : BitVec 4)
  | loop (d : BitVec 4) (stop : BitVec 14)
  | loopi (count : BitVec 12) (stop : BitVec 14)
  | mtl (r : LoopReg) (d : BitVec 4)
  | mfl (d : BitVec 4) (r : LoopReg)
  | pin (d : BitVec 4) (port : BitVec 8)
  | pout (d : BitVec 4) (port : BitVec 8)
  | nop | ei | di | wait | reti | halt
  deriving DecidableEq, Repr

/-- FN of Table 9.4. -/
def aluOfFn : Nat → Option AluFn
  | 0 => some .add | 1 => some .sub | 2 => some .and | 3 => some .or | 4 => some .xor | 5 => some .shl | 6 => some .shra
  | 7 => some .shrl | 8 => some .slt | 9 => some .sltu | 10 => some .min | 11 => some .max
  | _ => none

def loopRegOf : Nat → LoopReg
  | 0 => .lc | 1 => .ls | 2 => .le
  | _ => .epc

/-- Bits `lo + w - 1 … lo` of a word. -/
def field (v : W32) (lo w : Nat) : BitVec w := v.extractLsb' lo w

/-- The bits are all 0. -/
def zeroBits (v : W32) (lo w : Nat) : Bool := decide (field v lo w = 0)

def opIf (b : Bool) (o : AyrOp) : Option AyrOp := if b then some o else none

/-- Formats L and B, OP 0x18 to 0x29. -/
def decodeMem (v : W32) : Option AyrOp :=
  let d := field v 22 4
  let a := field v 19 3
  let m := fun (f : MemFn) => some (AyrOp.mem f d a (v.getLsbD 18) (field v 0 18))
  let t := field v 0 14
  let z := zeroBits v 14 8
  match (field v 26 6).toNat with
  | 0x18 => m .ld | 0x19 => m .ldh | 0x1A => m .st | 0x1B => m .sth
  | 0x1C => opIf (zeroBits v 22 4 && zeroBits v 17 2) (.movai a (field v 0 17))
  | 0x1D => opIf (zeroBits v 22 4 && zeroBits v 18 1) (.adda a (field v 0 18))
  | 0x1E => opIf (zeroBits v 0 19) (.movda a d)
  | 0x1F => opIf (zeroBits v 0 19) (.movad d a)
  | 0x20 => opIf (zeroBits v 14 12) (.br t)
  | 0x21 => opIf z (.brc .eqz d t)
  | 0x22 => opIf z (.brc .nez d t)
  | 0x23 => opIf z (.brc .ltz d t)
  | 0x24 => opIf z (.brc .gez d t)
  | 0x25 => opIf (zeroBits v 14 12) (.call t)
  | 0x26 => opIf (zeroBits v 0 22) (.jr d)
  | 0x28 => opIf z (.loop d t)
  | 0x29 => some (.loopi (field v 14 12) t)
  | _ => none

/-- Formats R, I, W and M, OP 0x00 to 0x14. -/
def decodeAlu (v : W32) : Option AyrOp :=
  let dd := field v 22 4
  let ds := field v 18 4
  let dt := field v 14 4
  let i := field v 0 18
  let sh := fun (f : ShiftFn) => opIf (zeroBits v 5 13) (.shift f dd ds (field v 0 5))
  match (field v 26 6).toNat with
  | 0x00 =>
    if !zeroBits v 6 8 then none
    else if (field v 0 6).toNat = 12 then opIf (zeroBits v 14 4) (.abs dd ds)
    else (aluOfFn (field v 0 6).toNat).map (fun f => .alu f dd ds dt)
  | 0x01 => some (.imm .add dd ds i)
  | 0x02 => some (.imm .and dd ds i)
  | 0x03 => some (.imm .or dd ds i)
  | 0x04 => some (.imm .xor dd ds i)
  | 0x05 => sh .shl | 0x06 => sh .shra | 0x07 => sh .shrl
  | 0x08 => some (.movi dd (field v 0 22))
  | 0x09 => opIf (zeroBits v 16 6) (.movhi dd (field v 0 16))
  | 0x10 =>
    let m := fun (f : MacFn) => opIf (zeroBits v 22 4 && zeroBits v 0 2)
      (.mac f ds dt (v.getLsbD 13) (v.getLsbD 12) (v.getLsbD 9) (field v 6 3) (field v 2 4))
    match (field v 10 2).toNat with
    | 0 => m .mul | 1 => m .mac | 2 => m .msu
    | _ => none
  | 0x11 => opIf (zeroBits v 5 17) (.mova dd (field v 0 5))
  | 0x12 => opIf (zeroBits v 0 22) (.mfah dd)
  | 0x13 => opIf (zeroBits v 22 4 && zeroBits v 0 14) (.mta ds dt)
  | 0x14 => opIf (zeroBits v 0 26) .clra
  | _ => none

/-- Format P and the instructions without fields, OP 0x2A to 0x3D. -/
def decodeRest (v : W32) : Option AyrOp :=
  let d := field v 22 4
  let z := zeroBits v 0 26
  match (field v 26 6).toNat with
  | 0x2A => opIf (zeroBits v 2 20) (.mtl (loopRegOf (field v 0 2).toNat) d)
  | 0x2B => opIf (zeroBits v 2 20) (.mfl d (loopRegOf (field v 0 2).toNat))
  | 0x30 => opIf (zeroBits v 8 14) (.pin d (field v 0 8))
  | 0x31 => opIf (zeroBits v 8 14) (.pout d (field v 0 8))
  | 0x38 => opIf z .nop
  | 0x39 => opIf z .ei
  | 0x3A => opIf z .di
  | 0x3B => opIf z .wait
  | 0x3C => opIf z .reti
  | 0x3D => opIf z .halt
  | _ => none

/-- R184, R185: the instruction that a word is; none for an ILLEGAL one. -/
def decodeAyr (v : W32) : Option AyrOp :=
  let op := (field v 26 6).toNat
  if op < 0x18 then decodeAlu v else if op < 0x2A then decodeMem v else decodeRest v

/-! Encodings, written out of the same tables. -/

/-- A field placed with its lowest bit at `lo`. -/
def place {w : Nat} (lo : Nat) (x : BitVec w) : W32 := x.zeroExtend 32 <<< lo

/-- OP in bits [31:26]. -/
def opBits (op : BitVec 6) : W32 := place 26 op

def bitOf (b : Bool) : BitVec 1 := if b then 1 else 0

/-- FN of Table 9.4. -/
def AluFn.fn : AluFn → BitVec 6
  | .add => 0 | .sub => 1 | .and => 2 | .or => 3 | .xor => 4 | .shl => 5 | .shra => 6 | .shrl => 7 | .slt => 8 | .sltu => 9
  | .min => 10 | .max => 11

def ImmFn.op : ImmFn → BitVec 6
  | .add => 0x01 | .and => 0x02 | .or => 0x03 | .xor => 0x04

def ShiftFn.op : ShiftFn → BitVec 6
  | .shl => 0x05 | .shra => 0x06 | .shrl => 0x07

def MacFn.fn : MacFn → BitVec 2
  | .mul => 0 | .mac => 1 | .msu => 2

def MemFn.op : MemFn → BitVec 6
  | .ld => 0x18 | .ldh => 0x19 | .st => 0x1A | .sth => 0x1B

def BrFn.op : BrFn → BitVec 6
  | .eqz => 0x21 | .nez => 0x22 | .ltz => 0x23 | .gez => 0x24

def LoopReg.code : LoopReg → BitVec 2
  | .lc => 0 | .ls => 1 | .le => 2 | .epc => 3

/-- The word of an instruction (Tables 9.2 to 9.4). -/
def encodeAyr : AyrOp → W32
  | .alu f dd ds dt => opBits 0x00 ||| place 22 dd ||| place 18 ds ||| place 14 dt ||| place 0 f.fn
  | .abs dd ds => opBits 0x00 ||| place 22 dd ||| place 18 ds ||| 12
  | .imm f dd ds i => opBits f.op ||| place 22 dd ||| place 18 ds ||| place 0 i
  | .shift f dd ds sh => opBits f.op ||| place 22 dd ||| place 18 ds ||| place 0 sh
  | .movi dd i => opBits 0x08 ||| place 22 dd ||| place 0 i
  | .movhi dd i => opBits 0x09 ||| place 22 dd ||| place 0 i
  | .mac f ds dt hs ht lden al dl =>
    opBits 0x10 ||| place 18 ds ||| place 14 dt ||| place 13 (bitOf hs) ||| place 12 (bitOf ht) ||| place 10 f.fn |||
    place 9 (bitOf lden) ||| place 6 al ||| place 2 dl
  | .mova dd sh => opBits 0x11 ||| place 22 dd ||| place 0 sh
  | .mfah dd => opBits 0x12 ||| place 22 dd
  | .mta ds dt => opBits 0x13 ||| place 18 ds ||| place 14 dt
  | .clra => opBits 0x14
  | .mem f d a post off => opBits f.op ||| place 22 d ||| place 19 a ||| place 18 (bitOf post) ||| place 0 off
  | .movai a i => opBits 0x1C ||| place 19 a ||| place 0 i
  | .adda a off => opBits 0x1D ||| place 19 a ||| place 0 off
  | .movda a d => opBits 0x1E ||| place 22 d ||| place 19 a
  | .movad d a => opBits 0x1F ||| place 22 d ||| place 19 a
  | .br t => opBits 0x20 ||| place 0 t
  | .brc f d t => opBits f.op ||| place 22 d ||| place 0 t
  | .call t => opBits 0x25 ||| place 0 t
  | .jr d => opBits 0x26 ||| place 22 d
  | .loop d e => opBits 0x28 ||| place 22 d ||| place 0 e
  | .loopi n e => opBits 0x29 ||| place 14 n ||| place 0 e
  | .mtl r d => opBits 0x2A ||| place 22 d ||| place 0 r.code
  | .mfl d r => opBits 0x2B ||| place 22 d ||| place 0 r.code
  | .pin d p => opBits 0x30 ||| place 22 d ||| place 0 p
  | .pout d p => opBits 0x31 ||| place 22 d ||| place 0 p
  | .nop => opBits 0x38
  | .ei => opBits 0x39
  | .di => opBits 0x3A
  | .wait => opBits 0x3B
  | .reti => opBits 0x3C
  | .halt => opBits 0x3D

/-- The branch class of Table 9.5. -/
def AyrOp.isBranch : AyrOp → Bool
  | .br _ | .brc _ _ _ | .call _ | .jr _ | .reti | .loop _ _ | .loopi _ _ => true
  | _ => false

/-- What R189 asks of the instruction. -/
def AyrOp.kind : AyrOp → AyrKind
  | .mac _ _ _ _ _ lden _ _ => { long := true, short := lden }
  | .mta _ _ | .clra | .mtl _ _ => { long := true }
  | .mem .ld _ _ _ _ | .mem .ldh _ _ _ _ | .pin _ _ | .pout _ _ => { short := true }
  | o => { long := o.isBranch }

/-- Reads a DMEM word: a load, or the read half of a halfword store (R192). -/
def AyrOp.readsMem : AyrOp → Bool
  | .mac _ _ _ _ _ lden _ _ => lden
  | .mem .st _ _ _ _ => false
  | .mem _ _ _ _ _ => true
  | _ => false

end Sys2Proof.Machine
end

