-- ==== Sys2Proof/Machine/Assayer.lean ====
section
/-! DEFINITION. The Assayer cores (09): registers, pipeline, ports, loading and running. -/

namespace Sys2Proof.Machine

def ayrCause (k : Nat) (c : AyrCore) : AyrCore := { c with cause := setBits c.cause [k] }

/-! Registers and memories. -/

def getD_ (c : AyrCore) (r : BitVec 4) : W32 := c.d.getD r.toNat 0
def setD (r : BitVec 4) (v : W32) (c : AyrCore) : AyrCore := { c with d := upd c.d r.toNat (fun _ => v) }
def getA (c : AyrCore) (r : BitVec 3) : BitVec 17 := c.a.getD r.toNat 0
def setA (r : BitVec 3) (v : BitVec 17) (c : AyrCore) : AyrCore := { c with a := upd c.a r.toNat (fun _ => v) }

/-- HALT, which IMEM holds where nothing was loaded. -/
def haltWord : W32 := 0xF4000000

def imemAt (c : AyrCore) (pc : BitVec 14) : W32 := memGet haltWord c.imem pc.toNat

/-- The word of DMEM that holds a byte address: bits [1:0] are ignored (R183). -/
def dmemWord (c : AyrCore) (x : BitVec 17) : W32 :=
  BitVec.ofNat 32 (leAt (memRead c.dmem (4 * (x.toNat / 4)) 4) 0 4)

def dmemHalf (c : AyrCore) (x : BitVec 17) : W32 :=
  (BitVec.ofNat 16 (leAt (memRead c.dmem (2 * (x.toNat / 2)) 2) 0 2)).signExtend 32

def setDmem (addr n : Nat) (v : W32) (c : AyrCore) : AyrCore := { c with dmem := memWrite c.dmem addr (leBytes n v.toNat) }

/-! Arithmetic (R183). -/

def aluVal (f : AluFn) (x y : W32) : W32 :=
  let n := (y.toNat % 32)
  match f with
  | .add => x + y
  | .sub => x - y
  | .and => x &&& y
  | .or => x ||| y
  | .xor => x ^^^ y
  | .shl => x <<< n
  | .shra => x.sshiftRight n
  | .shrl => x >>> n
  | .slt => if x.slt y then 1 else 0
  | .sltu => if x.ult y then 1 else 0
  | .min => if x.slt y then x else y
  | .max => if x.slt y then y else x

def immVal (f : ImmFn) (x : W32) (i : BitVec 18) : W32 :=
  match f with
  | .add => x + i.signExtend 32
  | .and => x &&& i.zeroExtend 32
  | .or => x ||| i.zeroExtend 32
  | .xor => x ^^^ i.zeroExtend 32

def shiftVal (f : ShiftFn) (x : W32) (sh : BitVec 5) : W32 :=
  match f with
  | .shl => x <<< sh.toNat
  | .shra => x.sshiftRight sh.toNat
  | .shrl => x >>> sh.toNat

/-- Half 0 is bits [15:0], half 1 is bits [31:16]. -/
def half (x : W32) (h : Bool) : Int := if h then (x.extractLsb' 16 16).toInt else (x.extractLsb' 0 16).toInt

/-- The exact value of an ACC update. -/
def macVal (f : MacFn) (acc : BitVec 40) (p : Int) : Int :=
  match f with
  | .mul => p
  | .mac => acc.toInt + p
  | .msu => acc.toInt - p

/-- ACC takes a value modulo 2^40; one that wraps sets ACC_OV. -/
def setAcc (v : Int) (c : AyrCore) : AyrCore :=
  let w := BitVec.ofInt 40 v
  { c with acc := w, accOv := c.accOv || decide (w.toInt ≠ v) }

/-- MOVA reads ACC bits [SH + 31 : SH], bit 39 repeated above bit 39. -/
def accWindow (acc : BitVec 40) (sh : Nat) : W32 := (acc.sshiftRight sh).truncate 32

/-- MFAH reads ACC[39:32], sign-extended. -/
def accHigh (acc : BitVec 40) : W32 := (acc.extractLsb' 32 8).signExtend 32

def branchTaken (f : BrFn) (x : W32) : Bool :=
  match f with
  | .eqz => decide (x = 0)
  | .nez => decide (x ≠ 0)
  | .ltz => decide (x.toInt < 0)
  | .gez => decide (0 ≤ x.toInt)

/-! Loop and exception registers. -/

def getLoop (c : AyrCore) : LoopReg → W32
  | .lc => c.lc
  | .ls => c.ls.zeroExtend 32
  | .le => c.le.zeroExtend 32
  | .epc => c.epc.zeroExtend 32

def setLoop (r : LoopReg) (v : W32) (c : AyrCore) : AyrCore :=
  match r with
  | .lc => { c with lc := v }
  | .ls => { c with ls := v.truncate 14 }
  | .le => { c with le := v.truncate 14 }
  | .epc => { c with epc := v.truncate 14 }

/-- The check of R188 at the fetch from PC: the core after it, and the next fetch. -/
def loopCheck (c : AyrCore) : AyrCore × BitVec 14 :=
  if c.pc = c.le ∧ c.lc ≠ 0 then
    ({ c with lc := c.lc - 1 }, if c.lc = 1 then c.le + 1 else c.ls)
  else (c, c.pc + 1)

/-- A load that completes after the next instruction (R186). -/
def commitLoad (c : AyrCore) : AyrCore :=
  match c.load with
  | some (r, v) => setD r v { c with load := none }
  | none => c

/-- MTL writes one fetch older: those two fetches old apply (R186). -/
def ageMtl (c : AyrCore) : AyrCore :=
  let due := c.mtl.filter (fun m => decide (m.2.2 ≤ 1))
  due.foldl (fun c m => setLoop m.1 m.2.1 c)
    { c with mtl := (c.mtl.filter (fun m => decide (1 < m.2.2))).map (fun m => (m.1, m.2.1, m.2.2 - 1)) }

/-- Every earlier instruction completes. -/
def drainCore (c : AyrCore) : AyrCore :=
  let c := commitLoad c
  let c := c.mtl.foldl (fun c m => setLoop m.1 m.2.1 c) c
  { c with mtl := [], acc1 := c.acc, acc2 := c.acc, portOld := [] }

/-- One core cycle: CYCLE, AYR_CYCLES and TICK (Table 9.6). -/
def tickOnce (c : AyrCore) : AyrCore :=
  { c with
    cycle := (c.cycle + 1) % 2 ^ 64, cycles := sat64 (c.cycles + 1), tick := c.tick - 1
    tickCause := c.tickCause || decide (c.tick = 1)
    stopCycles := if c.stopPending then c.stopCycles + 1 else c.stopCycles }

/-- `n` core cycles. -/
def tickMany (n : Nat) (c : AyrCore) : AyrCore :=
  { c with
    cycle := (c.cycle + n) % 2 ^ 64, cycles := sat64 (c.cycles + n), tick := c.tick - n
    tickCause := c.tickCause || (decide (c.tick ≠ 0) && decide (c.tick ≤ n))
    stopCycles := if c.stopPending then c.stopCycles + n else c.stopCycles }

/-! Interrupts and stops. -/

/-- ICAUSE: EVENT, TICK, INBOX (Table 9.6). -/
def icause (s : State) (a : Nat) : Nat :=
  let c := ayrAt s a
  b2n (!(s.assay.queues.getD a []).isEmpty) + 2 * b2n c.tickCause + 4 * b2n (!c.inbox.isEmpty)

/-- ICAUSE AND IMASK ≠ 0. -/
def causePending (s : State) (a : Nat) : Bool := decide (icause s a &&& (ayrAt s a).imask ≠ 0)

/-- The boundary before the next instruction is interruptible (R189). -/
def interruptible (c : AyrCore) : Bool := !c.prev1.long && !c.prev2.long && !c.prev1.short && !c.started

/-- An interrupt is taken at the boundary before the next instruction. -/
def intDue (s : State) (a : Nat) : Bool :=
  let c := ayrAt s a
  c.ie && interruptible c && causePending s a

/-- A STOP takes effect at the boundary before the next instruction (Table 9.9). -/
def stopDue (c : AyrCore) : Bool := c.stopPending && interruptible c

/-- The interrupt is taken at address `at_` (R189); the ACC writers before it have settled (R190). -/
def enterInterrupt (at_ : BitVec 14) (c : AyrCore) : AyrCore :=
  tickOnce (tickOnce { c with acc1 := c.acc, acc2 := c.acc, epc := at_, ie := false, pc := 4, prev1 := {}, prev2 := {}, started := false, portOld := [] })

/-- ILLEGAL by place or operands: R187, R188. -/
def illegalHere (c : AyrCore) (op : AyrOp) : Bool :=
  match op with
  | .wait | .halt => decide (c.slots ≠ 0)
  | .loop _ e | .loopi _ e => decide (c.slots ≠ 0) || decide (e.toNat < (c.pc + 3).toNat)
  | _ => op.isBranch && decide (c.slots ≠ 0)

/-! Ports. -/

/-- The 16 bytes of an event record (08 Table 8.3). -/
def eventBytes (e : AssayEvent) : List Byte :=
  leBytes 8 e.stamp ++ leBytesI 4 e.value ++ leBytes 2 (e.series % 1024) ++ leBytes 1 e.kind ++
  leBytes 1 (16 * b2n e.saturated + 8 * b2n e.lost + 4 * b2n e.frozen + 2 * b2n e.isPartial + b2n e.settling)

def wordOf (n : Nat) : W32 := BitVec.ofNat 32 n

/-- What a port reads as; `now` is the spectrum number current (Table 9.6). -/
def portValue (s : State) (a port now : Nat) : W32 :=
  let c := ayrAt s a
  let q := s.assay.queues.getD a []
  let head := match q with
    | e :: _ => eventBytes e
    | [] => []
  match port with
  | 0x00 => wordOf (a + 256)
  | 0x01 => wordOf c.boot
  | 0x02 => wordOf (c.cycle + 3)
  | 0x03 => c.cycleHi
  | 0x04 => wordOf now
  | 0x05 => c.nowHi
  | 0x06 => wordOf c.tick
  | 0x07 => wordOf (b2n c.accOv)
  | 0x08 => wordOf (icause s a)
  | 0x09 => wordOf c.imask
  | 0x10 => wordOf q.length
  | 0x11 => wordOf (u32 head 0)
  | 0x12 => wordOf (u32 head 4)
  | 0x13 => wordOf (u32 head 8)
  | 0x14 => wordOf (u32 head 12)
  | 0x18 => wordOf c.injSeries
  | 0x19 => wordOf c.injStamp
  | 0x1A => wordOf (c.injStamp / 2 ^ 32)
  | 0x20 => wordOf c.frzStamp
  | 0x21 => wordOf (c.frzStamp / 2 ^ 32)
  | 0x28 => wordOf c.trqStamp
  | 0x29 => wordOf (c.trqStamp / 2 ^ 32)
  | 0x2A => wordOf c.trqInfo
  | 0x2C => wordOf (16 - c.requests.length)
  | 0x39 => wordOf (16 - c.outbox.length)
  | 0x3C => wordOf c.inbox.length
  | p => if 0x40 ≤ p ∧ p ≤ 0x47 then (c.inbox.headD []).getD (p - 0x40) 0 else 0

/-- Ports whose value a write to a port can change. -/
def affectedPorts (port : Nat) : List Nat :=
  match port with
  | 0x06 => [0x06, 0x08]
  | 0x07 => [0x07]
  | 0x08 => [0x08]
  | 0x09 => [0x09]
  | 0x15 => [0x08, 0x10, 0x11, 0x12, 0x13, 0x14]
  | 0x18 => [0x18]
  | 0x19 | 0x1A | 0x1B => [0x19, 0x1A]
  | 0x20 | 0x21 => [0x20, 0x21]
  | 0x28 | 0x29 => [0x28, 0x29]
  | 0x2A => [0x2A]
  | 0x2B => [0x2C]
  | 0x38 => [0x39]
  | 0x3D => [0x08, 0x3C, 0x40, 0x41, 0x42, 0x43, 0x44, 0x45, 0x46, 0x47]
  | _ => []

/-- A rejected injection, freeze or IMEM write (R193, R196, R197). -/
def rejectAyr (c : AyrCore) : AyrCore := ayrCause 4 { c with reject := sat32 (c.reject + 1) }

def setLow (old v : Nat) : Nat := old / 2 ^ 32 * 2 ^ 32 + v % 2 ^ 32
def setHigh (old v : Nat) : Nat := v % 2 ^ 32 * 2 ^ 32 + old % 2 ^ 32

/-- EV_FREE (R195). -/
def freeEvent (a : Nat) (s : State) : State :=
  modAssay (fun x => { x with queues := upd x.queues a (fun q => q.drop 1) }) s

/-- INJ_VALUE (R196). -/
def injectValue (a : Nat) (v : W32) (s : State) : State :=
  let c := ayrAt s a
  let n := c.injSeries
  if c.ownFirst ≤ n ∧ n < c.ownFirst + c.ownCount then
    let x := sat24 v.toInt
    let s := handOver n c.injStamp x s
    let step := stepOf n (seriesAt s n).params
    modAyr a (fun c =>
      let c := { c with injStamp := (c.injStamp + step) % 2 ^ 64 }
      if x = v.toInt then c else rejectAyr c) s
  else modAyr a rejectAyr s

/-- FRZ (R197). -/
def freezeSeries (a : Nat) (v : W32) (s : State) : State :=
  let n := v.toNat % 64
  if bit (seriesAt s n).params.mask a then requestFreeze n (ayrAt s a).frzStamp (bit v.toNat 8) s
  else modAyr a rejectAyr s

/-- TRQ_GO (R198). -/
def requestTrigger (v : W32) (c : AyrCore) : AyrCore :=
  if 16 ≤ c.requests.length then ayrCause 3 { c with trqLost := sat32 (c.trqLost + 1) }
  else { c with requests := c.requests ++ [{ line := v.toNat % 8, stamp := c.trqStamp, info := c.trqInfo }] }

/-- OUT_SEND (R199). -/
def sendOut (c : AyrCore) : AyrCore :=
  if 16 ≤ c.outbox.length then ayrCause 3 { c with msgLost := sat32 (c.msgLost + 1) }
  else
    let d := { c with outbox := c.outbox ++ [c.outStage] }
    if c.outbox.isEmpty then ayrCause 2 d else d

/-- A POUT acts (R194). -/
def portWrite (a port : Nat) (v : W32) (s : State) : State :=
  let n := v.toNat
  match port with
  | 0x06 => modAyr a (fun c => { c with tick := n }) s
  | 0x07 => modAyr a (fun c => if bit n 0 then { c with accOv := false } else c) s
  | 0x08 => modAyr a (fun c => if bit n 1 then { c with tickCause := false } else c) s
  | 0x09 => modAyr a (fun c => { c with imask := n % 8 }) s
  | 0x15 => freeEvent a s
  | 0x18 => modAyr a (fun c => { c with injSeries := n % 1024 }) s
  | 0x19 => modAyr a (fun c => { c with injStamp := setLow c.injStamp n }) s
  | 0x1A => modAyr a (fun c => { c with injStamp := setHigh c.injStamp n }) s
  | 0x1B => injectValue a v s
  | 0x20 => modAyr a (fun c => { c with frzStamp := setLow c.frzStamp n }) s
  | 0x21 => modAyr a (fun c => { c with frzStamp := setHigh c.frzStamp n }) s
  | 0x22 => freezeSeries a v s
  | 0x28 => modAyr a (fun c => { c with trqStamp := setLow c.trqStamp n }) s
  | 0x29 => modAyr a (fun c => { c with trqStamp := setHigh c.trqStamp n }) s
  | 0x2A => modAyr a (fun c => { c with trqInfo := n }) s
  | 0x2B => modAyr a (requestTrigger v) s
  | 0x38 => modAyr a sendOut s
  | 0x3D => modAyr a (fun c => { c with inbox := c.inbox.drop 1 }) s
  | p => if 0x30 ≤ p ∧ p ≤ 0x37 then modAyr a (fun c => { c with outStage := upd c.outStage (p - 0x30) (fun _ => v) }) s else s

/-- A PIN's value: as it was before a POUT one instruction earlier acted (R186). -/
def pinValue (s : State) (a port now : Nat) : W32 :=
  match (ayrAt s a).portOld.find? (fun p => p.1 == port) with
  | some p => p.2
  | none => portValue s a port now

/-- A PIN of a LO port latches the HI port (R194). -/
def pinLatch (port now : Nat) (c : AyrCore) : AyrCore :=
  match port with
  | 0x02 => { c with cycleHi := wordOf ((c.cycle + 3) / 2 ^ 32) }
  | 0x04 => { c with nowHi := wordOf (now / 2 ^ 32) }
  | _ => c

/-! One instruction. -/

/-- LOOP and LOOPI with a count, at the address in PC (R188): the core, and where fetch goes after the slots. -/
def startLoop (count : W32) (stop : BitVec 14) (c : AyrCore) : AyrCore × BitVec 14 :=
  ({ c with ls := c.pc + 3, le := stop, lc := count, mtl := c.mtl.filter (fun m => decide (m.1 = .epc)) },
   if count = 0 then stop + 1 else c.pc + 3)

/-- Address of a memory access and the address register after it (Table 9.3). -/
def memAddr (c : AyrCore) (a : BitVec 3) (post : Bool) (off : BitVec 18) : BitVec 17 × BitVec 17 :=
  let o : BitVec 17 := off.truncate 17
  if post then (getA c a, getA c a + o) else (getA c a + o, getA c a)

/-- What an instruction does to registers and memory. `r` is the core as its sources read it, `c` the core it changes
(in which an earlier load has just completed). Where a branch goes is the second component. -/
def ayrEffect (op : AyrOp) (pin : W32) (r c : AyrCore) : AyrCore × Option (BitVec 14) :=
  match op with
  | .alu f dd ds dt => (setD dd (aluVal f (getD_ r ds) (getD_ r dt)) c, none)
  | .abs dd ds => (setD dd (if (getD_ r ds).toInt < 0 then - getD_ r ds else getD_ r ds) c, none)
  | .imm f dd ds i => (setD dd (immVal f (getD_ r ds) i) c, none)
  | .shift f dd ds sh => (setD dd (shiftVal f (getD_ r ds) sh) c, none)
  | .movi dd i => (setD dd (i.signExtend 32) c, none)
  | .movhi dd i => (setD dd (i ++ (getD_ r dd).extractLsb' 0 16) c, none)
  | .mac f ds dt hs ht lden al dl =>
    let c := setAcc (macVal f r.acc (half (getD_ r ds) hs * half (getD_ r dt) ht)) c
    (if lden then setA al (getA r al + 4) { c with load := some (dl, dmemWord r (getA r al)) } else c, none)
  | .mova dd sh => (setD dd (accWindow r.acc2 sh.toNat) c, none)
  | .mfah dd => (setD dd (accHigh r.acc2) c, none)
  | .mta ds dt => ({ c with acc := ((getD_ r ds).extractLsb' 0 8) ++ getD_ r dt }, none)
  | .clra => ({ c with acc := 0 }, none)
  | .mem f d a post off =>
    let x := memAddr r a post off
    let c := setA a x.2 c
    (match f with
     | .ld => { c with load := some (d, dmemWord r x.1) }
     | .ldh => { c with load := some (d, dmemHalf r x.1) }
     | .st => setDmem (4 * (x.1.toNat / 4)) 4 (getD_ r d) c
     | .sth => setDmem (2 * (x.1.toNat / 2)) 2 (getD_ r d) c, none)
  | .movai a i => (setA a i c, none)
  | .adda a off => (setA a (getA r a + off.truncate 17) c, none)
  | .movda a d => (setA a ((getD_ r d).truncate 17) c, none)
  | .movad d a => (setD d ((getA r a).zeroExtend 32) c, none)
  | .br t => (c, some t)
  | .brc f d t => (c, if branchTaken f (getD_ r d) then some t else none)
  | .call t => (setD 15 ((r.pc + 3).zeroExtend 32) c, some t)
  | .jr d => (c, some ((getD_ r d).truncate 14))
  | .loop d e => let l := startLoop (getD_ r d) e c; (l.1, some l.2)
  | .loopi n e => let l := startLoop (n.zeroExtend 32) e c; (l.1, some l.2)
  | .mtl q d => ({ c with mtl := c.mtl ++ [(q, getD_ r d, 3)] }, none)
  | .mfl d q => (setD d (getLoop r q) c, none)
  | .pin d _ => ({ c with load := some (d, pin) }, none)
  | .pout _ _ | .nop => (c, none)
  | .ei => ({ c with ie := true }, none)
  | .di => ({ c with ie := false }, none)
  | .reti => ({ c with retiIe := true }, some r.epc)
  | .wait => ({ c with state := .waiting }, none)
  | .halt => (c, none)

/-- A core executes one instruction that its PC holds: sources, loop check, effect, delay slots, next PC. -/
def ayrStep (op : AyrOp) (pin : W32) (c0 : AyrCore) : AyrCore :=
  let lk := loopCheck c0
  let r := lk.1
  let e := ayrEffect op pin r (commitLoad { r with portOld := [] })
  let c := e.1
  let c := { c with acc1 := c0.acc, acc2 := c0.acc1, prev2 := c0.prev1, prev1 := op.kind, started := false }
  let next := match op with | .wait | .halt => c0.pc + 1 | _ => lk.2
  let c :=
    if op.isBranch then { c with slots := 2, target := e.2, pc := next }
    else if c0.slots = 0 then { c with pc := next }
    else if c0.slots = 1 then
      { c with slots := 0, pc := c0.target.getD next, target := none, ie := c.ie || c0.retiIe, retiIe := false }
    else { c with slots := c0.slots - 1, pc := next }
  tickOnce (ageMtl c)

/-- STOPs that find the core halted or faulted return ALREADY_DONE (Table 9.9). -/
def missedStop (a : Nat) (s : State) : State :=
  let st := (ayrAt s a).state.code
  modAyr a (fun c => { c with stopPending := false, stopCycles := 0 })
    (finishOpen (fun o => isOp 0x0603 o && o.key == a)
      (fun _ => { status := stAlready, result := fields [(24, leBytes 1 st)] }) (timeNow s) s)

/-- A fault stops the core (R192). -/
def ayrFault (a code : Nat) (s : State) : State :=
  missedStop a (modAyr a (fun c =>
    ayrCause 1 { drainCore c with state := .faulted, faultCode := code, faultPc := c.pc }) s)

/-- Core `a` can execute the instruction now: it runs, its PC holds it, and neither an interrupt, a STOP nor a fault
comes first. -/
def ayrCan (a : Nat) (op : AyrOp) (s : State) : Bool :=
  let c := ayrAt s a
  dpRun s && decide (a < 4) && decide (c.state = .running) && decide (decodeAyr (imemAt c c.pc) = some op) &&
  !illegalHere c op && !intDue s a && !stopDue c

/-- Core `a` executes an instruction. `e` is a memory error of its DMEM read, `now` the spectrum number current. -/
def ayrRun (a : Nat) (op : AyrOp) (e : MemErr) (now : Nat) (s0 : State) : State :=
  if !ayrCan a op s0 then s0
  else if e = .ue ∧ op.readsMem then ayrFault a 3 s0
  else
    let s := if e = .ce ∧ op.readsMem then modAyr a (fun c => ayrCause 5 { c with memCe := sat32 (c.memCe + 1) }) s0 else s0
    let c := ayrAt s a
    match op with
    | .pin _ p =>
      let v := pinValue s a p.toNat now
      modAyr a (fun c => ayrStep op v (pinLatch p.toNat now c)) s
    | .pout d p =>
      let v := getD_ c d
      let s := modAyr a (ayrStep op 0) s
      let old := (affectedPorts p.toNat).map (fun q => (q, portValue s a q now))
      modAyr a (fun c => { c with portOld := old }) (portWrite a p.toNat v s)
    | .halt =>
      missedStop a (modAyr a (fun c => ayrCause 0 { drainCore (ayrStep op 0 c) with state := .halted }) s)
    | _ => modAyr a (ayrStep op 0) s

/-! The rows of Tables 9.3 and 9.4. -/

def execAdd (a : Nat) (dd ds dt : BitVec 4) (s : State) : Host.Outcome State Fault Refusal :=
  .next (ayrRun a (.alu .add dd ds dt) .none 0 s)
def execSub (a : Nat) (dd ds dt : BitVec 4) (s : State) : Host.Outcome State Fault Refusal :=
  .next (ayrRun a (.alu .sub dd ds dt) .none 0 s)
def execAnd (a : Nat) (dd ds dt : BitVec 4) (s : State) : Host.Outcome State Fault Refusal :=
  .next (ayrRun a (.alu .and dd ds dt) .none 0 s)
def execOr (a : Nat) (dd ds dt : BitVec 4) (s : State) : Host.Outcome State Fault Refusal :=
  .next (ayrRun a (.alu .or dd ds dt) .none 0 s)
def execXor (a : Nat) (dd ds dt : BitVec 4) (s : State) : Host.Outcome State Fault Refusal :=
  .next (ayrRun a (.alu .xor dd ds dt) .none 0 s)
def execShl (a : Nat) (dd ds dt : BitVec 4) (s : State) : Host.Outcome State Fault Refusal :=
  .next (ayrRun a (.alu .shl dd ds dt) .none 0 s)
def execShra (a : Nat) (dd ds dt : BitVec 4) (s : State) : Host.Outcome State Fault Refusal :=
  .next (ayrRun a (.alu .shra dd ds dt) .none 0 s)
def execShrl (a : Nat) (dd ds dt : BitVec 4) (s : State) : Host.Outcome State Fault Refusal :=
  .next (ayrRun a (.alu .shrl dd ds dt) .none 0 s)
def execSlt (a : Nat) (dd ds dt : BitVec 4) (s : State) : Host.Outcome State Fault Refusal :=
  .next (ayrRun a (.alu .slt dd ds dt) .none 0 s)
def execSltu (a : Nat) (dd ds dt : BitVec 4) (s : State) : Host.Outcome State Fault Refusal :=
  .next (ayrRun a (.alu .sltu dd ds dt) .none 0 s)
def execMin (a : Nat) (dd ds dt : BitVec 4) (s : State) : Host.Outcome State Fault Refusal :=
  .next (ayrRun a (.alu .min dd ds dt) .none 0 s)
def execMax (a : Nat) (dd ds dt : BitVec 4) (s : State) : Host.Outcome State Fault Refusal :=
  .next (ayrRun a (.alu .max dd ds dt) .none 0 s)
def execAbs (a : Nat) (dd ds : BitVec 4) (s : State) : Host.Outcome State Fault Refusal :=
  .next (ayrRun a (.abs dd ds) .none 0 s)
def execAddi (a : Nat) (dd ds : BitVec 4) (i : BitVec 18) (s : State) : Host.Outcome State Fault Refusal :=
  .next (ayrRun a (.imm .add dd ds i) .none 0 s)
def execAndi (a : Nat) (dd ds : BitVec 4) (i : BitVec 18) (s : State) : Host.Outcome State Fault Refusal :=
  .next (ayrRun a (.imm .and dd ds i) .none 0 s)
def execOri (a : Nat) (dd ds : BitVec 4) (i : BitVec 18) (s : State) : Host.Outcome State Fault Refusal :=
  .next (ayrRun a (.imm .or dd ds i) .none 0 s)
def execXori (a : Nat) (dd ds : BitVec 4) (i : BitVec 18) (s : State) : Host.Outcome State Fault Refusal :=
  .next (ayrRun a (.imm .xor dd ds i) .none 0 s)
def execShli (a : Nat) (dd ds : BitVec 4) (sh : BitVec 5) (s : State) : Host.Outcome State Fault Refusal :=
  .next (ayrRun a (.shift .shl dd ds sh) .none 0 s)
def execShrai (a : Nat) (dd ds : BitVec 4) (sh : BitVec 5) (s : State) : Host.Outcome State Fault Refusal :=
  .next (ayrRun a (.shift .shra dd ds sh) .none 0 s)
def execShrli (a : Nat) (dd ds : BitVec 4) (sh : BitVec 5) (s : State) : Host.Outcome State Fault Refusal :=
  .next (ayrRun a (.shift .shrl dd ds sh) .none 0 s)
def execMovi (a : Nat) (dd : BitVec 4) (i : BitVec 22) (s : State) : Host.Outcome State Fault Refusal :=
  .next (ayrRun a (.movi dd i) .none 0 s)
def execMovhi (a : Nat) (dd : BitVec 4) (i : BitVec 16) (s : State) : Host.Outcome State Fault Refusal :=
  .next (ayrRun a (.movhi dd i) .none 0 s)
def execMul (a : Nat) (ds dt : BitVec 4) (hs ht ld : Bool) (al : BitVec 3) (dl : BitVec 4) (e : MemErr) (s : State) :
    Host.Outcome State Fault Refusal := .next (ayrRun a (.mac .mul ds dt hs ht ld al dl) e 0 s)
def execMac (a : Nat) (ds dt : BitVec 4) (hs ht ld : Bool) (al : BitVec 3) (dl : BitVec 4) (e : MemErr) (s : State) :
    Host.Outcome State Fault Refusal := .next (ayrRun a (.mac .mac ds dt hs ht ld al dl) e 0 s)
def execMsu (a : Nat) (ds dt : BitVec 4) (hs ht ld : Bool) (al : BitVec 3) (dl : BitVec 4) (e : MemErr) (s : State) :
    Host.Outcome State Fault Refusal := .next (ayrRun a (.mac .msu ds dt hs ht ld al dl) e 0 s)
def execMova (a : Nat) (dd : BitVec 4) (sh : BitVec 5) (s : State) : Host.Outcome State Fault Refusal :=
  .next (ayrRun a (.mova dd sh) .none 0 s)
def execMfah (a : Nat) (dd : BitVec 4) (s : State) : Host.Outcome State Fault Refusal :=
  .next (ayrRun a (.mfah dd) .none 0 s)
def execMta (a : Nat) (ds dt : BitVec 4) (s : State) : Host.Outcome State Fault Refusal :=
  .next (ayrRun a (.mta ds dt) .none 0 s)
def execClra (a : Nat) (s : State) : Host.Outcome State Fault Refusal := .next (ayrRun a .clra .none 0 s)
def execLd (a : Nat) (d : BitVec 4) (ar : BitVec 3) (post : Bool) (off : BitVec 18) (e : MemErr) (s : State) :
    Host.Outcome State Fault Refusal := .next (ayrRun a (.mem .ld d ar post off) e 0 s)
def execLdh (a : Nat) (d : BitVec 4) (ar : BitVec 3) (post : Bool) (off : BitVec 18) (e : MemErr) (s : State) :
    Host.Outcome State Fault Refusal := .next (ayrRun a (.mem .ldh d ar post off) e 0 s)
def execSt (a : Nat) (d : BitVec 4) (ar : BitVec 3) (post : Bool) (off : BitVec 18) (s : State) :
    Host.Outcome State Fault Refusal := .next (ayrRun a (.mem .st d ar post off) .none 0 s)
def execSth (a : Nat) (d : BitVec 4) (ar : BitVec 3) (post : Bool) (off : BitVec 18) (e : MemErr) (s : State) :
    Host.Outcome State Fault Refusal := .next (ayrRun a (.mem .sth d ar post off) e 0 s)
def execMovai (a : Nat) (ar : BitVec 3) (i : BitVec 17) (s : State) : Host.Outcome State Fault Refusal :=
  .next (ayrRun a (.movai ar i) .none 0 s)
def execAdda (a : Nat) (ar : BitVec 3) (off : BitVec 18) (s : State) : Host.Outcome State Fault Refusal :=
  .next (ayrRun a (.adda ar off) .none 0 s)
def execMovda (a : Nat) (ar : BitVec 3) (d : BitVec 4) (s : State) : Host.Outcome State Fault Refusal :=
  .next (ayrRun a (.movda ar d) .none 0 s)
def execMovad (a : Nat) (d : BitVec 4) (ar : BitVec 3) (s : State) : Host.Outcome State Fault Refusal :=
  .next (ayrRun a (.movad d ar) .none 0 s)
def execBr (a : Nat) (target : BitVec 14) (s : State) : Host.Outcome State Fault Refusal :=
  .next (ayrRun a (.br target) .none 0 s)
def execBeqz (a : Nat) (d : BitVec 4) (target : BitVec 14) (s : State) : Host.Outcome State Fault Refusal :=
  .next (ayrRun a (.brc .eqz d target) .none 0 s)
def execBnez (a : Nat) (d : BitVec 4) (target : BitVec 14) (s : State) : Host.Outcome State Fault Refusal :=
  .next (ayrRun a (.brc .nez d target) .none 0 s)
def execBltz (a : Nat) (d : BitVec 4) (target : BitVec 14) (s : State) : Host.Outcome State Fault Refusal :=
  .next (ayrRun a (.brc .ltz d target) .none 0 s)
def execBgez (a : Nat) (d : BitVec 4) (target : BitVec 14) (s : State) : Host.Outcome State Fault Refusal :=
  .next (ayrRun a (.brc .gez d target) .none 0 s)
def execCall (a : Nat) (target : BitVec 14) (s : State) : Host.Outcome State Fault Refusal :=
  .next (ayrRun a (.call target) .none 0 s)
def execJr (a : Nat) (d : BitVec 4) (s : State) : Host.Outcome State Fault Refusal := .next (ayrRun a (.jr d) .none 0 s)
def execLoop (a : Nat) (d : BitVec 4) (stop : BitVec 14) (s : State) : Host.Outcome State Fault Refusal :=
  .next (ayrRun a (.loop d stop) .none 0 s)
def execLoopi (a : Nat) (count : BitVec 12) (stop : BitVec 14) (s : State) : Host.Outcome State Fault Refusal :=
  .next (ayrRun a (.loopi count stop) .none 0 s)
def execMtl (a : Nat) (d : BitVec 4) (r : BitVec 2) (s : State) : Host.Outcome State Fault Refusal :=
  .next (ayrRun a (.mtl (loopRegOf r.toNat) d) .none 0 s)
def execMfl (a : Nat) (d : BitVec 4) (r : BitVec 2) (s : State) : Host.Outcome State Fault Refusal :=
  .next (ayrRun a (.mfl d (loopRegOf r.toNat)) .none 0 s)
/-- `t` is the timer count at the sample cycle, from which NOW follows by the Hopper's timetable. -/
def execPin (a : Nat) (d : BitVec 4) (port : BitVec 8) (t : Nat) (s : State) : Host.Outcome State Fault Refusal :=
  .next (ayrRun a (.pin d port) .none (spectrumNow s t) s)
def execPout (a : Nat) (d : BitVec 4) (port : BitVec 8) (s : State) : Host.Outcome State Fault Refusal :=
  .next (ayrRun a (.pout d port) .none 0 s)
def execNop (a : Nat) (s : State) : Host.Outcome State Fault Refusal := .next (ayrRun a .nop .none 0 s)
def execEi (a : Nat) (s : State) : Host.Outcome State Fault Refusal := .next (ayrRun a .ei .none 0 s)
def execDi (a : Nat) (s : State) : Host.Outcome State Fault Refusal := .next (ayrRun a .di .none 0 s)
def execWait (a : Nat) (s : State) : Host.Outcome State Fault Refusal := .next (ayrRun a .wait .none 0 s)
def execReti (a : Nat) (s : State) : Host.Outcome State Fault Refusal := .next (ayrRun a .reti .none 0 s)
def execHalt (a : Nat) (s : State) : Host.Outcome State Fault Refusal := .next (ayrRun a .halt .none 0 s)

/-- A write of the TICK port. -/
def execTickLoad (a : Nat) (d : BitVec 4) (s : State) : Host.Outcome State Fault Refusal :=
  .next (ayrRun a (.pout d 0x06) .none 0 s)
def execEvFree (a : Nat) (d : BitVec 4) (s : State) : Host.Outcome State Fault Refusal :=
  .next (ayrRun a (.pout d 0x15) .none 0 s)
def execInjValue (a : Nat) (d : BitVec 4) (s : State) : Host.Outcome State Fault Refusal :=
  .next (ayrRun a (.pout d 0x1B) .none 0 s)
def execFrz (a : Nat) (d : BitVec 4) (s : State) : Host.Outcome State Fault Refusal :=
  .next (ayrRun a (.pout d 0x22) .none 0 s)
def execTrqGo (a : Nat) (d : BitVec 4) (s : State) : Host.Outcome State Fault Refusal :=
  .next (ayrRun a (.pout d 0x2B) .none 0 s)
def execOutSend (a : Nat) (d : BitVec 4) (s : State) : Host.Outcome State Fault Refusal :=
  .next (ayrRun a (.pout d 0x38) .none 0 s)
def execInFree (a : Nat) (d : BitVec 4) (s : State) : Host.Outcome State Fault Refusal :=
  .next (ayrRun a (.pout d 0x3D) .none 0 s)

/-! Events of a core. -/

/-- R191: an enabled cause has become pending, after `n` cycles of waiting, in which every earlier instruction completes. -/
def execWaitWake (a n : Nat) (s : State) : Host.Outcome State Fault Refusal :=
  .next (if !dpRun s || decide (4 ≤ a) || decide ((ayrAt s a).state ≠ .waiting) then s
    else
      let s := modAyr a (fun c => tickMany n (drainCore c)) s
      if causePending s a then
        modAyr a (fun c => if c.ie then { enterInterrupt c.pc c with state := .running } else { c with state := .running }) s
      else s)

/-- R184, R187, R188, R192: the instruction at PC is ILLEGAL; or the fetch met a memory error. -/
def execIllegalInstruction (a : Nat) (e : MemErr) (s : State) : Host.Outcome State Fault Refusal :=
  .next (
    let c := ayrAt s a
    if !dpRun s || decide (4 ≤ a) || decide (c.state ≠ .running) || intDue s a || stopDue c then s
    else match e with
      | .ue => ayrFault a 2 s
      | .ce => modAyr a (fun c => ayrCause 5 { c with memCe := sat32 (c.memCe + 1) }) s
      | .none =>
        match decodeAyr (imemAt c c.pc) with
        | none => ayrFault a 1 s
        | some op => if illegalHere c op then ayrFault a 1 s else s)

/-- R189: an interrupt is taken at the boundary before the next instruction. -/
def execInterruptEntry (a : Nat) (s : State) : Host.Outcome State Fault Refusal :=
  .next (if dpRun s && decide (a < 4) && decide ((ayrAt s a).state = .running) && intDue s a && !stopDue (ayrAt s a) then
      modAyr a (fun c => enterInterrupt c.pc (commitLoad c)) s
    else s)

/-- TICK of a core that waits reaches 0 (Table 9.6). -/
def execTickExpiry (a : Nat) (s : State) : Host.Outcome State Fault Refusal :=
  .next (if dpRun s && decide (a < 4) && decide ((ayrAt s a).state = .waiting) && decide ((ayrAt s a).tick ≠ 0) then
      modAyr a (fun c => tickMany c.tick c) s
    else s)

/-! The window (R193, R199). -/

def outFree (c : AyrCore) : AyrCore := { c with outbox := c.outbox.drop 1 }

def execAyrOutFree (a : Nat) (s : State) : Host.Outcome State Fault Refusal := .next (if dpRun s then modAyr a outFree s else s)

def inSend (c : AyrCore) : AyrCore :=
  if 16 ≤ c.inbox.length then { c with msgLost := sat32 (c.msgLost + 1) } else { c with inbox := c.inbox ++ [c.inStage] }

def execAyrInSend (a : Nat) (s : State) : Host.Outcome State Fault Refusal := .next (if dpRun s then modAyr a inSend s else s)

/-- A 32-bit write at a window offset below 0x3_0000: IMEM, then DMEM. -/
def windowStore (a off : Nat) (v : W32) (s : State) : State :=
  modAyr a (fun c =>
    if off < 0x10000 then
      if c.state = .running ∨ c.state = .waiting then rejectAyr c
      else { c with imem := memSet haltWord c.imem (off / 4) v }
    else if off < 0x30000 then setDmem (off - 0x10000) 4 v c
    else c) s

def execAssayerWindowWrite (a off : Nat) (v : W32) (s : State) : Host.Outcome State Fault Refusal :=
  .next (if dpRun s && decide (off % 4 = 0) then windowStore a off v s else s)

/-- R204: a write of CLEAR. -/
def clearAyr (c : AyrCore) : AyrCore := { c with cycles := 0, trqSent := 0, trqLost := 0, msgLost := 0, reject := 0, memCe := 0 }

def execAyrCounterClear (a : Nat) (s : State) : Host.Outcome State Fault Refusal :=
  .next (if dpRun s then modAyr a clearAyr s else s)

/-! Loading and running (R200 to R202). -/

/-- The fields of an image header, when the image keeps Table 9.8 and its length (R200). -/
def imageOk (b : List Byte) : Bool :=
  let im := u32 b 8
  let dm := u32 b 12
  decide (64 ≤ b.length) && u32 b 0 == 0x0A555901 && u16 b 4 == 1 && u16 b 6 == 0 && im % 4 == 0 && inRange 4 65536 im &&
  dm % 4 == 0 && decide (dm ≤ 131072) && decide (u16 b 16 < im / 4) && u16 b 18 == 0 &&
  ((b.drop 36).take 28).all (· == 0) && decide (b.length = 64 + im + dm)

def imageDigestOk (b : List Byte) : Bool := decide (digest128 (b.drop 64) = (b.drop 20).take 16)

/-- Words of a byte string, with their word addresses. -/
def imageWords (b : List Byte) : List (Nat × W32) := (upTo (b.length / 4)).map (fun i => (i, wordOf (u32 b (4 * i))))

/-- IMEM and DMEM written from an image; boxes emptied; ownership set (R201). -/
def loadImage (b : List Byte) (first count : Nat) (c : AyrCore) : AyrCore :=
  let im := u32 b 8
  { c with
    state := .loaded, entry := BitVec.ofNat 14 (u16 b 16), image := b, restart := false
    imem := (imageWords ((b.drop 64).take im)).foldl (fun m w => memSet haltWord m w.1 w.2) []
    dmem := memWrite [] 0 (b.drop (64 + im))
    inbox := [], outbox := [], ownFirst := first, ownCount := count }

/-- START, and the restart of R203 with BOOT = 1 (Table 9.9). -/
def startCore (a boot : Nat) (s : State) : State :=
  modAssay (fun x => { x with queues := upd x.queues a (fun _ => []) })
    (modAyr a (fun c => { c with
      state := .running, d := List.replicate 16 0, a := List.replicate 8 0, acc := 0, acc1 := 0, acc2 := 0, accOv := false
      lc := 0, ls := 0, le := 0, epc := 0, ie := false, pc := c.entry, load := none, mtl := [], slots := 0, target := none
      retiIe := false, prev1 := {}, prev2 := {}, started := true, portOld := [], boot := boot, cycle := 0, cycleHi := 0
      nowHi := 0, tick := 0, tickCause := false, imask := 0, injSeries := 0, injStamp := 0, frzStamp := 0, trqStamp := 0
      trqInfo := 0, outStage := List.replicate 8 0, cycles := 0, forced := false, stopPending := false, stopCycles := 0 }) s)

/-- The owned range is legal, and overlaps no other Assayer's (R201). A range of no series leaves and overlaps nothing; its first
series is a series number all the same. -/
def ownOk (s : State) (a first count : Nat) : Bool :=
  decide (count ≤ 352) && decide (first ≤ 1023) && (count == 0 || (decide (672 ≤ first) && decide (first + count ≤ 1024) &&
    (upTo 4).all (fun k => k == a || decide ((ayrAt s k).state = .empty) ||
      (let c := ayrAt s k; c.ownCount == 0 || decide (c.ownFirst + c.ownCount ≤ first) || decide (first + count ≤ c.ownFirst)))))

/-- The checks of an image, and the load (R201). -/
def takeImage (a first count : Nat) (b : List Byte) (s : State) : Out :=
  if !imageOk b then badRange s
  else if !imageDigestOk b then refuse s stDigest 0
  else answer (modAyr a (loadImage b first count) s) []

/-- ASSAYER_LOAD (R200, R201, 16 Table 16.11). -/
def assayerLoad (r : Req) (_ : Nat) (s : State) : Out :=
  let a := b8 r 24
  let c := bit (b8 r 25) 0
  let fromB := bit (b8 r 25) 1
  let first := b16 r 28
  let count := b16 r 30
  if b8 r 25 / 4 ≠ 0 then badReserved s
  else if 4 ≤ a ∨ !ownOk s a first count ∨ (c ∧ fromB) then badRange s
  else if (ayrAt s a).state = .running ∨ (ayrAt s a).state = .waiting then notInState s
  else if fromB then
    match s.bun.active with
    | some b => match b.ayrImages.find? (fun i => i.1 == b16 r 26) with
      | some i => if 0 < r.arg.length then badLen s else takeImage a first count i.2 s
      | none => badRange s
    | none => badRange s
  else if c then
    if 9 ≤ s.hst.jobs.length then refuse s stBusy 0
    else { st := modHst (fun h => { h with jobs := h.jobs ++
             [{ client := r.client, tag := r.tag, use := 1, input := r.arg, limit := 196672 }] }) s
           stay := some .accepted, key := a }
  else takeImage a first count r.arg s

def execAssayerLoad (r : Req) (t : Nat) (s : State) : Host.Outcome State Fault Refusal :=
  .next (runCommand 0x0602 assayerLoad r t s)

/-- STATE and FORCED of a core's reply. -/
def ayrReply (s : State) (a : Nat) : List Byte :=
  fields [(24, leBytes 1 (ayrAt s a).state.code), (25, leBytes 1 (b2n (ayrAt s a).forced))]

/-- ASSAYER_RUN (R202, Table 9.9). -/
def assayerRun (r : Req) (_ : Nat) (s : State) : Out :=
  let a := b8 r 24
  let c := ayrAt s a
  if 4 ≤ a ∨ 2 < b8 r 25 then badRange s
  else match b8 r 25, c.state with
    | 0, .loaded | 0, .stopped | 0, .halted | 0, .faulted =>
      let s := startCore a 0 s
      answer s (ayrReply s a)
    | 1, .running | 1, .waiting =>
      if c.stopPending then notInState s
      else { st := modAyr a (fun c => { c with stopPending := true, stopCycles := 0 }) s, stay := some .staged, key := a }
    | 2, .halted =>
      let s := modAyr a (fun c => { c with state := .running, started := true, prev1 := {}, prev2 := {} }) s
      answer s (ayrReply s a)
    | 2, .stopped =>
      if c.forced then notInState s
      else
        let s := modAyr a (fun c => { c with state := .running, started := true, prev1 := {}, prev2 := {} }) s
        answer s (ayrReply s a)
    | _, _ => notInState s

def execAssayerRun (r : Req) (t : Nat) (s : State) : Host.Outcome State Fault Refusal :=
  .next (runCommand 0x0603 assayerRun r t s)

/-- The core stops: a pending ASSAYER_RUN STOP commits (Table 9.9). -/
def stopCore (a t : Nat) (forced : Bool) (s : State) : State :=
  let s := modAyr a (fun c => { (if forced then c else commitLoad c) with
    state := .stopped, forced := forced, stopPending := false, stopCycles := 0 }) s
  finishOpen (fun o => isOp 0x0603 o && o.key == a) (fun _ => { result := ayrReply s a }) t s

/-- R202: a pending STOP takes effect at an interruptible boundary. -/
def execAssayerStopCommit (a t : Nat) (s : State) : Host.Outcome State Fault Refusal :=
  .next (
    let c := ayrAt s a
    if dpRun s && decide (a < 4) && c.stopPending && interruptible c &&
        (decide (c.state = .running) || decide (c.state = .waiting)) then stopCore a t false s else s)

/-- R202: no such boundary has come within 1,024 cycles. -/
def execForcedStop (a t : Nat) (s : State) : Host.Outcome State Fault Refusal :=
  .next (
    let c := ayrAt s a
    if dpRun s && decide (a < 4) && c.stopPending && decide (1024 ≤ c.stopCycles) && !interruptible c &&
        (decide (c.state = .running) || decide (c.state = .waiting)) then stopCore a t true s else s)

end Sys2Proof.Machine
end

