-- ==== Sys2Proof/Machine/Seam.lean ====
section
/-! DEFINITION. The CONTROL protocol (03 R61 to R64, R453). -/

namespace Sys2Proof.Machine

/-- The device's own identity; none while no bundle is active (R48). -/
def ownId (s : State) : Option Nat := s.bun.active.map (·.source)

/-- A DATA or PROMPT packet. -/
def isSample (p : RxPkt) : Bool := hType p.bytes == 1 || hType p.bytes == 2

/-- The oldest delivered packet of a lane, if it has the type asked for; it leaves the list. DATA and PROMPT are taken in the
order of their delivery, whatever the lane (04 R72). -/
def takeDelivered (lane typ : Nat) (s : State) : Option (List Byte × State) :=
  match s.lanes.delivered.find? (fun p => p.lane == lane) with
  | some p =>
    if hType p.bytes = typ ∧ (!isSample p ∨ s.lanes.delivered.find? isSample = some p) then
      some (p.bytes, { s with lanes := { s.lanes with delivered := s.lanes.delivered.erase p } })
    else none
  | none => none

/-- Is `a` later than `b` by the sign of their 32-bit difference (R61)? -/
def seqAfter (a b : Nat) : Bool :=
  let d := (a + 2 ^ 32 - b % 2 ^ 32) % 2 ^ 32
  decide (d ≠ 0) && decide (d < 2 ^ 31)

/-- An upstream source: routed upstream, or a permitted sender that ROUTES does not route (R64). -/
def routeOf (s : State) (id : Nat) : Option Route :=
  match s.bun.active with
  | some b => (b.routes.getD []).find? (fun r => r.source == id)
  | none => none

def upstreamSource (s : State) (id : Nat) : Bool :=
  match routeOf s id with
  | some r => !r.downstream
  | none => match s.bun.active with
    | some b => b.permit.any (fun g => g.contains id)
    | none => false

/-- RETURN lanes that a packet for an upstream source leaves on (R64). -/
def returnLanes (s : State) (id : Nat) : List Nat :=
  let ok := fun n => decide ((laneAt s n).txRole = 3) && (laneAt s n).txUp
  match routeOf s id with
  | some r => (upTo 64).filter (fun n => ok n && bit r.mask n)
  | none => (upTo 64).filter ok

/-- A CONTROL packet is put on its way: on the RETURN lanes, or on path A and, under dual path, on both.
None while no eligible lane is TX_UP (R64). -/
def launch (id : Nat) (pkt : List Byte) (s : State) : Option State :=
  if upstreamSource s id then
    let ls := returnLanes s id
    if ls.isEmpty then none else
      some (ls.foldl (fun s n => modLane n (fun l => { l with txCtl := l.txCtl ++ [pkt] }) s) s)
  else
    let a := pathUp s 0
    let b := s.hst.dual && pathUp s 1
    if a || b then
      some (modHst (fun h => { h with ctlA := if a then h.ctlA ++ [pkt] else h.ctlA
                                      ctlB := if b then h.ctlB ++ [pkt] else h.ctlB }) s)
    else none

/-- ACK_SESSION and ACK of a packet sent to a party (Table 3.6). -/
def ackOf (p : Party) : Option (Nat × Nat) :=
  match p.session, p.lastRx with
  | some se, some n => some (se, n)
  | _, _ => none

/-- An acknowledgement releases every message of the window up to its number; that is progress (R63). -/
def releaseAcked (session ackSession ack : Nat) (p : Party) : Party :=
  if ackSession = session then
    let keep := p.window.filter (fun m => seqAfter m.seq ack || !m.sent)
    if keep.length < p.window.length then { p with window := keep, resends := 0, unreachable := false } else p
  else p

/-- A completion read from its 64 bytes (Table 16.2). -/
def completionOfBytes (b : List Byte) : Completion :=
  { opcode := u16 b 0, tag := u16 b 2, client := u16 b 4, status := u8 b 6, resultBlock := bit (u8 b 7) 2,
    orig := u8 b 8, detail := u8 b 9, sideEffects := u16 b 10, resLen := u32 b 12, commitTime := u64 b 16,
    result := padTo 40 (b.drop 24) }

/-- A peer's completion is posted, with FORWARDED set, on the cage that carried the request (R383). -/
def postForwarded (f : Forwarded) (c : Completion) (s : State) : State :=
  let s := nextCommit (modCages (fun g => { g with forwards := g.forwards.erase f }) s)
  modCages (fun g => { g with ready := g.ready ++
    [{ c with cage := f.req.cage, origin := f.req.origin, forwarded := true, order := g.commits }] }) s

/-- The forwarded request that a peer's completion answers. -/
def answered (s : State) (peer : Nat) (c : Completion) : Option Forwarded :=
  s.cages.forwards.find? (fun f => decide (f.peer = peer) && decide (f.req.opcode = c.opcode) &&
    decide (f.req.tag = c.tag) && decide (f.req.client = c.client))

def kindDiscard (s : State) : State :=
  { s with seam := { s.seam with kindDiscards := sat32 (s.seam.kindDiscards + 1) } }

/-- Where shared SRAM shows the USER messages: 64 places of 72 bytes among the device's records, taken in turn, and at 0x3F_9FFC
the number of messages that have come (log 116). -/
def inboxBase : Nat := 0x3F8000
def inboxCount : Nat := 0x3F9FFC

/-- A USER message is made available to the host through shared SRAM (Table 3.8). -/
def showUser (msg : List Byte) (s : State) : State :=
  let n := leAt (memRead s.sys.sram inboxCount 4) 0 4
  let m := memWrite s.sys.sram (inboxBase + 72 * (n % 64)) (padTo 72 msg)
  { s with sys := { s.sys with sram := memWrite m inboxCount (leBytes 4 (n + 1)) } }

/-- A delivered message is acted on by its KIND (R453). -/
def actOnKind (from_ t : Nat) (msg : List Byte) (s : State) : State :=
  let body := msg.drop 8
  match u16 msg 0 with
  | 1 => arrive { reqOfBytes 7 body [] with peer := from_, resMax := 0
                                            badLen := decide (u32 body 16 ≠ 0) || decide (u32 body 20 ≠ 0) } t s
  | 2 => match answered s from_ (completionOfBytes body) with
    | some f => postForwarded f (completionOfBytes body) s
    | none => kindDiscard s
  | 32 => showUser msg s
  | _ => kindDiscard s

/-- Firmware takes the messages out of the inbox, oldest first, while a core is on shift (R62, Table 3.8; log 116). -/
def serveInbox (t : Nat) (s : State) : State :=
  if s.shift.onShift < 2 then
    s.seam.inbox.foldl (fun s m => actOnKind m.1 t m.2 s) { s with seam := { s.seam with inbox := [] } }
  else s

/-- What the receiver does with a message (R62). -/
inductive RxClass where
  | expected | duplicate | discard
  deriving DecidableEq, Repr

def rxClass (p : Party) (sync : Bool) (session seq : Nat) : RxClass :=
  if sync && decide (p.session ≠ some session) then .expected
  else if p.session = some session then
    if seq = p.expected then .expected else if seqAfter p.expected seq then .duplicate else .discard
  else .discard

/-- R62 and R63: a CONTROL message addressed to the device is taken, acknowledged again, dropped or discarded. -/
def takeMessage (b : List Byte) (t : Nat) (s : State) : State :=
  let p := partyAt s (hSource b)
  let p := if hAckValid b then releaseAcked s.seam.session (hAckSession b) (hAck b) p else p
  match rxClass p (hSync b) (hSession b) (hSeq b) with
  | .expected =>
    let p := if p.session = some (hSession b) then p
             else { p with session := some (hSession b), expected := hSeq b, lastRx := none }
    if s.seam.inbox.length < 64 then
      let s := setParty { p with expected := (hSeq b + 1) % 2 ^ 32, lastRx := some (hSeq b), ackDue := true } s
      serveInbox t { s with seam := { s.seam with inbox := s.seam.inbox ++ [(p.id, hPayload b)] } }
    else setParty p s
  | .duplicate => setParty { p with dups := sat32 (p.dups + 1), ackDue := true } s
  | .discard => setParty { p with discards := sat32 (p.discards + 1) } s

/-- A CONTROL packet for another identity is discarded and counted (R64). -/
def destDiscard (s : State) : State :=
  { s with seam := { s.seam with destDiscards := sat32 (s.seam.destDiscards + 1) } }

/-- The oldest packet delivered by `lane` is a CONTROL packet with a message. `t` is the timer count. -/
def execControlMessage (lane t : Nat) (s : State) : Host.Outcome State Fault Refusal :=
  .next (match takeDelivered lane 3 s with
    | some (b, s') =>
      if !hMessage b then s
      else if ownId s ≠ some (hDest b) then destDiscard s'
      else takeMessage b t s'
    | none => s)

/-- The oldest packet delivered by `lane` is a pure acknowledgement (R63). -/
def execControlAck (lane : Nat) (s : State) : Host.Outcome State Fault Refusal :=
  .next (match takeDelivered lane 3 s with
    | some (b, s') =>
      if hMessage b then s
      else if ownId s ≠ some (hDest b) then destDiscard s'
      else if hAckValid b then
        setParty (releaseAcked s.seam.session (hAckSession b) (hAck b) (partyAt s' (hSource b))) s'
      else s'
    | none => s)

/-- R63: no message has carried the acknowledgement owed to `id` within 100 µs. -/
def execPureAckSend (id : Nat) (s : State) : Host.Outcome State Fault Refusal :=
  .next (
    let p := partyAt s id
    if p.ackDue && dpRun s then
      match launch id (controlPacket (ownSource s) (epochNow s) id s.seam.session p.nextSeq false (ackOf p) none) s with
      | some s' => setParty { p with ackDue := false } s'
      | none => s
    else s)

/-- The oldest message to `id` that waits to leave, among the sixteen a sender may have unacknowledged (R63). -/
def nextToSend (p : Party) : Option CtlMsg := (p.window.take 16).find? (·.queued)

/-- R64: a queued CONTROL message leaves, and carries the acknowledgement owed (R63). -/
def execControlSend (id : Nat) (s : State) : Host.Outcome State Fault Refusal :=
  .next (
    let p := partyAt s id
    match nextToSend p with
    | some m =>
      if dpRun s then
        match launch id (controlPacket (ownSource s) (epochNow s) id s.seam.session m.seq m.sync (ackOf p) (some m.msg)) s with
        | some s' => setParty { p with
            ackDue := false
            window := p.window.map (fun x => if x = m then { x with sent := true, queued := false } else x) } s'
        | none => s
      else s
    | none => s)

/-- Requests waiting on an unreachable peer end with TIMEOUT (R383). -/
def failForwards (id t : Nat) (s : State) : State :=
  (s.cages.forwards.filter (fun f => f.peer == id)).foldl (fun s f =>
    let s := modCages (fun g => { g with forwards := g.forwards.erase f }) s
    answerOnly f.req t { status := stTimeout, detail := 11 } stTimeout s) s

/-- R63: the oldest message to `id` has gone 1 ms unacknowledged; every unacknowledged message is resent in order.
After eight resends without progress the receiver is unreachable; its messages stay, and resending goes on (log 117). -/
def execControlRetransmit (id t : Nat) (s : State) : Host.Outcome State Fault Refusal :=
  .next (
    let p := partyAt s id
    if dpRun s && !p.window.isEmpty then
      if 8 ≤ p.resends ∧ !p.unreachable then
        failForwards id t (setParty { p with unreachable := true } s)
      else
        setParty { p with
          resends := p.resends + 1
          retrans := sat32 (p.retrans + ((p.window.take 16).filter (·.sent)).length)
          window := p.window.zipIdx.map (fun x => if x.2 < 16 then { x.1 with queued := true } else x.1) } s
    else s)

end Sys2Proof.Machine
end

