-- ==== Sys2Proof/Machine/Hopper.lean ====
section
/-! DEFINITION. The Hopper and the prompt buffer (04): judging, placing and sealing. -/

namespace Sys2Proof.Machine

/-- Position of a DATA packet (R71). -/
def dataPos (s : State) (b : List Byte) : Nat := hIndex b / 8192 * chans s + hChannel b

/-- Block of a DATA packet within its group (R71). -/
def dataBlock (b : List Byte) : Nat := hIndex b % 8192 / 64

/-- A foreign packet: its EPOCH differs from the epoch in force for its index (03 R55). -/
def foreign (s : State) (b : List Byte) : Bool :=
  match bundleAt s (hIndex b) with
  | some u => decide (hEpoch b ≠ u.epoch)
  | none => false

/-- The prompt parameters in force for a block (07 R143, R154). -/
def promptFor (s : State) (block : Nat) : Option PromptParams :=
  match s.beams.nextPrompt with
  | some (k, p) => if 128 * k ≤ block then some p else s.beams.prompt
  | none => s.beams.prompt

/-- Misroute reason: the lowest-numbered condition of Table 4.4 that holds, 0 when none does. -/
def misroute (s : State) (b : List Byte) : Nat :=
  match bundleAt s (hIndex b) with
  | none => 1
  | some u =>
    if !bit u.groups (hGroup b) then 1
    else if !((u.permit.getD (hGroup b) []).contains (hSource b)) then 2
    else if u.channels ≤ hChannel b then 3
    else if hType b = 2 ∧ !(((promptFor s (hIndex b / 64)).map (·.channels)).getD []).contains (hChannel b) then 4
    else 0

def hopCause (k : Nat) (h : Hopper) : Hopper := { h with cause := setBits h.cause [k] }

/-- Orders 2 and 3 of Table 4.3: the packet is quarantined or misrouted, and recorded. -/
def judge (s : State) (b : List Byte) : Option State :=
  if foreign s b then
    some (modHop (fun h => hopCause 1 { h with foreign := sat32 (h.foreign + 1)
                                               lastForeign := some (hSource b, hEpoch b) }) s)
  else if misroute s b ≠ 0 then
    some (modHop (fun h => hopCause 2 { h with
      misroute := sat32 (h.misroute + 1)
      lastMisroute := (misroute s b, hGroup b, hSource b, hChannel b) }) s)
  else none

def slotAt (s : State) (j : Nat) : Slot := s.hop.slots.getD (j % 3) {}

def modSlot (j : Nat) (f : Slot → Slot) (s : State) : State :=
  modHop (fun h => { h with slots := upd h.slots (j % 3) f }) s

/-- Active groups of the layout in force for a position. -/
def groupsFor (s : State) (j : Nat) : List Nat :=
  match bundleOfPos s j with
  | some b => activeGroups b
  | none => []

/-- Missing blocks of a group in a slot. -/
def missingOf (sl : Slot) (g : Nat) : Nat := 128 - (sl.placed.filter (fun p => p.group == g)).length

/-- The seal record of a slot (R77). -/
def sealRecord (s : State) (sl : Slot) (deadline : Bool) : SealRec :=
  let gs := groupsFor s sl.pos
  { pos := sl.pos, deadline := deadline, missing := (gs.map (missingOf sl)).sum
    missMask := maskOf (gs.filter (fun g => decide (0 < missingOf sl g)))
    blankMask := maskOf (gs.filter (fun g => sl.placed.any (fun p => p.group == g && p.allBlank))) }

/-- A slot seals (R74, R76, R77); missing or ALL_BLANK blocks give a STAT record (11 Table 11.4). -/
def sealSlot (j : Nat) (deadline : Bool) (s : State) : State :=
  let sl := slotAt s j
  let r := sealRecord s sl deadline
  let gs := groupsFor s j
  let s := modSlot j (fun sl => { sl with state := .sealed, record := r }) s
  let s := modHop (fun h =>
    if r.missing = 0 then { h with sealFull := sat64 (h.sealFull + 1) }
    else hopCause 0 { h with
      fill := sat64 (h.fill + r.missing), sealShort := sat64 (h.sealShort + 1)
      grpMiss := gs.foldl (fun l g => upd l g (fun n => sat32 (n + missingOf sl g))) h.grpMiss }) s
  if r.missing = 0 ∧ r.blankMask = 0 then s
  else noteStat 2 r.missing j (r.missMask + 2 ^ 32 * r.blankMask) (8192 * chunkOf s j) s

/-- Every block of every active group is FILLED (Table 4.1). -/
def slotFull (s : State) (sl : Slot) : Bool := (groupsFor s sl.pos).all (fun g => missingOf sl g == 0)

/-- Every lower position has sealed: slots seal in sequence order (R74). -/
def lowerSealed (s : State) (j : Nat) : Bool :=
  let sl := slotAt s (j - 1)
  !(decide (0 < j) && decide (sl.pos = j - 1) && (decide (sl.state = .opened) || decide (sl.state = .complete)))

/-- A full slot whose seal window has opened seals; without the window it is COMPLETE (R74). -/
def settleSlot (j : Nat) (s : State) : State :=
  let sl := slotAt s j
  if slotFull s sl then
    if sl.window && lowerSealed s j then sealSlot j false s else modSlot j (fun sl => { sl with state := .complete }) s
  else s

/-- Order 7 of Table 4.3: the block is written and FILLED. -/
def placeData (b : List Byte) (s : State) : State :=
  let j := dataPos s b
  let p : Placed := { group := hGroup b, block := dataBlock b, allBlank := hBlank b == 2, payload := hPayload b }
  settleSlot j (modSlot j (fun sl => { sl with placed := sl.placed ++ [p] })
    (modHop (fun h => { h with placed := sat64 (h.placed + 1) }) s))

/-- Orders 4 to 7 of Table 4.3. -/
def takeData (b : List Byte) (s : State) : State :=
  let j := dataPos s b
  let sl := slotAt s j
  let late := modHop (fun h => hopCause 5 { h with late := sat32 (h.late + 1) }) s
  let dup := modHop (fun h => hopCause 6 { h with dup := sat32 (h.dup + 1) }) s
  if !s.hop.running then late
  else if j < s.hop.first then late
  else if s.hop.nextOpen ≤ j then modHop (fun h => hopCause 4 { h with early := sat32 (h.early + 1) }) s
  else if sl.pos ≠ j then late
  else match sl.state with
    | .opened =>
      if sl.placed.any (fun p => p.group == hGroup b && p.block == dataBlock b) then dup else placeData b s
    | .complete => dup
    | _ => late

/-- The oldest packet delivered by `lane` is a DATA packet; it is judged (Table 4.3). -/
def execDataPacket (lane : Nat) (s : State) : Host.Outcome State Fault Refusal :=
  .next (match takeDelivered lane 1 s with
    | some (b, s') => (judge s' b).getD (takeData b s')
    | none => s)

/-- Packets that wait were delivered before the instant now reached: those that match leave the list and are judged, in
order (R71, R72). -/
def judgeWaiting (typ : Nat) (f : List Byte → State → State) (s : State) : State :=
  (s.lanes.delivered.filter (fun p => hType p.bytes == typ)).foldl (fun s p => (judge s p.bytes).getD (f p.bytes s))
    { s with lanes := { s.lanes with delivered := s.lanes.delivered.filter (fun p => hType p.bytes != typ) } }

/-- The seal window of position `j` opens (Table 4.2 step 3). -/
def openWindow (j : Nat) (s : State) : State :=
  let sl := slotAt s j
  if s.hop.running && decide (sl.pos = j) then
    match sl.state with
    | .opened => modSlot j (fun x => { x with window := true }) s
    | .complete =>
      let s' := modSlot j (fun x => { x with window := true }) s
      if lowerSealed s j then sealSlot j false s' else s'
    | _ => s
  else s

def execSealWindowOpen (j : Nat) (s : State) : Host.Outcome State Fault Refusal := .next (openWindow j (judgeWaiting 1 takeData s))

/-! The prompt buffer. -/

/-- Prompt channel and active group pairs of a block. -/
def promptPairs (s : State) (block : Nat) : List PbPair :=
  match promptFor s block, bundleAt s (64 * block) with
  | some p, some u => p.channels.flatMap (fun c => (activeGroups u).map (fun g => { channel := c, group := g }))
  | _, _ => []

/-- A close record reaches the prompt beams: the block's job has it, or is made for it (R82, 07 R155). -/
def passClose (c : PbClose) (s : State) : State :=
  modBeams (fun b =>
    let upd1 := b.jobs.map (fun j => if j.num = c.num then { j with closed := some c } else j)
    { b with jobs := if b.jobs.any (fun j => j.num == c.num) then upd1
                     else b.jobs ++ [{ num := c.num, closed := some c, params := ((promptFor s c.num).getD {}) }] }) s

/-- An open block closes (R82). -/
def closeBlock (n : Nat) (s : State) : State :=
  match s.hop.blocks.find? (fun b => b.num == n) with
  | none => s
  | some b =>
    let miss := (promptPairs s n).filter (fun p => !b.pairs.contains p)
    let s := modHop (fun h =>
      let h := { h with blocks := h.blocks.filter (fun b => decide (b.num ≠ n)) }
      if miss.isEmpty then h
      else hopCause 7 { h with pbShort := sat32 (h.pbShort + 1), pbMissing := sat32 (h.pbMissing + miss.length) }) s
    passClose { num := n, missing := miss } s

/-- Blocks skipped by a forward move (R81): blank blocks, or a restart of the prompt stream. -/
def skipBlocks (from_ n : Nat) (s : State) : State :=
  let step := n - from_
  if step = 0 then s
  else if step ≤ 16 then
    (upTo step).foldl (fun s i =>
      passClose { num := from_ + i, missing := promptPairs s (from_ + i) }
        (modHop (fun h => { h with pbJump := sat32 (h.pbJump + 1) }) s)) s
  else modHop (fun h => hopCause 10 { h with pbJump := sat32 (h.pbJump + 1), restartNext := true }) s

/-- Block `n` opens: older blocks below n − 1 close, and skipped blocks are handled first (R80, R81). -/
def openBlock (n : Nat) (s : State) : State :=
  let s := ((s.hop.blocks.filter (fun b => decide (b.num + 1 < n))).map (·.num)).foldl (fun s k => closeBlock k s) s
  let s := match s.hop.highest with
    | some h => skipBlocks (h + 1) n s
    | none => s
  let restart := s.hop.restartNext
  let s := modHop (fun h => { h with blocks := h.blocks ++ [{ num := n }], highest := some n, restartNext := false }) s
  modBeams (fun b =>
    if b.jobs.any (fun j => j.num == n) then b
    else { b with jobs := b.jobs ++ [{ num := n, params := (promptFor s n).getD {}, clears := restart }] }) s

/-- A placed packet becomes a prompt unit, dealt round robin to the served frames (05 R100). -/
def dealUnit (u : PbUnit) (s : State) : State :=
  let made := ((s.beams.jobs.find? (fun j => j.num == u.num)).map (·.units)).getD 0
  let k := made % max 1 s.aba.frames.length
  let add := fun (f : Frame) =>
    { f with held := if f.held.any (fun x => x.1 == u.num) then
                       f.held.map (fun x => if x.1 = u.num then (x.1, x.2 ++ [u]) else x)
                     else f.held ++ [(u.num, [u])] }
  modBeams (fun b => { b with jobs := b.jobs.map (fun j => if j.num = u.num then { j with units := j.units + 1 } else j) })
    (modAba (fun a => { a with frames := upd a.frames k add }) s)

/-- The packet is placed in its open block (R79, R80); the block closes when every pair has been placed (R82). -/
def placePrompt (b : List Byte) (n : Nat) (s : State) : State :=
  let pr : PbPair := { channel := hChannel b, group := hGroup b }
  let s := modHop (fun h => { h with
    pbPlaced := sat64 (h.pbPlaced + 1)
    cells := if hBlank b = 2 then h.cells else h.cells + 1
    blocks := h.blocks.map (fun x => if x.num = n then { x with pairs := x.pairs ++ [pr], waiting := true } else x) }) s
  let s := if hBlank b = 2 then s
    else dealUnit { num := n, channel := hChannel b, group := hGroup b, payload := hPayload b } s
  match s.hop.blocks.find? (fun x => x.num == n) with
  | some x => if (promptPairs s n).all (fun p => x.pairs.contains p) then closeBlock n s else s
  | none => s

/-- Is a packet of block `n` late (R80)? With no block open, every block up to the highest opened so far counts as closed
(log 118). -/
def promptLate (h : Hopper) (n : Nat) : Bool :=
  match h.highest with
  | none => false
  | some k => decide (n ≤ k) && !h.blocks.any (fun b => b.num == n)

/-- A PROMPT packet that passed orders 1 to 3 is judged by block (R79, R80). Without a free cell it is discarded before it
could open its block (log 119). -/
def takePrompt (b : List Byte) (s : State) : State :=
  let n := hIndex b / 64
  let isOpen := s.hop.blocks.find? (fun x => x.num == n)
  let dropped := modHop (fun h => hopCause 9 { h with pbOverflow := sat32 (h.pbOverflow + 1) }) s
  let full := decide (hBlank b ≠ 2) && decide (512 ≤ s.hop.cells)
  if promptLate s.hop n then modHop (fun h => hopCause 8 { h with pbLate := sat32 (h.pbLate + 1) }) s
  else match isOpen with
    | some x =>
      if x.pairs.contains { channel := hChannel b, group := hGroup b } then
        modHop (fun h => { h with pbDup := sat32 (h.pbDup + 1) }) s
      else if full then dropped else placePrompt b n s
    | none => if full then dropped else placePrompt b n (openBlock n s)

/-- The oldest packet delivered by `lane` is a PROMPT packet; it is judged. -/
def execPromptPacket (lane : Nat) (s : State) : Host.Outcome State Fault Refusal :=
  .next (match takeDelivered lane 2 s with
    | some (b, s') => (judge s' b).getD (takePrompt b s')
    | none => s)

/-- The prompt wait of block `n` has passed since its first packet was placed (R82). -/
def expireWait (n : Nat) (s : State) : State :=
  if s.hop.blocks.any (fun b => b.num == n && b.waiting) then closeBlock n s else s

def execPromptWaitExpiry (n : Nat) (s : State) : Host.Outcome State Fault Refusal :=
  .next (expireWait n (judgeWaiting 2 takePrompt s))

/-- The counters of Table 4.6 and both HOP_LAST registers, cleared (R83). -/
def clearHop (h : Hopper) : Hopper :=
  { h with clearPending := false, placed := 0, fill := 0, sealFull := 0, sealShort := 0, malformed := 0, misroute := 0,
           foreign := 0, early := 0, late := 0, dup := 0, lastForeign := none, lastMisroute := (0, 0, 0, 0),
           grpMiss := List.replicate 32 0, pbPlaced := 0, pbShort := 0, pbMissing := 0, pbLate := 0, pbDup := 0,
           pbOverflow := 0, pbJump := 0 }

/-- R83, R451: a write of CLEAR. -/
def hopClear (s : State) : State := modHop (fun h => if h.running then { h with clearPending := true } else clearHop h) s

def execHopCounterClear (s : State) : Host.Outcome State Fault Refusal := .next (if dpRun s then hopClear s else s)

end Sys2Proof.Machine
end

