-- ==== Sys2Proof/Machine/Deflate.lean ====
section
/-! DEFINITION. Raw DEFLATE (RFC 1951): the Expander's decoder (11 R249, R250) and the Crusher's encoder (11 R243 to R247). -/

namespace Sys2Proof.Machine

/-! Bits: DEFLATE reads each byte from its least significant bit. -/

def byteBits (b : Byte) : List Bool := (upTo 8).map (fun i => b.toNat.testBit i)

def bitsOfBytes (l : List Byte) : List Bool := l.flatMap byteBits

/-- `n` bits as a number, first bit least significant, with what follows; none when they run out. -/
def takeBits : Nat → List Bool → Option (Nat × List Bool)
  | 0, l => some (0, l)
  | _ + 1, [] => none
  | n + 1, b :: r => match takeBits n r with
    | some (v, rest) => some (b2n b + 2 * v, rest)
    | none => none

/-- A number as `n` bits, least significant first. -/
def putBits (n v : Nat) : List Bool := (upTo n).map (fun i => v.testBit i)

/-- A Huffman code as `n` bits, most significant first. -/
def putCode (n v : Nat) : List Bool := (putBits n v).reverse

/-- Bits packed into bytes, the last one padded with zeros. -/
def packBits : Nat → List Bool → List Byte
  | 0, _ => []
  | _ + 1, [] => []
  | n + 1, l => BitVec.ofNat 8 ((((l.take 8).zipIdx).map (fun p => b2n p.1 * 2 ^ p.2)).sum) :: packBits n (l.drop 8)

def bitsToBytes (l : List Bool) : List Byte := packBits (l.length / 8 + 1) l

/-! Canonical codes. -/

/-- A code table: how many codes of each length, and the symbols in code order. -/
structure Huff where
  counts : List Nat
  syms : List Nat

/-- Symbols with a code, by length, then by number. -/
def codeOrder (lens : List Nat) : List Nat :=
  (upTo 16).flatMap (fun n => if n = 0 then [] else (upTo lens.length).filter (fun s => lens.getD s 0 == n))

def huffOf (lens : List Nat) : Huff :=
  { counts := (upTo 16).map (fun n => if n = 0 then 0 else (lens.filter (fun x => x == n)).length), syms := codeOrder lens }

/-- A complete code uses every code word exactly once (R249). -/
def codeComplete (lens : List Nat) : Bool :=
  decide (((lens.filter (fun n => decide (n ≠ 0))).map (fun n => 2 ^ (15 - n))).sum = 2 ^ 15)

/-- One symbol, bit by bit: `code`, `first` and `index` as in canonical decoding; none for a code absent from the table. -/
def decodeGo (syms : List Nat) : List Nat → Nat → Nat → Nat → List Bool → Option (Nat × List Bool)
  | [], _, _, _, _ => none
  | _ :: _, _, _, _, [] => none
  | c :: cs, code, first, index, b :: r =>
    let code := code + b2n b
    if code < first + c then (syms[index + (code - first)]?).map (fun s => (s, r))
    else decodeGo syms cs (2 * code) (2 * (first + c)) (index + c) r

def decodeSym (h : Huff) (l : List Bool) : Option (Nat × List Bool) := decodeGo h.syms (h.counts.drop 1) 0 0 0 l

/-! Length and distance symbols (RFC 1951, 3.2.5). -/

def lenBase : List Nat :=
  [3, 4, 5, 6, 7, 8, 9, 10, 11, 13, 15, 17, 19, 23, 27, 31, 35, 43, 51, 59, 67, 83, 99, 115, 131, 163, 195, 227, 258]
def lenExtra : List Nat :=
  [0, 0, 0, 0, 0, 0, 0, 0, 1, 1, 1, 1, 2, 2, 2, 2, 3, 3, 3, 3, 4, 4, 4, 4, 5, 5, 5, 5, 0]
def distBase : List Nat :=
  [1, 2, 3, 4, 5, 7, 9, 13, 17, 25, 33, 49, 65, 97, 129, 193, 257, 385, 513, 769, 1025, 1537, 2049, 3073, 4097, 6145,
   8193, 12289, 16385, 24577]
def distExtra : List Nat :=
  [0, 0, 0, 0, 1, 1, 2, 2, 3, 3, 4, 4, 5, 5, 6, 6, 7, 7, 8, 8, 9, 9, 10, 10, 11, 11, 12, 12, 13, 13]

def fixedLit : List Nat :=
  List.replicate 144 8 ++ List.replicate 112 9 ++ List.replicate 24 7 ++ List.replicate 8 8
def fixedDist : List Nat := List.replicate 32 5

/-- Order in which code-length code lengths travel. -/
def clOrder : List Nat := [16, 17, 18, 0, 8, 7, 9, 6, 10, 5, 11, 4, 12, 3, 13, 2, 14, 1, 15]

/-! The decoder. -/

/-- How an expansion ends (R249, R250). `used` is the number of input bits consumed. -/
inductive Inflated where
  | ok (out : List Byte) (bitsLeft : Nat)
  | malformed
  | overLimit
  deriving DecidableEq, Repr

/-- A step of decoding: output so far (last byte first) and bits to come, or an end. -/
inductive InfStep where
  | go (out : List Byte) (l : List Bool)
  | bad
  | tooLong

/-- `n` bytes copied from `d` back, one by one. -/
def copyBack (limit d : Nat) : Nat → List Byte → Option (List Byte)
  | 0, out => some out
  | n + 1, out => if limit ≤ out.length then none else copyBack limit d n (out.getD (d - 1) 0 :: out)

/-- The symbols of a coded block up to end of block. -/
def codedBlock (lit dist : Huff) (limit : Nat) : Nat → List Byte → List Bool → InfStep
  | 0, _, _ => .bad
  | fuel + 1, out, l =>
    match decodeSym lit l with
    | none => .bad
    | some (s, l) =>
      if s < 256 then
        if limit ≤ out.length then .tooLong else codedBlock lit dist limit fuel (BitVec.ofNat 8 s :: out) l
      else if s = 256 then .go out l
      else match lenBase[s - 257]?, takeBits (lenExtra.getD (s - 257) 0) l with
        | some lb, some (le, l) => match decodeSym dist l with
          | none => .bad
          | some (ds, l) => match distBase[ds]?, takeBits (distExtra.getD ds 0) l with
            | some db, some (de, l) =>
              if out.length < db + de then .bad
              else match copyBack limit (db + de) (lb + le) out with
                | none => .tooLong
                | some out => codedBlock lit dist limit fuel out l
            | _, _ => .bad
        | _, _ => .bad

/-- A stored block: the bits to the byte boundary are skipped; `total` is the number of input bits. -/
def storedBlock (limit total : Nat) (out : List Byte) (l : List Bool) : InfStep :=
  let l := l.drop ((8 - (total - l.length) % 8) % 8)
  match takeBits 16 l with
  | none => .bad
  | some (len, l) => match takeBits 16 l with
    | none => .bad
    | some (nlen, l) =>
      if len + nlen ≠ 65535 then .bad
      else if l.length < 8 * len then
        if limit < out.length + l.length / 8 then .tooLong else .bad
      else if limit < out.length + len then .tooLong
      else .go ((bitsToBytes (l.take (8 * len))).take len |>.reverse |>.append out) (l.drop (8 * len))

/-- The run-length coded lengths of a dynamic block: `n` lengths in all. -/
def readLengths (h : Huff) (n : Nat) : Nat → List Nat → List Bool → Option (List Nat × List Bool)
  | 0, _, _ => none
  | fuel + 1, acc, l =>
    if acc.length = n then some (acc, l) else if n < acc.length then none else
    match decodeSym h l with
    | none => none
    | some (s, l) =>
      if s < 16 then readLengths h n fuel (acc ++ [s]) l
      else if s = 16 then match takeBits 2 l, acc.getLast? with
        | some (k, l), some v => readLengths h n fuel (acc ++ List.replicate (k + 3) v) l
        | _, _ => none
      else if s = 17 then match takeBits 3 l with
        | some (k, l) => readLengths h n fuel (acc ++ List.replicate (k + 3) 0) l
        | none => none
      else match takeBits 7 l with
        | some (k, l) => readLengths h n fuel (acc ++ List.replicate (k + 11) 0) l
        | none => none

/-- Code-length code lengths, in the order they travel. -/
def readCl (n : Nat) (l : List Bool) : Option (List Nat × List Bool) :=
  (upTo n).foldl (fun a i => match a with
    | none => none
    | some (lens, l) => match takeBits 3 l with
      | some (v, l) => some (lens.set (clOrder.getD i 0) v, l)
      | none => none) (some (List.replicate 19 0, l))

/-- The tables of a dynamic block (R249: an invalid or incomplete table is malformed). -/
def readTables (l : List Bool) : Option (Huff × Huff × List Bool) :=
  match takeBits 5 l with
  | none => none
  | some (hlit, l) => match takeBits 5 l with
    | none => none
    | some (hdist, l) => match takeBits 4 l with
      | none => none
      | some (hclen, l) => match readCl (hclen + 4) l with
        | none => none
        | some (cl, l) =>
          if !codeComplete cl || decide (286 < hlit + 257) then none else
          match readLengths (huffOf cl) (hlit + 257 + hdist + 1) 400 [] l with
          | none => none
          | some (lens, l) =>
            let a := lens.take (hlit + 257)
            let b := lens.drop (hlit + 257)
            if codeComplete a && codeComplete b then some (huffOf a, huffOf b, l) else none

def inflateGo (limit total : Nat) : Nat → List Byte → List Bool → Inflated
  | 0, _, _ => .malformed
  | fuel + 1, out, l =>
    match takeBits 3 l with
    | none => .malformed
    | some (hd, l) =>
      let step := match hd / 2 with
        | 0 => storedBlock limit total out l
        | 1 => codedBlock (huffOf fixedLit) (huffOf fixedDist) limit (l.length + 1) out l
        | 2 => match readTables l with
          | some (a, b, l) => codedBlock a b limit (l.length + 1) out l
          | none => .bad
        | _ => .bad
      match step with
      | .bad => .malformed
      | .tooLong => .overLimit
      | .go out l => if hd % 2 = 1 then .ok out.reverse l.length else inflateGo limit total fuel out l

/-- The expansion of a raw DEFLATE stream under an output limit (R249, R250). -/
def inflate (limit : Nat) (input : List Byte) : Inflated :=
  let l := bitsOfBytes input
  inflateGo limit l.length (l.length + 1) [] l

/-! The encoder. -/

inductive Tok where
  | lit (b : Nat)
  | mat (len dist : Nat)
  deriving DecidableEq, Repr

/-- How many bytes agree from `q` and from `i`, at most `most`. -/
def agree (raw : List Byte) (q i most : Nat) : Nat :=
  (((raw.drop q).take most).zip ((raw.drop i).take most)).takeWhile (fun p => p.1 == p.2) |>.length

/-- Distances of the candidates at `i`, nearest first (R245). -/
def candidates (raw : List Byte) (i : Nat) : List Nat :=
  (((upTo (min i 32768)).map (· + 1)).filter (fun d => agree raw (i - d) i 3 == 3)).take 24

/-- The best match at `i` of a block that ends at `stop`: length and distance, length 0 when none (R245). -/
def bestMatch (raw : List Byte) (i stop : Nat) : Nat × Nat :=
  let best := (candidates raw i).foldl (fun b d =>
    let n := agree raw (i - d) i (min 258 (stop - i))
    if b.1 < n then (n, d) else b) (0, 0)
  if best.1 < 3 ∨ (best.1 = 3 ∧ 4096 < best.2) then (0, 0) else best

/-- The parse of a block (R246). -/
def parseBlock (raw : List Byte) (stop : Nat) : Nat → Nat → List Tok
  | 0, _ => []
  | fuel + 1, i =>
    if stop ≤ i then [] else
      let b := bestMatch raw i stop
      if b.1 = 0 then .lit (u8 raw i) :: parseBlock raw stop fuel (i + 1)
      else
        let b1 := if i + 1 < stop then bestMatch raw (i + 1) stop else (0, 0)
        if b.1 < b1.1 then .lit (u8 raw i) :: parseBlock raw stop fuel (i + 1)
        else .mat b.1 b.2 :: parseBlock raw stop fuel (i + b.1)

/-- Index of the last base not above a value. -/
def classOf (base : List Nat) (v : Nat) : Nat := (base.filter (fun b => decide (b ≤ v))).length - 1

/-- Literal/length symbol of a token. -/
def litSym : Tok → Nat
  | .lit b => b
  | .mat len _ => 257 + classOf lenBase len

def distSym : Tok → Option Nat
  | .lit _ => none
  | .mat _ d => some (classOf distBase d)

/-- Canonical codes: the code word of each symbol (RFC 1951, 3.2.2). -/
def codeWord (lens : List Nat) (s : Nat) : Nat :=
  let n := lens.getD s 0
  let first := (upTo n).foldl (fun code k => 2 * (code + (if k = 0 then 0 else (lens.filter (fun x => x == k)).length))) 0
  first + ((upTo s).filter (fun t => lens.getD t 0 == n)).length

/-- Bits of a token under two codes. -/
def tokBits (lit dist : List Nat) (t : Tok) : List Bool :=
  let s := litSym t
  putCode (lit.getD s 0) (codeWord lit s) ++
  match t with
  | .lit _ => []
  | .mat len d =>
    let ds := classOf distBase d
    putBits (lenExtra.getD (s - 257) 0) (len - lenBase.getD (s - 257) 0) ++
    putCode (dist.getD ds 0) (codeWord dist ds) ++ putBits (distExtra.getD ds 0) (d - distBase.getD ds 0)

/-- A package of package-merge: weight and the symbols in it. -/
abbrev Pack := Nat × List Nat

/-- Merge by weight; a symbol goes before a package of the same weight (R247). -/
def mergePacks : Nat → List Pack → List Pack → List Pack
  | 0, a, b => a ++ b
  | _ + 1, [], b => b
  | _ + 1, a, [] => a
  | n + 1, x :: a, y :: b => if x.1 ≤ y.1 then x :: mergePacks n a (y :: b) else y :: mergePacks n (x :: a) b

def pairUp : List Pack → List Pack
  | x :: y :: r => (x.1 + y.1, x.2 ++ y.2) :: pairUp r
  | _ => []

def insertPack (x : Pack) : List Pack → List Pack
  | [] => [x]
  | y :: r => if x.1 < y.1 then x :: y :: r else y :: insertPack x r

/-- Symbols in order of weight, then of number. -/
def sortPacks (l : List Pack) : List Pack := l.foldl (fun acc x => insertPack x acc) []

/-- At least two symbols have a count (R247). -/
def fillCounts (counts : List Nat) : List Nat :=
  let used := (counts.filter (fun c => decide (c ≠ 0))).length
  let idle := ((upTo counts.length).filter (fun s => counts.getD s 0 == 0)).take (2 - used)
  idle.foldl (fun c s => c.set s 1) counts

/-- Optimal code lengths under a limit, by package-merge (R247). -/
def codeLengths (limit : Nat) (counts0 : List Nat) : List Nat :=
  let counts := fillCounts counts0
  let items : List Pack := sortPacks (((upTo counts.length).filter (fun s => decide (counts.getD s 0 ≠ 0))).map
    (fun s => (counts.getD s 0, [s])))
  let last := (upTo (limit - 1)).foldl (fun l _ => mergePacks (items.length + l.length) items (pairUp l)) items
  let chosen := (last.take (2 * items.length - 2)).flatMap (·.2)
  (upTo counts.length).map (fun s => (chosen.filter (fun x => x == s)).length)

/-- A length sequence as (symbol, extra bits, extra value) (R247). -/
def runCodes (v : Nat) : Nat → Nat → List (Nat × Nat × Nat)
  | 0, _ => []
  | fuel + 1, r =>
    if r = 0 then []
    else if v = 0 then
      if 11 ≤ r then (18, 7, min r 138 - 11) :: runCodes v fuel (r - min r 138)
      else if 3 ≤ r then [(17, 3, r - 3)]
      else List.replicate r (0, 0, 0)
    else
      if 3 ≤ r then (16, 2, min r 6 - 3) :: runCodes v fuel (r - min r 6) else List.replicate r (v, 0, 0)

/-- Runs of equal values. -/
def runsOfList : List Nat → List (Nat × Nat)
  | [] => []
  | v :: r => match runsOfList r with
    | (w, n) :: t => if w = v then (v, n + 1) :: t else (v, 1) :: (w, n) :: t
    | [] => [(v, 1)]

def lengthSeq (lens : List Nat) : List (Nat × Nat × Nat) :=
  (runsOfList lens).flatMap (fun p =>
    if p.1 = 0 then runCodes 0 p.2 p.2 else (p.1, 0, 0) :: runCodes p.1 p.2 (p.2 - 1))

/-- Smallest count that covers the highest non-zero entry. -/
def coverCount (l : List Nat) : Nat := ((upTo l.length).filter (fun s => decide (l.getD s 0 ≠ 0))).foldl (fun m s => max m (s + 1)) 0

def countSyms (n : Nat) (l : List Nat) : List Nat := (upTo n).map (fun s => (l.filter (fun x => x == s)).length)

/-- Tables and symbols of a dynamic block after its three header bits (R247). -/
def dynamicBits (toks : List Tok) : List Bool :=
  let lit := codeLengths 15 (countSyms 286 (toks.map litSym ++ [256]))
  let dist := codeLengths 15 (countSyms 30 (toks.filterMap distSym))
  let hlit := max 257 (coverCount lit)
  let hdist := coverCount dist
  let seq := lengthSeq (lit.take hlit ++ dist.take hdist)
  let cl := codeLengths 7 (countSyms 19 (seq.map (·.1)))
  let hclen := max 4 (coverCount (clOrder.map (fun s => cl.getD s 0)))
  putBits 5 (hlit - 257) ++ putBits 5 (hdist - 1) ++ putBits 4 (hclen - 4) ++
  ((clOrder.take hclen).flatMap (fun s => putBits 3 (cl.getD s 0))) ++
  seq.flatMap (fun x => putCode (cl.getD x.1 0) (codeWord cl x.1) ++ putBits x.2.1 x.2.2) ++
  toks.flatMap (tokBits lit dist) ++ putCode (lit.getD 256 0) (codeWord lit 256)

def fixedBits (toks : List Tok) : List Bool :=
  toks.flatMap (tokBits fixedLit fixedDist) ++ putCode 7 (codeWord fixedLit 256)

/-- One block: its bits after `sofar` bits of the stream, and whether it is stored (R243, R247). -/
def crushBlock (mode : Nat) (raw : List Byte) (start stop : Nat) (final : Bool) (sofar : Nat) : List Bool × Bool :=
  let toks := parseBlock raw stop (stop - start) start
  let body := if mode = 1 then fixedBits toks else dynamicBits toks
  let pad := (8 - (sofar + 3) % 8) % 8
  let len := stop - start
  if pad + 32 + 8 * len < 3 + body.length then
    ([final, false, false] ++ List.replicate pad false ++ putBits 16 len ++ putBits 16 (65535 - len) ++
       bitsOfBytes ((raw.drop start).take len), true)
  else ([final, decide (mode = 1), decide (mode ≠ 1)] ++ body, false)

/-- A frame's DEFLATE stream and its number of stored blocks (R243). -/
def crushStream (mode : Nat) (raw : List Byte) : List Byte × Nat :=
  let n := max 1 (cdiv raw.length 65535)
  let r := (upTo n).foldl (fun (acc : List Bool × Nat) k =>
    let b := crushBlock mode raw (65535 * k) (min raw.length (65535 * (k + 1))) (decide (k + 1 = n)) acc.1.length
    (acc.1 ++ b.1, acc.2 + b2n b.2)) ([], 0)
  (bitsToBytes r.1, r.2)

/-- A Crusher frame (Table 11.5) and its number of stored blocks. -/
def crushFrame (mode : Nat) (raw : List Byte) : List Byte × Nat :=
  let d := crushStream mode raw
  (leBytes 2 0x5A43 ++ leBytes 1 mode ++ [0] ++ leBytes 4 raw.length ++ leBytes 4 d.1.length ++ leBytes 4 (crc32 raw) ++ d.1,
   d.2)

/-- Expansion of a Crusher frame (R242, R249). -/
def expandFrame (limit : Nat) (b : List Byte) : Inflated :=
  if b.length < 16 ∨ u16 b 0 ≠ 0x5A43 ∨ (u8 b 2 ≠ 1 ∧ u8 b 2 ≠ 2) then .malformed
  else match inflate limit (b.drop 16) with
    | .ok out left =>
      let used := cdiv (8 * (b.length - 16) - left) 8
      if used ≠ u32 b 8 ∨ out.length ≠ u32 b 4 ∨ crc32 out ≠ u32 b 12 then .malformed else .ok out left
    | r => r

end Sys2Proof.Machine
end

