-- ==== Sys2Proof/Machine/Bundles.lean ====
section
/-! DEFINITION. Bundles (16 R398, R400, R401, R403, R404): header, directory, sections; loading and staging; the Expander's
jobs (11 R249, R250). -/

namespace Sys2Proof.Machine

/-! The header of a bundle (Table 16.8). -/

/-- A bundle header keeps Table 16.8, and `n` bytes of stream follow it. -/
def headerOk (h : List Byte) (n : Nat) : Bool :=
  u32 h 0 == 0x4F5A4255 && u16 h 4 == 1 && u8 h 6 == 1 && u8 h 7 == 0 && decide (u16 h 8 < 4096) && u16 h 10 == 0 &&
  inRange 64 67108864 (u32 h 12) && decide (u32 h 16 ≤ 25165824) && u32 h 16 == n && ((h.drop 36).take 28).all (· == 0)

def headerEpoch (h : List Byte) : Nat := u16 h 8 % 4096
def headerBytes (h : List Byte) : Nat := u32 h 12
def headerDigest (h : List Byte) : List Byte := (h.drop 20).take 16

/-! The directory. -/

/-- A directory entry (Table 16.18). -/
structure DirEntry where
  pos : Nat
  kind : Nat
  index : Nat
  off : Nat
  len : Nat
  rsv : Nat
  deriving DecidableEq, Repr, Inhabited

def dirEntries (x : List Byte) (n : Nat) : List DirEntry :=
  (upTo n).map (fun i =>
    let b := (x.drop (64 + 16 * i)).take 16
    { pos := i, kind := u16 b 0, index := u16 b 2, off := u32 b 4, len := u32 b 8, rsv := u32 b 12 })

/-- Opcodes that may stand as command images (Table 16.19). -/
def imageKinds : List Nat :=
  [0x0303, 0x0401, 0x0501, 0x0502, 0x0503, 0x0504, 0x0601, 0x0602, 0x0603, 0x0604, 0x0605, 0x0701, 0x0801, 0x0802, 0x0803,
   0x0903, 0x0904, 0x0A01, 0x0A02, 0x0A06, 0x0A07, 0x0B01, 0x0C01, 0x0C03]

def sectBytes (x : List Byte) (e : DirEntry) : List Byte := (x.drop e.off).take e.len

/-- Why a section is refused: STATUS and DETAIL. -/
abbrev Why := Option (Nat × Nat)

def whyRange : Why := some (stBadArg, 2)
def whyReserved : Why := some (stBadArg, 1)

/-- The first reason of a list. -/
def firstWhy : List Why → Why
  | [] => none
  | some w :: _ => some w
  | none :: r => firstWhy r

def zeros (b : List Byte) (o n : Nat) : Bool := decide (leAt b o n = 0)

/-- An identity that a sender may have (03 R48). -/
def senderId (v : Nat) : Bool := decide (v < 0xFFF)

/-- A list of numbers without repeats and as members of which a value stands. -/
def modeOf (n : Nat) : Mode := if n = 0 then .w4f else if n = 1 then .w8f else .x4

/-- LAYOUT (Table 16.20, R16). -/
def layoutWhy (b : List Byte) : Why :=
  let m := u8 b 0
  let g := u32 b 4
  let p := u32 b 8
  if b.length ≠ 64 ∨ 2 < m then whyRange
  else if !zeros b 1 1 || !zeros b 42 2 || !zeros b 56 8 then whyReserved
  else if 4096 ≤ u16 b 12 then whyReserved
  else if g = 0 ∨ (m = 2 ∧ p ||| g ≠ g) ∨ (m ≠ 2 ∧ p ≠ 0) ∨ !senderId (u16 b 12) ∨ u64 b 16 = 0 ∨
      1000000000 ≤ u32 b 30 ∨ 600 < u16 b 40 then whyRange
  else if !inRange 1 (maxChannels (modeOf m)) (u16 b 2) ∨ u64 b 16 < 16 * u16 b 2 * 2 ^ 32 then some (stLimit, 13)
  else none

/-- PERMIT: four places per group (R401). -/
def permitOf (b : List Byte) : List (List Nat) :=
  (upTo 32).map (fun g => ((upTo 4).map (fun i => u16 b (8 * g + 2 * i))).filter (fun v => decide (v ≠ 0xFFFF)))

def permitWhy (groups : Nat) (b : List Byte) : Why :=
  let p := permitOf b
  if b.length ≠ 256 ∨ p.any (fun l => l.any (fun v => !senderId v)) ∨
      (bitsSet 32 groups).any (fun g => (p.getD g []).isEmpty) then whyRange
  else none

def routesOf (b : List Byte) : List Route :=
  (upTo (u32 b 0)).map (fun i =>
    let r := (b.drop (4 + 16 * i)).take 16
    { source := u16 r 0, downstream := decide (u8 r 2 = 1), mask := u64 r 8 })

def routesWhy (b : List Byte) : Why :=
  let rec' := fun (i : Nat) => (b.drop (4 + 16 * i)).take 16
  if b.length < 4 ∨ b.length ≠ 4 + 16 * u32 b 0 then whyRange
  else if (upTo (u32 b 0)).any (fun i => !zeros (rec' i) 3 5) then whyReserved
  else if (upTo (u32 b 0)).any (fun i => !senderId (u16 (rec' i) 0) || decide (1 < u8 (rec' i) 2) ||
      (u8 (rec' i) 2 == 1 && u64 (rec' i) 8 != 0)) then whyRange
  else none

/-- CONSTELLATION (Table 16.21) read from its bytes. -/
def constOf (index : Nat) (b : List Byte) : ConstCfg :=
  let n := u16 b 0
  let l := b.drop (64 + 144 * n)
  { index := index, alarmSource := u16 b 2, members := (upTo n).map (fun k => u16 b (64 + 144 * k))
    shared := b.take (64 + 144 * n)
    peers := (upTo (u16 l 0)).map (fun i =>
      let p := (l.drop (8 + 8 * i)).take 8
      { source := u16 p 0, lane := u8 p 2, asym := s32 p 4 }) }

def constWhy (lay b : List Byte) : Why :=
  let n := u16 b 0
  let c := constOf 0 b
  let l := b.drop (64 + 144 * n)
  let mem := fun (k : Nat) => (b.drop (64 + 144 * k)).take 144
  if !inRange 2 65 n ∨ !inRange 928 1023 (u16 b 2) ∨ u32 b 4 ≠ 64 + 144 * n ∨ b.length ≠ 72 + 144 * n + 8 * u16 l 0 then whyRange
  else if !zeros b 8 8 || !zeros b 36 28 || (upTo n).any (fun k => !zeros (mem k) 2 2 || !zeros (mem k) 136 8) ||
      !zeros l 2 6 || (upTo (u16 l 0)).any (fun i => !zeros l (11 + 8 * i) 1) then whyReserved
  else if leAt b 16 20 ≠ leAt lay 16 20 ∨ !c.members.contains (u16 lay 12) ∨ c.members.any (fun v => !senderId v) ∨
      c.peers.any (fun p => !c.members.contains p.source || decide (63 < p.lane)) then whyRange
  else none

/-- What a section's contents lack (R401, R403, R404). -/
def contentWhy (lay : List Byte) (e : DirEntry) (b : List Byte) : Why :=
  match e.kind with
  | 1 => layoutWhy b
  | 2 => if b.length = 4 * u16 lay 2 then none else whyRange
  | 3 => permitWhy (u32 lay 4) b
  | 4 => routesWhy b
  | 5 => constWhy lay b
  | 6 => if imageOk b then none else whyRange
  | _ => if b.length < 40 then whyRange else none

def once (k : Nat) : Bool := inRange 1 5 k

/-- What is wrong with an entry, given those before it (R400, R401). -/
def entryWhy (x lay : List Byte) (es : List DirEntry) (e : DirEntry) : Why :=
  let before := es.take e.pos
  if !(inRange 1 6 e.kind || imageKinds.contains e.kind) || (once e.kind && before.any (fun d => d.kind == e.kind)) then whyRange
  else if e.rsv ≠ 0 ∨ (e.kind ≠ 6 ∧ e.index ≠ 0) then whyReserved
  else if e.off % 8 ≠ 0 ∨ e.off < 64 + 16 * es.length ∨ x.length < e.off + e.len ∨
      before.any (fun d => decide (e.off < d.off + d.len) && decide (d.off < e.off + e.len)) then whyRange
  else contentWhy lay e (sectBytes x e)

/-- The configuration header (Table 16.17) and the kinds that must be there. -/
def configWhy (x : List Byte) (es : List DirEntry) : Why :=
  if u32 x 0 ≠ 0x4F5A4346 ∨ u16 x 4 ≠ 1 ∨ !inRange 3 256 (u16 x 6) ∨ u32 x 8 ≠ 64 ∨ !zeros x 12 52 ∨
      x.length < 64 + 16 * u16 x 6 then whyRange
  else if [1, 2, 3].any (fun k => !es.any (fun e => e.kind == k)) then whyRange
  else none

/-- The bundle that expanded bytes describe. -/
def buildBundle (epoch : Nat) (digest x : List Byte) (es : List DirEntry) : Bundle :=
  let sec := fun (k : Nat) => ((es.find? (fun e => e.kind == k)).map (sectBytes x)).getD []
  let lay := sec 1
  { epoch := epoch, digest := digest, mode := modeOf (u8 lay 0), channels := u16 lay 2, groups := u32 lay 4
    pGroups := u32 lay 8, source := u16 lay 12, intake := u16 lay 14, specPeriod := u64 lay 16
    t0Sec := u48 lay 24, t0Ns := u32 lay 30, t0Frac := u16 lay 34, fwBase := u32 lay 36, lockWait := u16 lay 40
    ipv4 := u32 lay 44, netmask := u32 lay 48, gateway := u32 lay 52
    freqs := (upTo (u16 lay 2)).map (fun c => s32 (sec 2) (4 * c)), permit := permitOf (sec 3)
    routes := (es.find? (fun e => e.kind == 4)).map (fun e => routesOf (sectBytes x e))
    const := (es.find? (fun e => e.kind == 5)).map (fun e => constOf e.pos (sectBytes x e))
    ayrImages := (es.filter (fun e => e.kind == 6)).map (fun e => (e.index, sectBytes x e))
    images := (es.filter (fun e => decide (6 < e.kind))).map (fun e =>
      { index := e.pos, opcode := e.kind, body := (sectBytes x e).take 40, arg := (sectBytes x e).drop 40 })
    dirIndex := [1, 2, 3, 4].map (fun k => ((es.find? (fun e => e.kind == k)).map (·.pos)).getD 0xFFFF) }

/-- R400: the bundle that expanded bytes hold, or the reason for refusing it and the directory index. -/
def parseBundle (epoch : Nat) (digest x : List Byte) : Except ((Nat × Nat) × Nat) Bundle :=
  let es := dirEntries x (u16 x 6)
  match configWhy x es with
  | some w => .error (w, 0xFFFF)
  | none =>
    let lay := ((es.find? (fun e => e.kind == 1)).map (sectBytes x)).getD []
    match es.find? (fun e => (entryWhy x lay es e).isSome) with
    | some e => .error ((entryWhy x lay es e).getD (0, 0), e.pos)
    | none => .ok (buildBundle epoch digest x es)

/-- What an expansion of a bundle gives: the bundle, or STATUS, DETAIL and directory index (R250, R398, R400). -/
def bundleOf (raw : List Byte) : Except ((Nat × Nat) × Nat) Bundle :=
  let h := raw.take 64
  match inflate (headerBytes h) (raw.drop 64) with
  | .malformed => .error ((stBadArg, 2), 0xFFFF)
  | .overLimit => .error ((stExpand, 0), 0xFFFF)
  | .ok out _ =>
    if out.length ≠ headerBytes h then .error ((stBadArg, 2), 0xFFFF)
    else if digest128 out ≠ headerDigest h then .error ((stDigest, 0), 0xFFFF)
    else parseBundle (headerEpoch h) (headerDigest h) out

/-! BUNDLE_LOAD. -/

/-- The bytes that the staging area would hold with this segment. -/
def heldWith (r : Req) (s : State) : List Byte :=
  let f := b8 r 28
  (if bit f 0 then [] else s.bun.staging) ++ (if bit f 2 then s.bun.slots.getD (b8 r 29) [] else r.arg)

/-- Bundles are staged while DP is in Run, and in NO_BUNDLE (01 R23, 14 R334). -/
def stagingUp (s : State) : Bool :=
  (dpRun s && s.pwr.leaving.isNone && s.pwr.returning.isNone) || decide (s.shift.dev = .noBundle)

/-- BUNDLE_LOAD (Table 16.9). LAST hands the whole to the Expander, and the reply follows its job. -/
def bundleLoad (r : Req) (_ : Nat) (s : State) : Out :=
  let f := b8 r 28
  let fin := fun (o : Out) => { o with reply := { o.reply with result := fields [(46, leBytes 2 0xFFFF)] } }
  let held := heldWith r s
  if !stagingUp s then refuse s stNotInState 12
  else if 8 ≤ f ∨ (!bit f 2 ∧ b8 r 29 ≠ 0) then badReserved s
  else if bit f 2 ∧ (f ≠ 7 ∨ 1 < b8 r 29 ∨ (s.bun.slots.getD (b8 r 29) []).isEmpty) then badRange s
  else if bit f 2 ∧ !r.arg.isEmpty then badLen s
  else if b32 r 24 ≠ (if bit f 0 then 0 else s.bun.staging.length) then refuse s stBadArg 15
  else if !bit f 1 then
    answer { s with bun := { s.bun with staging := held, staged := if bit f 0 then none else s.bun.staged } }
      (fields [(24, leBytes 4 held.length)])
  else if !headerOk held (held.length - 64) then fin (badRange s)
  else if 9 ≤ s.hst.jobs.length then refuse s stBusy 0
  else
    { st := modHst (fun h => { h with jobs := h.jobs ++
        [{ client := r.client, tag := r.tag, use := 0, input := held, limit := headerBytes held, expect := headerBytes held }] }) s
      stay := some .accepted }

def execBundleLoad (r : Req) (t : Nat) (s : State) : Host.Outcome State Fault Refusal :=
  .next (runCommand 0x0201 bundleLoad r t s)

/-! Expander jobs (11 R249, R250). -/

/-- The Expander takes the next job of its queue. -/
def execExpanderJobStart (s : State) : Host.Outcome State Fault Refusal :=
  .next (if !s.hst.jobs.isEmpty && !s.hst.expRunning && firmwareUpX s then modHst (fun h => { h with expRunning := true }) s else s)
where
  /-- CTL is powered and awake. -/
  firmwareUpX (s : State) : Bool := decide (s.shift.held = .none) && !s.pwr.ctlSleep

/-- What the Expander makes of a job's input in the form that its owner stated (R249). A bundle's input has its header in front. -/
def expandJob (j : ExpJob) : Inflated :=
  let input := if j.use = 0 then j.input.drop 64 else j.input
  if j.frame then expandFrame j.limit input else inflate j.limit input

/-- How a job ended: 0 OK, 1 EXPAND_LIMIT, 2 malformed. -/
def jobEnd (k : Nat) (h : Hoist) : Hoist :=
  if k = 0 then { h with expJobs := sat32 (h.expJobs + 1) }
  else if k = 1 then { h with expLimit := sat32 (h.expLimit + 1), cause := setBits h.cause [5] }
  else { h with expMalformed := sat32 (h.expMalformed + 1), cause := setBits h.cause [5] }

/-- Counting of a bundle's job: the Expander sees only the stream and the size stated. -/
def bundleJobEnd (raw : List Byte) : Nat :=
  match inflate (headerBytes raw) (raw.drop 64) with
  | .malformed => 2
  | .overLimit => 1
  | .ok out _ => if out.length ≠ headerBytes raw then 2 else 0

def bundleReply (raw : List Byte) (w : (Nat × Nat) × Nat) : Reply :=
  { status := w.1.1, detail := w.1.2, result := fields [(24, leBytes 4 raw.length), (28, headerDigest raw),
      (44, leBytes 2 (headerEpoch raw)), (46, leBytes 2 w.2)] }

/-- A bundle's job has ended: the bundle is staged, or refused. -/
def bundleJob (raw : List Byte) (s : State) : State × Reply :=
  let s := modHst (jobEnd (bundleJobEnd raw)) s
  match bundleOf raw with
  | .ok b => ({ s with bun := { s.bun with staging := [], staged := some b } }, bundleReply raw ((stOk, 0), 0xFFFF))
  | .error w =>
    (s, { status := w.1.1, detail := w.1.2, result := fields [(46, leBytes 2 w.2)] })

/-- An Assayer image's job has ended (09 R201). -/
def imageJob (r : Req) (j : ExpJob) (s : State) : State × Reply :=
  match expandJob j with
  | .malformed => (modHst (jobEnd 2) s, { status := stBadArg, detail := 2 })
  | .overLimit => (modHst (jobEnd 1) s, { status := stExpand })
  | .ok out _ =>
    let o := takeImage (b8 r 24) (b16 r 28) (b16 r 30) out (modHst (jobEnd 0) s)
    (o.st, o.reply)

/-- A job that failed on its memory (15 Table 15.2): the command ends HARDWARE_FAULT, an Assayer stays EMPTY. -/
def failedJob (o : OpenCmd) (s : State) : State × Reply :=
  (if o.req.opcode = 0x0602 then
      modAyr (b8 o.req 24) (fun c => { c with state := .empty, ownFirst := 0, ownCount := 0, image := [] }) s
    else s, { status := stHardware })

/-- What the job leaves at its destination: its output, or after a refusal undefined data within the limit (R250, log 4). -/
def jobOutput (j : ExpJob) (s : State) : State :=
  let junk := freeNext (modHst (fun h => { h with expOut := leBytes j.limit (freeVal (8 * j.limit) s) }) s)
  match expandJob j with
  | .ok out _ => if j.expect ≠ 0 ∧ out.length ≠ j.expect then junk else modHst (fun h => { h with expOut := out }) s
  | _ => junk

/-- R250: the running job ends at timer count `t`; `ok` says that its memory accesses succeeded. -/
def execExpanderJobEnd (ok : Bool) (t : Nat) (s : State) : Host.Outcome State Fault Refusal :=
  .next (if !s.hst.expRunning then s else
    match s.hst.jobs with
    | [] => modHst (fun h => { h with expRunning := false }) s
    | j :: rest =>
      let s := jobOutput j (modHst (fun h => { h with jobs := rest, expRunning := false }) s)
      match s.cages.openCmds.find? (fun o => o.req.client == j.client && o.req.tag == j.tag) with
      | none => s
      | some o =>
        let x := if !ok || (decide (j.use = 1) && !dpRun s) then failedJob o s
          else if j.use = 0 then bundleJob j.input s else imageJob o.req j s
        finishOpen (fun p => p.req.client == j.client && p.req.tag == j.tag) (fun _ => x.2) t x.1)

end Sys2Proof.Machine
end

