-- ==== Sys2Proof/Machine/Bell.lean ====
section
/-! DEFINITION. The Bell (15 R346 to R355): source lines, pending bits, delivery, claims, and MSI-X vectors. -/

namespace Sys2Proof.Machine

/-! Source lines: each a cause bit with its enable (02 R43, 04 R84, 05 R110, 06 R136, 07 R161, 08 R181, 09 R205, 10 R224,
11 R252, 12 R277, 13 R317, 14 R342, 15 R366 and R373, 16 R397, 17 R419). -/

/-- `w` lines from source `base`. -/
def linesAt (base w cause en : Nat) : Nat := ((cause &&& en) % 2 ^ w) <<< base

def laneLines (s : State) : Nat :=
  s.lanes.lane.zipIdx.foldl (fun m x =>
    let c := x.1.cause &&& x.1.irqEn
    m ||| (b2n (c % 16 != 0) <<< (2 * x.2)) ||| (b2n (c / 16 % 64 != 0) <<< (2 * x.2 + 1))) 0

def frameLines (s : State) : Nat :=
  s.aba.phys.zipIdx.foldl (fun m x => m ||| (b2n (x.1.cause &&& s.aba.irqEn &&& 7 != 0) <<< (160 + x.2))) 0

def ayrLines (s : State) : Nat :=
  s.ayr.zipIdx.foldl (fun m x => m ||| linesAt (448 + 8 * x.2) 6 x.1.cause x.1.irqEn) 0

def pitLines (s : State) : Nat :=
  s.pit.chans.zipIdx.foldl (fun m x => m ||| (b2n (x.1.cause &&& s.pit.chIrqEn != 0) <<< (576 + x.2))) 0

def wndLines (s : State) : Nat :=
  s.wnd.chan.zipIdx.foldl (fun m x => m ||| linesAt (704 + 4 * x.2) 4 x.1.cause x.1.irqEn) 0

def cageLines (s : State) : Nat :=
  s.cages.cage.zipIdx.foldl (fun m x => m ||| linesAt (768 + 4 * x.2) 4 x.1.cause x.1.irqEn) 0

/-- The level of every source line, bit n for source n. -/
def sourceLines (s : State) : Nat :=
  laneLines s ||| linesAt 128 11 s.hop.cause s.hop.irqEn ||| frameLines s |||
  (b2n (s.aba.cause &&& s.aba.irqEn != 0) <<< 196) ||| linesAt 224 6 s.tal.cause s.tal.irqEn |||
  linesAt 256 6 s.beams.cause s.beams.irqEn ||| linesAt 320 6 s.assay.cause s.assay.irqEn ||| ayrLines s |||
  linesAt 480 8 s.trig.cause s.trig.irqEn ||| linesAt 512 6 s.hst.cause s.hst.irqEn ||| pitLines s |||
  linesAt 608 6 s.pit.cause s.pit.irqEn ||| linesAt 640 10 s.tu.cause s.tu.irqEn |||
  linesAt 672 6 s.tu.ptp.cause s.tu.ptp.irqEn ||| wndLines s ||| cageLines s |||
  linesAt 800 21 s.mon.cause s.mon.irqEn ||| linesAt 832 18 s.pwr.seen s.pwr.gpioIrqEn |||
  linesAt 864 9 s.pwr.cause s.pwr.irqEn ||| linesAt 896 8 s.shift.cause s.shift.irqEn

/-! Delivery (R348, R349, R351). -/

def prioOf (b : Bell) (n : Nat) : Nat := b.prio.getD (n / 4) 0 / 2 ^ (8 * (n % 4)) % 256

def tierOf (b : Bell) (p : Nat) : Nat := p / 2 ^ (8 - min 8 b.tierBits)

/-- The lowest tier among the sources active on a target. -/
def runningTier (b : Bell) (t : Nat) : Option Nat := ((b.active.getD t []).map (fun n => tierOf b (prioOf b n))).min?

/-- Is a source routed to a target (R351)? -/
def routed (b : Bell) (n t : Nat) : Bool :=
  let r := b.route.getD n 0
  if b.claimMode then (upTo 8).any (fun k => bit r k && decide (b.claimTgt.getD k 64 = t))
  else decide (r / 65536 % 64 = t)

def targetOn (b : Bell) (t : Nat) : Bool := decide (t < 34) && bit b.tgtEn t

/-- Sources deliverable to a target (R349). -/
def deliverable (b : Bell) (t : Nat) : List Nat :=
  if !targetOn b t then [] else
  (bitsSet 1024 (b.pend &&& b.en)).filter (fun n =>
    routed b n t && decide (prioOf b n ≤ b.thresh.getD t 0) &&
    (match runningTier b t with | some r => decide (tierOf b (prioOf b n) < r) | none => true))

/-- The preferred of a list of sources: lowest priority value, then lowest number (R348). -/
def preferred (b : Bell) (l : List Nat) : Option Nat :=
  l.foldl (fun best n => match best with
    | none => some n
    | some m => if prioOf b n < prioOf b m then some n else some m) none

/-! MSI-X vectors (R352; 16 R395). -/

/-- The endpoint may send: link up, Bus Master Enable, not in D3hot. -/
def canSend (s : State) : Bool := s.cages.linkUp && s.cages.busMaster && !s.cages.d3hot && s.cages.endpointUp

/-- Messages of vectors go to the host, in order. -/
def sendVectors (vs : List Nat) (s : State) : State :=
  modCages (fun c => { c with lastVector := match vs.getLast? with | some v => some v | none => c.lastVector
                              vectorsSent := vs.foldl (fun l v => upd l v (· + 1)) c.vectorsSent }) s

/-- A vector is asked for. In D3hot it stays pending and PME_Status is set. -/
def askVector (v : Nat) (s : State) : State :=
  if canSend s then sendVectors [v] s
  else modCages (fun c => { c with
    pendingVectors := if c.pendingVectors.contains v then c.pendingVectors else c.pendingVectors ++ [v]
    pmeStatus := c.pmeStatus || c.d3hot, pmPme := c.pmPme || (c.d3hot && c.pmeEn) }) s

/-- Targets whose deliverable set became non-empty since the Bell was last looked at ask for their vectors. -/
def askVectors (s : State) : State :=
  let has := (upTo 34).filter (fun t => !(deliverable s.bell t).isEmpty)
  let fresh := has.filter (fun t => decide (2 ≤ t) && !bit s.bell.asked t)
  fresh.foldl (fun s t => askVector (t - 2) s) (modBell (fun b => { b with asked := maskOf has }) s)

/-- Rising edges of the source lines since they were last looked at become pending (R346). A line falls only by an
operation that looks at the lines first, so no edge is missed (log 28). -/
def bellSync (s : State) : State :=
  let l := sourceLines s
  askVectors (modBell (fun b => { b with pend := b.pend ||| (l &&& (l ^^^ (l &&& b.lines))), lines := l }) s)

/-- The pending bits as BELL_PEND_w shows them. -/
def pendingNow (s : State) : Nat := (bellSync s).bell.pend

/-- An operation that may make lines fall: edges before it and after it both count. -/
def withBell (f : State → State) (s : State) : State := bellSync (f (bellSync s))

/-! Agents. -/

/-- Agents of DEV_ACCESS_ERR: 0 host, 1 core A, 2 core B, 3 Winder, 4 JTAG. -/
def ownsTarget (s : State) (agent t : Nat) : Bool :=
  if t = 0 then decide (agent = 1) else if t = 1 then decide (agent = 2)
  else decide (agent = 0) || (decide (s.shift.onShift < 2) && decide (agent = s.shift.onShift + 1))

/-- R350: a read of BELL_CLAIM_t and what it answers. -/
def claim (agent t : Nat) (s0 : State) : Nat × State :=
  let s := bellSync s0
  if !ownsTarget s agent t then (0x7FF, modBell (fun b => { b with agentErr := true }) s)
  else match preferred s.bell (deliverable s.bell t) with
    | none => (0x7FF, s)
    | some n =>
      (n, askVectors (modBell (fun b => { b with
        pend := b.pend ^^^ (b.pend &&& 2 ^ n)
        active := upd b.active t (fun l => n :: l) }) s))

/-- R350: a write of BELL_COMPLETE_t. -/
def complete (agent t n : Nat) (s0 : State) : State :=
  let s := bellSync s0
  if !ownsTarget s agent t || !(s.bell.active.getD t []).contains n then modBell (fun b => { b with agentErr := true }) s
  else askVectors (modBell (fun b => { b with active := upd b.active t (fun l => l.erase n) }) s)

/-- R350: the agent is answered; a core that the bus matrix keeps out gets a bus error (14 R319). -/
def execBellClaim (agent t : Nat) (s : State) : Host.Outcome State Fault Refusal :=
  .next (if agentReaches s agent then answerBus agent (claim agent t s).1 false (claim agent t s).2
    else answerBus agent 0 true s)

def execBellComplete (agent t n : Nat) (s : State) : Host.Outcome State Fault Refusal :=
  .next (if agentReaches s agent then answerBus agent 0 false (complete agent t n s) else answerBus agent 0 true s)

/-- R346: a write of 1s to BELL_PEND_w. -/
def pendClear (w v : Nat) (s0 : State) : State :=
  let s := bellSync s0
  askVectors (modBell (fun b => { b with pend := w1c b.pend ((v % 2 ^ 32) <<< (32 * (w % 32))) }) s)

def execBellPendClear (w v : Nat) (s : State) : Host.Outcome State Fault Refusal := .next (pendClear w v s)

/-- R355: a write of BELL_SWSET_w, w from 29 to 31. -/
def swSet (w v : Nat) (s0 : State) : State :=
  let s := bellSync s0
  if w < 29 ∨ 31 < w then s
  else askVectors (modBell (fun b => { b with pend := b.pend ||| ((v % 2 ^ 32) <<< (32 * w)) }) s)

def execBellSwset (w v : Nat) (s : State) : Host.Outcome State Fault Refusal := .next (swSet w v s)

/-- R351: a write of BELL_CTRL. A write that changes MODE while a source is enabled is ignored. -/
def bellCtrlWrite (v : Nat) (s0 : State) : State :=
  let s := bellSync s0
  let m := bit v 0
  if m != s.bell.claimMode && s.bell.en != 0 then modBell (fun b => { b with modeErr := true }) s
  else askVectors (modBell (fun b => { b with claimMode := m, tierBits := bits v 8 4 }) s)

def execBellModeWrite (v : Nat) (s : State) : Host.Outcome State Fault Refusal := .next (bellCtrlWrite v s)

/-- R344: a write of CORE_CTRL by a core. -/
def remapWrite (core v : Nat) (s : State) : State := modPwr (fun p => { p with remap := upd p.remap core (fun _ => bit v 0) }) s

def execCoreRemapWrite (core v : Nat) (s : State) : Host.Outcome State Fault Refusal :=
  .next (if agentReaches s (core + 1) then answerBus (core + 1) 0 false (remapWrite core v s)
    else answerBus (core + 1) 0 true s)

/-! Register views (Tables 15.3 and 15.4). -/

/-- BELL_RUNPRI_t. -/
def runPri (b : Bell) (t : Nat) : Nat :=
  match preferred b (b.active.getD t []) with
  | some n => prioOf b n
  | none => 256 + 255

def word32 (m w : Nat) : Nat := m / 2 ^ (32 * w) % 2 ^ 32

def putWord (m w v : Nat) : Nat := m - (word32 m w) * 2 ^ (32 * w) + (v % 2 ^ 32) * 2 ^ (32 * w)

/-- Registers of the Bell by offset; claims apart. -/
def bellReg (b : Bell) (off : Nat) : Nat :=
  if off = 0 then b.tierBits * 256 + b2n b.claimMode
  else if off = 4 then b2n b.modeErr * 2 + b2n b.agentErr
  else if 0x10 ≤ off ∧ off < 0x30 then b.claimTgt.getD ((off - 0x10) / 4) 0
  else if off = 0x80 then word32 b.tgtEn 0
  else if off = 0x84 then word32 b.tgtEn 1
  else if 0x100 ≤ off ∧ off < 0x180 then word32 b.pend ((off - 0x100) / 4)
  else if 0x200 ≤ off ∧ off < 0x280 then word32 b.en ((off - 0x200) / 4)
  else if 0x280 ≤ off ∧ off < 0x300 then word32 (maskOf b.active.flatten) ((off - 0x280) / 4)
  else if 0x400 ≤ off ∧ off < 0x800 then b.prio.getD ((off - 0x400) / 4) 0
  else if 0x800 ≤ off ∧ off < 0x1800 then b.route.getD ((off - 0x800) / 4) 0
  else if 0x2000 ≤ off ∧ off < 0x2220 then
    (match off % 16 with
     | 8 => b.thresh.getD ((off - 0x2000) / 16) 0
     | 12 => runPri b ((off - 0x2000) / 16)
     | _ => 0)
  else 0

/-- A write to a register of the Bell. -/
def bellWrite (agent off v : Nat) (s0 : State) : State :=
  if off = 0 then bellCtrlWrite v s0
  else if 0x100 ≤ off ∧ off < 0x180 then pendClear ((off - 0x100) / 4) v s0
  else if 0x1F4 ≤ off ∧ off < 0x200 then swSet (29 + (off - 0x1F4) / 4) v s0
  else if 0x2000 ≤ off ∧ off < 0x2220 ∧ off % 16 = 4 then complete agent ((off - 0x2000) / 16) (v % 2048) s0
  else askVectors (modBell (fun b =>
    if off = 4 then { b with agentErr := b.agentErr && !bit v 0, modeErr := b.modeErr && !bit v 1 }
    else if 0x10 ≤ off ∧ off < 0x30 then { b with claimTgt := upd b.claimTgt ((off - 0x10) / 4) (fun _ => v % 64) }
    else if off = 0x80 then { b with tgtEn := putWord b.tgtEn 0 v }
    else if off = 0x84 then { b with tgtEn := putWord b.tgtEn 1 (v % 4) }
    else if 0x200 ≤ off ∧ off < 0x280 then { b with en := putWord b.en ((off - 0x200) / 4) v }
    else if 0x400 ≤ off ∧ off < 0x800 then { b with prio := upd b.prio ((off - 0x400) / 4) (fun _ => v % 2 ^ 32) }
    else if 0x800 ≤ off ∧ off < 0x1800 then
      { b with route := upd b.route ((off - 0x800) / 4) (fun _ => v % 256 + v / 65536 % 64 * 65536) }
    else if 0x2000 ≤ off ∧ off < 0x2220 ∧ off % 16 = 8 then
      { b with thresh := upd b.thresh ((off - 0x2000) / 16) (fun _ => v % 256) }
    else b) (bellSync s0))

end Sys2Proof.Machine
end

