-- ==== Sys2Proof/Machine/Mon.lean ====
section
/-! DEFINITION. The monitor converters (17): table sequencer, urgent requests, calibration. -/

namespace Sys2Proof.Machine

def convAt (s : State) (m : Nat) : Conv := s.mon.conv.getD m {}

def modConv (m : Nat) (f : Conv → Conv) (s : State) : State := modMon (fun x => { x with conv := upd x.conv m f }) s

def monCause (ks : List Nat) (s : State) : State := modMon (fun x => { x with cause := setBits x.cause ks }) s

/-! Table entries (16 Table 16.15). -/

def entMask (e : List Byte) : Nat := u8 e 0
def entInput (e : List Byte) : Nat := u8 e 1
def entRate (e : List Byte) : Nat := u8 e 2
def entGain (e : List Byte) : Nat := u8 e 3
def entRepeat (e : List Byte) : Nat := u16 e 4
def entDest (e : List Byte) : Nat := u8 e 8

/-- The checks of R412 on one entry; reserved bits are told apart by their DETAIL. -/
def entReserved (e : List Byte) : Bool := decide (entDest e < 32) && (e.drop 9).all (· == 0)

def entOk (e : List Byte) : Bool :=
  decide (entMask e ≠ 0) && decide (entMask e < 16) && decide (entInput e < 12) && decide (entRate e < 10) &&
  decide (entGain e < 5) && inRange 1 256 (entRepeat e) && (decide (entInput e < 8) || decide (entGain e = 0))

def curEntry (s : State) : List Byte := s.mon.table.getD s.mon.entry []

/-! Results (R407). -/

def calAt (s : State) (m k : Nat) : CalReg := s.mon.cal.getD (8 * m + k) {}

/-- OFF and GAIN that a conversion of an input starts with (Table 17.4). -/
def latchCal (m input : Nat) (s : State) : State :=
  if input < 8 then
    let c := calAt s m input
    modConv m (fun x => { x with off := c.off, gain := c.gain }) s
  else s

/-- The input-referred value u of a raw value at a gain code. -/
def inputReferred (r : Int) (gain : Nat) : Int := r * 256 / 2 ^ gain

/-- The result and whether it carries OVERRANGE. -/
def resultOf (m input gain : Nat) (c : Conv) (r : Int) : Int × Bool :=
  let u := inputReferred r gain
  let exact := if input < 8 then divHalfEven ((u - c.off) * c.gain) (2 ^ 32) else Config.factoryCal m input u
  let v := clampI (-8388608) 8388607 exact
  (v, decide (v ≠ exact) || decide (8388607 ≤ r) || decide (r ≤ -8388607))

/-- A REF_CHECK result beyond 2,000 ppm sets REF_FAULT. -/
def refCheck (input : Nat) (v : Int) (s : State) : State :=
  if input = 11 ∧ (2000 < v ∨ v < -2000) then monCause [17] s else s

/-- A checked result outside its window (R410). -/
def winCheck (e : List Byte) (v : Int) (s : State) : State :=
  let w := entDest e % 8
  if bit (entDest e) 3 ∧ (v < s.mon.winLo.getD w 0 ∨ s.mon.winHi.getD w 0 < v) then monCause [w] s else s

/-- A FIFO entry (Table 17.3). -/
def fifoWords (entry : Nat) (excess shifted lost : Bool) (v : Int) (stamp : Nat) : Nat × Nat :=
  (2 ^ 31 + 2 ^ 30 * b2n excess + 2 ^ 24 * entry + wrap 24 v,
   2 ^ 31 * b2n shifted + 2 ^ 30 * b2n lost + bits stamp 24 30)

/-- The result is pushed into the converter's FIFO (R411). -/
def pushFifo (m : Nat) (e : List Byte) (v : Int) (excess : Bool) (stamp : Nat) (s : State) : State :=
  let c := convAt s m
  if !bit (entDest e) 4 then s
  else if 256 ≤ c.fifo.length then
    monCause [8 + m] (modConv m (fun c => { c with lost := min 0xFFFF (c.lost + 1), lostNext := true }) s)
  else
    let s := modConv m (fun c => { c with
      fifo := c.fifo ++ [fifoWords s.mon.entry excess c.shifted c.lostNext v stamp], lostNext := false }) s
    if c.fifo.length + 1 = 128 then monCause [12 + m] s else s

/-! The sequencer. -/

/-- No conversion of the current entry is left on any converter of its mask (R409). -/
def entryDone (s : State) : Bool := s.mon.conv.all (fun c => c.left == 0)

/-- The entry's conversions have ended; its delay runs. -/
def endEntry (s : State) : State :=
  if s.mon.phase = .converting ∧ entryDone s then modMon (fun x => { x with phase := .delay }) s else s

/-- A new table takes effect (R412). -/
def commitTable (table : List (List Byte)) (run : Bool) (s : State) : State :=
  modMon (fun x => { x with table := table, entry := 0, staged := none, phase := if run then .ready else .stopped }) s

/-- MON_SEQUENCE (R412). -/
def monSequence (r : Req) (_ : Nat) (s : State) : Out :=
  let n := b8 r 24
  if n = 0 ∨ 64 < n then badRange s
  else if r.arg.length ≠ 16 * n then badLen s
  else
    let es := (upTo n).map (fun i => (r.arg.drop (16 * i)).take 16)
    if 1 < b8 r 25 ∨ !es.all entReserved then badReserved s
    else if !es.all entOk then badRange s
    else
      let run := decide (b8 r 25 = 1)
      if s.mon.phase = .converting then
        { st := modMon (fun x => { x with staged := some (es, run) }) s, stay := some .staged }
      else { st := commitTable es run s }

def execMonSequence (r : Req) (t : Nat) (s : State) : Host.Outcome State Fault Refusal :=
  .next (runCommand 0x0B01 monSequence r t s)

/-- R412: no conversion of the current entry is in progress any more, and the waiting table takes effect. -/
def execMonSequenceCommit (t : Nat) (s : State) : Host.Outcome State Fault Refusal :=
  .next (match s.mon.staged with
    | some (es, run) =>
      if s.mon.phase = .converting then s
      else finishOpen (fun o => isOp 0x0B01 o && decide (o.phase = .staged)) (fun _ => {}) t (commitTable es run s)
    | none => s)

/-- Is converter `m` free of urgent work and calibration? -/
def freeOfUrgent (s : State) (m : Nat) : Bool := (convAt s m).serving.isNone && (convAt s m).queue.isEmpty

/-- The entry that starts next: the one that is ready, or the one after the delay. -/
def nextEntry (s : State) : Nat :=
  if s.mon.phase = .delay then (s.mon.entry + 1) % max 1 s.mon.table.length else s.mon.entry

/-- R409: the next entry starts, on the first edge at which every converter of its mask is free of urgent work. -/
def execSequencerEntryStart (s : State) : Host.Outcome State Fault Refusal :=
  .next (
    let n := nextEntry s
    let e := s.mon.table.getD n []
    let ms := bitsSet 4 (entMask e)
    if (s.mon.phase = .ready ∨ s.mon.phase = .delay) ∧ s.mon.staged.isNone ∧ ms.all (freeOfUrgent s) then
      let s := if s.mon.phase = .delay ∧ n = 0 then
          monCause [16] (modMon (fun x => { x with passes := sat32 (x.passes + 1) }) s) else s
      ms.foldl (fun s m => latchCal m (entInput e) (modConv m (fun c => { c with
        state := .table, left := entRepeat e, shifted := false }) s))
        (modMon (fun x => { x with phase := .converting, entry := n }) s)
    else s)

/-! Urgent requests (R413 to R416). -/

/-- An urgent request joins the queue of its converter; the queue holds four. -/
def queueUrgent (m : Nat) (q : UrgReq) (s : State) : Option State :=
  if (convAt s m).queue.length < 4 then some (modConv m (fun c => { c with queue := c.queue ++ [q] }) s) else none

/-- The TU asks for a reading of its temperature input (R415, 13 R305). -/
def tuUrgent (s : State) : State :=
  let n := s.tu.tempInput
  let m := if n < 32 then n / 8 else 0
  let q : UrgReq := { source := .tu, input := if n < 32 then n % 8 else 10, rate := 5 }
  match queueUrgent m q s with
  | some s' => s'
  | none => monCause [20] (modMon (fun x => { x with urgLost := sat32 (x.urgLost + 1) }) s)

/-- Is a request served after the conversion in progress? -/
def finishFirst (s : State) (m : Nat) (q : UrgReq) : Bool :=
  match q.source with
  | .tu => bit s.mon.urgMode m
  | .command _ _ => q.finish
  | .calibrate _ _ => true

/-- MON_URGENT (R416). -/
def monUrgent (r : Req) (_ : Nat) (s : State) : Out :=
  if 3 < b8 r 24 ∨ 11 < b8 r 25 ∨ 9 < b8 r 26 ∨ 1 < b8 r 27 then badRange s
  else
    let q : UrgReq := { source := .command r.client r.tag, input := b8 r 25, rate := b8 r 26
                        finish := decide (b8 r 27 = 1) }
    match queueUrgent (b8 r 24) q s with
    | some s' => { st := s', stay := some .staged, key := b8 r 24 }
    | none => refuse s stBusy 0

def execMonUrgent (r : Req) (t : Nat) (s : State) : Host.Outcome State Fault Refusal :=
  .next (runCommand 0x0B04 monUrgent r t s)

/-- Is the request that of the open command? -/
def asksFor (client tag : Nat) (o : OpenCmd) : Bool := decide (o.req.client = client) && decide (o.req.tag = tag)

/-- R414: the oldest urgent request of converter `m` takes it, on a slow-clock edge. -/
def execUrgentConversionStart (m t : Nat) (s : State) : Host.Outcome State Fault Refusal :=
  .next (
    let c := convAt s m
    match c.queue with
    | [] => s
    | q :: rest =>
      if m ≥ 4 ∨ c.serving.isSome then s
      else if c.state = .table ∧ finishFirst s m q then s
      else
        let redo := decide (c.state = .table)
        let s := modMon (fun x => { x with redo := sat32 (x.redo + b2n redo) }) s
        let s := modConv m (fun c => { c with
          state := .urgent, serving := some q, queue := rest, shifted := c.shifted || decide (c.left ≠ 0) }) s
        let s := latchCal m q.input s
        match q.source with
        | .command cl tag => commitOpen (fun o => isOp 0x0B04 o && asksFor cl tag o && decide (o.phase = .staged)) t s
        | _ => s)

/-- After urgent work a converter goes on with its entry, or is free. -/
def resumeConv (m : Nat) (s : State) : State :=
  let c := convAt s m
  if c.left = 0 then modConv m (fun c => { c with state := .idle }) s
  else if c.queue.isEmpty then latchCal m (entInput (curEntry s)) (modConv m (fun c => { c with state := .table }) s)
  else modConv m (fun c => { c with state := .paused }) s

/-- The result of an urgent request goes to the requester (R413, R415, R416). -/
def deliverUrgent (m : Nat) (q : UrgReq) (v : Int) (excess : Bool) (t : Nat) (s : State) : State :=
  match q.source with
  | .tu => if excess then s else modTu (fun u => { u with temp := v, tempStale := false }) s
  | .command cl tag =>
    finishOpen (fun o => isOp 0x0B04 o && asksFor cl tag o) (fun _ => { result := fields [
      (24, leBytesI 4 v), (28, leBytes 8 t)] }) t (monCause [18] s)
  | .calibrate full cmd =>
    let mean := divHalfEven q.sum 16
    let s := modMon (fun x => { x with cal := upd x.cal (8 * m + q.input) (fun c => match full with
      | none => { c with u0 := some mean }
      | some w => { c with u1 := some mean, full := w }) }) s
    finishOpen (fun o => isOp 0x0B02 o && asksFor (cmd / 65536) (cmd % 65536) o) (fun _ => { result := fields [
      (24, leBytesI 4 mean), (28, leBytes 4 0)] }) t (monCause [19] s)

/-- An urgent conversion of converter `m` ends with raw value `r`. -/
def endUrgent (m : Nat) (r : Int) (t : Nat) (s : State) : State :=
  let c := convAt s m
  match c.serving with
  | none => s
  | some q =>
    let v := resultOf m q.input 0 c r
    let s := modMon (fun x => { x with urgCnt := sat32 (x.urgCnt + 1) }) (refCheck q.input v.1 s)
    let q := { q with left := q.left - 1, sum := q.sum + inputReferred r 0 }
    if q.left = 0 then
      resumeConv m (deliverUrgent m q v.1 v.2 t (modConv m (fun c => { c with urgRes := v.1, serving := none }) s))
    else modConv m (fun c => { c with urgRes := v.1, serving := some q }) s

/-- A conversion of the table ends on converter `m` with raw value `r` (R407, R410, R411). -/
def endTable (m : Nat) (r : Int) (t : Nat) (s : State) : State :=
  let c := convAt s m
  let e := curEntry s
  let v := resultOf m (entInput e) (entGain e) c r
  let s := modConv m (fun c => { c with res := v.1, resEntry := s.mon.entry, resStamp := some (fullTime s t), left := c.left - 1 }) s
  let s := pushFifo m e v.1 v.2 t (winCheck e v.1 (refCheck (entInput e) v.1 s))
  endEntry (resumeConv m s)

/-- R407: the conversion in progress on converter `m` ends with raw value `raw`, 24 bits; `t` is its stamp. -/
def execConversionEnd (m raw t : Nat) (s : State) : Host.Outcome State Fault Refusal :=
  .next (
    let r := signed 24 (raw % 2 ^ 24)
    match (convAt s m).state with
    | .urgent => endUrgent m r t s
    | .table => endTable m r t s
    | _ => s)

/-! Calibration (R408). -/

/-- Is a measurement of the converter under way or waiting? -/
def measuring (s : State) (m : Nat) : Bool :=
  let isCal := fun (q : UrgReq) => match q.source with | .calibrate _ _ => true | _ => false
  (convAt s m).queue.any isCal || (match (convAt s m).serving with | some q => isCal q | none => false)

/-- ZERO, and FULL_SCALE with its value. -/
def measure (r : Req) (full : Option Int) (s : State) : Out :=
  let m := b8 r 24
  let q : UrgReq := { source := .calibrate full (r.client * 65536 + r.tag), input := b8 r 25, rate := 2, finish := true
                      left := 16 }
  if measuring s m then notInState s
  else match queueUrgent m q s with
    | some s' => { st := s', stay := some .staged, key := m }
    | none => refuse s stBusy 0

/-- COMPUTE. -/
def computeCal (m k : Nat) (s : State) : Out :=
  let c := calAt s m k
  match c.u0, c.u1 with
  | some u0, some u1 =>
    if (u1 - u0).natAbs < 2 ^ 16 then badRange s
    else
      let num := if u1 < u0 then -(c.full * 2 ^ 32) else c.full * 2 ^ 32
      let g := divHalfEven num (u1 - u0).natAbs
      if g < -(2 ^ 31) ∨ 2 ^ 31 ≤ g then admission s
      else
        { st := modMon (fun x => { x with cal := upd x.cal (8 * m + k) (fun c => { c with
            off := u0, gain := g, u0 := none, u1 := none }) }) s
          reply := { result := fields [(24, leBytesI 4 u0), (28, leBytesI 4 g)] } }
  | _, _ => notInState s

/-- MON_CALIBRATE (R408). -/
def monCalibrate (r : Req) (_ : Nat) (s : State) : Out :=
  let v := signed 32 (b32 r 28)
  if 3 < b8 r 24 ∨ 7 < b8 r 25 ∨ 2 < b8 r 26 then badRange s
  else if b8 r 26 = 0 then measure r none s
  else if b8 r 26 = 1 then
    if v = 0 ∨ 8388607 < v ∨ v < -8388607 then badRange s else measure r (some v) s
  else computeCal (b8 r 24) (b8 r 25) s

def execMonCalibrate (r : Req) (t : Nat) (s : State) : Host.Outcome State Fault Refusal :=
  .next (runCommand 0x0B02 monCalibrate r t s)

/-! Reading, clearing and registers. -/

/-- Age of a table result in ms at array time `now` in 2^-16 ns, saturating; all ones with none. -/
def resAge (c : Conv) (now : Nat) : Nat :=
  match c.resStamp with
  | some st => min 0xFFFF ((now - st) / (65536 * 1000000))
  | none => 0xFFFF

/-- MON_READ (16 Table 16.14). -/
def monRead (_ : Req) (t : Nat) (s : State) : Out :=
  answer s (fields ((upTo 4).map (fun m =>
    let c := convAt s m
    (24 + 8 * m, leBytesI 4 c.res ++ leBytes 2 c.resEntry ++ leBytes 2 (resAge c (fullTime s t))))))

def execMonRead (r : Req) (t : Nat) (s : State) : Host.Outcome State Fault Refusal :=
  .next (runCommand 0x0B03 monRead r t s)

/-- A read of MON_FIFO_LO_m: what it returns, and the state after it (R411). On an empty FIFO the high word latched before
stays (log 123). -/
def monFifoRead (m : Nat) (s : State) : Nat × State :=
  match (convAt s m).fifo with
  | [] => (0, s)
  | e :: r => (e.1, modConv m (fun c => { c with fifo := r, hi := e.2 }) s)

def execMonFifoRead (m : Nat) (s : State) : Host.Outcome State Fault Refusal := .next (monFifoRead m s).2

/-- R418. -/
def clearMon (s : State) : State :=
  modMon (fun x => { x with passes := 0, redo := 0, urgCnt := 0, urgLost := 0
                            conv := x.conv.map (fun c => { c with lost := 0 }) }) s

def execMonCounterClear (s : State) : Host.Outcome State Fault Refusal := .next (clearMon s)

/-- MON_STAT (Table 17.6). -/
def monStat (s : State) : Nat :=
  let mask := fun (p : Conv → Bool) => maskOf ((upTo 4).filter (fun m => p (convAt s m)))
  let run := decide (s.mon.phase ≠ .stopped)
  2 ^ 26 * (if run then s.mon.entry else 0) + 2 ^ 25 * b2n run +
  2 ^ 24 * b2n ((upTo 4).any (fun m => match (convAt s m).serving with
    | some q => (match q.source with | .calibrate _ _ => true | _ => false)
    | none => false)) +
  2 ^ 20 * mask (fun c => decide (c.state ≠ .idle) || !c.queue.isEmpty) +
  2 ^ 16 * mask (fun c => c.serving.isSome || !c.queue.isEmpty) + 2 ^ 8 * s.mon.table.length

/-- Monitor registers, by offset in the block; MON_FIFO_LO_m by its head (Table 17.5). -/
def monReg (s : State) (off : Nat) : Nat :=
  let c := fun m => convAt s m
  if 0x400 ≤ off then u32 (s.mon.table.getD ((off - 0x400) / 16) []) (off % 16)
  else if 0x100 ≤ off ∧ off < 0x200 then
    let k := s.mon.cal.getD ((off - 0x100) / 8) {}
    wrap 32 (if off % 8 = 0 then k.off else k.gain)
  else if 0xC0 ≤ off ∧ off < 0x100 then
    let w := (off - 0xC0) / 8
    wrap 24 ((if off % 8 = 0 then s.mon.winLo else s.mon.winHi).getD w 0)
  else if 0xB0 ≤ off ∧ off < 0xC0 then wrap 32 (c ((off - 0xB0) / 4)).urgRes
  else if 0xA0 ≤ off ∧ off < 0xB0 then
    let x := c ((off - 0xA0) / 4)
    65536 * x.lost + x.fifo.length
  else if 0x40 ≤ off ∧ off < 0x80 then
    let x := c ((off - 0x40) / 16)
    match off % 16 with
    | 0 => wrap 32 x.res
    | 4 => 65536 * resAge x (fullTime s (timeNow s)) + x.resEntry
    | 8 => match x.fifo with | e :: _ => e.1 | [] => 0
    | 12 => x.hi
    | _ => 0
  else match off with
    | 0x00 => monStat s | 0x04 => s.mon.cause | 0x08 => s.mon.irqEn | 0x10 => s.mon.urgMode | 0x14 => s.mon.passes
    | 0x18 => s.mon.redo | 0x1C => s.mon.urgCnt | 0x20 => s.mon.urgLost | _ => 0

/-- A write to a monitor register. -/
def monWrite (off v : Nat) (s : State) : State :=
  if 0x100 ≤ off ∧ off < 0x200 then
    modMon (fun x => { x with cal := upd x.cal ((off - 0x100) / 8) (fun k =>
      if off % 8 = 0 then { k with off := signed 32 v } else { k with gain := signed 32 v }) }) s
  else if 0xC0 ≤ off ∧ off < 0x100 then
    let w := (off - 0xC0) / 8
    modMon (fun x => if off % 8 = 0 then { x with winLo := upd x.winLo w (fun _ => signed 24 (v % 2 ^ 24)) }
                     else { x with winHi := upd x.winHi w (fun _ => signed 24 (v % 2 ^ 24)) }) s
  else match off with
    | 0x04 => modMon (fun x => { x with cause := w1c x.cause v }) s
    | 0x08 => modMon (fun x => { x with irqEn := v % 2 ^ 21 }) s
    | 0x0C => if bit v 0 then clearMon s else s
    | 0x10 => modMon (fun x => { x with urgMode := v % 16 }) s
    | _ => s

end Sys2Proof.Machine
end

