-- ==== Sys2Proof/Machine/Tu.lean ====
section
/-! DEFINITION. The timing unit (13): candidates, the frame, selection, the loop, steering, holdover, and its commands. -/

namespace Sys2Proof.Machine

/-! Numbers. -/

/-- The nearest integer to a rational number, a half upwards. -/
def ratRound (q : Rat) : Int := (q + 1 / 2).floor

/-- The least integer not below a rational number. -/
def ratCeil (q : Rat) : Int := -((-q).floor)

def ratAbs (q : Rat) : Rat := if q < 0 then -q else q

/-- π to 18 digits (log 25). -/
def piRat : Rat := 3141592653589793238 / 1000000000000000000

/-- One second in units of 2^-16 ns. -/
def secUnits : Nat := 65536000000000

/-- Middle value of a list of rationals; the mean of the two middle ones with an even number; 0 of none. -/
def median (l : List Rat) : Rat :=
  let m := l.mergeSort (fun a b => decide (a ≤ b))
  let n := m.length
  if n % 2 = 1 then m.getD (n / 2) 0 else (m.getD (n / 2 - 1) 0 + m.getD (n / 2) 0) / 2

def meanOf (l : List Rat) : Rat := if l.isEmpty then 0 else l.foldl (· + ·) 0 / (l.length : Nat)

/-! Candidates. -/

/-- Kinds of Table 13.1: 0 REF, 1 PPS, 2 LREF, 3 NET. -/
def candKind (i : Nat) : Nat := if i < 2 then 0 else if i < 4 then 1 else if i < 6 then 2 else 3

/-- A time candidate also tells where the seconds fall. -/
def timeCand (i : Nat) : Bool := candKind i == 1 || candKind i == 3

def candAt (u : Tu) (i : Nat) : Cand := u.cands.getD i {}
def modCand (i : Nat) (f : Cand → Cand) (u : Tu) : Tu := { u with cands := upd u.cands i f }
def tuCause (ks : List Nat) (u : Tu) : Tu := { u with cause := setBits u.cause ks }
def ptpCause (ks : List Nat) (p : Ptp) : Ptp := { p with cause := setBits p.cause ks }

/-- NET's quality level from clockClass (Table 13.13). -/
def classQl (c : Nat) : Nat :=
  match c with
  | 6 => 0 | 7 => 2 | 13 => 4 | 14 => 6 | 52 => 10 | 58 => 10 | 187 => 10 | 193 => 10 | 248 => 14 | _ => 15

/-- QL in force (R314). -/
def candQl (u : Tu) (i : Nat) : Nat :=
  if i = 6 ∧ u.ptp.cfg.qlMode = 1 then (match u.ptp.gm with | some a => classQl a.clockClass | none => 15)
  else (candAt u i).par.ql

/-- A candidate's entry into a state, with its flags and counters (R284, R285). -/
def enterState (i : Nat) (st : CandState) (u : Tu) : Tu :=
  if (candAt u i).state = st then u else
  let u := modCand i (fun c =>
    let c := { c with state := st, tolFails := 0, timer := 0, driftCause := 0 }
    match st with
    | .disabled => { c with returning := false, wasQualified := false, resolved := false, phis := [], aHist := []
                            a := none, r := none, voter := false }
    | .monitor => { c with resolved := false }
    | .qualifying => { c with timer := c.par.qualTime, resolved := false }
    | .qualified => { c with returning := false, wasQualified := true }
    | .drifting => { c with returning := c.returning || c.wasQualified, drifts := sat32 (c.drifts + 1) }
    | .failed => { c with returning := c.returning || c.wasQualified, fails := sat32 (c.fails + 1), resolved := false
                          phis := [], aHist := [], a := none, r := none, voter := false, edge := false }
    | .waitToRestore => { c with timer := c.par.wtr }) u
  let u := tuCause [1] u
  match st with
  | .failed => tuCause [3] u
  | .drifting => tuCause [2] u
  | _ => u

/-- The state a candidate takes from DISABLED or MONITOR (Table 13.5). -/
def enterEnabled (i : Nat) (u : Tu) : Tu :=
  let c := candAt u i
  if !c.par.eligible then enterState i .monitor u
  else if c.signal then enterState i .qualifying u
  else enterState i .failed u

/-! The frequency that the output has without a candidate. -/

/-- y_xo(T, t) of R303 in 10^-12. -/
def modelY (m : HoldModel) (temp : Int) (sec : Nat) : Rat :=
  let x : Rat := ((temp - m.tRef : Int) : Rat) / 1000
  let z : Rat := (((sec : Int) - m.tFit : Int) : Rat) / 86400
  (m.c0 : Rat) + m.c1 * x + (m.c2 : Rat) / 1000 * x * x + m.age * z

/-- The temperature part of the model (R307). -/
def modelTemp (m : HoldModel) (temp : Int) : Rat :=
  let x : Rat := ((temp - m.tRef : Int) : Rat) / 1000
  m.c1 * x + (m.c2 : Rat) / 1000 * x * x

/-- SLOPE as a fractional frequency. -/
def slopeFrac (u : Tu) : Rat := (u.slope : Rat) / 1000000000

/-- The departure of a phase step in HOLDOVER or FREE_RUN (R298). -/
def departFrac (u : Tu) : Rat :=
  if 0 < u.departure then slopeFrac u else if u.departure < 0 then -slopeFrac u else 0

/-- The output frequency relative to the XO in HOLDOVER and FREE_RUN (R305, R307). -/
def openLoop (sec : Nat) (u : Tu) : Tu :=
  match u.out with
  | .holdover => { u with freq := departFrac u - modelY u.model u.temp sec / 1000000000000 }
  | .freeRun => { u with freq := departFrac u - modelTemp u.model u.temp / 1000000000000 }
  | _ => u

/-! Holdover history. -/

/-- Locked records of the learning window that ends at t_fit (R303). -/
def windowRecs (u : Tu) : List HistRec :=
  u.hist.filter (fun h => h.locked && decide (h.sec ≤ u.model.tFit) &&
    decide (u.model.tFit < h.sec + u.holdLearn * 3600))

/-- R304, R308, R309. -/
def historyValid (u : Tu) : Bool :=
  !u.xoLost && (u.loaded ||
    (decide (u.holdMin * 60 ≤ 16 * (windowRecs u).length) &&
     (match u.residual with
      | some m => decide (m ≤ (u.holdRes : Rat) * u.holdRes)
      | none => false)))

/-- Validity is looked at afresh; a change sets HIST. -/
def recheck (u : Tu) : Tu :=
  let v := historyValid u
  if v = u.valid then u else tuCause [9] { u with valid := v }

/-- A row of a linear system minus a multiple of another. -/
def rowSub (a b : List Rat) (f : Rat) : List Rat := List.zipWith (fun x y => x - f * y) a b

/-- Linear equations (each row its coefficients, then the right-hand side) solved by elimination; none when singular. -/
def solveLin : Nat → List (List Rat) → Option (List Rat)
  | 0, _ => some []
  | n + 1, rows =>
    match rows.find? (fun r => decide (r.headD 0 ≠ 0)) with
    | none => none
    | some p =>
      let others := rows.erase p
      let reduced := others.map (fun r => (rowSub r p (r.headD 0 / p.headD 1)).drop 1)
      match solveLin n reduced with
      | none => none
      | some xs =>
        let rest := (List.zipWith (· * ·) (p.drop 1) xs).foldl (· + ·) 0
        some (((p.getLastD 0) - rest) / p.headD 1 :: xs)

/-- Least squares over rows of regressors with a value each. -/
def leastSquares (rows : List (List Rat × Rat)) : Option (List Rat) :=
  let n := match rows with | (r, _) :: _ => r.length | [] => 0
  let dot := fun (f : List Rat × Rat → Rat) => rows.foldl (fun acc r => acc + f r) 0
  solveLin n ((upTo n).map (fun i =>
    (upTo n).map (fun j => dot (fun r => r.1.getD i 0 * r.1.getD j 0)) ++ [dot (fun r => r.1.getD i 0 * r.2)]))

def clampReg (z : Int) : Int := clampI (-2147483648) 2147483647 z

/-- The fit of R303 at t_fit; a loaded model stands until the TU has HOLD_MIN of locked records (R308). -/
def refit (tFit : Nat) (u0 : Tu) : Tu :=
  let u := { u0 with model := { u0.model with tFit := tFit } }
  let recs := windowRecs u
  if u0.loaded ∧ 16 * recs.length < u0.holdMin * 60 then u0
  else if recs.isEmpty then { u with residual := none, loaded := false }
  else
    let temps := recs.map (·.temp)
    let tRef := ratRound (meanOf (temps.map (fun t => (t : Rat))))
    let span := temps.foldl max (temps.headD 0) - temps.foldl min (temps.headD 0)
    let useT := decide (500 ≤ span)
    let useA := decide (6 * 3600 ≤ 16 * recs.length)
    let m0 := { u.model with tRef := tRef }
    let x := fun (h : HistRec) => ((h.temp - tRef : Int) : Rat) / 1000
    let z := fun (h : HistRec) => (((h.sec : Int) - tFit : Int) : Rat) / 86400
    let kept := fun (h : HistRec) =>
      (if useT then 0 else (m0.c1 : Rat) * x h + (m0.c2 : Rat) / 1000 * x h * x h) +
      (if useA then 0 else (m0.age : Rat) * z h)
    let rows := recs.map (fun h =>
      ([(1 : Rat)] ++ (if useT then [x h, x h * x h / 1000] else []) ++ (if useA then [z h] else []),
       (h.freq : Rat) - kept h))
    let m := match leastSquares rows with
      | none => m0
      | some k =>
        let m := { m0 with c0 := clampReg (ratRound (k.getD 0 0)) }
        let m := if useT then { m with c1 := clampReg (ratRound (k.getD 1 0)), c2 := clampReg (ratRound (k.getD 2 0)) } else m
        if useA then { m with age := clampReg (ratRound (k.getLastD 0)) } else m
    let sq := meanOf (recs.map (fun h =>
      let d := (h.freq : Rat) - modelY m h.temp h.sec
      d * d))
    { u with model := m, residual := some sq, loaded := false }

/-! Output states. -/

def enterOut (o : OutState) (u : Tu) : Tu :=
  if u.out = o then u else
  let u := tuCause [0] { u with out := o }
  match o with
  | .holdover | .freeRun => tuCause [4] u
  | _ => u

/-- The result of R289: the best QUALIFIED candidate. -/
def bestCand (u : Tu) : Option Nat :=
  (upTo 7).foldl (fun best i =>
    if (candAt u i).state ≠ .qualified then best else
    match best with
    | none => some i
    | some k =>
      if candQl u i < candQl u k ∨ (candQl u i = candQl u k ∧ (candAt u i).par.priority < (candAt u k).par.priority)
      then some i else some k) none

/-- The QL of the selected candidate became worse than that of another QUALIFIED one (R290). -/
def becameWorse (before u : Tu) (k : Nat) : Bool :=
  (upTo 7).any (fun j => decide ((candAt u j).state = .qualified) && decide (candQl u j < candQl u k) &&
    decide (candQl before k ≤ candQl before j))

/-- A retarget to candidate k (R296, Table 13.7). -/
def retarget (k : Nat) (u : Tu) : Tu :=
  let p := (candAt u k).phi
  let u := { u with selected := some k, switches := sat32 (u.switches + 1), u := (p : Rat)
                    g := if timeCand k then u.userOff else p
                    err := none, lockNs := 0, bigNs := 0, departure := 0 }
  match u.out with
  | .freeRun => enterOut .acquire u
  | .acquire => u
  | _ => enterOut .switching u

/-- No candidate is left: HOLDOVER or FREE_RUN (R291, R306). -/
def loseTarget (sec : Nat) (u : Tu) : Tu :=
  let det : Option Cand := u.selected.map (candAt u)
  let newest := (u.hist.head?.map (·.sec)).getD u.model.tFit
  let u := match det with
    | some c =>
      if c.state = CandState.drifting then
        let w := (if c.driftCause = 2 then c.par.driftWin else c.par.qualTime) + c.par.measWin
        { refit (sec - w) u with rewound := true }
      else refit newest u
    | none => refit newest u
  let u := recheck { u with selected := none, g := ratRound u.u, u := ((ratRound u.u : Int) : Rat)
                            err := none, lockNs := 0, bigNs := 0 }
  openLoop sec (if u.valid then enterOut .holdover u else enterOut .freeRun u)

/-- Selection reruns (R289, R290): `before` is the unit as the changes found it. -/
def reselect (sec : Nat) (before u : Tu) : Tu :=
  let best := bestCand u
  match u.selected with
  | none => match best with | some k => retarget k u | none => u
  | some k =>
    let stays := decide ((candAt u k).state = .qualified)
    match best with
    | none => loseTarget sec u
    | some b =>
      if b = k then u
      else if u.revertive || !stays || becameWorse before u k then retarget b u else u

/-- An event changes candidates, and selection follows. -/
def withSelection (f : Tu → Tu) (s : State) : State := modTu (fun u => reselect s.sys.sec u (f u)) s

/-! Steering and the loop. -/

def follows (o : OutState) : Bool := decide (o = .acquire) || decide (o = .locked) || decide (o = .switching)

/-- `ns` pass: U moves towards G at SLOPE, a departure runs off, and the timers of R291 and R294 run. -/
def advanceTu (ns : Nat) (u : Tu) : Tu :=
  let d : Rat := (u.slope : Rat) * ns * 65536 / 1000000000
  let thr : Rat := (u.lockThr : Rat) * 65536
  if follows u.out then
    let lock := match u.err with | some e => decide (ratAbs e ≤ thr) | none => false
    let big := match u.err with | some e => decide (16 * thr < ratAbs e) | none => false
    let g : Rat := (u.g : Rat)
    let u' := { u with lockNs := if lock then u.lockNs + ns else 0, bigNs := if big then u.bigNs + ns else 0 }
    if u.u = g then u'
    else if ratAbs (g - u.u) ≤ d then tuCause [5] { u' with u := g }
    else { u' with u := if u.u < g then u.u + d else u.u - d }
  else if u.departure = 0 ∨ ratAbs u.departure ≤ d then u
  else { u with departure := if 0 < u.departure then u.departure - d else u.departure + d }

/-- Bandwidths of Table 13.8 in mHz. -/
def bwTable : List Nat :=
  [1, 2, 5, 10, 20, 50, 100, 200, 500, 1000, 2000, 5000, 10000, 20000, 50000, 100000, 200000, 500000, 1000000, 2000000,
   4000000]

/-- The bandwidth code asked for, before NET's clamp (R293). -/
def bwAsked (u : Tu) (k : Nat) : Nat :=
  match u.override with
  | some c => c
  | none => (if u.out = .acquire then u.acquire else u.service).getD (candKind k) 0

/-- The Sync interval in ns. -/
def syncNs (log : Int) : Nat := if 0 ≤ log then 1000000000 * 2 ^ log.toNat else 1000000000 / 2 ^ (-log).toNat

/-- The largest code not above the Sync rate divided by 20. -/
def netCode (u : Tu) : Nat :=
  ((upTo 21).filter (fun c => decide (bwTable.getD c 0 * 20 * syncNs u.ptp.syncLog ≤ 1000 * 1000000000))).getLastD 0

/-- BW in force and BW_CLAMPED. -/
def bwForce (u : Tu) : Nat × Bool :=
  match u.selected with
  | none => (0, false)
  | some k =>
    if !follows u.out then (0, false)
    else if k = 6 ∧ netCode u < bwAsked u k then (netCode u, true)
    else (bwAsked u k, false)

/-- The measurement interval τ of Table 13.1 in ns. -/
def measureNs (u : Tu) (k : Nat) : Nat :=
  match candKind k with
  | 1 => 1000000000
  | 3 => syncNs u.ptp.syncLog
  | _ => 10000

/-- The loop of R292 at a measurement of the selected candidate, with the limit of R295. -/
def loopStep (k : Nat) (timetable : Bool) (u : Tu) : Tu :=
  let e : Rat := ((candAt u k).phi : Rat) - u.u
  let sec : Rat := e / secUnits
  let wn : Rat := 2 * piRat * ((bwTable.getD (bwForce u).1 0 : Nat) : Rat) / 2482
  let integ := u.integ + wn * wn * ((measureNs u k : Nat) : Rat) / 1000000000 * sec
  let prop := 2 * wn * sec
  let lim := slopeFrac u
  let prop := if u.out = .acquire ∧ timetable = false then prop
    else if lim < prop then lim else if prop < -lim then -lim else prop
  let thr : Rat := (u.lockThr : Rat) * 65536
  let u := { u with integ := integ, freq := -(prop + integ), err := some e
                    lockNs := if ratAbs e ≤ thr then u.lockNs else 0
                    bigNs := if 16 * thr < ratAbs e then u.bigNs else 0 }
  if u.out = .locked ∧ 10000000000 ≤ u.bigNs then enterOut .acquire { u with bigNs := 0 } else u

/-- Array time, with its FRAC, moved by a signed number of 2^-16 ns; `subOnly` keeps the seconds. -/
def moveTime (d : Int) (subOnly : Bool) (s : State) : State :=
  let t : Nat := (s.sys.sec * 1000000000 + s.sys.ns) * 65536 + s.tu.frac
  let n := wrap 200 ((t : Int) + d)
  let sec := if subOnly then s.sys.sec else n / secUnits % 2 ^ 48
  { s with sys := { s.sys with sec := sec, ns := n % secUnits / 65536 }
           tu := { s.tu with frac := n % 65536 } }

/-- The phases of the time candidates move with array time. -/
def shiftPhases (d : Int) (u : Tu) : Tu :=
  { u with cands := u.cands.mapIdx (fun i c =>
      if timeCand i then { c with phi := c.phi + d, phis := c.phis.map (· + d) } else c) }

/-! Outputs (R310). -/

/-- PPS_OUT, CLKOUT_A and CLKOUT_B are driven: VIN is in range, and VIO_T present (19 Table 19.3). -/
def outputsDriven (s : State) : Bool := supplyOn s vin && supplyOn s vioT && !s.pwr.shutOff

/-- A CLKOUT code's frequency in Hz; 0 is off (16 Table 16.14). -/
def clkHz (code : Nat) : Nat := [0, 10000000, 25000000, 100000000, 156250000].getD code 0

/-- A CLKOUT of a code rises `d` 2^-16 ns after a second boundary. -/
def clkRises (code d : Nat) : Bool := decide (0 < clkHz code) && decide (d * clkHz code % secUnits = 0)

/-- The outputs at a second boundary: all rise that are driven. -/
def raiseOutputs (driven : Bool) (u : Tu) : Tu :=
  { u with ppsOut := driven, clkOut := [driven && clkRises u.clkA 0, driven && clkRises u.clkB 0], outHeld := false }

/-- The outputs are no longer driven. -/
def restOutputs (u : Tu) : Tu := { u with ppsOut := false, clkOut := [false, false] }

/-- The coarse set of R299, at a measurement of the selected candidate k. -/
def coarseSet (k : Nat) (s : State) : State :=
  let u := s.tu
  let off : Int := u.g - (candAt u k).phi
  if u.out = .acquire ∧ !s.hop.running ∧ timeCand k ∧ (u.jumpThr * 65536 : Int) < (off.natAbs : Int) then
    let s := moveTime off (candKind k == 1) s
    modTu (fun u => tuCause [6] { shiftPhases off u with
      u := (u.g : Rat), coarse := sat32 (u.coarse + 1), outHeld := true, ppsOut := false, clkOut := [false, false], lockNs := 0, bigNs := 0 }) s
  else s

/-- What follows a new phase of candidate k: the coarse set and the loop when it is the selected one. -/
def afterPhase (k : Nat) (s : State) : State :=
  if s.tu.selected = some k ∧ follows s.tu.out then
    let s := coarseSet k s
    modTu (loopStep k s.hop.running) s
  else s

/-! Phases (R281). -/

/-- Ambiguity A in 2^-16 ns; none for NET. -/
def ambiguity (i : Nat) (p : CandParams) : Option Rat :=
  match candKind i with
  | 0 => some ((match p.refFreq with | 0 => 100 | 1 => 40 | _ => 10) * 65536)
  | 1 => some secUnits
  | 2 => some (64 * 65536 / 10)
  | _ => none

/-- The value congruent to `v` nearest to `c`, in (c − A/2, c + A/2]. -/
def nearTo (A : Option Rat) (c v : Int) : Int :=
  match A with
  | none => v
  | some A => ratRound ((v : Rat) - A * (ratCeil (((v - c : Int) : Rat) / A - 1 / 2) : Rat))

/-- A new raw phase of a candidate, resolved or followed. -/
def takePhase (i : Nat) (raw : Int) (u : Tu) : Tu :=
  modCand i (fun c =>
    let v := raw - c.par.comp
    let A := ambiguity i c.par
    let cont := nearTo A c.phi v
    if c.resolved then { c with phi := cont }
    else
      let p := nearTo A 0 v
      { c with phi := p, resolved := true, phis := c.phis.map (· + (p - cont)) }) u

/-- R281, R292, R295, R299: candidate `i` measures `raw`, the output time minus the candidate's time; `ns` have passed
since U last moved. -/
def execPhaseMeasurement (i : Nat) (raw : Int) (ns : Nat) (s : State) : Host.Outcome State Fault Refusal :=
  .next (
    let c := candAt s.tu i
    if 6 ≤ i ∨ c.state = .disabled ∨ !c.signal ∨ (candKind i = 1 ∧ !c.edge) then s
    else afterPhase i (modTu (fun u => modCand i (fun c => { c with edge := false }) (takePhase i raw (advanceTu ns u))) s))

/-! Signals (R282). -/

/-- A candidate loses its signal. -/
def dropSignal (i : Nat) (u : Tu) : Tu :=
  let u := modCand i (fun c => { c with signal := false, misses := 0, armed := false, edge := false }) u
  match (candAt u i).state with
  | .disabled | .monitor | .failed =>
    modCand i (fun c => { c with phis := [], aHist := [], a := none, r := none, resolved := false }) u
  | _ => enterState i .failed u

/-- A candidate has its signal again. -/
def restoreSignal (i : Nat) (u : Tu) : Tu :=
  let u := modCand i (fun c => { c with signal := true, misses := 0 }) u
  if (candAt u i).state = .failed then enterState i .qualifying u else u

/-! PTP's choice of grandmaster. -/

/-- The messages the ordinary clock takes (R311, R315). -/
def ptpTakes (c : PtpCfg) (port domain sdo transport : Nat) : Bool :=
  bit c.ports port && decide (domain = c.domain) && decide (sdo = c.majorSdo) && (c.transports &&& transport != 0)

/-- The data set comparison of the standard's best master clock algorithm: is `a` better than `b` (PRESUMED, log 26)? -/
def betterMaster (a b : Announce) : Bool :=
  let lex := fun (l : List (Nat × Nat)) => match l.find? (fun p => decide (p.1 ≠ p.2)) with
    | some p => decide (p.1 < p.2)
    | none => false
  if a.gm = b.gm then
    lex [(a.stepsRemoved, b.stepsRemoved), (a.sender, b.sender), (a.port, b.port)]
  else
    lex [(a.priority1, b.priority1), (a.clockClass, b.clockClass), (a.accuracy, b.accuracy), (a.variance, b.variance),
         (a.priority2, b.priority2), (a.gm, b.gm)]

/-- The choice is made afresh; a change of grandmaster fails NET (R282). -/
def chooseMaster (u : Tu) : Tu :=
  let best := u.ptp.masters.foldl (fun b a => match b with
    | none => some a
    | some x => if betterMaster a x then some a else some x) none
  let key := fun (a : Announce) => (a.gm, a.sender, a.port)
  let old := u.ptp.gm
  let p := { u.ptp with gm := best, utc := match best with | some a => a.utc | none => u.ptp.utc }
  let p := if p.utc = u.ptp.utc then p else ptpCause [5] p
  if best.map key = old.map key then { u with ptp := p }
  else
    let p := ptpCause [0] { p with lastMs := none, reqT3 := none, delays := [], accepted := [], outlierRun := 0
                                   twoStep := false }
    let u := { u with ptp := p }
    if (candAt u 6).signal then dropSignal 6 u else u

/-- Candidate `i`'s failure condition holds (R282); for NET `why` 0 is a lack of usable Syncs and 1 of Announces. -/
def signalFails (i why : Nat) (s : State) : State :=
  if 7 ≤ i ∨ (candKind i = 2 ∧ (laneAt s (candAt s.tu i).par.lane).rxState = .up) then s
  else withSelection (fun u =>
    let u := if i = 6 then
        (if why = 0 then { u with ptp := ptpCause [1] u.ptp }
         else chooseMaster { u with ptp := ptpCause [2] { u.ptp with
           masters := match u.ptp.gm with
             | some g => u.ptp.masters.filter (fun m => decide ((m.sender, m.port) ≠ (g.sender, g.port)))
             | none => u.ptp.masters } })
      else u
    if (candAt u i).signal then dropSignal i u else u) s

def execSignalFailure (i why : Nat) (s : State) : Host.Outcome State Fault Refusal := .next (signalFails i why s)

/-- Candidates REFA, REFB, PPSA and PPSB need VIO_T (19 Table 19.3). -/
def pinsDead (i : Nat) (s : State) : Bool := decide (i < 4) && !supplyOn s vioT

/-- R282: no failure condition has held for 1 s. PPS returns with its edges instead. -/
def execSignalRestore (i : Nat) (s : State) : Host.Outcome State Fault Refusal :=
  .next (
    if 7 ≤ i ∨ candKind i = 1 ∨ pinsDead i s ∨ (candKind i = 2 ∧ (laneAt s (candAt s.tu i).par.lane).rxState ≠ .up) then s
    else withSelection (restoreSignal i) s)

/-- R282: PPS input `i` (2 or 3) at an expected instant: an edge `off` ns from it, or no edge in its window. -/
def execPpsEdge (i : Nat) (off : Option Int) (s : State) : Host.Outcome State Fault Refusal :=
  .next (
    if candKind i ≠ 1 ∨ (pinsDead i s ∧ off.isSome) then s else
    withSelection (fun u =>
      let c := candAt u i
      let within := match off with | some d => decide (d.natAbs ≤ c.par.ppsWin) | none => false
      if c.signal then
        if within then modCand i (fun c => { c with misses := 0, edge := true }) u
        else if 1 ≤ c.misses then dropSignal i u
        else modCand i (fun c => { c with misses := c.misses + 1 }) u
      else if off.isNone then modCand i (fun c => { c with armed := false }) u
      else if c.armed && within then
        modCand i (fun c => { c with edge := true, armed := false }) (restoreSignal i u)
      else modCand i (fun c => { c with armed := true }) u) s)

/-! The evaluation of every second. -/

/-- y_i of R286. -/
def candY (c : Cand) : Option Rat :=
  match c.phis[0]?, c.phis[c.par.measWin]? with
  | some now, some then_ =>
    if c.signal then some (((then_ - now : Int) : Rat) / secUnits / c.par.measWin) else none
  | _, _ => none

/-- y_h of R287. -/
def holdY (sec : Nat) (u : Tu) : Option Rat :=
  if u.valid then
    some ((1 + u.freq) / (1 - modelY u.model u.temp sec / 1000000000000) - 1)
  else none

def votes (c : Cand) : Bool :=
  match c.state with
  | .qualifying | .qualified | .drifting | .waitToRestore => (candY c).isSome
  | _ => false

/-- Phases of the second are stored, and the frame, a and r follow (R286 to R288). -/
def evalFrame (sec : Nat) (u : Tu) : Tu :=
  let cands := u.cands.map (fun c =>
    if c.state = .disabled ∨ !c.signal ∨ !c.resolved then { c with voter := false }
    else { c with phis := (c.phi :: c.phis).take 1001 })
  let cands := cands.map (fun c => { c with voter := votes c })
  let ys := cands.filterMap (fun c => if c.voter then candY c else none)
  let yh := holdY sec u
  let all := match yh with | some y => ys ++ [y] | none => ys
  let weak := decide (all.length < 3)
  let frame := if weak then yh.getD 0 else median all
  let cands := cands.map (fun c =>
    if c.state = .disabled then c else
    let a := (candY c).map (· - frame)
    let h := (a :: c.aHist).take 3601
    let r := match a, (h[c.par.driftWin]?).join with
      | some x, some y => some ((x - y) / c.par.driftWin)
      | _, _ => none
    { c with a := a, r := r, aHist := h })
  { u with cands := cands, frameWeak := weak }

/-- |a| ≤ TOL; passed while a is not valid (log 27). -/
def tolTest (c : Cand) : Bool :=
  match c.a with
  | some a => decide (ratAbs a * 1000000000 ≤ c.par.tol)
  | none => true

/-- |r| ≤ DRIFT_RATE, or r not yet defined. -/
def rateTest (c : Cand) : Bool :=
  match c.r with
  | some r => decide (ratAbs r * 1000000000000 ≤ c.par.driftRate)
  | none => true

/-- The transitions of Table 13.5 that an evaluation makes. -/
def evalCand (u : Tu) (i : Nat) : Tu :=
  let c := candAt u i
  let pass := tolTest c && rateTest c
  match c.state with
  | .qualifying =>
    if !pass then modCand i (fun c => { c with timer := c.par.qualTime }) u
    else if 1 < c.timer then modCand i (fun c => { c with timer := c.timer - 1 }) u
    else if c.returning then enterState i .waitToRestore u
    else enterState i .qualified u
  | .waitToRestore =>
    if !pass then enterState i .qualifying u
    else if 1 < c.timer then modCand i (fun c => { c with timer := c.timer - 1 }) u
    else enterState i .qualified u
  | .qualified =>
    let n := if tolTest c then 0 else c.tolFails + 1
    if c.par.qualTime ≤ n then modCand i (fun c => { c with driftCause := 1 }) (enterState i .drifting u)
    else if !rateTest c then modCand i (fun c => { c with driftCause := 2 }) (enterState i .drifting u)
    else modCand i (fun c => { c with tolFails := n }) u
  | .drifting => if pass then enterState i .qualifying u else u
  | _ => u

/-- The second boundary in the TU: array time, PPS_OUT, and the evaluation (R284, R300, R305, R310).
`ns` have passed since U last moved. -/
def tuSecond (ns t : Nat) (s : State) : State :=
  let sec := match s.tu.setSec with
    | some v => v
    | none => (s.sys.sec + 1) % 2 ^ 48
  let set := s.tu.setSec.isSome
  let s := { s with sys := { s.sys with sec := sec, ns := 0 } }
  let s := modTu (fun u =>
    let u := raiseOutputs (outputsDriven s) { u with frac := 0, setSec := none }
    let u := if set then tuCause [6] u else u
    let u := evalFrame sec (advanceTu ns u)
    let u := reselect sec u ((upTo 7).foldl evalCand u)
    let u := openLoop sec u
    match u.out with
    | .holdover | .freeRun => { u with holdoverS := sat32 (u.holdoverS + 1) }
    | _ => u) s
  if set then finishOpen (isOp 0x0A04) (fun _ => {}) t s else s

def execPpsOutFall (s : State) : Host.Outcome State Fault Refusal := .next (modTu (fun u => { u with ppsOut := false }) s)

/-- R294: lock is declared. -/
def execLockDeclared (s : State) : Host.Outcome State Fault Refusal :=
  .next (
    let u := s.tu
    if (u.out = .acquire ∨ u.out = .switching) ∧ u.u = (u.g : Rat) ∧ u.lockTime * 1000000000 ≤ u.lockNs then
      modTu (enterOut .locked) s
    else s)

/-- R302, R303: `mean` in 10^-12 and `temp` in mK over the last 16 s. -/
def execHistoryRecord (mean temp : Int) (s : State) : Host.Outcome State Fault Refusal :=
  .next (if s.tu.xoLost then s else
    modTu (fun u =>
      let locked := decide (u.out = .locked)
      let u := { u with hist := ({ sec := s.sys.sec, freq := mean, temp := temp, locked := locked } :: u.hist).take 10800 }
      recheck (if locked then { refit s.sys.sec u with rewound := false } else u)) s)

/-- R305: no reading for 10 s. -/
def execTempStale (s : State) : Host.Outcome State Fault Refusal :=
  .next (modTu (fun u => tuCause [8] { u with tempStale := true }) s)

/-- R309. -/
def loseXo (s : State) : State :=
  if s.tu.xoLost then s else modTu (fun u => recheck (tuCause [7] { u with xoLost := true })) s

def execXoLost (s : State) : Host.Outcome State Fault Refusal := .next (loseXo s)

def execXoReturn (s : State) : Host.Outcome State Fault Refusal :=
  .next (if supplyOn s vioT then modTu (fun u => recheck { u with xoLost := false }) s else s)

/-- R298: the departure of a phase step in HOLDOVER or FREE_RUN has lasted |s| / SLOPE; `ns` have passed since it was
last counted. -/
def execPhaseStepSlewEnd (ns : Nat) (s : State) : Host.Outcome State Fault Refusal :=
  .next (modTu (fun u =>
    if !follows u.out ∧ u.departure ≠ 0 ∧ ratAbs u.departure ≤ (u.slope : Rat) * ns * 65536 / 1000000000 then
      openLoop s.sys.sec { u with departure := 0 }
    else u) s)

/-- R316. -/
def clearTu (u : Tu) : Tu :=
  { u with
    switches := 0, holdoverS := 0, coarse := 0, steps := 0
    cands := u.cands.map (fun c => { c with fails := 0, drifts := 0 })
    ptp := { u.ptp with syncRx := 0, outliers := 0, tcFwd := 0, tcDrop := 0 } }

def execTuCounterClear (s : State) : Host.Outcome State Fault Refusal := .next (modTu clearTu s)

/-! PTP (R311 to R313). -/

def execPtpAnnounce (a : Announce) (s : State) : Host.Outcome State Fault Refusal :=
  .next (if !ptpTakes s.tu.ptp.cfg a.port a.domain a.majorSdo a.transport then s else
    withSelection (fun u => chooseMaster { u with ptp := { u.ptp with
      masters := u.ptp.masters.filter (fun m => decide ((m.sender, m.port) ≠ (a.sender, a.port))) ++ [a] } }) s)

def fromMaster (u : Tu) (port sender : Nat) : Bool :=
  match u.ptp.gm with
  | some g => decide (g.port = port) && decide (g.sender = sender)
  | none => false

/-- D, the mean of the last 16 path delays. -/
def pathDelay (p : Ptp) : Rat := meanOf p.delays

/-- R313: a Sync, with its Follow_Up where two-step. Times and corrections in 2^-16 ns; `ns` since U last moved. -/
def execPtpSync (port sender : Nat) (twoStep : Bool) (t1 t2 cs log : Int) (ns : Nat) (s : State) :
    Host.Outcome State Fault Refusal :=
  .next (if !fromMaster s.tu port sender then s else
    let m := t2 - t1 - cs
    let s := modTu (fun u => { u with ptp := { u.ptp with lastMs := some m, twoStep := twoStep, syncLog := log } }) s
    let p := s.tu.ptp
    if p.delays.isEmpty then s else
    let raw := ratRound ((m : Rat) - pathDelay p)
    let phi := raw - (candAt s.tu 6).par.comp
    let far := ratAbs ((phi : Rat) - median (p.accepted.map (fun (x : Int) => (x : Rat))))
    if p.accepted.length = 8 ∧ (p.cfg.netWin : Rat) * 65536 < far then
      withSelection (fun u =>
        let q := ptpCause [3] { u.ptp with outliers := sat32 (u.ptp.outliers + 1), outlierRun := u.ptp.outlierRun + 1 }
        if q.outlierRun < 8 then { u with ptp := q }
        else
          let u := { u with ptp := { q with accepted := [], outlierRun := 0 } }
          if (candAt u 6).signal then dropSignal 6 u else u) s
    else
      let s := modTu (fun u => { u with ptp := { u.ptp with
        accepted := (phi :: u.ptp.accepted).take 8, outlierRun := 0, syncRx := sat32 (u.ptp.syncRx + 1)
        offset := ratRound ((phi : Rat) / 65536) } }) s
      let c := candAt s.tu 6
      if c.state = .disabled ∨ !c.signal then s
      else afterPhase 6 (modTu (fun u => takePhase 6 raw (advanceTu ns u)) s))

/-- R313: the Delay_Resp to the outstanding Delay_Req. -/
def execPtpDelayResp (port sender seq : Nat) (t4 cr log : Int) (s : State) : Host.Outcome State Fault Refusal :=
  .next (
    let p := s.tu.ptp
    match p.reqT3, p.lastMs with
    | some t3, some m =>
      if fromMaster s.tu port sender && decide (seq = p.reqSeq) then
        let d : Rat := ((m + (t4 - t3 - cr) : Int) : Rat) / 2
        modTu (fun u => { u with ptp := { u.ptp with
          delays := (d :: u.ptp.delays).take 16, reqT3 := none, delayLog := log } }) s
      else s
    | _, _ => s)

/-- R311: a Delay_Req leaves at egress time `t3`. -/
def execPtpDelayReqSend (t3 : Int) (s : State) : Host.Outcome State Fault Refusal :=
  .next (if s.tu.ptp.gm.isNone then s else
    modTu (fun u => { u with ptp := { u.ptp with reqSeq := (u.ptp.reqSeq + 1) % 65536, reqT3 := some t3 } }) s)

/-- R312: a PTP message, received on `port` in `frame`, leaves on the other port after its residence time. Its frame check
sequence is computed afresh. The command is its departure, so the order of commands is the order on the wire (log 136). -/
def execPtpTcForward (port : Nat) (frame : List Byte) (residence : Int) (s : State) : Host.Outcome State Fault Refusal :=
  .next (if !s.tu.ptp.cfg.tcEnable || (ptpAt frame).isNone then s else
    modTu (fun u => { u with ptp := { u.ptp with
      forwarded := some (1 - port % 2, withTrailer (tcFrame residence frame))
      tcFwd := if tcEvent frame then sat32 (u.ptp.tcFwd + 1) else u.ptp.tcFwd } }) s)

def execPtpTcDrop (s : State) : Host.Outcome State Fault Refusal :=
  .next (if !s.tu.ptp.cfg.tcEnable then s else
    modTu (fun u => { u with ptp := ptpCause [4] { u.ptp with tcDrop := sat32 (u.ptp.tcDrop + 1) } }) s)

/-! Registers (Tables 13.15 to 13.17). -/

/-- A measured fraction in units of `10^-12` as a signed 32-bit register. -/
def ppt32 (q : Option Rat) : Nat :=
  match q with
  | some x => wrap 32 (clampReg (ratRound (x * 1000000000000)))
  | none => 0

def tuStatReg (s : State) : Nat :=
  let u := s.tu
  let (bw, cl) := bwForce u
  u.out.code * 2 ^ 29 + (u.selected.getD 7) * 2 ^ 26 + b2n s.hop.running * 2 ^ 25 + b2n cl * 2 ^ 24 +
  b2n u.frameWeak * 2 ^ 23 + b2n u.xoLost * 2 ^ 22 + b2n (decide (u.u ≠ (u.g : Rat))) * 2 ^ 21 + bw * 2 ^ 16

def ptpStatReg (u : Tu) : Nat :=
  let p := u.ptp
  p.cfg.domain * 2 ^ 24 + b2n p.gm.isSome * 2 ^ 23 + (match p.gm with | some g => g.port % 2 | none => 0) * 2 ^ 22 +
  (match p.gm with | some g => g.clockClass % 256 | none => 255) * 2 ^ 14 + candQl u 6 * 2 ^ 10 + b2n p.twoStep * 2 ^ 9

def candStatReg (u : Tu) (i : Nat) : Nat :=
  let c := candAt u i
  c.state.code * 2 ^ 29 + b2n (u.selected == some i) * 2 ^ 28 + b2n c.returning * 2 ^ 27 + b2n c.signal * 2 ^ 26 +
  b2n c.voter * 2 ^ 25 + candQl u i * 2 ^ 16 + c.par.priority * 2 ^ 12 + c.driftCause * 2 ^ 8

def holdStatReg (u : Tu) : Nat :=
  b2n u.valid * 2 ^ 31 + b2n u.tempStale * 2 ^ 30 + b2n u.rewound * 2 ^ 29 +
  min 65535 (16 * (windowRecs u).length / 60)

def candReg (u : Tu) (i k : Nat) : Nat :=
  let c := candAt u i
  match k with
  | 0 => candStatReg u i
  | 1 => wrap 64 c.phi % 2 ^ 32
  | 2 => wrap 64 c.phi / 2 ^ 32
  | 3 => ppt32 c.a
  | 4 => ppt32 c.r
  | 5 => c.timer % 4096
  | 6 => c.fails
  | _ => c.drifts

/-- The TU and PTP register block by offset (Table 13.15). -/
def tuReg (s : State) (off : Nat) : Nat :=
  let u := s.tu
  let p := u.ptp
  let uu := wrap 64 (ratRound u.u)
  let gg := wrap 64 u.g
  let oo := wrap 64 u.userOff
  if 0x080 ≤ off ∧ off < 0x160 then candReg u ((off - 0x080) / 32) ((off - 0x080) % 32 / 4)
  else match off with
  | 0x000 => tuStatReg s | 0x004 => u.cause | 0x008 => u.irqEn
  | 0x010 => u.frac | 0x014 => s.sys.ns | 0x018 => s.sys.sec % 2 ^ 32 | 0x01C => s.sys.sec / 2 ^ 32 % 65536
  | 0x020 => uu % 2 ^ 32 | 0x024 => uu / 2 ^ 32 | 0x028 => gg % 2 ^ 32 | 0x02C => gg / 2 ^ 32
  | 0x030 => oo % 2 ^ 32 | 0x034 => oo / 2 ^ 32
  | 0x038 => ppt32 (some u.freq) | 0x03C => wrap 32 u.temp | 0x040 => holdStatReg u
  | 0x044 => u.switches | 0x048 => u.holdoverS | 0x04C => u.coarse | 0x050 => u.steps
  | 0x200 => ptpStatReg u | 0x204 => p.cause | 0x208 => p.irqEn
  | 0x20C => (match p.gm with | some g => g.gm % 2 ^ 32 | none => 0)
  | 0x210 => (match p.gm with | some g => g.gm / 2 ^ 32 % 2 ^ 32 | none => 0)
  | 0x214 => wrap 32 p.offset | 0x218 => wrap 32 (ratRound (pathDelay p / 65536)) | 0x21C => p.utc % 2 ^ 19
  | 0x220 => p.syncRx | 0x224 => p.outliers | 0x228 => p.tcFwd | 0x22C => p.tcDrop
  | _ => 0

/-! Commands (Table 16.13). -/

/-- A candidate record of Table 16.15 within the ranges of Table 13.3. -/
def candParOf (i : Nat) (rec : List Byte) : CandParams :=
  let k := candKind i
  { enable := bit (u8 rec 0) 0, eligible := bit (u8 rec 0) 1, falling := decide (k = 1) && bit (u8 rec 0) 2
    ql := u8 rec 1, priority := u8 rec 2, lane := if k = 2 then u8 rec 3 else 0
    comp := s32 rec 4, tol := u32 rec 8, qualTime := u16 rec 12, wtr := u16 rec 14
    driftRate := u32 rec 16, driftWin := u16 rec 20, measWin := u16 rec 22
    refFreq := if k = 0 then u8 rec 24 else 0, ppsWin := if k = 1 then u32 rec 28 else 1000 }

/-- The first fault of a candidate record: 1 a reserved field, 2 a range. -/
def candFault (s : State) (i : Nat) (rec : List Byte) : Option Nat :=
  let k := candKind i
  let l := laneAt s (u8 rec 3)
  if 8 ≤ u8 rec 0 ∨ u24 rec 25 ≠ 0 then some 1
  else if 15 < u8 rec 1 ∨ 15 < u8 rec 2 ∨ !inRange 1 100000 (u32 rec 8) ∨ !inRange 1 3600 (u16 rec 12) ∨
      !inRange 1 3600 (u16 rec 14) ∨ !inRange 1 1000000 (u32 rec 16) ∨ !inRange 10 3600 (u16 rec 20) ∨
      !inRange 1 1000 (u16 rec 22) then some 2
  else if k = 0 ∧ 2 < u8 rec 24 then some 2
  else if k = 1 ∧ !inRange 100 100000 (u32 rec 28) then some 2
  else if k = 2 ∧ (63 < u8 rec 3 ∨ !l.rxEnabled) then some 2
  else none

/-- A candidate takes new parameters (R283, Table 13.5). -/
def setCand (s : State) (i : Nat) (p : CandParams) (u : Tu) : Tu :=
  let old := (candAt u i).par
  let fresh := decide (old.enable ≠ p.enable ∨ old.refFreq ≠ p.refFreq ∨ old.falling ≠ p.falling ∨
    old.ppsWin ≠ p.ppsWin ∨ old.lane ≠ p.lane)
  let u := modCand i (fun c => { c with par := p }) u
  if fresh then
    let u := enterState i .disabled u
    let u := modCand i (fun c => { c with
      armed := false, misses := 0, edge := false
      signal := if candKind i = 2 then decide ((laneAt s p.lane).rxState = .up) else c.signal }) u
    if p.enable then enterEnabled i u else u
  else match (candAt u i).state with
    | .monitor => if p.eligible then enterEnabled i u else u
    | .disabled | .failed => u
    | _ => if p.eligible then u else enterState i .monitor u

def doTimeRefs (r : Req) (_t : Nat) (s : State) : Out :=
  let mask := b8 r 24
  let who := bitsSet 7 mask
  let rec_ := fun (j : Nat) => (r.arg.drop (32 * j)).take 32
  if 128 ≤ mask then badReserved s
  else if 1 < b8 r 25 ∨ 4 < b8 r 26 ∨ 4 < b8 r 27 ∨ !inRange 1 500000 (b32 r 28) then badRange s
  else if r.arg.length ≠ 32 * who.length then badLen s
  else match (who.zipIdx.filterMap (fun x => candFault s x.1 (rec_ x.2))).head? with
    | some d => refuse s stBadArg d
    | none =>
      { st := withSelection (fun u =>
          who.zipIdx.foldl (fun u x => setCand s x.1 (candParOf x.1 (rec_ x.2)) u)
            { u with revertive := decide (b8 r 25 = 1), clkA := b8 r 26, clkB := b8 r 27, ppsWidth := b32 r 28 }) s }

def doTimeLoop (r : Req) (_t : Nat) (s : State) : Out :=
  let sv := (upTo 4).map (fun i => b8 r (24 + i))
  let ac := (upTo 4).map (fun i => b8 r (28 + i))
  let past := fun (l : List Nat) =>
    (l.zip [20, 5, 20, 20]).any (fun x => decide (x.2 < x.1))
  let ov := b8 r 32
  if b8 r 33 ≠ 0 then badReserved s
  else if past sv || past ac || (decide (ov ≠ 255) && decide (20 < ov)) || !inRange 1 10000 (b16 r 34) ||
      !inRange 1 1000000 (b32 r 36) || !inRange 1 3600 (b32 r 40) || !inRange 1000 1000000000 (b32 r 44) then badRange s
  else
    { st := modTu (fun u => { u with
        service := sv, acquire := ac, override := if ov = 255 then none else some ov
        slope := b16 r 34, lockThr := b32 r 36, lockTime := b32 r 40, jumpThr := b32 r 44 }) s }

def doTimePhaseStep (r : Req) (_t : Nat) (s : State) : Out :=
  let clear := decide (b8 r 28 = 1)
  let u := s.tu
  let step : Int := if clear then -u.userOff else signed 32 (b32 r 24)
  if 1 < b8 r 28 then badReserved s
  else if secUnits < (u.userOff + step).natAbs then refuse s stLimit 0
  else
    let u := { u with userOff := u.userOff + step, steps := sat32 (u.steps + 1) }
    let u := if follows u.out then { u with g := u.g + step }
      else openLoop s.sys.sec { u with departure := u.departure + step }
    { st := { s with tu := u }, reply := { result := fields [(24, leBytesI 8 u.userOff)] } }

/-- A FULL set: array time at once; the phases of time candidates move with it (R300). -/
def setTime (sec ns frac : Nat) (s : State) : State :=
  let old : Int := ((s.sys.sec * 1000000000 + s.sys.ns) * 65536 + s.tu.frac : Nat)
  let new : Int := ((sec * 1000000000 + ns) * 65536 + frac : Nat)
  let s := { s with sys := { s.sys with sec := sec, ns := ns } }
  modTu (fun u =>
    let u := tuCause [6] { shiftPhases (new - old) u with frac := frac }
    match u.selected with
    | some k => if timeCand k then enterOut .acquire u else u
    | none => u) s

def doTimeSet (r : Req) (_t : Nat) (s : State) : Out :=
  let mode := b8 r 24
  if 1 < mode ∨ (mode = 1 ∧ 999999999 < b32 r 38) then badRange s
  else if s.tu.selected = some 6 ∨ (mode = 1 ∧ s.hop.running) then notInState s
  else if mode = 1 then { st := setTime (b48 r 32) (b32 r 38) (b16 r 42) s }
  else { st := modTu (fun u => { u with setSec := some (b48 r 32) }) s, stay := some .staged }

def doTimeStatus (_r : Req) (_t : Nat) (s : State) : Out :=
  let u := s.tu
  let res := fields [(24, leBytes 4 (tuStatReg s)), (28, leBytes 6 s.sys.sec), (34, leBytes 4 s.sys.ns),
    (38, leBytes 2 u.frac), (40, leBytesI 8 (ratRound u.u)), (48, leBytes 4 (tuReg s 0x38)),
    (52, leBytes 4 (holdStatReg u)), (56, leBytes 4 (ptpStatReg u)), (60, leBytesI 4 u.ptp.offset)]
  { st := s, reply := { result := res, block := some ((upTo 140).flatMap (fun i => leBytes 4 (tuReg s (4 * i)))) } }

/-- R315. -/
def doPtpConfig (r : Req) (_t : Nat) (s : State) : Out :=
  let ports := b8 r 26
  let trans := b8 r 27
  if 4 ≤ ports ∨ 4 ≤ trans then badReserved s
  else if 127 < b8 r 24 ∨ 15 < b8 r 25 ∨ ports = 0 ∨ trans = 0 ∨ !inRange 2 10 (b8 r 28) ∨ 1 < b8 r 29 ∨ 1 < b8 r 30 ∨
      !inRange 100 1000000 (b32 r 32) then badRange s
  else
    let cfg : PtpCfg := { domain := b8 r 24, majorSdo := b8 r 25, ports := ports, transports := trans
                          announceTimeout := b8 r 28, qlMode := b8 r 29, tcEnable := decide (b8 r 30 = 1)
                          netWin := b32 r 32 }
    { st := withSelection (fun u =>
        let old := u.ptp.cfg
        let u := { u with ptp := { u.ptp with
          cfg := cfg
          masters := u.ptp.masters.filter (fun a => ptpTakes cfg a.port a.domain a.majorSdo a.transport) } }
        let u := chooseMaster u
        if old.domain ≠ cfg.domain ∨ old.majorSdo ≠ cfg.majorSdo ∨ old.ports ≠ cfg.ports then
          let u := dropSignal 6 u
          if (candAt u 6).state = .failed then modCand 6 (fun c => { c with returning := true }) u else u
        else u) s }

def holdReply (u : Tu) (op valid : Nat) : List Byte :=
  let m := u.model
  fields [(24, leBytes 1 op), (25, leBytes 1 valid), (28, leBytesI 4 m.c0), (32, leBytesI 4 m.c1),
    (36, leBytesI 4 m.c2), (40, leBytesI 4 m.age), (44, leBytesI 4 m.tRef), (48, leBytes 6 m.tFit),
    (56, leBytes 1 u.holdLearn), (57, leBytes 1 u.tempInput), (58, leBytes 2 u.holdMin), (60, leBytes 4 u.holdRes)]

/-- R308. -/
def doHoldoverModel (r : Req) (_t : Nat) (s : State) : Out :=
  let op := b8 r 24
  let done := fun (s : State) =>
    let s := modTu (fun u => openLoop s.sys.sec (recheck u)) s
    ({ st := s, reply := { result := holdReply s.tu op (b2n s.tu.valid) } } : Out)
  if 3 < op ∨ (op = 1 ∧ 1 < b8 r 25) then badRange s
  else if op = 0 then { st := s, reply := { result := holdReply s.tu op (b2n s.tu.valid) } }
  else if op = 1 then
    done (modTu (fun u => { u with
      model := { c0 := signed 32 (b32 r 28), c1 := signed 32 (b32 r 32), c2 := signed 32 (b32 r 36)
                 age := signed 32 (b32 r 40), tRef := signed 32 (b32 r 44), tFit := b48 r 48 }
      loaded := decide (b8 r 25 = 1) }) s)
  else if op = 2 then done (modTu (fun u => { u with hist := [], residual := none, loaded := false, rewound := false }) s)
  else if !inRange 1 48 (b8 r 56) ∨ 32 < b8 r 57 ∨ !inRange 10 2880 (b16 r 58) ∨ !inRange 1 100000 (b32 r 60) then
    badRange s
  else done (modTu (fun u => { u with
    holdLearn := b8 r 56, tempInput := b8 r 57, holdMin := b16 r 58, holdRes := b32 r 60 }) s)

def execTimeRefs (r : Req) (t : Nat) (s : State) : Host.Outcome State Fault Refusal :=
  .next (runCommand 0x0A01 doTimeRefs r t s)
def execTimeLoop (r : Req) (t : Nat) (s : State) : Host.Outcome State Fault Refusal :=
  .next (runCommand 0x0A02 doTimeLoop r t s)
def execTimePhaseStep (r : Req) (t : Nat) (s : State) : Host.Outcome State Fault Refusal :=
  .next (runCommand 0x0A03 doTimePhaseStep r t s)
def execTimeSet (r : Req) (t : Nat) (s : State) : Host.Outcome State Fault Refusal :=
  .next (runCommand 0x0A04 doTimeSet r t s)
def execTimeStatus (r : Req) (t : Nat) (s : State) : Host.Outcome State Fault Refusal :=
  .next (runCommand 0x0A05 doTimeStatus r t s)
def execPtpConfig (r : Req) (t : Nat) (s : State) : Host.Outcome State Fault Refusal :=
  .next (runCommand 0x0A06 doPtpConfig r t s)
def execHoldoverModel (r : Req) (t : Nat) (s : State) : Host.Outcome State Fault Refusal :=
  .next (runCommand 0x0A07 doHoldoverModel r t s)

end Sys2Proof.Machine
end

