-- ==== Sys2Proof/Machine/Constel.lean ====
section
/-! DEFINITION. The beacon unit and the constellation (18), and the second boundary (13 R284), at which beacons leave. -/

namespace Sys2Proof.Machine

/-- Sets CONST_CAUSE bits, noting those newly set for R432. -/
def conCause (ks : List Nat) (s : State) : State :=
  modCon (fun c => { c with newly := c.newly ||| (maskOf ks &&& (maskOf ks ^^^ (c.cause &&& maskOf ks)))
                            cause := setBits c.cause ks }) s

def conCfg (s : State) : Option ConstCfg := s.bun.active.bind (·.const)

/-- The local part's record of a peer: beacon lane and ASYM (R422). -/
def localPeer (s : State) (source : Nat) : Option ConstPeer :=
  (conCfg s).bind (fun c => c.peers.find? (fun p => p.source == source))

def peerOf (s : State) (source : Nat) : Option Peer := s.con.peers.find? (fun p => p.source == source)

def setPeer (p : Peer) (s : State) : State :=
  modCon (fun c => { c with peers := c.peers.map (fun q => if q.source = p.source then p else q) }) s

/-- The constellation digest (R422). -/
def conDigest (s : State) : List Byte := match conCfg s with | some c => digest128 c.shared | none => List.replicate 16 0

/-- The compatibility level of this device (14 R340). -/
def compatLevel : Nat := 1

/-- H of R428: peers that are not SILENT and have a measurement. -/
def heard (s : State) : List Peer := s.con.peers.filter (fun p => decide (p.state ≠ 3) && p.theta.isSome)

/-- Outputs are time-suspect while more than half of the peers heard are in time disagreement (R428). -/
def judgeSuspect (s : State) : State :=
  let h := heard s
  let n := (h.filter (fun p => p.kinds.getD 0 false)).length
  let now := decide (h.length < 2 * n)
  if now = s.sys.suspect then s else conCause [3] { s with sys := { s.sys with suspect := now } }

/-- LEADER_LOST follows the leader's silence (R431). -/
def judgeLeader (s : State) : State :=
  let lost := match s.con.leader with
    | some l => !s.con.hold && (match peerOf s l with | some p => decide (p.state = 3) | none => false)
    | none => false
  let s := if lost && !s.con.leaderLost then conCause [5] s else s
  modCon (fun c => { c with leaderLost := lost }) s

/-! Beacons sent (R424). -/

/-- The body of a beacon for a peer; bytes 44 to 55 are filled in at egress (Table 18.2). -/
def beaconBody (s : State) (p : Peer) : List Byte :=
  let len := match s.tal.cur, s.tal.sched with
    | some it, _ => it.sched.length
    | none, some sc => sc.length
    | none, none => 0
  let own := s.con.leader = some (ownSource s) ∧ s.con.hold = false
  let echo := p.lastAt.getD 0
  leBytes 2 p.txSeq ++ leBytes 1 compatLevel ++
  leBytes 1 (b2n s.sys.suspect + 2 * b2n s.con.holding + 4 * b2n (decide own) + 8 * b2n p.lastAt.isSome +
    16 * b2n s.tal.cur.isSome) ++
  leBytes 2 (epochNow s % 4096) ++ leBytes 2 s.con.number ++ conDigest s ++ leBytes 2 Config.firmwareVersion ++
  leBytes 1 s.tu.out.code ++ [0] ++ leBytes 4 s.tal.integId ++ leBytes 4 len ++ leBytes 8 s.tal.integFirst ++
  List.replicate 12 0 ++ leBytes 2 (if p.lastAt.isSome then p.seq else 0) ++ leBytes 6 echo

/-- The peer's beacon lane, if it is TX_UP. -/
def beaconLane (s : State) (source : Nat) : Option Nat :=
  match localPeer s source with
  | some p => if (laneAt s p.lane).txUp && decide ((laneAt s p.lane).txRole = 1) then some p.lane else none
  | none => none

/-- One beacon goes to a peer, on its beacon lane. -/
def sendBeacon (source : Nat) (s : State) : State :=
  match peerOf s source, beaconLane s source with
  | some p, some n =>
    let pkt := beaconPacket (ownSource s) (epochNow s) source (beaconBody s p)
    let s := modLane n (fun l => { l with txCtl := l.txCtl ++ [pkt] }) s
    modCon (fun c => { c with tx := sat32 (c.tx + 1) }) (setPeer { p with txSeq := (p.txSeq + 1) % 65536 } s)
  | _, _ => s

def insertAsc (n : Nat) : List Nat → List Nat
  | [] => [n]
  | m :: r => if n ≤ m then n :: m :: r else m :: insertAsc n r

/-- Numbers in ascending order. -/
def ascending (l : List Nat) : List Nat := l.foldr insertAsc []

/-- A joined list takes effect at array time `now`, in 2^-16 ns: every peer starts as UNKNOWN (R423). -/
def joinPeers (number : Nat) (sources : List Nat) (now : Nat) (s : State) : State :=
  judgeLeader (judgeSuspect (modCon (fun c => { c with
    joined := true, number := number, staged := none, peers := sources.map (fun x => { source := x, since := now }) }) s))

/-- A second that is time-suspect is counted. -/
def countSuspect (s : State) : State := if s.sys.suspect then modCon (fun c => { c with suspectS := sat32 (c.suspectS + 1) }) s else s

/-- A staged CONST_JOIN commits once one of its peers has a beacon lane. -/
def joinStaged (t : Nat) (s : State) : State :=
  match s.con.staged with
  | some (n, l) =>
    if l.any (fun x => (beaconLane s x).isSome) then
      finishOpen (isOp 0x0C01) (fun o => { result := o.result }) t (joinPeers n l (fullTime s t) s)
    else s
  | none => s

/-- The second boundary in the beacon unit: a waiting CONST_JOIN commits with its first beacon, and one beacon goes to each
joined peer in ascending SOURCE order (R423, R424). -/
def beaconSecond (t : Nat) (s : State) : State :=
  if !dpRun s then s else
    let s := joinStaged t (countSuspect s)
    if s.con.joined then (ascending (s.con.peers.map (·.source))).foldl (fun s x => sendBeacon x s) s else s

/-- 13 R284, R305; 18 R424: the second boundary. `ns` have passed since the offset last moved; `t` is the timer count. -/
def execTuSecondEvaluation (ns t : Nat) (s : State) : Host.Outcome State Fault Refusal :=
  .next (beaconSecond t (tuUrgent (tuSecond ns t s)))

/-! Beacons taken (R425 to R430). -/

/-- One comparison of a kind: entered after three that differ, left after three that agree. -/
def judgeKind (k : Nat) (differs : Bool) (p : Peer) : Peer :=
  if differs then
    let n := p.differ.getD k 0 + 1
    { p with differ := upd p.differ k (fun _ => min n 3), agree := upd p.agree k (fun _ => 0)
             kinds := if 3 ≤ n then upd p.kinds k (fun _ => true) else p.kinds }
  else
    let n := p.agree.getD k 0 + 1
    { p with agree := upd p.agree k (fun _ => min n 3), differ := upd p.differ k (fun _ => 0)
             kinds := if 3 ≤ n then upd p.kinds k (fun _ => false) else p.kinds }

/-- The value nearest to `t1` whose low 48 bits are `rx` (R426). -/
def nearestRx (t1 rx : Nat) : Int :=
  let m : Int := 2 ^ 48
  let d := (rx - t1 : Int) % m
  t1 + (if 2 * d < m then d else d - m)

/-- The time measurement of a beacon, if it gives one: θ and d in 2^-17 ns, and whether |t3 − t4| is 1 s or more (R426).
`asym` is in ns. -/
def measureTime (p : Peer) (body : List Byte) (asym : Int) (ingress : Nat) : Option (Int × Int × Bool) :=
  match p.sent.find? (fun x => x.1 == u16 body 56) with
  | some (_, t1) =>
    let t2 := nearestRx t1 (u48 body 58)
    let t3 : Int := ((u48 body 44 * 1000000000 + u32 body 50) * 65536 + u16 body 54 : Nat)
    let t4 : Int := ingress
    let far := decide ((1000000000 * 65536 : Int) ≤ (t3 - t4).natAbs)
    let theta := if far then 2 * (t3 - t4) else (t2 - t1) - (t4 - t3) - asym * 65536
    some (theta, (t2 - t1) + (t4 - t3), far)
  | none => none

/-- A measurement enters the peer's record (R427). -/
def takeMeasure (bound : Nat) (m : Int × Int × Bool) (p : Peer) : Peer :=
  let p := { p with theta := some m.1, delay := some m.2.1 }
  if m.2.2 then
    { p with kinds := upd p.kinds 0 (fun _ => true), differ := upd p.differ 0 (fun _ => 3), agree := upd p.agree 0 (fun _ => 0) }
  else judgeKind 0 (decide (2 * 65536 * bound < m.1.natAbs)) p

/-- The comparisons of R430 with the device's own state. -/
def compareState (s : State) (epoch : Nat) (body : List Byte) (p : Peer) : Peer :=
  let p := judgeKind 1 (decide ((body.drop 8).take 16 ≠ conDigest s) || decide (epoch ≠ epochNow s % 4096)) p
  let p := judgeKind 2 (decide (u8 body 2 ≠ compatLevel)) p
  judgeKind 3 (decide (bit (u8 body 3) 4 ≠ s.tal.cur.isSome) || decide (u32 body 28 ≠ s.tal.integId) ||
    decide (u64 body 36 ≠ s.tal.integFirst)) p

def kindsMask (p : Peer) : Nat :=
  maskOf (bitsWhere p.kinds) + 16 * b2n p.fwDiff + 32 * b2n p.peerSuspect
where
  bitsWhere (l : List Bool) : List Nat := (l.zipIdx.filter (·.1)).map (·.2)

/-- A value in 2^-17 ns in whole ns, half to even (log 29). -/
def nsOf (v : Int) : Int := divHalfEven v (2 * 65536)

def satI32 (v : Int) : Int := clampI (-(2 ^ 31)) (2 ^ 31 - 1) v

/-- What the PEER registers show of a peer. -/
def showPeer (p : Peer) : PeerShown :=
  { source := p.source, state := p.state, kinds := kindsMask p
    theta := satI32 (nsOf (p.theta.getD 0)), delay := satI32 (nsOf (p.delay.getD 0)) }

/-- Realignments and holds that a beacon makes due (R431, Table 18.3). -/
def judgeDue (before p : Peer) (s : State) : State :=
  let integ := p.kinds.getD 3 false
  let entered := integ && !(before.kinds.getD 3 false)
  let concerns := s.con.hold || decide (s.con.leader = some p.source)
  if concerns && integ && (entered || s.con.again) then modCon (fun c => { c with due := true, again := false }) s else s

/-- A beacon is taken from a joined peer. -/
def takeBeacon (p0 : Peer) (epoch : Nat) (body : List Byte) (direct : Bool) (ingress : Nat) (s : State) : State :=
  let asym := match localPeer s p0.source with | some x => x.asym | none => 0
  let m := if direct && bit (u8 body 3) 3 then measureTime p0 body asym ingress else none
  let p := match m with | some x => takeMeasure s.con.bound x p0 | none => p0
  let p := compareState s epoch body p
  let p := { p with
    state := if p.kinds.any id then 2 else 1
    fwDiff := decide (u16 body 24 ≠ Config.firmwareVersion % 65536), peerSuspect := bit (u8 body 3) 0
    integId := u32 body 28, integLength := u32 body 32, integFirst := u64 body 36, integOpen := bit (u8 body 3) 4
    rx := sat32 (p.rx + 1), seq := u16 body 0, lastAt := some ingress }
  let entered := fun k => p.kinds.getD k false && !(p0.kinds.getD k false)
  let s := modCon (fun c => { c with rx := sat32 (c.rx + 1) }) (setPeer p s)
  let s := if entered 0 then conCause [0] s else s
  let s := if entered 1 || entered 2 || entered 3 then conCause [1] s else s
  let s := if p0.kinds.any id && !p.kinds.any id then conCause [4] s else s
  let s := if (s.con.peers[s.con.peerSel]?).map (·.source) = some p.source then
      modCon (fun c => { c with shown := showPeer p }) s else s
  judgeDue p0 p (judgeLeader (judgeSuspect s))

/-- R425: the oldest packet delivered by `lane` is a BEACON; its SOP came in at array time `ingress` in 2^-16 ns. -/
def execBeaconReceived (lane ingress : Nat) (s : State) : Host.Outcome State Fault Refusal :=
  .next (match takeDelivered lane 4 s with
    | none => s
    | some (b, s') =>
      let body := hPayload b
      let mine := decide (ownId s = some (hDest b)) || decide (hDest b = 0xFFF)
      match peerOf s' (hSource b) with
      | some p =>
        if s.con.joined && mine && decide (u16 body 6 = s.con.number) then
          takeBeacon p (hEpoch b) body (decide (hDest b ≠ 0xFFF)) ingress s'
        else modCon (fun c => { c with foreign := sat32 (c.foreign + 1) }) s'
      | none => modCon (fun c => { c with foreign := sat32 (c.foreign + 1) }) s')

/-- R425: no beacon has been taken from a peer for 3 s; `now` is the array time in 2^-16 ns. -/
def execPeerSilent (source now : Nat) (s : State) : Host.Outcome State Fault Refusal :=
  .next (match peerOf s source with
    | some p =>
      let due := decide (max (p.lastAt.getD 0) p.since + 3000000000 * 65536 ≤ now)
      if dpRun s && s.con.joined && decide (p.state ≠ 3) && due then
        judgeLeader (judgeSuspect (conCause [2] (setPeer { p with
          state := 3, differ := [0, 0, 0, 0], agree := [0, 0, 0, 0] } s)))
      else s
    | none => s)

/-! Commands. -/

/-- CONST_JOIN (R423). -/
def constJoin (r : Req) (_ : Nat) (s : State) : Out :=
  let n := b8 r 26
  if n = 0 ∨ 64 < n then badRange s
  else if r.arg.length ≠ 4 * cdiv (2 * n) 4 then badLen s
  else match conCfg s with
    | none => notInState s
    | some cfg =>
      let l := (upTo n).map (fun i => u16 r.arg (2 * i))
      if !dpRun s then notInState s
      else if l.any (fun x => !cfg.members.contains x || decide (x = ownSource s)) || l.eraseDups.length < n then badRange s
      else
        { st := modCon (fun c => { c with staged := some (b16 r 24, l) }) s, stay := some .staged
          reply := { result := fields [(24, leBytes 1 n)] } }

def execConstJoin (r : Req) (t : Nat) (s : State) : Host.Outcome State Fault Refusal :=
  .next (runCommand 0x0C01 constJoin r t s)

/-- A peer record (Table 18.4), at array time `now` in 2^-16 ns. -/
def peerRecord (now : Nat) (p : Peer) : List Byte :=
  let age := match p.lastAt with | some a => min 0xFFFF ((now - a) / (65536 * 1000000)) | none => 0xFFFF
  leBytes 2 p.source ++ leBytes 1 p.state ++ leBytes 1 (kindsMask p) ++ leBytesI 4 (satI32 (nsOf (p.theta.getD 0))) ++
  leBytesI 4 (satI32 (nsOf (p.delay.getD 0))) ++ leBytes 4 p.integId ++ leBytes 4 p.rx ++ leBytes 2 p.seq ++
  leBytes 2 age ++ List.replicate 8 0

def disagreeing (s : State) : Nat := (s.con.peers.filter (fun p => p.kinds.any id)).length

/-- CONST_STATE (16 Table 16.14). -/
def constState (_ : Req) (t : Nat) (s : State) : Out :=
  let agree := s.con.joined && s.con.peers.all (fun p => decide (p.state = 1))
  { st := s, reply := {
      result := fields [(24, leBytes 1 (b2n s.con.joined + 2 * b2n agree)), (25, leBytes 1 s.con.peers.length),
        (26, leBytes 2 (disagreeing s))]
      block := some (s.con.peers.flatMap (peerRecord (fullTime s t))) } }

def execConstState (r : Req) (t : Nat) (s : State) : Host.Outcome State Fault Refusal :=
  .next (runCommand 0x0C02 constState r t s)

/-- CONST_POLICY (R427, R431). -/
def constPolicy (r : Req) (_ : Nat) (s : State) : Out :=
  let l := b16 r 26
  if 1 < b8 r 24 ∨ !inRange 20 1000000 (b32 r 28) then badRange s
  else if (peerOf s l).isNone ∧ ownId s ≠ some l then badRange s
  else
    { st := judgeLeader (modCon (fun c => { c with
        hold := decide (b8 r 24 = 1), leader := some l, bound := b32 r 28 }) s) }

def execConstPolicy (r : Req) (t : Nat) (s : State) : Host.Outcome State Fault Refusal :=
  .next (runCommand 0x0C03 constPolicy r t s)

/-! Realignment (R431). -/

/-- The member holds: its current integration ends as scheduled, and no further one starts. -/
def holdSchedule (s : State) : State :=
  modTal (fun a => { a with ended := true, next := none }) (modCon (fun c => { c with holding := true }) s)

/-- The last chunk cycle of the open integration, ended as INTEG_STOP would (06 R129), or the newest chunk begun. -/
def stopChunk (b : Bundle) (t : Nat) (s : State) : Nat :=
  match s.tal.cur with
  | none => consumeChunk s
  | some it =>
    let near := chunkAfter b (fullTime s t) 1000000
    let ownLast := it.k0 + it.sched.length - 1
    if it.last then it.chunk
    else
      let least := it.k0 + minLength s b (dumpCharge s b it.sched.format it.sched.countPlane) - 1
      let k := max (max near (it.chunk + 1)) least
      if it.sched.length = 0 then k else min k ownLast

/-- The schedule of a realignment: the leader's length and IDs on the follower's own form and regions. -/
def realigned (sc : IntegSched) (p : Peer) (stop chunk : Nat) : IntegSched :=
  let from_ := max (stop + 1) (chunk + 2)
  let n := cdiv (from_ - p.integFirst) (max 1 p.integLength)
  { sc with firstChunk := p.integFirst + n * p.integLength, length := p.integLength, repeats := 0
            firstId := (p.integId + n) % 2 ^ 32 }

/-- Realign to the leader `p`, or hold where R431 says so. -/
def realign (b : Bundle) (p : Peer) (t : Nat) (s : State) : State :=
  match s.tal.sched with
  | none => holdSchedule s
  | some sc =>
    let stop := stopChunk b t s
    let new := realigned sc p stop (consumeChunk s)
    let busy := s.tal.sweep.isSome || s.tal.sweepDue
    if p.integLength = 0 ∨ p.state = 3 ∨ busy ∨ formatLimit new.format new.countPlane < new.length ∨ !ringRuleOk s b new then
      holdSchedule s
    else
      let s := modTal (fun a => match a.cur with
        | some it =>
          let it := if it.last ∨ (it.sched.length ≠ 0 ∧ it.k0 + it.sched.length = stop + 1) then it
                    else { it with stop := some stop }
          { a with cur := some it, next := some new }
        | none => { a with sched := some new, next := none, begun := 0, idsUsed := 0, ended := false }) s
      conCause [6] (modCon (fun c => { c with realign := sat32 (c.realign + 1) }) s)

/-- The host's INTEG_STOP or DRAIN is in progress (Table 18.3). -/
def hostStops (s : State) : Bool := s.cages.openCmds.any (fun o => isOp 0x0402 o || isOp 0x0403 o)

/-- R431: firmware on shift acts on a realignment or a hold that is due; `t` is the timer count. -/
def execConstRealign (t : Nat) (s : State) : Host.Outcome State Fault Refusal :=
  .next (
    if s.con.due && dpRun s && decide (s.shift.onShift < 2) && s.con.joined then
      let s := modCon (fun c => { c with due := false }) s
      if hostStops s then modCon (fun c => { c with again := true }) s
      else if s.con.hold then holdSchedule s
      else match s.con.leader.bind (peerOf s), s.bun.active with
        | some p, some b => realign b p t s
        | _, _ => s
    else s)

/-- R432: firmware raises ALARM_SOURCE for newly set causes. -/
def execConstAlarmPoll (s : State) : Host.Outcome State Fault Refusal :=
  .next (
    if s.con.newly ≠ 0 ∧ s.shift.onShift < 2 then
      let s := modCon (fun c => { c with newly := 0 }) s
      match conCfg s with
      | some c => swSet (c.alarmSource / 32) (2 ^ (c.alarmSource % 32)) s
      | none => s
    else s)

/-! Registers (Tables 18.6 and 18.7). -/

def peerSelWrite (v : Nat) (s : State) : State := modCon (fun c => { c with peerSel := v % 64 }) s

def execConstPeerSelWrite (v : Nat) (s : State) : Host.Outcome State Fault Refusal :=
  .next (if dpRun s then peerSelWrite v s else s)

def clearCon (s : State) : State :=
  modCon (fun c => { c with tx := 0, rx := 0, foreign := 0, suspectS := 0, realign := 0 }) s

/-- R433. -/
def execConstCounterClear (s : State) : Host.Outcome State Fault Refusal := .next (if dpRun s then clearCon s else s)

def constStat (s : State) : Nat :=
  2 ^ 31 * b2n s.con.joined + 2 ^ 30 * b2n s.sys.suspect + 2 ^ 29 * b2n s.con.holding + 2 ^ 28 * b2n s.con.hold +
  2 ^ 27 * b2n s.con.leaderLost + 2 ^ 20 * s.con.peers.length + 2 ^ 13 * (heard s).length + 2 ^ 6 * disagreeing s

def constReg (s : State) (off : Nat) : Nat :=
  let p := s.con.shown
  match off with
  | 0x00 => constStat s | 0x04 => s.con.cause | 0x0C => s.con.peerSel
  | 0x10 => 65536 * p.source + 256 * p.state + p.kinds
  | 0x14 => wrap 32 p.theta | 0x18 => wrap 32 p.delay
  | 0x1C => s.con.tx | 0x20 => s.con.rx | 0x24 => s.con.foreign | 0x28 => s.con.suspectS | 0x2C => s.con.realign
  | _ => 0

def constWrite (off v : Nat) (s : State) : State :=
  match off with
  | 0x04 => modCon (fun c => { c with cause := w1c c.cause v }) s
  | 0x08 => if bit v 0 then clearCon s else s
  | 0x0C => peerSelWrite v s
  | _ => s

end Sys2Proof.Machine
end

