-- ==== Sys2Proof/Machine/Pit.lean ====
section
/-! DEFINITION. Pit memory (12): ports, channels, check outcomes, refresh, scrub and migration. Memory is held by pit
address, so that a change of the rank map moves nothing. -/

namespace Sys2Proof.Machine

def pitCause (ks : List Nat) (p : Pit) : Pit := { p with cause := setBits p.cause ks }

def chanAt (p : Pit) (c : Nat) : PitChan := p.chans.getD c {}
def modChan (c : Nat) (f : PitChan → PitChan) (p : Pit) : Pit := { p with chans := upd p.chans c f }
def rankSt (p : Pit) (r : Nat) : RankState := p.rankState.getD r .absent
def setRank (r : Nat) (v : RankState) (p : Pit) : Pit := { p with rankState := upd p.rankState r (fun _ => v) }

/-! Addresses (R255). -/

/-- Logical rank of a pit address. -/
def logicalRank (a : Nat) : Nat := let i := a / 256 % 60; 2 * (i % 30) + i / 30

/-- Data byte of an address within its logical rank. -/
def rankOffset (a : Nat) : Nat := a / 256 / 60 * 256 + a % 256

/-- Check block of an address within its logical rank. -/
def checkBlock (a : Nat) : Nat := rankOffset a / 64 / 15

/-- The pit address of data line `n` of a logical rank: R255 the other way round. -/
def lineAddr (l n : Nat) : Nat := (60 * (64 * n / 256) + (l / 2 + 30 * (l % 2))) * 256 + 64 * n % 256

/-- The rest of R255: check-coded line, column, bank, row and physical rank. -/
structure PitPlace where
  line : Nat
  col : Nat
  bank : Nat
  row : Nat
  phys : Nat
  deriving DecidableEq, Repr

def decodePit (p : Pit) (a : Nat) : PitPlace :=
  let n := rankOffset a / 64
  let line := 16 * (n / 15) + n % 15
  { line := line, col := line % 32 * 64 + a % 64, bank := line / 32 % 16, row := line / 512
    phys := p.rankMap.getD (logicalRank a) 0 }

/-- R256: within one granule and within the addressable space. -/
def addressOk (a n : Nat) : Bool := decide (0 < n) && decide (a % 256 + n ≤ 256) && decide (a + n ≤ pitBytes)

/-- Blocks in a rank. -/
def rankBlocks : Nat := 1048576

/-- Where a request goes while a migration runs (R273): a physical rank, or none while it is held. -/
def routePit (p : Pit) (a : Nat) : Option Nat :=
  let l := logicalRank a
  match p.mig with
  | some m =>
    if m.logical ≠ l then some (p.rankMap.getD l 0)
    else if !(p.held.isEmpty) then none
    else if checkBlock a < m.m then some m.target
    else if checkBlock a = m.m then none
    else some m.source
  | none => some (p.rankMap.getD l 0)

/-- A request that has left its regulator and is served joins its channel's queue, or is held for the block in copy
(R262, R273). -/
def enqueuePit (q : PitReq) (p : Pit) : Pit :=
  match routePit p q.addr with
  | some r => modChan (r / 2) (fun c => { c with queue := c.queue ++ [q] }) p
  | none => { p with held := p.held ++ [q] }

/-- A request arrives at its channel. Memory holds what the requests that have arrived leave in it: a read takes its data
here, and a write takes effect here, whenever the channel comes to serve them (R262; log 127). -/
def arrivePit (q : PitReq) (p : Pit) : Pit :=
  match q.data with
  | none =>
    let rd := pitGet p q.addr q.len
    enqueuePit { q with resp := { data := rd.1, damaged := rd.2 } } p
  | some b => enqueuePit q (pitPut q.addr (padTo q.len b) p)

def modPort (n : Nat) (f : PitPort → PitPort) (p : Pit) : Pit := { p with ports := upd p.ports n f }

def portAt (p : Pit) (n : Nat) : PitPort := p.ports.getD n {}

/-- Responses whose turn it is, at most `n` of them, go to the port (R262). -/
def deliverResps : Nat → PitPort → PitPort
  | 0, q => q
  | n + 1, q =>
    match q.early.find? (fun x => x.1 == q.answered) with
    | some x => deliverResps n { q with answered := q.answered + 1, early := q.early.erase x, resps := q.resps ++ [x.2] }
    | none => q

/-- A request has been answered: its response goes to the port after those of the port's earlier requests (R262). -/
def respond (id : Nat) (x : PitResp) (q : PitPort) : PitPort :=
  deliverResps (q.early.length + 1) { q with early := q.early ++ [(id, x)], resps := [] }

/-- A request meets its port's regulator: it waits behind earlier ones, and for ever while RATE is 0 and tokens lack (R263). -/
def meetRegulator (q : PitReq) (p : Pit) : Pit :=
  let port := portAt p q.port
  if !port.waiting.isEmpty || (decide (port.rate = 0) && decide (port.tokens < 10 * q.len)) then
    modPort q.port (fun x => { x with waiting := x.waiting ++ [q] }) p
  else arrivePit q (modPort q.port (takeTokens q.len) p)

/-- Requests that wait at a port leave its regulator as far as they can (R263). -/
def releaseWaiting (n : Nat) (p : Pit) : Pit :=
  (portAt p n).waiting.foldl (fun p q => meetRegulator q p) (modPort n (fun x => { x with waiting := [] }) p)

/-- R263: a port issues a request `ns` nanoseconds after its last; it leaves the regulator once the bucket holds its bytes.
A request against R256 is answered with an address error. -/
def execPitRequest (port addr len : Nat) (data : Option (List Byte)) (ns : Nat) (s : State) :
    Host.Outcome State Fault Refusal :=
  .next (if decide (s.pit.state ≠ .run) || decide (8 ≤ port) then s
    else modPit (fun p =>
      let id := (portAt p port).issued
      let p := releaseWaiting port (modPort port (fun q => { fillBucket ns q with issued := q.issued + 1 }) p)
      if addressOk addr len then meetRegulator { port := port, id := id, addr := addr, len := len, data := data } p
      else pitCause [5] (modPort port (respond id { addrErr := true }) p)) s)

/-! Outcomes (R257 to R261, Table 12.2). -/

/-- The TAG of a check block on a physical rank: bit 31 makes its parity even (R258). -/
def tagOf (blk phys : Nat) : Nat :=
  let w := blk % 2 ^ 20 + 2 ^ 20 * (phys % 64)
  w + 2 ^ 31 * ((bitsSet 31 w).length % 2)

/-- The check word that lies in the check line for a data line: the code's word, or with the mark of R259. The code's field
and generator are not the spec's (log 126). -/
def checkWord (phys line : Nat) (data : List Byte) (damaged : Bool) : Nat :=
  (Config.rsCheck phys line data % 2 ^ 32) ^^^ (if damaged then 0x5A5AA5A5 else 0)

/-- What the decoder makes of a data line (R257): four bytes in error or more have no outcome of their own and count as
uncorrectable (log 126). -/
def dataOutcome (f : PitFault) : List PitOutcome :=
  if f.place then [.command f.line]
  else if f.bytes = 0 then [] else if f.bytes = 1 then [.corrected] else [.uncorrectable f.line]

/-- What the controller makes of a TAG read with some bits wrong (R258). -/
def tagOutcome (f : PitFault) (tag : Nat) : List PitOutcome :=
  let w := tag ^^^ (f.tag % 2 ^ 32)
  if (bitsSet 32 w).length % 2 ≠ 0 then [.tagFix] else if w ≠ tag then [.command f.line] else []

/-- What becomes of the transfer: two retries at most (R261). -/
def linkOutcome (f : PitFault) : List PitOutcome :=
  if 3 ≤ f.tries then [.linkFailed f.line]
  else (if 0 < f.tries then [.linkRetried] else []) ++ (if f.linkFix then [.linkCorrected] else [])

/-- The outcomes of an access with faults, to a block with a TAG (Table 12.2). -/
def outcomesOf (f : PitFault) (tag : Nat) : List PitOutcome :=
  if 3 ≤ f.tries then linkOutcome f else linkOutcome f ++ tagOutcome f tag ++ dataOutcome f

/-- A line joins the damaged ones, in rising order. -/
def insertLine (n : Nat) : List Nat → List Nat
  | [] => [n]
  | m :: r => if n < m then n :: m :: r else if n = m then m :: r else m :: insertLine n r

def damageLines (ls : List Nat) (p : Pit) : Pit := { p with damaged := ls.foldl (fun d n => insertLine n d) p.damaged }

/-- The data lines of the check block of an address (R258). -/
def blockLines (a : Nat) : List Nat :=
  let l := logicalRank a
  (upTo 15).map (fun i => lineAddr l (15 * checkBlock a + i) / 64)

/-- A rank that serves fails: it waits for migration, unless it waits already or nothing can relieve it (R271, R272). -/
def failRank (r : Nat) (p : Pit) : Pit :=
  if p.queue.contains r then p
  else match rankSt p r with
    | .inService | .target => { p with queue := p.queue ++ [r] }
    | _ => p

/-- The physical rank that serves an address. -/
def physOfAddr (p : Pit) (a : Nat) : Nat :=
  let l := logicalRank a
  match p.mig with
  | some m => if m.logical = l then (if checkBlock a < m.m then m.target else m.source) else p.rankMap.getD l 0
  | none => p.rankMap.getD l 0

def sat16 (n : Nat) : Nat := min n 65535

/-- Counters and causes of an outcome on a channel (Tables 12.8, 12.11). -/
def countOutcome (o : PitOutcome) (c : PitChan) : PitChan :=
  match o with
  | .ok => c
  | .corrected => { c with ce := sat32 (c.ce + 1), cause := setBits c.cause [0] }
  | .tagFix => { c with ce := sat32 (c.ce + 1), cause := setBits c.cause [5] }
  | .linkCorrected => { c with linkCe := sat16 (c.linkCe + 1), cause := setBits c.cause [1] }
  | .linkRetried => { c with linkRetried := sat16 (c.linkRetried + 1), cause := setBits c.cause [1] }
  | .uncorrectable _ => { c with ue := sat16 (c.ue + 1), cause := setBits c.cause [2] }
  | .command _ => { c with cmdErr := sat16 (c.cmdErr + 1), cause := setBits c.cause [4] }
  | .linkFailed _ => { c with ue := sat16 (c.ue + 1), cause := setBits c.cause [3] }

/-- The marks that an outcome leaves, and the rank failure it makes (Table 12.2). -/
def markOutcome (o : PitOutcome) (write : Bool) (a : Nat) (p : Pit) : Pit :=
  match o with
  | .uncorrectable k => failRank (physOfAddr p a) (damageLines [a / 64 + k] p)
  | .command _ => failRank (physOfAddr p a) (damageLines (blockLines a) p)
  | .linkFailed k => failRank (physOfAddr p a) (if write then damageLines [a / 64 + k] p else p)
  | _ => p

/-- The line that an outcome spoils for the read in progress. -/
def spoiled (o : PitOutcome) (a : Nat) : List Nat :=
  match o with
  | .uncorrectable k | .linkFailed k => [a / 64 + k]
  | .command _ => blockLines a
  | _ => []

/-- The TAG of the block that an address lies in, on the rank that serves it. -/
def tagAt (p : Pit) (a : Nat) : Nat := tagOf (checkBlock a) (physOfAddr p a)

/-- R262: the channel serves its oldest request, and meets faults. `ns` is its completion time after leaving the regulator. -/
def execPitRequestServed (c : Nat) (f : PitFault) (ns : Nat) (s : State) : Host.Outcome State Fault Refusal :=
  .next (match (chanAt s.pit c).queue with
    | [] => s
    | q :: r =>
      if s.pit.state ≠ .run then s else modPit (fun p =>
        let os := outcomesOf f (tagAt p q.addr)
        let bad := os.flatMap (fun o => spoiled o q.addr) ++ p.damaged
        let hit := fun (i : Nat) => bad.contains ((q.addr + i) / 64)
        let x : PitResp :=
          if q.data.isSome then {}
          else { data := q.resp.data.zipIdx.map (fun b => if hit b.2 then 0 else b.1)
                 damaged := q.resp.damaged || (upTo q.len).any hit }
        let p := modChan c (fun x => os.foldl (fun x o => countOutcome o x) { x with queue := r }) p
        let p := os.foldl (fun p o => markOutcome o q.data.isSome q.addr p) p
        modPort q.port (fun y => respond q.id x { y with
          bytes := sat64 (y.bytes + q.len), lat := max y.lat (sat16 ns) }) p) s)

/-! Refresh and retraining (R267, R268). -/

/-- R267: physical rank `r` is refreshed at the rate its temperature indication calls for. -/
def execPerBankRefresh (r : Nat) (doubled : Bool) (s : State) : Host.Outcome State Fault Refusal :=
  .next (if s.pit.state ≠ .run ∨ 64 ≤ r then s else modPit (fun p =>
    let c := chanAt p (r / 2)
    let was := if r % 2 = 0 then c.hot0 else c.hot1
    let p := modChan (r / 2) (fun c => if r % 2 = 0 then { c with hot0 := doubled } else { c with hot1 := doubled }) p
    if doubled && !was then pitCause [4] p else p) s)

/-- R268: a channel checks its timing; a check that fails is a link failure of both its ranks. -/
def execRetrainPause (c : Nat) (ok : Bool) (s : State) : Host.Outcome State Fault Refusal :=
  .next (if s.pit.state ≠ .run ∨ 32 ≤ c then s else modPit (fun p =>
    let p := modChan c (fun x => { x with pauses := (x.pauses + 1) % 2 }) p
    if ok then p
    else failRank (2 * c + 1) (failRank (2 * c)
      (modChan c (fun x => countOutcome (.linkFailed 0) x) p))) s)

/-! Scrub (R270). -/

/-- Data lines in a rank. -/
def rankLines : Nat := 15728640

def scrubs (p : Pit) (r : Nat) : Bool :=
  match rankSt p r with
  | .inService | .degraded | .spare => true
  | _ => false

/-- The next rank from `r` on that the scrub reads. -/
def scrubRankFrom (p : Pit) (r : Nat) : Option Nat := (upTo 64).find? (fun k => decide (r ≤ k) && scrubs p k)

/-- The pit address of a line of a physical rank, where the rank serves one. -/
def lineOfPhys (p : Pit) (r n : Nat) : Option Nat :=
  (p.rankMap.findIdx? (· == r)).map (fun l => lineAddr l n)

/-- One line further; at the last line of the last rank a pass is complete. -/
def advanceScrub (p : Pit) : Pit :=
  if p.scrubLine + 1 < rankLines then { p with scrubLine := p.scrubLine + 1 }
  else match scrubRankFrom p (p.scrubRank + 1) with
    | some r => { p with scrubRank := r, scrubLine := 0 }
    | none => { p with scrubRank := 0, scrubLine := 0, scrubPasses := sat16 (p.scrubPasses + 1) }

/-- Data bytes that P7 serves (Table 12.8). -/
def serveP7 (n : Nat) (p : Pit) : Pit := modPort 7 (fun q => { q with bytes := sat64 (q.bytes + n) }) p

/-- A rank fails by an outcome of the scrub (R270, Table 12.2). -/
def hardOutcome : PitOutcome → Bool
  | .uncorrectable _ | .command _ | .linkFailed _ => true
  | _ => false

/-- What an outcome of the scrub does to a line of a rank that serves, at pit address `a`. -/
def scrubMark (r a : Nat) (p : Pit) (o : PitOutcome) : Pit :=
  match o with
  | .uncorrectable _ => failRank r (damageLines [a / 64] p)
  | .command _ => failRank r (damageLines (blockLines a) p)
  | .linkFailed _ => failRank r p
  | _ => p

/-- R270: the scrub reads its next line, and meets faults. -/
def execScrubRead (f : PitFault) (s : State) : Host.Outcome State Fault Refusal :=
  .next (if !s.pit.scrubOn || decide (s.pit.state ≠ .run) then s
    else modPit (fun p =>
      match scrubRankFrom p p.scrubRank with
      | none => advanceScrub { p with scrubRank := 63, scrubLine := rankLines }
      | some r =>
        let p := serveP7 64 (if r = p.scrubRank then p else { p with scrubRank := r, scrubLine := 0 })
        let os := outcomesOf { f with line := 0 } (tagOf (p.scrubLine / 15) r)
        let p := modChan (r / 2) (fun c => os.foldl (fun c o => countOutcome o c) c) p
        let p := if rankSt p r = .spare then
            (if os.any hardOutcome then pitCause [3] (setRank r .retired p) else p)
          else match lineOfPhys p r p.scrubLine with
            | some a => os.foldl (scrubMark r a) p
            | none => p
        advanceScrub p) s)

/-! Retirement and migration (R271 to R274). -/

/-- The lowest-numbered SPARE rank. -/
def lowestSpare (p : Pit) : Option Nat := (upTo 64).find? (fun r => decide (rankSt p r = .spare))

/-- R271: the oldest queued migration is due. -/
def execMigrationStart (s : State) : Host.Outcome State Fault Refusal :=
  .next (if s.pit.state ≠ .run ∨ s.pit.mig.isSome then s else modPit (fun p =>
    match p.queue with
    | [] => p
    | r :: q =>
      match p.rankMap.findIdx? (· == r), lowestSpare p with
      | some l, some t =>
        pitCause [0] (setRank r .source (setRank t .target
          { p with queue := q, mig := some { logical := l, source := r, target := t, m := 0 } }))
      | some _, none => pitCause [2] (setRank r .degraded { p with queue := q })
      | none, _ => { p with queue := q }) s)

/-- Requests held for a block pass on in arrival order, as far as they can (R273). -/
def releaseHeld (p : Pit) : Pit := p.held.foldl (fun p q => enqueuePit q p) { p with held := [] }

/-- The last block has been copied (Table 12.6 step 4). -/
def endMigration (m : Migration) (p : Pit) : Pit :=
  pitCause [1] (setRank m.source .retired (setRank m.target .inService
    { p with mig := none, rankMap := upd p.rankMap m.logical (fun _ => m.target) }))

/-- What the copy of a data line leaves on the target (R272): faults of the source change only the lines. -/
def copyMark (m : Migration) (p : Pit) (o : PitOutcome) : Pit :=
  let line := fun (i : Nat) => lineAddr m.logical (15 * m.m + i) / 64
  match o with
  | .uncorrectable i | .linkFailed i => damageLines [line i] p
  | .command _ => damageLines ((upTo 15).map line) p
  | _ => p

/-- The outcomes of the copy's reads, counted on the source's channel. -/
def copyFaults (m : Migration) (fs : List PitFault) (p : Pit) : Pit :=
  let os := fs.flatMap (fun f => outcomesOf f (tagOf m.m m.source))
  os.foldl (copyMark m) (modChan (m.source / 2) (fun c => os.foldl (fun c o => countOutcome o c) c) p)

/-- Table 12.6: the block in copy is read, line by line, and written to the target. `faults` tells what the reads of lines 0 to
14 met; `targetFails` reports a failure of the target rank. -/
def execMigrationBlockCopy (faults : List PitFault) (targetFails : Bool) (s : State) : Host.Outcome State Fault Refusal :=
  .next (if s.pit.state ≠ .run then s else modPit (fun p =>
    match p.mig with
    | none => p
    | some m =>
      let p := serveP7 1920 (copyFaults m (faults.filter (fun f => decide (f.line < 15))) p)
      let p := if targetFails then failRank m.target p else p
      let m' := { m with m := m.m + 1 }
      if rankBlocks ≤ m'.m then releaseHeld (endMigration m' p) else releaseHeld { p with mig := some m' }) s)

/-! Registers (Table 12.8). -/

/-- A rank that serves a logical rank. -/
def serving (r : RankState) : Bool :=
  match r with
  | .inService | .source | .degraded => true
  | _ => false

def pitStat (p : Pit) : Nat :=
  let n := fun (f : RankState → Bool) => if p.state = .off then 0 else (p.rankState.filter f).length
  2 ^ 26 * n serving + 2 ^ 23 * n (· == .spare) + 2 ^ 17 * p.queue.length + 65536 * b2n p.mig.isSome +
  32768 * b2n (p.chans.any (fun c => c.hot0 || c.hot1)) + p.state.code

def pitMigStat (p : Pit) : Nat :=
  match p.mig with
  | some m => 2 ^ 31 + 65536 * m.logical + 256 * m.target + m.source
  | none => 0

def pitMigPtr (p : Pit) : Nat := match p.mig with | some m => m.m | none => 0

/-- Passes, and progress of the current one in units of 2^-16. -/
def pitScrubStat (p : Pit) : Nat :=
  let ranks := (upTo 64).filter (scrubs p)
  let before := (ranks.filter (fun r => decide (r < p.scrubRank))).length
  65536 * p.scrubPasses + (before * rankLines + p.scrubLine) * 65536 / (max 1 (ranks.length * rankLines)) % 65536

def chanStat (p : Pit) (c : Nat) : Nat :=
  let x := chanAt p c
  1024 * b2n x.fullTrain + 512 * b2n (x.hot0 || x.hot1) + 256 * b2n x.trained +
  16 * (rankSt p (2 * c + 1)).code + (rankSt p (2 * c)).code

/-- A register of the pit block by its offset. -/
def pitReg (p : Pit) (off : Nat) : Nat :=
  if off = 0 then pitStat p
  else if off = 4 then p.cause
  else if off = 8 then p.irqEn
  else if off = 0x10 then p.chIrqEn
  else if off = 0x14 then pitMigStat p
  else if off = 0x18 then pitMigPtr p
  else if off = 0x1C then pitScrubStat p
  else if 0x20 ≤ off ∧ off < 0x5C then
    ((upTo 4).map (fun j => 256 ^ j * p.rankMap.getD (off - 0x20 + j) 0)).sum
  else if 0x60 ≤ off ∧ off < 0x80 then
    ((upTo 8).map (fun j => 16 ^ j * (rankSt p (2 * (off - 0x60) + j)).code)).sum
  else if 0x100 ≤ off ∧ off < 0x200 then
    let q := p.ports.getD ((off - 0x100) / 32) {}
    match off % 32 with
    | 0 => q.rate
    | 4 => q.burst
    | 8 => q.bytes % 2 ^ 32
    | 12 => q.bytes / 2 ^ 32
    | 16 => q.held
    | 20 => q.lat
    | _ => 0
  else if 0x400 ≤ off ∧ off < 0x800 then
    let c := (off - 0x400) / 32
    let x := chanAt p c
    match off % 32 with
    | 0 => chanStat p c
    | 4 => x.cause
    | 8 => x.ce
    | 12 => 65536 * x.linkRetried + x.linkCe
    | 16 => 65536 * x.cmdErr + x.ue
    | _ => 0
  else 0

/-! Commands. -/

/-- PIT_STATUS (R275). -/
def pitStatus (_ : Req) (_ : Nat) (s : State) : Out :=
  let p := s.pit
  { st := s
    reply := {
      result := fields [(24, leBytes 4 (pitStat p)), (28, leBytes 4 (pitMigStat p)), (32, leBytes 4 (pitMigPtr p)),
                        (36, leBytes 4 (pitScrubStat p))]
      block := some ((upTo 512).flatMap (fun i => leBytes 4 (pitReg p (4 * i)))) } }

def execPitStatus (r : Req) (t : Nat) (s : State) : Host.Outcome State Fault Refusal :=
  .next (runCommand 0x0901 pitStatus r t s)

/-- PIT_RETIRE_RANK (R271, R275). -/
def pitRetireRank (r : Req) (_ : Nat) (s : State) : Out :=
  let k := b8 r 24
  let p := s.pit
  let done := fun (s : State) => answer s (fields [(24, leBytes 1 (rankSt s.pit k).code)])
  if 64 ≤ k then badRange s
  else match rankSt p k with
    | .retired | .absent | .degraded => badRange s
    | .source | .target => notInState s
    | .spare => done (modPit (fun p => pitCause [3] (setRank k .retired p)) s)
    | .inService =>
      if p.queue.contains k then notInState s
      else if (lowestSpare p).isNone then refuse s stLimit 0
      else done (modPit (failRank k) s)

def execPitRetireRank (r : Req) (t : Nat) (s : State) : Host.Outcome State Fault Refusal :=
  .next (runCommand 0x0902 pitRetireRank r t s)

/-- PIT_REGULATOR (R263, R265, R272, R275). -/
def pitRegulator (r : Req) (_ : Nat) (s : State) : Out :=
  let rates := [b16 r 24, b16 r 26, b16 r 28]
  let bursts := [b16 r 32, b16 r 34, b16 r 36]
  if 400 < b16 r 24 ∨ !inRange 3 40 (b16 r 26) ∨ !inRange 1 40 (b16 r 28) ∨ !inRange 5 120 (b16 r 30) ∨
      bursts.any (fun b => !inRange 4 1024 b) then badRange s
  else
    let s' := modPit (fun p => { p with
      migRate := b16 r 30
      ports := p.ports.zipIdx.map (fun x =>
        if inRange 4 6 x.2 then
          { x.1 with rate := rates.getD (x.2 - 4) 0, burst := bursts.getD (x.2 - 4) 0
                     tokens := min x.1.tokens (10240 * bursts.getD (x.2 - 4) 0) }
        else x.1) }) s
    if s.bun.applying || ratesOk s' then answer (modPit (releaseWaiting 4) s') [] else admission s

def execPitRegulator (r : Req) (t : Nat) (s : State) : Host.Outcome State Fault Refusal :=
  .next (runCommand 0x0903 pitRegulator r t s)

/-- PIT_SCRUB (R270). -/
def pitScrub (r : Req) (_ : Nat) (s : State) : Out :=
  if b8 r 24 / 2 ≠ 0 then badReserved s
  else if !inRange 1 168 (b16 r 26) then badRange s
  else answer (modPit (fun p => { p with scrubOn := bit (b8 r 24) 0, scrubHours := b16 r 26 }) s) []

def execPitScrub (r : Req) (t : Nat) (s : State) : Host.Outcome State Fault Refusal :=
  .next (runCommand 0x0904 pitScrub r t s)

/-- The counters of Table 12.8 at 0 (R276). -/
def clearPit (p : Pit) : Pit :=
  { p with
    ports := p.ports.map (fun q => { q with bytes := 0, held := 0, lat := 0 }), scrubPasses := 0
    chans := p.chans.map (fun c => { c with ce := 0, linkRetried := 0, linkCe := 0, cmdErr := 0, ue := 0 }) }

def execPitCounterClear (s : State) : Host.Outcome State Fault Refusal :=
  .next (if dpRun s then modPit clearPit s else s)

end Sys2Proof.Machine
end

