-- ==== Sys2Proof/Machine/Lanes.lean ====
section
/-! DEFINITION. The lane ports (02): what each lane event and lane command does. -/

namespace Sys2Proof.Machine

/-- Sets cause bits of a lane (Table 2.12). -/
def laneCause (ks : List Nat) (l : Lane) : Lane := { l with cause := setBits l.cause ks }

/-- A packet being received ends discarded (Table 2.5): one count in CRC_ERR if it held a character error,
else one in ABORT. -/
def cutPacket (l : Lane) : Lane :=
  if l.pktErr then laneCause [6] { l with pktErr := false, crcErr := sat32 (l.crcErr + 1) }
  else laneCause [7] { l with abortCnt := sat32 (l.abortCnt + 1) }

def cutIf (inPkt : Bool) (l : Lane) : Lane := if inPkt then cutPacket l else l

/-- LOL asserts (R35); a lane in UP enters RELOCK (R39). -/
def assertLol (l : Lane) : Lane :=
  if l.lol then l else
    laneCause [1] { l with lol := true, lolCnt := sat32 (l.lolCnt + 1), aligned := false, errWords := [],
                           rxState := if l.rxState = .up then .relock else l.rxState }

/-- LOS asserts, and LOL with it (R35). -/
def assertLos (l : Lane) : Lane :=
  if l.los then l else assertLol (laneCause [0] { l with los := true, losCnt := sat32 (l.losCnt + 1) })

/-- Entry to SEARCH clears the PEER fields (R32). -/
def enterSearch (l : Lane) : Lane :=
  { l with rxState := .search, peerValid := false, peerLane := 0, peerMax := 0, peerInfo := 0, frozen := false }

/-- The bring-up goes on in SEARCH: it is entered only from another state (R32). -/
def goOnSearching (l : Lane) : Lane := if l.rxState = .search then l else enterSearch l

/-- The full ladder starts at RATE_25G (Table 2.7 step 2). -/
def startLadder (l : Lane) : Lane := { goOnSearching l with bringup := .ladder, rxRate := 3 }

/-- Bring-up starts (Table 2.7 step 1): from the saved record, or on the ladder. -/
def startBringup (full freeze : Bool) (rec : LaneRec) (l : Lane) : Lane :=
  let l := { l with freezeReq := freeze }
  if rec.valid && !full then
    { enterSearch l with bringup := .saved, rxRate := rec.rate, ctle := rec.ctle, tap1 := rec.tap1 }
  else startLadder (enterSearch l)

/-- The next lower rung, or FAILED after RATE_3G (Table 2.7 steps 2 and 4). -/
def nextRung (l : Lane) : Lane :=
  if l.rxRate = 0 then laneCause [3] { l with rxState := .failed, bringup := .none }
  else { goOnSearching l with bringup := .ladder, rxRate := l.rxRate - 1 }

def laneRecAt (s : State) (n : Nat) : LaneRec := s.lanes.records.getD n {}

def setLaneRec (n : Nat) (f : LaneRec → LaneRec) (s : State) : State :=
  { s with lanes := { s.lanes with records := upd s.lanes.records n f } }

/-- A lane that enters FAILED clears the VALID bit of its record (Table 2.7 step 6). -/
def failRecord (n : Nat) (s : State) : State :=
  if (laneAt s n).rxState = .failed then setLaneRec n (fun r => { r with valid := false }) s else s

/-- A bring-up of a lane has ended. -/
def laneSettled (l : Lane) : Bool := decide (l.rxState ≠ .search) && decide (l.rxState ≠ .adapt)

/-- The mask of the lanes among `mask` in a state. -/
def stateMask (s : State) (mask : Nat) (st : RxState) : Nat :=
  maskOf ((bitsSet 64 mask).filter (fun n => decide ((laneAt s n).rxState = st)))

/-- LANE_BRINGUP commands whose lanes have settled complete (16 Table 16.10). -/
def finishBringups (s : State) : State :=
  finishOpen (fun o => isOp 0x0301 o && (bitsSet 64 o.key).all (fun n => laneSettled (laneAt s n)))
    (fun o => { result := fields [(24, leBytes 8 (stateMask s o.key .up)), (32, leBytes 8 (stateMask s o.key .failed))] })
    (timeNow s) s

/-- Lane events need the powered datapath; otherwise nothing happens. -/
def whenRun (s : State) (t : State) : State := if dpRun s then t else s

/-- Copies waiting for a path are dropped where a test holds (11 R235). -/
def dropCopies (path : Nat) (hit : HPkt → Bool) (s : State) : State :=
  let n := (s.hst.queue.filter hit).length
  if n = 0 then s else
    settleQueue (modHst (fun h => { h with
      queue := (h.queue.map (fun p => if hit p then
        (if path = 0 then { p with waitA := false } else { p with waitB := false }) else p))
      copyDrop0 := if path = 0 then sat32 (h.copyDrop0 + n) else h.copyDrop0
      copyDrop1 := if path = 0 then h.copyDrop1 else sat32 (h.copyDrop1 + n)
      dropRun := upd h.dropRun path (· + n)
      cause := setBits h.cause [3] }) s)

/-- A copy that waits for a path while the other copy has been sent. -/
def lagging (path : Nat) (p : HPkt) : Bool :=
  if path = 0 then p.waitA && p.sentB && !p.onB else p.waitB && p.sentA && !p.onA

/-- Copies waiting for a path that is down are dropped once their other copy has been sent (11 R235). -/
def dropDown (path : Nat) (s : State) : State :=
  if pathUp s path then s else dropCopies path (lagging path) s

/-- Reports and drops that follow a change of the transmit lanes. -/
def afterTxChange (before s : State) : State := dropDown 1 (dropDown 0 (notePaths before s))

/-- A transmit lane takes a role: OFF, or 10 ms of TRAIN first (R27, R40). -/
def takeRole (role rate : Nat) (l : Lane) : Lane :=
  { l with txRole := role, txRate := rate, txUp := false, txTraining := decide (role ≠ 0) && !l.txFault, txNext := none,
           txCtl := [], sinceSkip := 0, sinceTrain0 := 0, sinceTrain := 0 }

/-- One entry of LANE_ASSIGN applied to a lane (R26, R27). Bring-up starts only on a lane that RX_EN newly enables: a FAILED
lane that stays enabled stays FAILED (R38; log 112). -/
def assignLane (rec : LaneRec) (entry : Nat) (l : Lane) : Lane :=
  let rx := bit entry 0
  let l := if rx && !l.rxEnabled then startBringup false false rec { l with rxEnabled := true }
    else if !rx && l.rxEnabled then
      { cutIf l.pktErr l with rxEnabled := false, rxState := .off, bringup := .none }
    else l
  let role := bits entry 8 2
  let rate := bits entry 12 2
  if (role = l.txRole ∧ rate = l.txRate ∨ role = 0 ∧ l.txRole = 0) then { l with txNext := none, txRate := rate }
  else if l.txCur.isSome then { l with txNext := some (role, rate) }
  else takeRole role rate l

/-- Entries of the argument: [0] RX_EN, [9:8] TX_ROLE, [13:12] TX_RATE. -/
def assignEntry (arg : List Byte) (n : Nat) : Nat := u32 arg (4 * n)

/-- Rates that a LANE_ASSIGN gives the lanes of a role. -/
def roleRates (arg : List Byte) (role : Nat) : List Nat :=
  ((upTo 64).filter (fun n => bits (assignEntry arg n) 8 2 == role)).map (fun n => bits (assignEntry arg n) 12 2)

def sameRates (l : List Nat) : Bool := l.all (fun r => r == l.headD 0)

/-- Mask of the lanes that satisfy a test. -/
def laneMask (s : State) (p : Lane → Bool) : Nat := maskOf ((upTo 64).filter (fun n => p (laneAt s n)))

/-- LANE_ASSIGN (R24, R26, R27, 16 Table 16.10). -/
def laneAssign (r : Req) (_ : Nat) (s : State) : Out :=
  if (upTo 64).any (fun n => decide (assignEntry r.arg n &&& 0xFFFFCCFE ≠ 0)) || decide (b8 r 24 / 2 ≠ 0) then badReserved s
  else if (roleRates r.arg 1).isEmpty || !sameRates (roleRates r.arg 1) || !sameRates (roleRates r.arg 2) ||
      (bit (b8 r 24) 0 && (roleRates r.arg 2).isEmpty) then badRange s
  else
    let s1 := { s with lanes := { s.lanes with
      lane := (s.lanes.lane.zipIdx).map (fun p => assignLane (laneRecAt s p.2) (assignEntry r.arg p.2) p.1) } }
    let s2 := modHst (fun h => { h with dual := bit (b8 r 24) 0 }) s1
    let s3 := afterTxChange s s2
    answer s3 (fields [(24, leBytes 8 (laneMask s3 (·.rxEnabled))), (32, leBytes 8 (laneMask s3 (·.txUp)))])

def execLaneAssign (r : Req) (t : Nat) (s : State) : Host.Outcome State Fault Refusal :=
  .next (runCommand 0x0303 laneAssign r t s)

/-- A lane removed from its role has finished its packet (R27). -/
def execTxLaneTurnOff (n : Nat) (s : State) : Host.Outcome State Fault Refusal :=
  .next (match (laneAt s n).txNext with
    | some (role, rate) =>
      if (laneAt s n).txCur.isNone then whenRun s (afterTxChange s (modLane n (takeRole role rate) s)) else s
    | none => s)

/-- INFO byte of a TRAIN (Table 2.3); the device supports RATE_25G on every lane. -/
def trainInfo (rate : Nat) (report ready : Bool) : Nat := 64 * rate + 48 + 8 * b2n report + 4 * b2n ready

/-- The 10 ms of TRAIN end with the lane's own TRAIN, from which R29 and R30 count, and TX_UP is set (R40). -/
def endTraining (n : Nat) (l : Lane) : Lane :=
  { l with txTraining := false, txUp := true, sinceTrain0 := 0, sinceTrain := 0, lastTrain := some (trainInfo l.txRate false false, n) }

/-- A transmit lane becomes free, after every lane that has become free before (11 R233). -/
def freeLane (n : Nat) (s : State) : State :=
  modHst (fun h => { h with freeTick := h.freeTick + 1 }) (modLane n (fun l => { l with freed := s.hst.freeTick + 1 }) s)

/-- R40: after its 10 ms of TRAIN the lane sets TX_UP. -/
def execTxTrainDone (n : Nat) (s : State) : Host.Outcome State Fault Refusal :=
  .next (if (laneAt s n).txTraining && !(laneAt s n).txFault then
      whenRun s (afterTxChange s (freeLane n (modLane n (endTraining n) s)))
    else s)

/-- `w` more lane words have been sent on a transmit lane. -/
def txWords (w : Nat) (l : Lane) : Lane :=
  { l with sinceSkip := l.sinceSkip + w, sinceTrain0 := l.sinceTrain0 + w, sinceTrain := l.sinceTrain + w }

/-- At a word boundary outside a packet of a lane in service. -/
def txBoundary (l : Lane) : Bool := l.txUp && l.txCur.isNone

/-- R30: a SKIP, once 1,024 words have passed since the last. -/
def execTxSkipSend (n w : Nat) (s : State) : Host.Outcome State Fault Refusal :=
  .next (whenRun s (modLane n (fun l =>
    let l := txWords w l
    if txBoundary l && decide (1024 ≤ l.sinceSkip) then { l with sinceSkip := 0 } else l) s))

/-- R29, R30: a TRAIN with REPORT 0, once 61,440 words have passed since the last such. -/
def execTxTrainSend (n w : Nat) (s : State) : Host.Outcome State Fault Refusal :=
  .next (whenRun s (modLane n (fun l =>
    let l := txWords w l
    if txBoundary l && decide (61440 ≤ l.sinceTrain0) then
      { l with sinceTrain0 := 0, sinceTrain := 0, lastTrain := some (trainInfo l.txRate false false, n) }
    else l) s))

/-- The enabled receive lane after `last` in ascending order, wrapping at the highest (R29). -/
def nextReport (s : State) (last : Option Nat) : Option Nat :=
  let en := (upTo 64).filter (fun n => (laneAt s n).rxEnabled)
  match last with
  | some k => (en.find? (fun n => decide (k < n))).orElse (fun _ => en.head?)
  | none => en.head?

/-- R29: a RETURN lane's TRAIN with REPORT 1, once 256 words have passed since its last TRAIN of either kind. -/
def execTxTrainReport (n w : Nat) (s : State) : Host.Outcome State Fault Refusal :=
  .next (whenRun s (modLane n (fun l =>
    let l := txWords w l
    match nextReport s l.lastReport with
    | some k =>
      if txBoundary l && decide (l.txRole = 3) && decide (256 ≤ l.sinceTrain) then
        { l with sinceTrain := 0, lastReport := some k,
                 lastTrain := some (trainInfo l.txRate true (decide ((laneAt s k).rxState = .up)), k) }
      else l
    | none => l) s))

/-- A packet ended by EAB waits again, ahead of every later packet of its stream on the path (11 R236); a BEACON is never
sent again (03 R66). -/
def requeue (role : Nat) (p : TxPkt) (s : State) : State :=
  if p.ctl && hType p.bytes == 4 then s else
  modHst (fun h =>
    let h := { h with resend := sat32 (h.resend + 1), cause := setBits h.cause [2] }
    if p.ctl then (if role = 1 then { h with ctlA := p.bytes :: h.ctlA } else { h with ctlB := p.bytes :: h.ctlB })
    else { h with queue := h.queue.map (fun q =>
      if q.num = p.num then (if role = 1 then { q with waitA := true, redoA := true, onA := false }
        else { q with waitB := true, redoB := true, onB := false }) else q) }) s

/-- R37: the serialiser loses lock; the packet in progress ends with EAB. -/
def loseSerialiser (n : Nat) (s : State) : State :=
  let l := laneAt s n
  if l.txRole ≠ 0 ∧ !l.txFault then
    let s1 := match l.txCur with
      | some p => if l.txRole = 3 then modLane n (fun l => { l with txCtl := p.bytes :: l.txCtl }) s
                  else requeue l.txRole p s
      | none => s
    whenRun s (afterTxChange s (modLane n (fun l =>
      laneCause [9] { l with txFault := true, txUp := false, txTraining := false, txCur := none }) s1))
  else s

def execTxFault (n : Nat) (s : State) : Host.Outcome State Fault Refusal := .next (loseSerialiser n s)

/-- R37: the serialiser relocks and TRAIN begins. -/
def execTxSerialiserRelock (n : Nat) (s : State) : Host.Outcome State Fault Refusal :=
  .next (if (laneAt s n).txFault && supplyOn s vlane then
      whenRun s (modLane n (fun l => { l with txFault := false, txTraining := decide (l.txRole ≠ 0), sinceTrain0 := 0
                                              sinceTrain := 0 }) s)
    else s)

/-- R32: a TRAIN with REPORT 0 updates the PEER fields; one with REPORT 1 is ignored. -/
def execRxTrain (n info lane : Nat) (s : State) : Host.Outcome State Fault Refusal :=
  .next (if (laneAt s n).rxEnabled && !bit info 3 then
      whenRun s (modLane n (fun l => { l with
        peerValid := true, peerLane := bits lane 0 6, peerMax := bits info 4 2, peerInfo := info % 256 }) s)
    else s)

/-- R31: a received SKIP, with the buffer at `fill` words: deleted above 12, doubled below 4. -/
def execRxSkip (n fill : Nat) (s : State) : Host.Outcome State Fault Refusal :=
  .next (if (laneAt s n).rxEnabled then
      whenRun s (modLane n (fun l => { l with
        elastic := if 12 < fill then fill - 1 else if fill < 4 then fill + 1 else fill }) s)
    else s)

/-- R31: an elastic event recentres the buffer and ends a packet in progress. -/
def execElasticEvent (n : Nat) (inPkt : Bool) (s : State) : Host.Outcome State Fault Refusal :=
  .next (if (laneAt s n).rxEnabled then
      whenRun s (modLane n (fun l =>
        cutIf inPkt (laneCause [8] { l with elastic := 8, elasticCnt := sat32 (l.elasticCnt + 1) })) s)
    else s)

/-- A valid data or control character of a given byte. -/
def isData (v : Nat) (c : RxChar) : Bool := c.valid && !c.ctl && c.byte == v
def isCtl (v : Nat) (c : RxChar) : Bool := c.valid && c.ctl && c.byte == v

/-- Is a lane word IDLE, SKIP or TRAIN, with K28.5 in position 0 (Table 2.2)? -/
def alignsWord (w : List RxChar) : Bool :=
  w.length == 4 && isCtl 0xBC (w.getD 0 {}) &&
  ((w.drop 1).all (isData 0xB5) || (w.drop 1).all (isCtl 0x1C) ||
   (isData 0x4A (w.getD 1 {}) && (w.drop 2).all (fun c => c.valid && !c.ctl)))

/-- R28: of the words received, the last eight are IDLE, SKIP or TRAIN, and word alignment is declared. -/
def execWordAlignment (n : Nat) (words : List (List RxChar)) (s : State) : Host.Outcome State Fault Refusal :=
  .next (if (laneAt s n).rxEnabled && !(laneAt s n).los && decide (8 ≤ words.length) &&
        (words.drop (words.length - 8)).all alignsWord then
      whenRun s (modLane n (fun l => { l with aligned := true, errWords := [] }) s)
    else s)

/-- Does the character in position `pos` of a lane word count as a code error (R28)? SKIP is told by the K28.5 that leads the
word (log 113). -/
def codeFault (word : List RxChar) (pos : Nat) : Bool :=
  let c := word.getD pos {}
  !c.valid ||
  (c.ctl && (!([0xBC, 0x1C, 0xFB, 0xFD, 0xFE].contains c.byte) ||
    (decide (pos ≠ 0) && !(isCtl 0x1C c && isCtl 0xBC (word.getD 0 {})))))

/-- R35, R36: a character error in lane word `w`. Four code errors within 16 consecutive words lose word alignment. -/
def charError (w : Nat) (code disp inPkt : Bool) (l : Lane) : Lane :=
  let l := if code then laneCause [4] { l with codeErr := sat32 (l.codeErr + 1) } else l
  let l := if disp then laneCause [5] { l with dispErr := sat32 (l.dispErr + 1) } else l
  let l := { l with pktErr := l.pktErr || inPkt }
  if code then
    let win := l.errWords.filter (fun x => decide (w < x + 16)) ++ [w]
    if 4 ≤ win.length then assertLol (cutIf inPkt { l with aligned := false, errWords := [] })
    else { l with errWords := win }
  else l

/-- R36: the character in position `pos` of lane word number `w` has a code error or a disparity error. -/
def execCodeError (n w pos : Nat) (word : List RxChar) (disp inPkt : Bool) (s : State) : Host.Outcome State Fault Refusal :=
  .next (if (laneAt s n).rxEnabled && (codeFault word pos || disp) then
      whenRun s (modLane n (charError w (codeFault word pos) disp inPkt) s) else s)

/-- The longest Seam packet, header, payload and trailer (R44). -/
def longestPacket : Nat := 8228

/-- Does a packet that ended as `how` pass every check of R36? -/
def packetGood (how : RxEnd) (bytes crc : List Byte) (l : Lane) : Bool :=
  decide (how = .eop) && !l.pktErr && decide (bytes.length + 4 ≤ longestPacket) &&
  decide (leAt crc 0 4 = crc32 bytes)

/-- Does it count in CRC_ERR rather than ABORT (Table 2.5)? -/
def packetCrc (how : RxEnd) (bytes : List Byte) (l : Lane) : Bool :=
  l.pktErr || (decide (how = .eop) && decide (bytes.length + 4 ≤ longestPacket))

/-- A packet joins those delivered: in the same instant, before those of higher-numbered lanes (04 R72). -/
def joinDelivered (p : RxPkt) (l : List RxPkt) : List RxPkt :=
  l.takeWhile (fun q => !(q.time == p.time && decide (p.lane < q.lane))) ++ [p] ++
  l.dropWhile (fun q => !(q.time == p.time && decide (p.lane < q.lane)))

/-- A good packet is delivered at timer count `t` and counted; a malformed one is counted and discarded (R36, R47). -/
def deliver (n t : Nat) (bytes : List Byte) (s0 : State) : State :=
  let s := modLane n (fun l => { l with rxPkt := sat64 (l.rxPkt + 1) }) s0
  if malformed bytes then modHop (fun h => { h with malformed := sat32 (h.malformed + 1), cause := setBits h.cause [3] }) s
  else { s with lanes := { s.lanes with delivered := joinDelivered { lane := n, time := t, bytes := bytes } s.lanes.delivered } }

/-- A discarded packet is counted once (Table 2.5). -/
def countBad (how : RxEnd) (bytes : List Byte) (l : Lane) : Lane :=
  if packetCrc how bytes l then laneCause [6] { l with pktErr := false, crcErr := sat32 (l.crcErr + 1) }
  else laneCause [7] { l with abortCnt := sat32 (l.abortCnt + 1) }

/-- R36, R47: a packet ends; delivered, or discarded and counted. Outside UP nothing is delivered, a good packet is counted
nowhere (R39; log 114), and any other counts as Table 2.5 states. -/
def execRxPacket (n : Nat) (how : RxEnd) (bytes crc : List Byte) (t : Nat) (s : State) : Host.Outcome State Fault Refusal :=
  .next (if (laneAt s n).rxEnabled then
      whenRun s (
        if packetGood how bytes crc (laneAt s n) then (if (laneAt s n).rxState = .up then deliver n t bytes s else s)
        else modLane n (countBad how bytes) s)
    else s)

/-- R35: an enabled lane loses its signal; `inPkt` says that a packet was arriving. -/
def loseSignal (n : Nat) (inPkt : Bool) (s : State) : State :=
  if (laneAt s n).rxEnabled && !(laneAt s n).los then
    whenRun s (modLane n (fun l => assertLos (cutIf inPkt l)) s) else s

def execLosAssert (n : Nat) (inPkt : Bool) (s : State) : Host.Outcome State Fault Refusal := .next (loseSignal n inPkt s)

/-- R35: LOS deasserts; LOL stays until its own condition is met. -/
def execLosDeassert (n : Nat) (s : State) : Host.Outcome State Fault Refusal :=
  .next (if (laneAt s n).los && supplyOn s vlane then whenRun s (modLane n (fun l => { l with los := false }) s) else s)

def execLolAssert (n : Nat) (inPkt : Bool) (s : State) : Host.Outcome State Fault Refusal :=
  .next (if (laneAt s n).rxEnabled && !(laneAt s n).lol then
      whenRun s (modLane n (fun l => assertLol (cutIf inPkt l)) s) else s)

/-- R35: LOL deasserts once word alignment has been declared again; LOS implies LOL. -/
def execLolDeassert (n : Nat) (s : State) : Host.Outcome State Fault Refusal :=
  .next (if (laneAt s n).lol && (laneAt s n).aligned && !(laneAt s n).los then
      whenRun s (modLane n (fun l => { l with lol := false }) s) else s)

/-- R38: a trial succeeds only with LOS cleared, the loop locked and alignment declared; ADAPT begins. -/
def execRateTrialSuccess (n : Nat) (s : State) : Host.Outcome State Fault Refusal :=
  .next (if (laneAt s n).rxState = .search ∧ !(laneAt s n).los then
      whenRun s (modLane n (fun l => { l with rxState := .adapt, lol := false, aligned := true, errWords := [] }) s)
    else s)

/-- R38: a trial fails at 2 ms. On the ladder the next rung follows; the saved-rate attempt goes on. -/
def execRateTrialFail (n : Nat) (s : State) : Host.Outcome State Fault Refusal :=
  .next (if (laneAt s n).rxState = .search ∧ (laneAt s n).bringup = .ladder then
      whenRun s (finishBringups (failRecord n (modLane n nextRung s))) else s)

def execSavedRateAttemptEnd (n : Nat) (s : State) : Host.Outcome State Fault Refusal :=
  .next (if (laneAt s n).rxState = .search ∧ (laneAt s n).bringup = .saved then
      whenRun s (modLane n startLadder s) else s)

/-- Equaliser values: CTLE step, and taps 1 to 6 limited to their fields (Table 2.13). -/
def setEq (ctle : Nat) (taps : List Int) (l : Lane) : Lane :=
  let six := fun i => clampI (-32) 31 (taps.getD i 0)
  { l with ctle := min ctle 15, tap1 := clampI (-128) 127 (taps.getD 0 0), tap2 := six 1, tap3 := six 2, tap4 := six 3,
           tap5 := six 4, tap6 := six 5 }

/-- The lane enters UP at the end of ADAPT (Table 2.7 steps 4 and 5). -/
def enterUp (l : Lane) : Lane :=
  laneCause [2] { l with rxState := .up, bringup := .none, frozen := l.freezeReq }

/-- End of ADAPT, with the adapted equaliser values; `clean` says that the last 256 words had no character error. -/
def execAdaptEnd (n : Nat) (clean : Bool) (ctle : Nat) (taps : List Int) (s : State) :
    Host.Outcome State Fault Refusal :=
  .next (
    if (laneAt s n).rxState = .adapt then
      whenRun s (
        let s := modLane n (setEq ctle taps) s
        let l := laneAt s n
        if clean then
          finishBringups (setLaneRec n (fun _ => { valid := true, tap1 := l.tap1, ctle := l.ctle, rate := l.rxRate })
            (modLane n enterUp s))
        else if l.bringup = .saved then modLane n startLadder s
        else finishBringups (failRecord n (modLane n nextRung s)))
    else s)

/-- R39: an attempt in RELOCK; success returns to UP without ADAPT. -/
def execRelockAttempt (n : Nat) (ok : Bool) (s : State) : Host.Outcome State Fault Refusal :=
  .next (if (laneAt s n).rxState = .relock ∧ ok ∧ !(laneAt s n).los then
      whenRun s (modLane n (fun l => laneCause [2] { l with rxState := .up, lol := false, aligned := true }) s) else s)

/-- LANE_BRINGUP (R38). -/
def laneBringup (r : Req) (_ : Nat) (s : State) : Out :=
  let mask := b64 r 24
  let named := bitsSet 64 mask
  if b8 r 32 / 4 ≠ 0 then badReserved s
  else if named.any (fun n => !(laneAt s n).rxEnabled) then badRange s
  else
    let s := named.foldl (fun s n =>
      modLane n (startBringup (bit (b8 r 32) 1) (bit (b8 r 32) 0) (laneRecAt s n)) s) s
    { st := s, key := mask, stay := if named.isEmpty then none else some .committed }

def execLaneBringup (r : Req) (t : Nat) (s : State) : Host.Outcome State Fault Refusal :=
  .next (runCommand 0x0301 laneBringup r t s)

/-- LANE_STAT_n (Table 2.11). -/
def laneStat (l : Lane) : Nat :=
  l.rxState.code + 256 * b2n l.lol + 512 * b2n l.los + 1024 * l.rxRate + 4096 * b2n l.txUp + 8192 * l.peerMax +
  32768 * b2n l.peerValid + 65536 * l.peerLane + 2 ^ 24 * l.txRole + 2 ^ 26 * l.txRate

/-- LANE_STATUS (16 Table 16.10). -/
def laneStatus (r : Req) (_ : Nat) (s : State) : Out :=
  if b8 r 24 = 0 then
    if 63 < b8 r 25 then badRange s else
      let l := laneAt s (b8 r 25)
      answer s (fields [(24, leBytes 4 (laneStat l)), (28, leBytes 4 l.cause), (32, leBytes 4 l.codeErr),
        (36, leBytes 4 l.crcErr), (40, leBytes 4 l.abortCnt), (44, leBytes 4 l.elasticCnt), (48, leBytes 8 l.rxPkt),
        (56, leBytes 8 l.txPktCnt)])
  else if b8 r 24 = 1 then
    if 4095 < b16 r 26 then badRange s else
      let p := partyAt s (b16 r 26)
      answer s (fields [(24, leBytes 4 p.retrans), (28, leBytes 4 p.dups), (32, leBytes 4 p.discards),
        (36, leBytes 1 (b2n (!p.unreachable)))])
  else badRange s

def execLaneStatus (r : Req) (t : Nat) (s : State) : Host.Outcome State Fault Refusal :=
  .next (runCommand 0x0302 laneStatus r t s)

/-- R42: the counters of the lane are cleared. -/
def clearLaneCounters (l : Lane) : Lane :=
  { l with codeErr := 0, dispErr := 0, crcErr := 0, abortCnt := 0, elasticCnt := 0, losCnt := 0, lolCnt := 0,
           rxPkt := 0, txPktCnt := 0 }

def execLaneCounterClear (n : Nat) (s : State) : Host.Outcome State Fault Refusal :=
  .next (whenRun s (modLane n clearLaneCounters s))

/-- R34: the equalisers of a lane in UP adapt; the CTLE moves at most one step, and a frozen lane holds both. -/
def execEqualiserAdapt (n ctle : Nat) (taps : List Int) (s : State) : Host.Outcome State Fault Refusal :=
  .next (
    let l := laneAt s n
    if l.rxState = .up ∧ !l.frozen ∧ ctle ≤ l.ctle + 1 ∧ l.ctle ≤ ctle + 1 then whenRun s (modLane n (setEq ctle taps) s)
    else s)

end Sys2Proof.Machine
end

