-- ==== Sys2Proof/Machine/Hoist.lean ====
section
/-! DEFINITION. The Hoist and the Crusher (11): packets are built, numbered, started on lanes and finished. -/

namespace Sys2Proof.Machine

def hstCause (k : Nat) (h : Hoist) : Hoist := { h with cause := setBits h.cause [k] }

/-- Class of a stream: 0 DUMP and COUNT, 1 BEAM, 2 PBEAM, 3 TRIG, 4 CAPT, 5 STAT (R238). -/
def streamClass (stream : Nat) : Nat :=
  if stream ≤ 1 then 0 else if stream ≤ 10 then 1 else stream - 9

/-- Bytes a packet takes of the queue: header and payload (log 22). -/
def pktBytes (p : HPkt) : Nat := 32 + p.payload.length

/-- Bytes of the queue in use, of 4 MiB. -/
def queueFill (s : State) : Nat := (s.hst.queue.map pktBytes).sum

def queueCap : Nat := 4194304

/-- Room for packets that need `n` bytes. -/
def queueRoom (s : State) (n : Nat) : Bool := decide (queueFill s + n ≤ queueCap)

def isFirst (p : HPkt) : Bool := bit p.flags 0

/-- A run of units not built ends: its NOT_BUILT record is made (R240). -/
def endLossRun (stream : Nat) (s : State) : State :=
  match s.hst.notBuiltRuns.find? (fun r => r.1 == stream) with
  | some r =>
    let typ := if stream ≤ 1 then 8 + stream else 9 + streamClass stream
    let sid := if streamClass stream = 1 then stream - 2 else 0
    noteStat 5 (65536 * typ + sid) r.2.1 r.2.2 (currentSpectrum s)
      (modHst (fun h => { h with notBuiltRuns := h.notBuiltRuns.filter (fun x => decide (x.1 ≠ stream)) }) s)
  | none => s

/-- A unit is not built (R240). -/
def lose (stream ref : Nat) (s : State) : State :=
  modHst (fun h => hstCause 4 { h with
    notBuilt := sat32 (h.notBuilt + 1)
    notBuiltRuns := match h.notBuiltRuns.find? (fun r => r.1 == stream) with
      | some r => h.notBuiltRuns.map (fun x => if x.1 = stream then (x.1, x.2.1, r.2.2 + 1) else x)
      | none => h.notBuiltRuns ++ [(stream, ref, 1)] }) s

/-- One packet is built: it takes the next number of its stream and is queued for path A, and for both with dual path on
(R226, R234). Its payload is charged to its class; a dump record is charged as a whole (R238). -/
def buildPkt (p : HPkt) (s0 : State) : State :=
  let s := endLossRun p.stream s0
  modHst (fun h =>
    let du := if isFirst p then upd h.unitDual p.stream (fun _ => h.dual) else h.unitDual
    let both := du.getD p.stream false
    let q := { p with num := h.nextNum, seq := h.seq.getD p.stream 0, source := ownSource s, waitA := true, waitB := both
                      charge := if streamClass p.stream = 0 then p.charge else p.payload.length }
    let queue := h.queue ++ [q]
    { h with unitDual := du, nextNum := h.nextNum + 1, queue := queue
             seq := upd h.seq p.stream (fun n => (n + 1) % 2 ^ 48)
             queuePeak := min (2 ^ 22 - 1) (max h.queuePeak (queue.map pktBytes).sum) }) s

/-! Dump records (R230). -/

/-- A piece of a record: TYPE 8 or 9, line number (0xFFFF the header), byte offset in the line and length. -/
structure Piece where
  typ : Nat := 8
  line : Nat := 0xFFFF
  off : Nat := 0
  len : Nat := 256
  deriving DecidableEq, Repr, Inhabited

/-- A line of `n` bytes cut into packets of 8,192. -/
def cutLine (typ line n : Nat) : List Piece :=
  (upTo (cdiv n 8192)).map (fun i => { typ := typ, line := line, off := 8192 * i, len := min 8192 (n - 8192 * i) })

/-- The packets of a record in order. -/
def dumpPlan (b : Bundle) (r : RingRec) : List Piece :=
  let lines := (lineVis b).zipIdx
  [({} : Piece)] ++ lines.flatMap (fun v => cutLine 8 v.2 (lineBytes r.fmt v.1)) ++
  (if r.countPlane then lines.flatMap (fun v => cutLine 9 v.2 (4 * v.1)) else [])

/-- Flags that every packet of a record carries (Table 11.2). -/
def recordFlags (h : RecHdr) (damaged crushed last first : Bool) : Nat :=
  128 * b2n damaged + 64 * b2n (bit h.flags 6) + 32 * b2n (bit h.flags 2) + 16 * b2n (bit h.flags 3) +
  8 * b2n crushed + 4 * b2n (bit h.flags 4) + 2 * b2n last + b2n first

/-- Address of a piece in the ring entry. -/
def pieceAddr (b : Bundle) (r : RingRec) (p : Piece) : Nat :=
  if p.line = 0xFFFF then r.addr
  else if p.typ = 8 then r.addr + lineOffset b r.fmt p.line + p.off
  else r.addr + recordStride b r.fmt + countOffset b p.line + p.off

/-- TYPE_WORD of DUMP and COUNT (Table 11.1). -/
def dumpWord (line channel off : Nat) : Nat := 2 ^ 48 * line + 2 ^ 32 * (channel % 4096) + off % 2 ^ 32

/-- A packet of a record, read from the ring; a damaged read is sent in its place (12 R259). -/
def dumpPkt (s : State) (b : Bundle) (r : RingRec) (p : Piece) (first last final : Bool) : HPkt :=
  let rd := pitRead s (pieceAddr b r p) p.len
  let h := r.header
  let dmg := rd.2 || (if p.line = 0xFFFF then bit h.flags 1 else bit h.damage p.line)
  { stream := p.typ - 8, typ := p.typ, ref := 8192 * h.first, epoch := h.epoch, payload := rd.1
    flags := recordFlags h dmg false last first
    tword := dumpWord p.line r.channel p.off
    charge := if p.line = 0xFFFF then r.stride else 0
    endsDump := if final then some r.addr else none }

/-- Packet `i` of a record. -/
def dumpPktAt (s : State) (b : Bundle) (r : RingRec) (i : Nat) : Option HPkt :=
  let plan := dumpPlan b r
  match plan[i]? with
  | some p =>
    let next := plan[i + 1]?
    let first := i == 0 || (match plan[i - 1]? with | some q => decide (q.typ ≠ p.typ) | none => false)
    let last := match next with | some q => decide (q.typ ≠ p.typ) | none => true
    some (dumpPkt s b r p first last next.isNone)
  | none => none

/-! Crusher frames (R241). -/

/-- A frame cut into packets of 8,192 bytes, the last padded to a multiple of 4. -/
def framePkts (tmpl : HPkt) (frame : List Byte) (first : Bool) : List HPkt :=
  let n := cdiv frame.length 8192
  (upTo n).map (fun i =>
    let part := (frame.drop (8192 * i)).take 8192
    { tmpl with
      payload := padTo (4 * cdiv part.length 4) part, tword := tmpl.tword + 8192 * i
      charge := if streamClass tmpl.stream = 0 then 0 else 4 * cdiv part.length 4
      flags := tmpl.flags + 2 * b2n (decide (i + 1 = n)) + b2n (first && decide (i = 0)) })

/-- The lines of a record as the bytes and the damage of a frame. -/
def frameRaw (s : State) (b : Bundle) (r : RingRec) (typ : Nat) : List Byte × Bool :=
  (((dumpPlan b r).filter (fun p => decide (p.typ = typ) && decide (p.line ≠ 0xFFFF))).map
    (fun p => pitRead s (pieceAddr b r p) p.len)).foldl (fun a x => (a.1 ++ x.1, a.2 || x.2)) ([], false)

/-- A crushed record: its header packet, and the frames for the Crusher. -/
def crushDumpUnit (s : State) (b : Bundle) (r : RingRec) (mode : Nat) : HUnit :=
  let job := fun (typ : Nat) =>
    let raw := frameRaw s b r typ
    ({ mode := mode, raw := raw.1
       tmpl := { stream := typ - 8, typ := typ, ref := 8192 * r.header.first, epoch := r.header.epoch
                 tword := dumpWord 0xFFFE r.channel 0
                 flags := recordFlags r.header (bit r.header.flags 1 || raw.2) true false false } } : CruJob)
  let noLines := decide ((lineVis b).length = 0)
  let head := dumpPkt s b r {} true noLines false
  .crush 0 [head] (if noLines then [] else job 8 :: (if r.countPlane then [job 9] else [])) (some r.addr) none

/-! Capture records (R231, 10 R215). -/

/-- The 4,096-byte header of a capture record (10 Table 10.5). -/
def captHeader (c : CaptRec) : List Byte :=
  padTo 4096 (leBytes 8 c.pos ++ leBytes 8 c.chunk ++ leBytes 2 c.channel ++
    leBytes 1 (b2n c.deadline + 2 * b2n c.w8f) ++ [0] ++ leBytes 4 c.groups ++ leBytes 4 c.missing ++ leBytes 4 c.blank ++
    leBytes 2 c.epoch ++ [0, 0] ++ leBytes 4 c.freeze)

/-- Address of a ring entry. -/
def captAddr (s : State) (entry : Nat) : Nat :=
  s.trig.capt.cfg.base + entry * captStride s.trig.capt.cfg

/-- A capture record read from pit memory: header, and per block its group, number, bytes and damage. -/
def captRead (s : State) (c : CaptRec) : (List Byte × Bool) × List (Nat × Nat × List Byte × Bool) :=
  let base := captAddr s c.entry
  (pitRead s base 4096,
   (bitsSet 32 c.groups).zipIdx.flatMap (fun g => (upTo 128).map (fun m =>
     (g.1, m, pitRead s (base + 4096 * (1 + 128 * g.2 + m)) 4096))))

/-- Packets of a capture record (R229, R231). -/
def captPkt (c : CaptRec) (part group block : Nat) (bytes : List Byte) (damaged crushed last first : Bool) : HPkt :=
  { stream := 13, typ := 13, ref := 8192 * c.chunk + 64 * block, epoch := c.epoch, payload := bytes, charge := bytes.length
    tword := 2 ^ 56 * part + 2 ^ 40 * group + 2 ^ 32 * block
    flags := 128 * b2n damaged + 64 * b2n c.timeSuspect + 8 * b2n crushed +
      4 * b2n (decide (c.missing ≠ 0) || decide (c.blank ≠ 0)) + 2 * b2n last + b2n first }

/-- The Hoist reads a capture record: its packets, or its header packet and the frame for the Crusher, and the number of
blocks that pit memory returned as damaged. -/
def captUnit (s : State) (c : CaptRec) (mode : Nat) : HUnit × Nat :=
  let rd := captRead s c
  let bad := (rd.2.filter (fun x => x.2.2.2)).length
  let n := rd.2.length
  let head := captPkt c 0 0 0 rd.1.1 (decide (bad ≠ 0) || rd.1.2) false (decide (n = 0)) true
  if mode = 0 then
    (.pkts 13 (head :: rd.2.zipIdx.map (fun x =>
      let p := captPkt c 1 x.1.1 x.1.2.1 x.1.2.2.1 x.1.2.2.2 false (decide (x.2 + 1 = n)) false
      { p with endsCapt := if x.2 + 1 = n then some c.entry else none })), bad)
  else
    (.crush 13 [head]
      [{ mode := mode, raw := rd.2.flatMap (fun x => x.2.2.1)
         tmpl := captPkt c 2 0 0 [] (decide (bad ≠ 0)) true false false }] none (some c.entry), bad)

/-! Building (R226, R230 to R232, R240). -/

/-- Stream of a unit. -/
def unitStream : HUnit → Nat
  | .dump _ _ => 0
  | .pkts n _ => n
  | .capt _ _ => 13
  | .crush n _ _ _ _ => n

/-- Packets built as long as the queue has room; the rest wait. -/
def buildSome : List HPkt → State → List HPkt × State
  | [], s => ([], s)
  | p :: r, s => if queueRoom s (pktBytes p) then buildSome r (buildPkt p s) else (p :: r, s)

/-- Packets of a plain dump record built from packet `i` on, at most `n`. -/
def buildDump (b : Bundle) (r : RingRec) (i : Nat) : Nat → State → Nat × State
  | 0, s => (i, s)
  | n + 1, s =>
    match dumpPktAt s b r i with
    | some p => if queueRoom s (pktBytes p) then buildDump b r (i + 1) n (buildPkt p (servePort 1 p.payload.length s)) else (i, s)
    | none => (i, s)

/-- The oldest unit of a stream is replaced, or leaves. -/
def setUnit (old : HUnit) (new : Option HUnit) (s : State) : State :=
  modHst (fun h => { h with units := match h.units.findIdx? (fun u => decide (u = old)), new with
    | some i, some u => h.units.set i u
    | some i, none => h.units.eraseIdx i
    | none, _ => h.units }) s

/-- The capture record of an entry. -/
def captRecAt (s : State) (entry : Nat) : Option CaptRec := s.trig.capt.entries.find? (fun c => c.entry == entry)

/-- A unit whose packets are ready is built: DUMP and COUNT one by one, others whole or not at all (R240). -/
def buildReady (u : HUnit) (stream : Nat) (l : List HPkt) (s : State) : State :=
  if stream = 0 then
    let r := buildSome l s
    setUnit u (if r.1.isEmpty then none else some (.pkts 0 r.1)) r.2
  else if queueRoom s ((l.map pktBytes).sum) then setUnit u none (l.foldl (fun s p => buildPkt p s) s)
  else if stream = 12 then s
  else
    let s := lose stream ((l.headD {}).ref) (setUnit u none s)
    (l.filterMap (·.endsCapt)).foldl (fun s e =>
      modCapt (fun c => { c with toSend := c.toSend.filter (fun x => decide (x.1 ≠ e)) }) s) s

/-- The bundle under whose layout a ring entry was written: the active one, or after an activation the one before it. -/
def ringBundle (s : State) (b : Bundle) (r : RingRec) : Bundle :=
  match s.bun.past with
  | some (_, old) => if r.header.epoch = old.epoch ∧ b.epoch ≠ old.epoch then old else b
  | none => b

/-- R226: the oldest unit of a stream (by index of HST_SEQ) is built, in whole or as far as the queue has room. -/
def execPacketBuild (stream : Nat) (s : State) : Host.Outcome State Fault Refusal :=
  .next (if !dpRun s || s.hst.flushing then s else
    match s.hst.units.find? (fun u => unitStream u == stream), s.bun.active with
    | some u, some b => match u with
      | .dump r i =>
        let b := ringBundle s b r
        if i = 0 ∧ s.hst.crushDump ≠ 0 then
          let u' := crushDumpUnit s b r s.hst.crushDump
          let raw := (match u' with | .crush _ _ js _ _ => (js.map (fun j => j.raw.length)).sum | _ => 0)
          setUnit u (some u') (servePort 1 (256 + raw) s)
        else
          let n := (dumpPlan b r).length
          let d := buildDump b r i (n - i) s
          setUnit u (if n ≤ d.1 then none else some (.dump r d.1)) d.2
      | .pkts n l => buildReady u n l s
      | .capt e _ =>
        if s.trig.capt.discard || !s.trig.capt.toSend.isEmpty then s
        else match captRecAt s e with
          | some c =>
            let r := captUnit s c s.hst.crushCapt
            let s := modTrig (fun t => { t with captDamaged := sat32 (t.captDamaged + r.2) })
              (servePort 2 (captStride s.trig.capt.cfg) s)
            let s := modCapt (fun x => { x with toBuild := x.toBuild.filter (fun y => decide (y.1 ≠ e))
                                                toSend := x.toSend ++ [(e, c.pos)] }) s
            match r.1 with
            | .pkts n l => buildReady (.pkts n l) n l (setUnit u (some r.1) s)
            | u' => setUnit u (some u') s
          | none => setUnit u none s
      | .crush n l js d c =>
        if js.isEmpty then
          let last := l.length - 1
          buildReady (.pkts n (mark last d c l)) n (mark last d c l) (setUnit u (some (.pkts n (mark last d c l))) s)
        else s
    | _, _ => s)
where
  mark (last : Nat) (d c : Option Nat) (l : List HPkt) : List HPkt :=
    l.zipIdx.map (fun x => if x.2 = last then { x.1 with endsDump := d, endsCapt := c } else x.1)

/-- R241, R243: an engine finishes the oldest frame of a stream. -/
def execCrusherFrameDone (stream : Nat) (s : State) : Host.Outcome State Fault Refusal :=
  .next (match s.hst.units.find? (fun u => unitStream u == stream && (match u with | .crush _ _ _ _ _ => true | _ => false)) with
    | some (.crush n l (j :: js) d c) =>
      let f := crushFrame j.mode j.raw
      let ps := framePkts j.tmpl f.1 (decide (j.tmpl.stream = 1))
      setUnit (.crush n l (j :: js) d c) (some (.crush n (l ++ ps) js d c))
        (modHst (fun h => { h with cruIn := sat64 (h.cruIn + j.raw.length), cruOut := sat64 (h.cruOut + f.1.length)
                                   cruStored := sat32 (h.cruStored + f.2) }) s)
    | _ => s)

/-! STAT packets (R232). -/

def statBytes (r : StatRec) : List Byte :=
  leBytes 2 r.kind ++ [0, 0] ++ leBytes 4 r.arg0 ++ leBytes 8 r.arg1 ++ leBytes 8 r.arg2 ++ leBytes 6 r.sec ++
  leBytes 4 (r.ns % 2 ^ 30) ++ List.replicate 30 0

/-- A COPY_DROPPED record for the copies dropped on a path since the last (R235, log 23). -/
def noteDrops (path : Nat) (s : State) : State :=
  let n := s.hst.dropRun.getD path 0
  if n = 0 ∨ 128 ≤ s.hst.stat.length then s
  else noteStat 8 path n 0 (currentSpectrum s) (modHst (fun h => { h with dropRun := upd h.dropRun path (fun _ => 0) }) s)

/-- The STAT packet of the records gathered, at most 128. -/
def statPkt (s : State) (l : List StatRec) : HPkt :=
  { stream := 14, typ := 14, ref := (l.head?.map (·.ref)).getD 0, epoch := epochNow s, flags := 3, tword := l.length
    payload := l.flatMap statBytes, charge := 64 * l.length }

/-- R232: the packet is built at 128 records, or 1 ms after its first record; `elapsed` says that the 1 ms has passed. The
first one of a run waits for RUN_START (R237). -/
def execStatPacketBuild (elapsed : Bool) (s0 : State) : Host.Outcome State Fault Refusal :=
  .next (if !dpRun s0 || s0.hst.flushing || !s0.hst.started then s0 else
    let s := if elapsed then noteDrops 1 (noteDrops 0 s0) else s0
    let l := s.hst.stat.take 128
    if l.isEmpty || (!elapsed && decide (l.length < 128)) then s
    else modHst (fun h => { h with stat := h.stat.drop 128 }) (buildPkt (statPkt s l) s))

/-! Lanes (R233, R236, R239). -/

/-- Does the packet wait for a path? -/
def waitsOn (path : Nat) (p : HPkt) : Bool := if path = 0 then p.waitA else p.waitB

/-- The first packet of a class that waits for a path. -/
def firstOf (s : State) (path cls : Nat) : Option HPkt :=
  s.hst.queue.find? (fun p => waitsOn path p && streamClass p.stream == cls)

/-- Bytes that a class may still start on a path in this millisecond. -/
def withinAllot (s : State) (path cls : Nat) : Bool :=
  decide (s.hst.used.getD (6 * path + cls) 0 < 1000 * allotOf s cls)

/-- The copy on the path was ended by EAB and waits to go again. -/
def redone (path : Nat) (p : HPkt) : Bool := if path = 0 then p.redoA else p.redoB

/-- The oldest packet to be sent again on a path: it goes before everything else (R236). -/
def resendPkt (s : State) (path : Nat) : Option HPkt := s.hst.queue.find? (fun p => waitsOn path p && redone path p)

/-- Output packets start on the lane of the path that became free first, the lowest-numbered on a tie (R233). -/
def laneTurn (s : State) (n : Nat) : Bool :=
  let l := laneAt s n
  (upTo 64).all (fun k =>
    let m := laneAt s k
    !(m.txUp && m.txCur.isNone && m.txNext.isNone && decide (m.txRole = l.txRole)) ||
      decide (l.freed < m.freed) || (decide (l.freed = m.freed) && decide (n ≤ k)))

/-- The order of R239. -/
def pickPacket (s : State) (path : Nat) : Option HPkt :=
  match ([3, 5, 2, 1, 4, 0].filterMap (fun c => if withinAllot s path c then firstOf s path c else none)).head? with
  | some p => some p
  | none => ([0, 4].filterMap (firstOf s path)).head?

/-- A packet starts on a lane of a path: its bytes are charged to its class, once (R238, R239). -/
def startPkt (path : Nat) (p : HPkt) (h : Hoist) : Hoist :=
  let c := streamClass p.stream
  let used := upd h.used (6 * path + c) (· + if redone path p then 0 else p.charge)
  let a := h.allot.getD c 0
  let u := used.getD (6 * path + c) 0
  let pct := if a = 0 then (if u = 0 then 0 else 255) else min 255 (u / (10 * a))
  { h with
    used := used, peakUse := upd h.peakUse c (max pct)
    queue := h.queue.map (fun q => if q.num = p.num then
      (if path = 0 then { q with waitA := false, onA := true, redoA := false }
       else { q with waitB := false, onB := true, redoB := false }) else q) }

/-- The bytes of a packet on a path (03 Table 3.9). -/
def wireBytes (path : Nat) (p : HPkt) : List Byte :=
  outputPacket p.typ p.flags p.source p.epoch path p.seq p.sid p.ref p.tword p.payload

def setTxCur (n : Nat) (p : TxPkt) (s : State) : State := modLane n (fun l => { l with txCur := some p }) s

/-- A BEACON takes its egress time as its SOP leaves, and the beacon unit records it (18 R424, R426). -/
def beaconEgress (pkt : List Byte) (now : Nat) (s : State) : List Byte × State :=
  let x := splitTime now
  let tx := leBytes 6 x.1 ++ leBytes 4 x.2.1 ++ leBytes 2 x.2.2
  (overlay pkt (32 + 44) tx, modCon (fun c => { c with peers := c.peers.map (fun p =>
    if p.source = hDest pkt then { p with sent := ((u16 pkt 32, now) :: p.sent).take 16 } else p) }) s)

/-- R239: at a packet boundary of lane `n` the next packet starts on it. `aged` are the bytes per class that left the 1 ms
window of the lane's path since the last start on that path; `now` is the array time in 2^-16 ns. -/
def execLanePacketStart (n : Nat) (aged : List Nat) (now : Nat) (s0 : State) : Host.Outcome State Fault Refusal :=
  .next (
    let l := laneAt s0 n
    if !dpRun s0 || !l.txUp || l.txCur.isSome || l.txNext.isSome then s0
    else if l.txRole = 3 then
      match l.txCtl with
      | p :: r => setTxCur n { bytes := p } (modLane n (fun l => { l with txCtl := r }) s0)
      | [] => s0
    else
      let path := l.txRole - 1
      let s := modHst (fun h => { h with used := h.used.zipIdx.map (fun x =>
        if x.2 / 6 = path then x.1 - aged.getD (x.2 % 6) 0 else x.1) }) s0
      let start := fun (p : HPkt) => setTxCur n { ctl := false, num := p.num, bytes := wireBytes path p } (modHst (startPkt path p) s)
      match (if laneTurn s n then resendPkt s path else none) with
      | some p => start p
      | none =>
      match l.txCtl with
      | p :: r =>
        let e := beaconEgress p now (modLane n (fun l => { l with txCtl := r }) s)
        setTxCur n { bytes := e.1 } e.2
      | [] =>
      if !laneTurn s n then s else
      match (if path = 0 then s.hst.ctlA else s.hst.ctlB) with
      | p :: r => setTxCur n { bytes := p }
          (modHst (fun h => if path = 0 then { h with ctlA := r } else { h with ctlB := r }) s)
      | [] =>
        match pickPacket s path with
        | some p => start p
        | none => s)

/-- A copy has been sent on a path. -/
def copySent (path num : Nat) (h : Hoist) : Hoist :=
  match h.queue.find? (fun p => p.num == num) with
  | none => h
  | some p =>
    let cnt := upd h.sentCount (15 * path + p.stream) (· + 1)
    let m := cnt.getD (15 * path + p.stream) 0
    { h with
      sentCount := cnt, lastSent := upd h.lastSent p.stream (fun _ => some (p.source, p.seq))
      queue := h.queue.map (fun q => if q.num = num then
        (if path = 0 then { q with onA := false, sentA := true, markA := m }
         else { q with onB := false, sentB := true, markB := m }) else q) }

/-- R226, R235: the packet on lane `n` ends with EOP. -/
def execPacketSent (n : Nat) (s : State) : Host.Outcome State Fault Refusal :=
  .next (match (laneAt s n).txCur with
    | some p =>
      if !dpRun s then s else
      let role := (laneAt s n).txRole
      let s := modLane n (fun l => { l with txCur := none, txPktCnt := sat64 (l.txPktCnt + 1) }) (freeLane n s)
      if role = 3 ∨ role = 0 then s
      else
        let s := modHst (fun h =>
          if role = 1 then { h with pktA := sat64 (h.pktA + 1) } else { h with pktB := sat64 (h.pktB + 1) }) s
        if p.ctl then s
        else dropDown 1 (dropDown 0 (settleQueue (modHst (copySent (role - 1) p.num) s)))
    | none => s)

/-- Packets of the stream that the other path has sent after the copy of `p`. -/
def laterSent (s : State) (path : Nat) (p : HPkt) : Nat :=
  if path = 0 then s.hst.sentCount.getD (15 + p.stream) 0 - p.markB else s.hst.sentCount.getD p.stream 0 - p.markA

/-- R235: copies of path `path` that have lagged too far are dropped: those of the packets `timed`, whose other copy was
sent 10 ms ago, and those that the other path has passed by 32,768 packets of the stream. -/
def execCopyDrop (path : Nat) (timed : List Nat) (s : State) : Host.Outcome State Fault Refusal :=
  .next (if dpRun s && decide (path < 2) && pathUp s 0 && pathUp s 1 then
      dropCopies path (fun p => lagging path p && (timed.contains p.num || decide (32768 ≤ laterSent s path p))) s
    else s)

/-! The flush (R237). -/

/-- Streams and numbers of packets no copy of which has been sent. -/
def unsentOf (s : State) : List (Nat × Nat × Nat) :=
  (upTo 15).filterMap (fun i =>
    match s.hst.queue.filter (fun p => p.stream == i && !p.sentA && !p.sentB) with
    | [] => none
    | p :: r => some (i, p.seq, r.length + 1))

/-- R237: the flush before DP leaves Run ends; what is unsent is recorded and lost. -/
def execHoistFlushEnd (s : State) : Host.Outcome State Fault Refusal :=
  .next (if s.hst.flushing then
      modHst (fun h => { h with flushing := false, unsent := unsentOf s, queue := [], units := [] })
        { s with lanes := { s.lanes with lane := s.lanes.lane.map (fun l =>
            if l.txRole = 3 then l else { l with txCur := none }) } }
    else s)

/-! Commands. -/

/-- HOIST_STREAMS (R238, 06 R132, 12 R265). -/
def hoistStreams (r : Req) (_ : Nat) (s : State) : Out :=
  let a := [24, 28, 32, 36, 40, 44].map (b32 r)
  let s1 := modHst (fun h => { h with allot := a }) s
  let rings := match s.bun.active with
    | some b => (s.tal.sched.toList ++ s.tal.next.toList).all (fun sc => (s.tal.ended && s.tal.next.isNone) || ringRuleOk s1 b sc)
    | none => true
  if s.bun.applying || (allotmentsOk s1 && rings && ratesOk s1) then
    answer (setRates s1) (fields [(24, leBytes 4 (pathCapacity s 0 / 8)), (28, leBytes 4 (pathCapacity s 1 / 8)),
      (32, leBytes 4 a.sum)])
  else admission s

def execHoistStreams (r : Req) (t : Nat) (s : State) : Host.Outcome State Fault Refusal :=
  .next (runCommand 0x0801 hoistStreams r t s)

/-- HOIST_PATHS (R234). -/
def hoistPaths (r : Req) (_ : Nat) (s : State) : Out :=
  if b8 r 24 / 2 ≠ 0 then badReserved s
  else if s.lanes.lane.all (fun l => decide ((l.txNext.getD (l.txRole, l.txRate)).1 ≠ 2)) && bit (b8 r 24) 0 then badRange s
  else answer (modHst (fun h => { h with dual := bit (b8 r 24) 0 }) s) []

def execHoistPaths (r : Req) (t : Nat) (s : State) : Host.Outcome State Fault Refusal :=
  .next (runCommand 0x0802 hoistPaths r t s)

/-- CRUSH_CONFIG (R241, R248). -/
def crushConfig (r : Req) (_ : Nat) (s : State) : Out :=
  let d := b8 r 24
  let c := b8 r 25
  let s1 := modHst (fun h => { h with crushDump := d, crushCapt := c }) s
  if 2 < d ∨ 2 < c then badRange s
  else if s.bun.applying || (crusherOk s d c && allotmentsOk s1) then answer s1 []
  else admission s

def execCrushConfig (r : Req) (t : Nat) (s : State) : Host.Outcome State Fault Refusal :=
  .next (runCommand 0x0803 crushConfig r t s)

/-- The counters of Table 11.7 at 0 (R251). -/
def clearHst (h : Hoist) : Hoist :=
  { h with pktA := 0, pktB := 0, resend := 0, copyDrop0 := 0, copyDrop1 := 0, notBuilt := 0, queuePeak := 0
           cruIn := 0, cruOut := 0, cruStored := 0, expJobs := 0, expLimit := 0, expMalformed := 0
           peakUse := [0, 0, 0, 0, 0, 0] }

def execHstCounterClear (s : State) : Host.Outcome State Fault Refusal :=
  .next (if dpRun s then modHst clearHst s else s)

end Sys2Proof.Machine
end

