-- ==== Sys2Proof/Machine/Trig.lean ====
section
/-! DEFINITION. Triggers and the capture ring (10). -/

namespace Sys2Proof.Machine

def trgCause (ks : List Nat) (t : Trig) : Trig := { t with cause := setBits t.cause ks }

/-! The capture ring. -/

/-- Is the position of a selected channel (R215)? -/
def captSelects (s : State) (j : Nat) : Bool :=
  let c := s.trig.capt.cfg
  inRange c.first (c.first + c.count - 1) (channelOf s j) && decide (0 < c.count) && decide (s.trig.capt.state ≠ .idle)

/-- Protected positions of a first protected chunk (R217). -/
def protects (s : State) (ka : Int) (j : Nat) : Bool :=
  captSelects s j && (decide ((chunkOf s j : Int) = ka) || decide ((chunkOf s j : Int) = ka + 1))

/-- A freeze is in force. -/
def captFrozen (s : State) : Bool :=
  match s.trig.capt.state with
  | .idle | .recording => false
  | _ => true

/-- The last protected position. -/
def lastProtected (s : State) (ka : Int) : Nat :=
  (ka + 1).toNat * chans s + s.trig.capt.cfg.first + s.trig.capt.cfg.count - 1

/-- Protected records in the ring, in position order. -/
def protRecords (s : State) : List CaptRec :=
  s.trig.capt.entries.filter (fun c => protects s s.trig.capt.firstChunk c.pos)

/-- HELD, and at once READOUT where it is configured (R219, R220). -/
def enterHeld (s : State) : State :=
  let l := (protRecords s).map (fun c => (c.entry, c.pos))
  let s := modTrig (trgCause [3]) s
  if s.trig.capt.cfg.readout then
    modHst (fun h => { h with units := h.units ++ l.map (fun x => .capt x.1 x.2) })
      (modCapt (fun c => { c with state := .readout, toBuild := l, toSend := [], discard := false }) s)
  else modCapt (fun c => { c with state := .held }) s

/-- Units of capture records still to be built leave the Hoist. -/
def dropCaptUnits (s : State) : State :=
  modHst (fun h => { h with units := h.units.filter (fun u => match u with | .capt _ _ => false | _ => true) }) s

/-- Back to RECORDING (R221). -/
def releaseRing (s : State) : State :=
  dropCaptUnits (modCapt (fun c => { c with
    state := .recording, firstChunk := 0, freezeNumber := 0xFFFFFFFF, isPartial := false, protRecords := 0
    toBuild := [], toSend := [], discard := false }) s)

/-- How a freeze ends: taken, merged, or refused (R217, R218). -/
inductive Freeze where
  | taken | merged | notInState | outOfRange
  deriving DecidableEq, Repr

/-- Recording of the position consumed is still going on, or has yet to begin. -/
def stillToWrite (s : State) (j : Nat) : Bool :=
  decide (consumePos s < j) || decide (s.trig.capt.writing = some j) || (decide (consumePos s = j) && !s.aba.consuming)

/-- The selected position after `j`. -/
def nextSelected (s : State) (j : Nat) : Nat :=
  let c := s.trig.capt.cfg
  if channelOf s j < c.first + c.count - 1 then j + 1 else j + chans s + 1 - c.count

/-- Position `j` joins the positions recorded: it goes on the latest run of them, or begins one. -/
def extendSpans (s : State) (j : Nat) (l : List (Nat × Nat)) : List (Nat × Nat) :=
  match l.getLast? with
  | some (a, b) => if nextSelected s b = j then l.dropLast ++ [(a, j)] else l ++ [(j, j)]
  | none => [(j, j)]

/-- The ring has recorded position `j` and holds it no more, because it has overwritten it (R217). -/
def overwritten (s : State) (j : Nat) : Bool :=
  s.trig.capt.spans.any (fun x => inRange x.1 x.2 j) && !s.trig.capt.entries.any (fun c => c.pos == j)

/-- The header of a record in the ring is written again (R217). -/
def rewriteHeader (c : CaptRec) (s : State) : State :=
  servePort 2 4096 (pitWrite (captAddr s c.entry) (captHeader c) s)

def refuseFreeze (s : State) : State :=
  modTrig (fun t => trgCause [5] { t with freezeRefused := sat32 (t.freezeRefused + 1) }) s

/-- A freeze with FREEZE_NUMBER `number` at a stamp (R217, R218). -/
def freezeRing (stamp number : Nat) (s : State) : Freeze × State :=
  let k : Int := stamp / 8192
  let ka : Int := if stamp % 8192 < 4096 then k - 1 else k
  match s.trig.capt.state with
  | .idle => (.notInState, refuseFreeze s)
  | .recording =>
    if (consumeChunk s : Int) + 1024 < ka then (.outOfRange, refuseFreeze s)
    else
      let s := modCapt (fun c => { c with state := .pending, firstChunk := ka, freezeNumber := number, isPartial := false }) s
      let mine := (protRecords s).map (fun c => { c with freeze := number })
      let s := modCapt (fun c => { c with
        entries := c.entries.map (fun x => if protects s ka x.pos then { x with freeze := number } else x)
        protRecords := mine.length }) s
      let s := mine.foldl (fun s c => rewriteHeader c s) s
      let last := lastProtected s ka
      let cfg := s.trig.capt.cfg
      let all := ([ka, ka + 1].filter (fun x => decide (0 ≤ x))).flatMap (fun x =>
        (upTo cfg.count).map (fun c => x.toNat * chans s + cfg.first + c))
      let s := if all.any (overwritten s) then
          modTrig (fun t => trgCause [6] { t with partials := sat32 (t.partials + 1) })
            (modCapt (fun c => { c with isPartial := true }) s)
        else s
      (.taken, if stillToWrite s last then s else enterHeld s)
  | _ =>
    if s.trig.capt.firstChunk = ka then (.merged, s)
    else if (consumeChunk s : Int) + 1024 < ka then (.outOfRange, refuseFreeze s)
    else (.notInState, refuseFreeze s)

/-- Consumption of position `j` begins: whether it is recorded is settled (R215, R219, R221). -/
def captBegin (j : Nat) (s : State) : State :=
  if captSelects s j then
    match s.trig.capt.state with
    | .recording | .pending => modCapt (fun c => { c with writing := some j }) s
    | .idle => s
    | _ => modTrig (fun t => trgCause [7] { t with skipped := sat32 (t.skipped + 1) }) s
  else s

/-- The bytes of a block as the Abacus reads it (R215, 04 R75). -/
def captBlock (mode : Mode) (sl : Slot) (g m : Nat) : List Byte :=
  let fill : Byte := match mode with | .w8f => 0x80 | _ => 0x88
  match sl.placed.find? (fun p => p.group == g && p.block == m) with
  | some p => if p.allBlank then List.replicate 4096 fill else padTo 4096 p.payload
  | none => List.replicate 4096 fill

/-- The record of position `j` for the ring entry at CAPT_HEAD. -/
def captRecOf (s : State) (j : Nat) : CaptRec :=
  let r := (s.hop.slots.getD (j % 3) {}).record
  let c := s.trig.capt
  { entry := c.head, pos := j, chunk := chunkOf s j, channel := channelOf s j, deadline := r.deadline
    w8f := match bundleOfPos s j with | some b => decide (b.mode = .w8f) | none => false
    groups := c.cfg.groups, missing := r.missMask, blank := r.blankMask, epoch := epochOfPos s j
    freeze := if captFrozen s && protects s c.firstChunk j then c.freezeNumber else 0xFFFFFFFF
    timeSuspect := s.sys.suspect }

/-- Consumption of position `j` ends: its capture record is in the ring (R215, R219). -/
def captEnd (j : Nat) (s : State) : State :=
  if s.trig.capt.writing ≠ some j then s else
    let c := captRecOf s j
    let sl := s.hop.slots.getD (j % 3) {}
    let mode := match bundleOfPos s j with | some b => b.mode | none => .w4f
    let body := (bitsSet 32 c.groups).flatMap (fun g => (upTo 128).flatMap (captBlock mode sl g))
    let mine := captFrozen s && protects s s.trig.capt.firstChunk j
    let s := servePort 2 (4096 + body.length) (pitWrite (captAddr s c.entry) (captHeader c ++ body) s)
    let s := modCapt (fun x => { x with
      writing := none, spans := extendSpans s j x.spans
      entries := x.entries.filter (fun e => decide (e.entry ≠ c.entry)) ++ [c]
      head := (x.head + 1) % max 1 x.cfg.records
      protRecords := x.protRecords + b2n mine }) s
    if s.trig.capt.state = .pending ∧ j = lastProtected s s.trig.capt.firstChunk then enterHeld s else s

/-- R220, R221: the last protected block has been sent on every path in use; or the record that a DISCARD lets finish. -/
def execCaptureReadoutDone (t : Nat) (s : State) : Host.Outcome State Fault Refusal :=
  .next (
    let c := s.trig.capt
    if c.state ≠ .readout ∨ !c.toSend.isEmpty then s
    else if c.discard then
      finishOpen (isOp 0x0703) (fun _ => {}) t (releaseRing s)
    else if c.toBuild.isEmpty then
      let s := modTrig (trgCause [4]) (modCapt (fun c => { c with state := .done }) s)
      if c.cfg.autoRelease then releaseRing s else s
    else s)

/-- Regions of the tabulated weights (07 R146). -/
def tableRegions (s : State) (b : Bundle) : List (Nat × Nat) :=
  let n := b.channels * (activeGroups b).length * weightBlockBytes b.mode
  s.beams.sets.flatMap (fun x => ([x.params] ++ (x.nextParams.map (·.2)).toList).flatMap (fun p =>
    if p.tabulated then [(p.base0, n), (p.base1, n)] else []))

/-- Regions in use besides the capture ring's. -/
def otherRegions (s : State) (b : Bundle) : List (Nat × Nat) :=
  (s.tal.sched.toList ++ s.tal.next.toList).flatMap (schedRegions b) ++
  s.tal.ring.map (fun r => (r.addr, r.stride)) ++ fwRegion b ++ tableRegions s b

/-- CAPTURE_CONFIG (R216, 16 Table 16.11). -/
def captureConfig (r : Req) (_ : Nat) (s : State) : Out :=
  match s.bun.active with
  | none => notInState s
  | some b =>
    let c : CaptCfg := {
      groups := b32 r 24, first := b16 r 28, count := b16 r 30, base := 4096 * b24 r 32, records := b32 r 36
      readout := bit (b8 r 40) 0, autoRelease := bit (b8 r 41) 0 }
    if captFrozen s then notInState s
    else if b8 r 40 / 2 ≠ 0 ∨ b8 r 41 / 2 ≠ 0 ∨ b8 r 42 / 2 ≠ 0 then badReserved s
    else if bit (b8 r 42) 0 then
      answer (setRates (modCapt (fun _ => {}) s)) []
    else if c.groups = 0 ∨ c.groups ||| b.groups ≠ b.groups ∨ c.count = 0 ∨ b.channels < c.first + c.count ∨
        !(otherRegions s b).all (regionsApart (c.base, c.records * captStride c)) then badRange s
    else
      let s' := modCapt (fun _ => { state := .recording, cfg := c }) s
      if c.records < 2 * c.count ||
          (!s.bun.applying && (!regionsFit [(c.base, c.records * captStride c)] || !ratesOk s' || !allotmentsOk s')) then
        admission s
      else answer (setRates s') (fields [(24, leBytes 4 (captStride c))])

def execCaptureConfig (r : Req) (t : Nat) (s : State) : Host.Outcome State Fault Refusal :=
  .next (runCommand 0x0701 captureConfig r t s)

/-- CAPTURE_FREEZE (R217, R218). -/
def captureFreeze (r : Req) (_ : Nat) (s : State) : Out :=
  let f := freezeRing (b64 r 24) 0xFFFFFFFF s
  let ok := fun (m : Nat) => answer f.2 (fields [(24, leBytesI 8 f.2.trig.capt.firstChunk), (32, leBytes 1 m)])
  match f.1 with
  | .taken => ok 0
  | .merged => ok 1
  | .notInState => notInState f.2
  | .outOfRange => badRange f.2

def execCaptureFreeze (r : Req) (t : Nat) (s : State) : Host.Outcome State Fault Refusal :=
  .next (runCommand 0x0702 captureFreeze r t s)

/-- CAPTURE_RELEASE (R221). -/
def captureRelease (r : Req) (_ : Nat) (s : State) : Out :=
  if b8 r 24 / 2 ≠ 0 then badReserved s
  else match s.trig.capt.state with
    | .pending | .held | .done => answer (releaseRing s) []
    | .readout =>
      if bit (b8 r 24) 0 then { st := modCapt (fun c => { c with discard := true }) s, stay := some .staged }
      else refuse s stBusy 0
    | _ => notInState s

def execCaptureRelease (r : Req) (t : Nat) (s : State) : Host.Outcome State Fault Refusal :=
  .next (runCommand 0x0703 captureRelease r t s)

/-! Hits and candidates. -/

/-- R206: an edge on TRIG_IN_n. The pin has taken `level` for `held` samples; the first of them was at `tick`, in units of
0.8 ns of array time since the PTP epoch. -/
def execTrigInEdge (n : Nat) (level : Bool) (held tick : Nat) (s : State) : Host.Outcome State Fault Refusal :=
  .next (if !dpRun s || decide (1 < n) || !supplyOn s vioG then s else
    let f := s.trig.filter.getD n 0
    let hitEdge := level != s.trig.falling.getD n false
    if held ≤ f then
      (if hitEdge then modTrig (fun t => { t with inGlitch := sat32 (t.inGlitch + 1) }) s else s)
    else
      let s := modTrig (fun t => { t with level := upd t.level n (fun _ => level) }) s
      if hitEdge then
        let e := tick - 6
        let t := e * 4 * 65536 / 5
        let stamp := match s.bun.active with
          | some b => spectrumAt b t
          | none => 0
        modTrig (fun x => { x with edges := x.edges ++ [(32 + n, stamp, t / 65536 % 1000000000)] }) s
      else s)

/-- The hit is within the deadtime of a condition (R209). -/
def inDeadtime (c : Condition) (stamp : Nat) : Bool := c.deadFrom.any (fun d => decide (d ≤ stamp) && decide (stamp < d + c.dead))

def stampDist (a b : Nat) : Nat := if a ≤ b then b - a else a - b

/-- Is `a` chosen before `b` of the same input, for a hit with stamp `st` (R208)? -/
def nearer (st : Nat) (a b : Hit) : Bool :=
  let da := stampDist a.stamp st
  let db := stampDist b.stamp st
  decide (da < db) || (decide (da = db) && (decide (a.stamp < b.stamp) ||
    (decide (a.stamp = b.stamp) && decide (a.order < b.order))))

/-- The hit of each input that a condition chooses, in ascending input number (R208). -/
def chooseHits (hits : List Hit) (st : Nat) : List Hit :=
  (upTo 34).filterMap (fun i => (hits.filter (fun h => h.input == i)).foldl (fun best h => match best with
    | some b => if nearer st h b then some h else some b
    | none => some h) none)

/-- Condition `c` looks at a hit that has just entered the store (R208, R209). -/
def searchCond (h : Hit) (c : Nat) (t : Trig) : Trig :=
  let cd := t.conds.getD c {}
  if !bit t.armed c || !bit cd.mask h.input then t
  else if inDeadtime cd h.stamp then
    { t with deadHits := sat32 (t.deadHits + 1)
             hits := t.hits.map (fun x => if x.order = h.order then { x with consumed := x.consumed ||| 2 ^ c } else x) }
  else
    let set := t.hits.filter (fun x => !bit x.consumed c && bit cd.mask x.input && decide (stampDist x.stamp h.stamp ≤ cd.w))
    let chosen := chooseHits set h.stamp
    if cd.m ≤ chosen.length then
      let low := chosen.foldl (fun a x => min a x.stamp) h.stamp
      { t with
        hits := t.hits.map (fun x => if chosen.any (fun y => y.order == x.order) then { x with consumed := x.consumed ||| 2 ^ c } else x)
        candidates := t.candidates ++ [{ cond := c, stamp := low, chosen := chosen.map (fun x => (x.input, x.stamp)), info := h.info }] }
    else t

/-- A hit is taken (R207, R208). -/
def takeHit (input stamp info : Nat) (t : Trig) : Trig :=
  if 256 ≤ t.hits.length then trgCause [1] { t with hitLost := sat32 (t.hitLost + 1) }
  else
    let h : Hit := { input := input, stamp := stamp, info := info, order := t.nextOrder }
    (upTo 8).foldl (fun t c => searchCond h c t)
      { t with hits := t.hits ++ [h], nextOrder := t.nextOrder + 1, hitCount := sat32 (t.hitCount + 1) }

/-- R207: the next hit of a source arrives: Assayer `src` from 0 to 3, or TRIG_IN_0 and TRIG_IN_1 as 4 and 5. -/
def execHitArrival (src : Nat) (s : State) : Host.Outcome State Fault Refusal :=
  .next (if !dpRun s then s
    else if src < 4 then
      match (ayrAt s src).requests with
      | q :: r =>
        modTrig (takeHit (8 * src + q.line) q.stamp q.info)
          (modAyr src (fun a => { a with requests := r, trqSent := sat32 (a.trqSent + 1) }) s)
      | [] => s
    else match s.trig.edges.find? (fun e => e.1 == 28 + src) with
      | some e => modTrig (fun t => takeHit e.1 e.2.1 e.2.2 { t with edges := t.edges.erase e }) s
      | none => s)

/-- R207: the oldest hit of the store has been there for HIT_HOLD. -/
def execHitExpiry (s : State) : Host.Outcome State Fault Refusal :=
  .next (if dpRun s then modTrig (fun t => { t with hits := t.hits.drop 1 }) s else s)

/-! Outputs (R212, R213). -/

/-- Instants are in units of 0.8 ns of array time since the PTP epoch. The AT instant of spectrum `sp`, rounded to the
nearest point, a tie going to the later. -/
def atTick (b : Bundle) (sp delay : Nat) : Nat :=
  let t := ((b.t0Sec * 1000000000 + b.t0Ns) * 65536 + b.t0Frac) * 65536 + sp * b.specPeriod + delay * 2 ^ 32
  (5 * t + 2 ^ 33) / 2 ^ 34

def touches (a b : Pulse) : Bool := decide (a.start ≤ b.stop) && decide (b.start ≤ a.stop)

def insertPulse (p : Pulse) : List Pulse → List Pulse
  | [] => [p]
  | q :: r => if p.start ≤ q.start then p :: q :: r else q :: insertPulse p r

/-- A pulse joins an output's list: merged with every pulse that it overlaps or touches. The third component says whether
it was scheduled. -/
def addPulse (p : Pulse) (o : TrigOut) : TrigOut × Nat × Bool :=
  let hit := o.pulses.filter (touches p)
  let rest := o.pulses.filter (fun q => !touches p q)
  if hit.isEmpty && decide (16 ≤ o.pulses.length) then (o, 0, false)
  else
    let m : Pulse := hit.foldl (fun a q => { start := min a.start q.start, stop := max a.stop q.stop }) p
    ({ o with pulses := insertPulse m rest }, hit.length, true)

/-- One output of a firing at `tick`: the trigger unit after it, whether it was late, and whether it was scheduled. -/
def drive (b : Option Bundle) (tick sp n : Nat) (t : Trig) : Trig × Bool × Bool :=
  let o := t.outs.getD n {}
  let soon := tick + 30
  let want := match o.at_, b with
    | true, some b => atTick b sp o.delay
    | _, _ => soon
  let late := decide (want < soon)
  let start := max want soon
  let r := addPulse { start := start, stop := start + 10 * o.width } o
  let t := { t with
    outs := upd t.outs n (fun _ => r.1)
    outLate := if late then sat32 (t.outLate + 1) else t.outLate
    outMerged := sat32 (t.outMerged + r.2.1)
    outLost := if r.2.2 then t.outLost else sat32 (t.outLost + 1) }
  (if late || !r.2.2 then trgCause [2] t else t, late, r.2.2)

/-- Every output that a firing names: the mask scheduled, and whether one was late. -/
def driveAll (b : Option Bundle) (tick sp : Nat) : List Nat → Trig → Trig × Nat × Bool
  | [], t => (t, 0, false)
  | n :: r, t =>
    let d := drive b tick sp n t
    let e := driveAll b tick sp r d.1
    (e.1, e.2.1 + (if d.2.2 then 2 ^ n else 0), d.2.1 || e.2.2)

/-- SEC, NS and FRAC of an array time in 2^-16 ns. -/
def timeFields (t : Nat) : List Byte :=
  let x := splitTime t
  leBytes 6 x.1 ++ leBytes 4 x.2.1 ++ leBytes 2 x.2.2

/-- The trigger record (Table 10.3). -/
def trigRecord (c : Candidate) (number sTime fTime outs flags : Nat) : List Byte :=
  leBytes 8 number ++ leBytes 8 c.stamp ++ timeFields sTime ++ timeFields fTime ++ leBytes 1 c.cond ++ leBytes 1 outs ++
  leBytes 1 flags ++ leBytes 1 c.chosen.length ++ leBytes 4 c.info ++
  padTo 16 ((c.chosen.take 4).flatMap (fun h => leBytes 4 (2 ^ 26 * h.1 + (h.2 - c.stamp) % 2 ^ 26)))

/-- A trigger record passes to the Hoist, where 256 wait at most (R214, 11 R240). -/
def handTrig (p : HPkt) (s : State) : State :=
  if 256 ≤ (s.hst.units.filter (fun u => unitStream u == 12)).length then lose 12 p.ref s
  else modHst (fun h => { h with units := h.units ++ [.pkts 12 [p]] }) s

/-- A candidate fires at `tick` (R210, R212 to R214, R217). -/
def fire (c : Candidate) (tick : Nat) (s : State) : State :=
  let cd := s.trig.conds.getD c.cond {}
  let number := s.trig.number
  let b := bundleAt s c.stamp
  let d := driveAll b tick c.stamp (bitsSet 4 cd.outputs) s.trig
  let t := trgCause [0] { d.1 with
    number := (number + 1) % 2 ^ 64, fired := sat64 (d.1.fired + 1)
    conds := upd d.1.conds c.cond (fun x => { x with fired := sat32 (x.fired + 1) }) }
  let s := { s with trig := t }
  let f := if cd.freeze then freezeRing c.stamp (number % 2 ^ 32) s else (.merged, s)
  let s := f.2
  if cd.record then
    let ok := cd.freeze && (decide (f.1 = .taken) || decide (f.1 = .merged))
    let flags := b2n ok + 2 * b2n (cd.freeze && !ok) + 4 * b2n d.2.2 + 8 * b2n (decide (4 < c.chosen.length))
    let sTime := match b with
      | some b => spectrumTime b c.stamp
      | none => 0
    handTrig { stream := 12, typ := 12, ref := c.stamp, tword := number, charge := 64, flags := 3 + 64 * b2n s.sys.suspect
               epoch := (b.map (·.epoch)).getD 0
               payload := trigRecord c number sTime (tick * 4 * 65536 / 5) d.2.1 flags } s
  else s

/-- R209, R210: the decision instant of the oldest candidate of a condition; its firing comes at `tick`, 51.2 ns later,
in units of 0.8 ns of array time. -/
def execCandidateDecision (cond tick : Nat) (s : State) : Host.Outcome State Fault Refusal :=
  .next (match s.trig.candidates.find? (fun c => c.cond == cond) with
    | none => s
    | some c =>
      if !dpRun s then s else
      let cd := s.trig.conds.getD cond {}
      let s := modTrig (fun t => { t with candidates := t.candidates.erase c }) s
      if s.trig.hits.any (fun h => bit cd.vetoMask h.input && decide (stampDist h.stamp c.stamp ≤ cd.vetoW)) then
        modTrig (fun t => { t with vetoed := sat32 (t.vetoed + 1) }) s
      else
        let fires := decide (cd.prescale ≤ cd.counter + 1)
        let s := modTrig (fun t => { t with
          prescaled := if fires then t.prescaled else sat32 (t.prescaled + 1)
          conds := upd t.conds cond (fun x => { x with
            counter := if fires then 0 else x.counter + 1
            deadFrom := x.deadFrom ++ [c.stamp] }) }) s
        if fires then fire c tick s else s)

/-- R212: the next pulse of an output begins. -/
def execPulseStart (n : Nat) (s : State) : Host.Outcome State Fault Refusal :=
  .next (if !dpRun s then s else modTrig (fun t => { t with outs := upd t.outs n (fun o =>
    if o.pulses.isEmpty || o.active then o else { o with active := true }) }) s)

/-- R212: the active pulse of an output ends. -/
def execPulseEnd (n : Nat) (s : State) : Host.Outcome State Fault Refusal :=
  .next (if !dpRun s then s else modTrig (fun t => { t with outs := upd t.outs n (fun o =>
    if o.active then { o with active := false, pulses := o.pulses.drop 1 } else o) }) s)

/-- The level of TRIG_OUT_n: inactive outside Run (R213). -/
def trigOutLevel (s : State) (n : Nat) : Bool :=
  let o := s.trig.outs.getD n {}
  (dpRun s && o.active) != o.activeLow

/-! Commands. -/

/-- A condition record (16 Table 16.15). -/
def condOf (b : List Byte) : Condition :=
  { mask := u64 b 0, vetoMask := u64 b 8, m := u8 b 16, outputs := u8 b 17 % 16, record := bit (u8 b 17) 4
    freeze := bit (u8 b 17) 5, w := u16 b 18, vetoW := u16 b 20, vetoWait := u16 b 22, prescale := u32 b 24, dead := u32 b 28 }

/-- Within Table 10.2. -/
def condOk (c : Condition) : Bool :=
  decide (c.mask < 2 ^ 34) && decide (c.vetoMask < 2 ^ 34) && inRange 1 34 c.m && decide (c.m ≤ popcount 34 c.mask) &&
  decide (c.mask &&& c.vetoMask = 0) && decide (c.vetoWait ≤ 1000) && inRange 1 65536 c.prescale && decide (c.dead < 2 ^ 24)

def condReservedOk (b : List Byte) : Bool := decide (u8 b 17 < 64) && (b.drop 32).all (· == 0)

/-- An output record (16 Table 16.15) with the range of R212. -/
def outOf (b : List Byte) (o : TrigOut) : TrigOut :=
  { o with at_ := bit (u8 b 0) 0, activeLow := bit (u8 b 1) 0, width := u32 b 4, delay := u32 b 8 }

def outRecOk (b : List Byte) : Bool :=
  decide (u8 b 0 ≤ 1) && decide (u8 b 1 ≤ 1) && inRange 1 131072 (u32 b 4) && decide (u32 b 8 ≤ 1000000000)

def outReservedOk (b : List Byte) : Bool := u16 b 2 == 0 && u32 b 12 == 0

/-- A condition is disarmed or replaced: its candidates, consumed marks and deadtime go (R211). -/
def disarm (c : Nat) (t : Trig) : Trig :=
  { t with
    candidates := t.candidates.filter (fun x => decide (x.cond ≠ c))
    hits := t.hits.map (fun h => if bit h.consumed c then { h with consumed := h.consumed - 2 ^ c } else h)
    conds := upd t.conds c (fun x => { x with deadFrom := [] })
    armed := if bit t.armed c then t.armed - 2 ^ c else t.armed }

/-- TRIGGER_CONFIG (R206, R207, R211, R212). -/
def triggerConfig (r : Req) (_ : Nat) (s : State) : Out :=
  let cs := bitsSet 8 (b8 r 24)
  let os := bitsSet 8 (b8 r 25)
  let crec := fun (i : Nat) => (r.arg.drop (48 * i)).take 48
  let orec := fun (i : Nat) => (r.arg.drop (48 * cs.length + 16 * i)).take 16
  if r.arg.length ≠ 48 * cs.length + 16 * os.length then badLen s
  else if 4 ≤ b8 r 30 ∨ !(upTo cs.length).all (fun i => condReservedOk (crec i)) ∨
      !(upTo os.length).all (fun i => outReservedOk (orec i)) then badReserved s
  else if 16 ≤ b8 r 25 ∨ !inRange 1 10000 (b16 r 26) ∨ !(upTo cs.length).all (fun i => condOk (condOf (crec i))) ∨
      !(upTo os.length).all (fun i => outRecOk (orec i)) then badRange s
  else
    let t := { s.trig with hold := b16 r 26, filter := [b8 r 28, b8 r 29], falling := [bit (b8 r 30) 0, bit (b8 r 30) 1] }
    let t := cs.zipIdx.foldl (fun t x =>
      let t := disarm x.1 t
      { t with conds := upd t.conds x.1 (fun old => { condOf (crec x.2) with fired := old.fired }) }) t
    let t := os.zipIdx.foldl (fun t x => { t with outs := upd t.outs x.1 (outOf (orec x.2)) }) t
    answer { s with trig := t } []

def execTriggerConfig (r : Req) (t : Nat) (s : State) : Host.Outcome State Fault Refusal :=
  .next (runCommand 0x0604 triggerConfig r t s)

/-- The armed mask becomes `m` (R209, R211). -/
def armConds (m : Nat) (t : Trig) : Trig :=
  (upTo 8).foldl (fun t c =>
    if bit m c && !bit t.armed c then
      { t with armed := t.armed ||| 2 ^ c, conds := upd t.conds c (fun x => { x with counter := x.prescale - 1 }) }
    else if !bit m c then disarm c t else t) t

/-- TRIGGER_ARM (R211). -/
def triggerArm (r : Req) (_ : Nat) (s : State) : Out :=
  answer (modTrig (armConds (b8 r 24)) s) (fields [(24, leBytes 1 (b8 r 24))])

def execTriggerArm (r : Req) (t : Nat) (s : State) : Host.Outcome State Fault Refusal :=
  .next (runCommand 0x0605 triggerArm r t s)

/-- The counters of Table 10.8 at 0 (R223). -/
def clearTrg (t : Trig) : Trig :=
  { t with fired := 0, hitCount := 0, hitLost := 0, vetoed := 0, prescaled := 0, deadHits := 0, outLate := 0, outMerged := 0
           outLost := 0, inGlitch := 0, skipped := 0, freezeRefused := 0, partials := 0, captDamaged := 0
           conds := t.conds.map (fun c => { c with fired := 0 }) }

def execTrgCounterClear (s : State) : Host.Outcome State Fault Refusal :=
  .next (if dpRun s then modTrig clearTrg s else s)

end Sys2Proof.Machine
end

