-- ==== Sys2Proof/Machine/Images.lean ====
section
/-! DEFINITION. Command images of a bundle (16 R402): their forms, their application, and the admission of a configuration as
a whole. -/

namespace Sys2Proof.Machine

/-- The meaning of a command that may stand as an image (Table 16.19). -/
def imageFn (op : Nat) : Option (Req → Nat → State → Out) :=
  match op with
  | 0x0303 => some laneAssign | 0x0401 => some integSchedule | 0x0501 => some beamsetDefine | 0x0502 => some beamDelays
  | 0x0503 => some beamWeightTable | 0x0504 => some promptConfig | 0x0601 => some assayConfig | 0x0602 => some assayerLoad
  | 0x0603 => some assayerRun | 0x0604 => some triggerConfig | 0x0605 => some triggerArm | 0x0701 => some captureConfig
  | 0x0801 => some hoistStreams | 0x0802 => some hoistPaths | 0x0803 => some crushConfig | 0x0903 => some pitRegulator
  | 0x0904 => some pitScrub | 0x0A01 => some doTimeRefs | 0x0A02 => some doTimeLoop | 0x0A06 => some doPtpConfig
  | 0x0A07 => some doHoldoverModel | 0x0B01 => some monSequence | 0x0C01 => some constJoin | 0x0C03 => some constPolicy
  | _ => none

/-- Images whose update chunk is replaced by the activation's first chunk (R402). -/
def genOp (op : Nat) : Bool := op == 0x0501 || op == 0x0502 || op == 0x0504

/-- Body of an image at an activation whose first chunk is `k0` (R402). -/
def imageBody (k0 : Nat) (im : Image) : List Byte :=
  if genOp im.opcode then overlay im.body 8 (leBytes 8 k0)
  else if im.opcode = 0x0401 then overlay im.body 0 (leBytes 8 (k0 + u64 im.body 0))
  else im.body

def imageReq (k0 : Nat) (im : Image) : Req := { opcode := im.opcode, body := imageBody k0 im, arg := im.arg }

/-- The BEAMSET_DEFINE images of a bundle: their number is the number of beam sets (R402). -/
def setImages (b : Bundle) : List Image := b.images.filter (fun i => i.opcode == 0x0501)

def setCount (b : Bundle) : Nat := (setImages b).length

/-- Forms and numbering that R402 demands of an image. -/
def imageWhy (b : Bundle) (im : Image) : Why :=
  let op := im.opcode
  let spec := (cmdSpec op).getD { op := op }
  let sets := setImages b
  if !reservedClear spec.named im.body then whyReserved
  else if im.arg.length % 4 ≠ 0 ∨ 1048576 < im.arg.length ∨ im.arg.length ≠ spec.argLen.getD im.arg.length then
    some (stBadArg, 3)
  else if (op = 0x0601 ∧ u8 im.body 0 ≠ 0) ∨ (op = 0x0602 ∧ !bit (u8 im.body 1) 1) ∨ (op = 0x0603 ∧ u8 im.body 1 ≠ 0) ∨
      (op = 0x0A07 ∧ u8 im.body 0 ≠ 3) ∨ (op = 0x0401 ∧ u64 im.body 0 < 2) then whyRange
  else if op = 0x0501 ∧ 9 < sets.length then some (stLimit, 13)
  else if op = 0x0501 ∧ (sets.length ≤ u8 im.body 0 ∨
      sets.any (fun i => decide (i.index < im.index) && u8 i.body 0 == u8 im.body 0)) then whyRange
  else none

/-- A staged generation passes its commit point, and a staged Assay configuration while no tour runs; else it waits for the next
tour (08 R177). -/
def commitImage (op : Nat) (s : State) : State :=
  if genOp op then commitGen s else if op = 0x0601 ∧ !s.assay.running then commitAssay s else s

/-- An image is applied at time `t`: the state after it, or STATUS and DETAIL of its refusal. -/
def applyImage (k0 t : Nat) (im : Image) (s : State) : Except (Nat × Nat) State :=
  match imageFn im.opcode with
  | none => .ok s
  | some f =>
    let o := f (imageReq k0 im) t s
    if o.reply.status = stOk then .ok (commitImage im.opcode o.st) else .error (o.reply.status, o.reply.detail)

/-- Images tried in directory order: the state after them, or the first refusal and its directory index. -/
def tryImages (b : Bundle) (k0 t : Nat) : List Image → State → Except ((Nat × Nat) × Nat) State
  | [], s => .ok s
  | im :: r, s =>
    match imageWhy b im with
    | some w => .error (w, im.index)
    | none => match applyImage k0 t im s with
      | .ok s => tryImages b k0 t r s
      | .error w => .error (w, im.index)

/-- Admission is left to the configuration as a whole while `f` applies images. -/
def whileApplying (f : State → State) (s : State) : State :=
  let s := f { s with bun := { s.bun with applying := true } }
  { s with bun := { s.bun with applying := false } }

/-- Images applied one by one; they passed their checks before the activation committed. -/
def runImages (k0 t : Nat) (l : List Image) (s : State) : State :=
  setRates (whileApplying (fun s => l.foldl (fun s im => match applyImage k0 t im s with | .ok s => s | .error _ => s) s) s)

/-- Images that a changeover registers when it commits: their own operands carry the chunk at which they act. -/
def registered (im : Image) : Bool := genOp im.opcode || im.opcode == 0x0401

/-- The LANE_ASSIGN images of a bundle. -/
def laneImages (b : Bundle) : List Image := b.images.filter (fun i => i.opcode == 0x0303)

/-- A configuration without a constellation section takes the device out of its constellation (18 R423). -/
def leaveConst (b : Bundle) (s : State) : State :=
  match b.const with
  | some _ => s
  | none => modCon (fun c => { c with
      joined := false, number := 0, peers := [], hold := false, leader := none, staged := none, again := false, bound := 1000, holding := false
      leaderLost := false, due := false }) { s with sys := { s.sys with suspect := false } }

/-- The datapath's units as a bundle finds them at a restart, before its images: TU, PTP, monitor and pit settings outlive the
bundle before (R402), as do lanes that no image assigns, Assayers (09 R203), records in the dump ring and the integration IDs used. -/
def freshConfig (b : Bundle) (s : State) : State :=
  let a := s.tal
  let h : Hoist := {}
  let s1 : State := { s with
    beams := { sets := List.replicate (setCount b) {} }, assay := {}
    trig := { level := s.trig.level }
    tal := { ring := a.ring, ringBase := a.ringBase, ringHead := a.ringHead, ringTail := a.ringTail, ringCap := a.ringCap
             idsBegun := a.idsBegun, integId := a.integId, integFirst := a.integFirst }
    hst := { s.hst with allot := h.allot, dual := s.hst.dual && !(laneImages b).isEmpty, crushDump := 0, crushCapt := 0 }
    bun := { s.bun with active := some b, changeover := none, staged := none, coming := none
                        past := s.bun.active.map (fun old => (0, old)) } }
  leaveConst b s1

/-- A generation that a command has staged passes its commit point (07 R144). -/
def settleGens (t : Nat) (s : State) : State :=
  if s.beams.staged.isSome then finishOpen genCommand (fun o => { result := o.result }) t (commitGen s) else s

/-- Whatever of a command waits for the datapath is settled before its unit takes a bundle's configuration. -/
def settleStaged (t : Nat) (s : State) : State :=
  let s := settleGens t s
  if s.assay.staged.isEmpty then s else
    finishOpen (isOp 0x0601) (fun _ => { result := fields [(24, leBytes 8 s.assay.tours)] }) t (commitAssay s)

/-! The whole configuration (R402 step 7). -/

/-- Schedules that are in force or to come. -/
def liveScheds (s : State) : List IntegSched :=
  (if s.tal.ended then [] else s.tal.sched.toList) ++ s.tal.next.toList

/-- Every enabled series keeps R166. -/
def seriesRatesOk (s : State) (b : Bundle) : Bool :=
  s.assay.series.zipIdx.all (fun x => !x.1.params.enable || inputRateOk x.2 b.specPeriod)

/-- Prompt parameters as they will stand. -/
def promptWanted (s : State) : Option PromptParams :=
  match s.beams.nextPrompt with
  | some p => some p.2
  | none => s.beams.prompt

/-- R16 to R18, R98, R99, R102, R132, R166, R238, R248 and R265 over a state `c` that holds the new configuration; `s` is the
state of the device. The rules on frames and lanes are judged at the return when DP is not in Run. -/
def wholeOk (b : Bundle) (s c : State) : Bool :=
  let frames := !dpRun s ||
    (framesFit b (setCount b) s && payloadOk b (((promptWanted c).map (·.channels.length)).getD 0) (rxCapacity c) &&
     (match promptWanted c with
      | some p => promptFits b.channels p.channels.length (activeGroups b).length (frameCount s)
      | none => true))
  let regs := (liveScheds c).all (fun sc =>
    allApart (schedRegions b sc ++ captRegion c ++ fwRegion b) && regionsFit (schedRegions b sc))
  frames && decide (setCount b ≤ 9) && regs && regionsFit (captRegion c ++ fwRegion b) && allApart (captRegion c ++ fwRegion b) &&
  (liveScheds c).all (ringRuleOk c b) && allotmentsOk c && ratesOk c && crusherOk c c.hst.crushDump c.hst.crushCapt &&
  seriesRatesOk c b
where
  framesFit (b : Bundle) (n : Nat) (s : State) : Bool :=
    budgetFits (pairsOf b).length (activeGroups b).length n (frameCount s) (kPrime b)

end Sys2Proof.Machine
end

