-- ==== Sys2Proof/Machine/Chunk.lean ====
section
/-! DEFINITION. The chunk boundary (04 Table 4.2): a seal deadline, the end of one consumption, the beginning of the next,
and the opening of a slot; the alignment of the timetable (R70). -/

namespace Sys2Proof.Machine

/-- A registered changeover whose activation index the data of position `j` has reached: its sections take effect, and
the images that were not registered are applied (03 R55, 16 R402). -/
def takeChangeover (j t : Nat) (s : State) : State :=
  match s.bun.changeover with
  | some (a, b) =>
    if a ≤ 8192 * chunkOf s j then
      runImages (a / 8192) t (b.images.filter (fun im => !registered im)) (leaveConst b { s with bun := { s.bun with
        active := some b, changeover := none, past := s.bun.active.map (fun old => (a, old)) } })
    else s
  | none => s

/-- Counter clears that wait for a chunk boundary (04 R451). -/
def boundaryClears (s : State) : State :=
  let s := modHop (fun h => if h.clearPending then clearHop h else h) s
  let s := modAba (fun a => if a.clearPending then clearAba a else a) s
  let s := modTal (fun a => if a.clearPending then clearTal a else a) s
  modBeams (fun b => if b.clearPending then clearBeams b else b) s

/-- Frames with work left overrun (05 R94); a drain that is latched and not done keeps what it admitted (05 R105). -/
def boundaryFrames (admitted stalls : List Nat) (s : State) : State :=
  if s.aba.state = .draining then
    if s.aba.cut.isNone && s.aba.consuming then
      let cut : DrainCut := { pos := s.aba.pos, counts := drainCounts s admitted }
      let s := (upTo s.aba.frames.length).foldl (fun s k => flushFrame k (drainFrame k (admitted.getD k 0) (stalls.getD k 0) s)) s
      modAba (fun a => { a with cut := some cut }) s
    else s
  else overrun admitted stalls s

/-- Consumption of position `p` ends, or would end (07 R152, 08 R162, 10 R215). -/
def endPosition (p : Nat) (s : State) : State :=
  let s := if s.aba.consuming && decide (s.aba.pos = p) then
      finishEmptyJobs (modAba (fun a => { a with consuming := false }) (sumPower p s))
    else s
  let s := captEnd p s
  if channelOf s p + 1 = chans s then handPower (chunkOf s p) s else s

/-- The Abacus may consume. -/
def consumes (s : State) : Bool := decide (s.aba.state = .running)

/-- RESUME brings the Abacus back at a boundary (05 R108). -/
def takeResume (s : State) : State :=
  if s.aba.resumePending then modAba (fun a => { a with resumePending := false, state := .running }) s else s

/-- The slot of position `j` sealed before this boundary: with the Abacus DRAINED until now it is not consumed (01 R13). -/
def sealedDrained (j : Nat) (s : State) : Bool :=
  s.aba.resumePending && decide ((slotAt s j).pos = j) && decide ((slotAt s j).state = .sealed)

/-- Consumption of position `j` begins, or its time passes with the Abacus drained (05 R95, R98, R108). HOP_HEAD moves with
consumption alone, and keeps the last position consumed while none is (log 120). -/
def beginPosition (j t : Nat) (s : State) : State :=
  let s := switchSched j (takeChangeover j t s)
  let s := if channelOf s j = 0 then retireGens (chunkOf s j) s else s
  let s := if consumes s then
      let s := modSlot j (fun x => { x with state := .consuming }) (modHop (fun h => { h with head := j }) s)
      beginTally j t (startFrames (beginBeams j (beginFrames j s)))
    else s
  captBegin j s

/-- The deadline of position `j` (04 R74, R76). -/
def deadline (j : Nat) (s : State) : State :=
  let sl := slotAt s j
  if sl.pos = j ∧ (sl.state = .opened ∨ sl.state = .complete) then sealSlot j (!slotFull s sl) s else s

/-- The slot of position `n` opens with its bits clear (04 Table 4.2 step 1). -/
def openSlot (n : Nat) (s : State) : State :=
  modHop (fun h => { h with nextOpen := n + 1 }) (modSlot n (fun _ => { state := .opened, pos := n }) s)

/-- Table 4.2: the chunk boundary at which the slot of position `opens` opens: it is the deadline of position
`opens − 2` and the end of consumption of `opens − 3`. `admitted` gives, for each served frame, how far its current run
has come, and `stalls` the frame-cycles of a stall that the boundary ends; `t` is the timer count. Boundaries come in order; another is no event of this machine. -/
def chunkBoundary (opens : Nat) (admitted stalls : List Nat) (t : Nat) (s : State) : State :=
  if s.hop.running ∧ opens = s.hop.nextOpen then
    let s := boundaryFrames admitted stalls (boundaryClears (judgeWaiting 1 takeData s))
    let s := if s.hop.first + 3 ≤ opens then endPosition (opens - 3) s else s
    let s := if sealedDrained (opens - 2) s then s else takeResume s
    let s := if s.hop.first + 2 ≤ opens then beginPosition (opens - 2) t (deadline (opens - 2) s) else s
    let s := takeResume s
    let s := openSlot opens s
    if s.hop.first + 1 ≤ opens then
      let sl := slotAt s (opens - 1)
      if sl.pos = opens - 1 ∧ sl.state = .complete ∧ sl.window then sealSlot (opens - 1) false s else s
    else s
  else s

def execChunkBoundary (opens : Nat) (admitted stalls : List Nat) (t : Nat) (s : State) : Host.Outcome State Fault Refusal :=
  .next (chunkBoundary opens admitted stalls t s)

/-- R70: the lowest position whose slot opens, at a_j − I/2, at least 100 µs after an array time `now`, in 2^-16 ns. -/
def firstPosition (b : Bundle) (now : Nat) : Nat :=
  firstArrival b (now + 100000 * 65536 + cdiv (intervalNum b) (max 1 (2 * intervalDen b)))

/-- The timetable is aligned to array time (04 R70). -/
def alignHopper (now : Nat) (s : State) : State :=
  match s.bun.active with
  | none => s
  | some b =>
    let f := firstPosition b now
    modHop (fun h => { h with running := true, first := f, nextOpen := f, slots := List.replicate 3 {}, head := 0 }) s

end Sys2Proof.Machine
end

