-- ==== Sys2Proof/Machine/Flash.lean ====
section
/-! DEFINITION. The boot flash: the digests of its directory, and the persistent record area (14 R335, R336, Table 14.8). -/

namespace Sys2Proof.Machine

/-- The directory is there. -/
def dirOk (f : Flash) : Bool := decide (f.magic = 0x4F5A4644) && decide (f.version = 1)

/-- Image `k` of the directory (0 firmware, 1 and 2 the bundle slots) has the length and the digest that its entry names. -/
def imageMatches (f : Flash) (k : Nat) (image : List Byte) : Bool :=
  dirOk f && decide (image.length = f.lens.getD k 0) && decide (digest128 image = f.digests.getD k [])

/-- The firmware image can be used: at most 1 MiB, with its digest. -/
def firmwareOk (f : Flash) : Bool := imageMatches f 0 f.firmware && decide (f.firmware.length ≤ 1048576)

/-- A bundle slot's image has its digest, and is at most 24 MiB. -/
def slotMatches (f : Flash) (slot : Nat) (image : List Byte) : Bool :=
  imageMatches f (slot + 1) image && decide (image.length ≤ 25165824)

/-- Size of an erase sector of the area. -/
def sectorSize (f : Flash) : Nat := f.persistLen / max 1 f.sectors.length

/-- The persistent record area is there: PERSIST is not 0, and it is two or more sectors of at least 4 KiB. -/
def areaOk (f : Flash) : Bool :=
  dirOk f && decide (0 < f.persistLen) && decide (2 ≤ f.sectors.length) && decide (4096 ≤ sectorSize f)

/-- A persistent record: its running count, kind and value, with its CRC-32 (log 133 for the byte order). -/
def persistRecord (count kind value : Nat) : List Byte :=
  withTrailer (leBytes 4 count ++ leBytes 4 kind ++ leBytes 8 value ++ leBytes 12 0)

def recordCount (r : List Byte) : Nat := leAt r 0 4
def recordKind (r : List Byte) : Nat := leAt r 4 1
def recordValue (r : List Byte) : Nat := leAt r 8 8

/-- A record whose CRC checks. -/
def recordOk (r : List Byte) : Bool := decide (r.length = 32) && decide (leAt r 28 4 = crc32 (r.take 28))

/-- Every valid record of the area. -/
def validRecords (f : Flash) : List (List Byte) := f.sectors.flatten.filter recordOk

/-- The valid record of a kind with the highest count. -/
def newestOf (f : Flash) (kind : Nat) : Option (List Byte) :=
  ((validRecords f).filter (fun r => recordKind r == kind)).foldl (fun best r => match best with
    | some b => if recordCount b ≤ recordCount r then some r else best
    | none => some r) none

/-- The value that the area keeps of a kind, when the area is there. -/
def persisted (f : Flash) (kind : Nat) : Option Nat := if areaOk f then (newestOf f kind).map recordValue else none

/-- The next running count. -/
def nextCount (f : Flash) : Nat := (validRecords f).foldl (fun n r => max n (recordCount r + 1)) 0

/-- A record is written at the end of the current sector. -/
def putRecord (kind value : Nat) (f : Flash) : Flash :=
  { f with sectors := upd f.sectors f.sector (fun l => l ++ [persistRecord (nextCount f) kind value]) }

/-- Kinds of record: the fifteen streams and the session number. -/
def recordKinds : List Nat := upTo 15 ++ [255]

/-- A full sector: the newest record of every kind goes into the next, which is erased, and then the oldest is erased. -/
def turnSector (f : Flash) : Flash :=
  let n := f.sectors.length
  let held := recordKinds.filterMap (fun k => (persisted f k).map (fun v => (k, v)))
  let g := held.foldl (fun g x => putRecord x.1 x.2 g) { f with sector := (f.sector + 1) % n }
  { g with sectors := upd g.sectors ((g.sector + 1) % n) (fun _ => []) }

/-- A record joins the area, if it is there (R336). -/
def appendRecord (kind value : Nat) (f : Flash) : Flash :=
  if areaOk f then
    putRecord kind value (if sectorSize f / 32 ≤ (f.sectors.getD f.sector []).length then turnSector f else f)
  else f

/-- The same for the device: kind 255 names the session number. -/
def appendPersist (kind value : Nat) (s : State) : State :=
  modShift (fun x => { x with flash := appendRecord kind value x.flash }) s

end Sys2Proof.Machine
end

