-- ==== Sys2Proof/Machine/WndReg.lean ====
section
/-! DEFINITION. Winder channels apart from their accesses (15 R356 to R372): instruction words, start, disable, parking,
registers. -/

namespace Sys2Proof.Machine

def wchAt (s : State) (c : Nat) : WndChan := s.wnd.chan.getD c {}

def modWch (c : Nat) (f : WndChan → WndChan) (s : State) : State := modWnd (fun w => { w with chan := upd w.chan c f }) s

def wndCause (ks : List Nat) (ch : WndChan) : WndChan := { ch with cause := setBits ch.cause ks }

/-! Instructions (Table 15.5). -/

/-- A MOVE: widths in bytes, fixed addresses, length, source and destination as 44-bit Winder addresses. -/
structure WndMove where
  srcW : Nat := 1
  dstW : Nat := 1
  srcFix : Bool := false
  dstFix : Bool := false
  len : Nat := 1
  src : Nat := 0
  dst : Nat := 0
  deriving DecidableEq, Repr, Inhabited

inductive WndInstr where
  | move (m : WndMove)
  | loop (target count : Nat) (srcStep dstStep : Int)
  | waitEvent (bit : Nat)
  | waitDelay (ns : Nat)
  | waitPoll (off mask value : Nat)
  | signal (last irq event : Bool) (target bit stamp : Nat)
  | illegal
  deriving DecidableEq, Repr, Inhabited

/-- An instruction word at index `pc` (R357). -/
def wndDecode (pc w : Nat) : WndInstr :=
  match bits w 0 8 with
  | 1 =>
    if 4 < bits w 8 3 ∨ 4 < bits w 11 3 ∨ bits w 16 24 = 0 then .illegal
    else .move { srcW := 2 ^ bits w 8 3, dstW := 2 ^ bits w 11 3, srcFix := bit w 14, dstFix := bit w 15
                 len := bits w 16 24, src := bits w 40 44, dst := bits w 84 44 }
  | 2 =>
    if bits w 8 8 ≠ 0 ∨ pc < bits w 16 16 ∨ bits w 32 32 = 0 then .illegal
    else .loop (bits w 16 16) (bits w 32 32) (signed 32 (bits w 64 32)) (signed 32 (bits w 96 32))
  | 3 =>
    if bits w 16 16 ≠ 0 then .illegal
    else match bits w 8 8 with
      | 0 => if bits w 36 92 ≠ 0 then .illegal else .waitEvent (bits w 32 4)
      | 1 => if bits w 64 64 ≠ 0 then .illegal else .waitDelay (bits w 32 32)
      | 2 => .waitPoll (bits w 32 32) (bits w 64 32) (bits w 96 32)
      | _ => .illegal
  | 4 =>
    if bits w 11 5 ≠ 0 ∨ bits w 24 8 ≠ 0 ∨ bits w 64 64 ≠ 0 then .illegal
    else .signal (bit w 8) (bit w 9) (bit w 10) (bits w 16 4) (bits w 20 4) (bits w 32 32)
  | _ => .illegal

/-- Shared SRAM offset of the instruction at a channel's PC (R356). -/
def wndFetchAt (ch : WndChan) : Nat := ch.prog + 16 * ch.pc

/-- The instruction at a channel's PC; none beyond the shared SRAM. -/
def wndFetch (s : State) (ch : WndChan) : Option WndInstr :=
  let a := wndFetchAt ch
  if 0x400000 < a + 16 then none else some (wndDecode ch.pc (leAt (memRead s.sys.sram a 16) 0 16))

def wndSpace (a : Nat) : Nat := a / 2 ^ 40
def wndOffset (a : Nat) : Nat := a % 2 ^ 40

/-- The effective offset of an address under an adjustment (R358, R360). -/
def effOffset (a : Nat) (adj : Int) : Int := (wndOffset a : Int) + adj

/-- DP-domain register blocks and windows: first offset, and the offset after the last (R370). -/
def dpRanges : List (Nat × Nat) := [(0x50000, 0x55000), (0x70000, 0x70800), (0x80000, 0x80200), (0x100000, 0x200000)]

/-- A BAR0 offset in a DP-domain block. -/
def dpOffset (o : Nat) : Bool := dpRanges.any (fun r => decide (r.1 ≤ o) && decide (o < r.2))

/-- `n` bytes from an offset of register space reach into a DP-domain block. -/
def dpSpan (o : Int) (n : Nat) : Bool := dpRanges.any (fun r => decide (o < r.2) && decide ((r.1 : Int) < o + n))

/-- The `n` bytes at a Winder address lie in DP, at least in part: pit memory, or DP-domain registers. -/
def dpAddress (a n : Nat) (adj : Int) : Bool :=
  decide (wndSpace a = 0) || (decide (wndSpace a = 2) && dpSpan (effOffset a adj) n)

/-- The instruction touches DP (R370). -/
def instrTouches (ch : WndChan) : WndInstr → Bool
  | .move m => dpAddress m.src (if m.srcFix then m.srcW else m.len) ch.srcAdj ||
      dpAddress m.dst (if m.dstFix then m.dstW else m.len) ch.dstAdj
  | .waitPoll o _ _ => dpOffset o
  | _ => false

/-- The LOOP at a channel's PC goes round again (R360). -/
def loopsOn (ch : WndChan) (count : Nat) : Bool := decide (0 < if ch.loopAt.isNone then count - 1 else ch.loop)

/-- PC and adjustments with which a channel comes to the instruction after this one; none where the program ends. -/
def afterInstr (ch : WndChan) : WndInstr → Option WndChan
  | .loop target count ss ds =>
    if ch.loopAt.isSome ∧ ch.loopAt ≠ some ch.pc then none
    else if loopsOn ch count then some { ch with pc := target, srcAdj := ch.srcAdj + ss, dstAdj := ch.dstAdj + ds }
    else some { ch with pc := (ch.pc + 1) % 65536, srcAdj := 0, dstAdj := 0 }
  | .signal last _ _ _ _ _ => if last then none else some { ch with pc := (ch.pc + 1) % 65536 }
  | .illegal => none
  | _ => some { ch with pc := (ch.pc + 1) % 65536 }

/-- The channel touches DP: by its current instruction, or by the next one (R370). -/
def chanTouches (s : State) (ch : WndChan) : Bool :=
  match ch.state with
  | .running | .waiting => match wndFetch s ch with
    | some i => instrTouches ch i || (match afterInstr ch i with
      | some n => (match wndFetch s n with | some j => instrTouches n j | none => false)
      | none => false)
    | none => false
  | _ => false

/-- A channel that touches DP has come to an instruction boundary: a MOVE is split where its bursts stand, and so is a POLL of
DP; another WAIT has to end first, and then the channel parks before it goes on (R370; log 129). -/
def atBoundary (s : State) (ch : WndChan) : Bool :=
  decide (ch.state = .running) || (match wndFetch s ch with | some i => instrTouches ch i | none => false)

/-! Starting, ending and parking. -/

/-- R356: START. -/
def wndStart (c : Nat) (s : State) : State :=
  modWch c (fun ch =>
    if ch.en ∧ (ch.state = .idle ∨ ch.state = .done ∨ ch.state = .error) then
      { ch with state := .running, pc := 0, loop := 0, loopAt := none, srcAdj := 0, dstAdj := 0, pack := [], bytes := 0
                err := 0, move := none, met := false }
    else ch) s

/-- Values that R365 leaves undefined: WND_BYTES, the loop counter and the adjustments (log 4). -/
def wndUndefine (c : Nat) (s : State) : State :=
  let b := freeVal 64 s
  let s := freeNext s
  let l := freeVal 32 s
  let s := freeNext s
  let x := freeVal 32 s
  let s := freeNext s
  let y := freeVal 32 s
  modWch c (fun ch => { ch with bytes := b, loop := l, srcAdj := signed 32 x, dstAdj := signed 32 y,
                                 move := none, pack := [], loopAt := none, met := false }) (freeNext s)

def wndActive (ch : WndChan) : Bool :=
  match ch.state with
  | .running | .waiting | .parked => true
  | _ => false

/-- R365: a channel ended at once with a code. -/
def wndEnd (c code : Nat) (s : State) : State :=
  if wndActive (wchAt s c) then modWch c (fun ch => { ch with state := .idle, err := code }) (wndUndefine c s) else s

/-- R365: EN is cleared. -/
def wndDisable (c : Nat) (s : State) : State := modWch c (fun ch => { ch with en := false }) (wndEnd c 6 s)

/-- R370: the channel parks where it stands. -/
def wndPark (c : Nat) (s : State) : State :=
  modPwr (fun p => { p with cause := setBits p.cause [3] })
    (modWch c (fun ch => wndCause [3] { ch with state := .parked }) s)

/-- R370, R372: at step 3 of Table 15.10 the channels that touch DP park, or end FORCED. -/
def wndLeaveDp (force : Bool) (s : State) : State :=
  (upTo 16).foldl (fun s c =>
    if !chanTouches s (wchAt s c) then s
    else if force then
      modPwr (fun p => { p with cause := setBits p.cause [4] }) (modWch c (wndCause [2]) (wndEnd c 5 s))
    else if atBoundary s (wchAt s c) then wndPark c s else s) s

/-- R371: parked channels go on. -/
def wndResume (s : State) : State :=
  modWnd (fun w => { w with chan := w.chan.map (fun ch => if ch.state = .parked then { ch with state := .running } else ch) }) s

/-- R361: event bits are set. -/
def wndEventSet (c v : Nat) (s : State) : State := modWch c (fun ch => { ch with event := ch.event ||| (v % 65536) }) s

/-! Registers (Tables 15.8 and 15.9). -/

/-- A write of WND_CTRL_c. -/
def wndCtrlWrite (c v : Nat) (s : State) : State :=
  let s := modWch c (fun ch => { ch with prio := bits v 2 2, en := ch.en || bit v 0 }) s
  if !bit v 0 then wndDisable c s else if bit v 1 then wndStart c s else s

def wndStat (ch : WndChan) : Nat := 2 ^ 28 * ch.state.code + 2 ^ 24 * ch.err + ch.pc % 65536

/-- WND_BUSY. -/
def wndBusy (s : State) : Nat :=
  maskOf ((upTo 16).filter (fun c => decide ((wchAt s c).state = .running) || decide ((wchAt s c).state = .waiting))) +
  65536 * maskOf ((upTo 16).filter (fun c => decide ((wchAt s c).state = .parked)))

def wndReg (s : State) (off : Nat) : Nat :=
  if off = 0x400 then wndBusy s
  else if 0x400 ≤ off then 0
  else
    let ch := wchAt s (off / 64)
    match off % 64 with
    | 0x00 => 4 * ch.prio + b2n ch.en | 0x04 => wndStat ch | 0x08 => ch.cause | 0x0C => ch.irqEn | 0x10 => ch.prog
    | 0x14 => word32 ch.hostBase 0 | 0x18 => word32 ch.hostBase 1 | 0x1C => ch.event | 0x20 => ch.signal
    | 0x24 => ch.loop | 0x28 => word32 ch.bytes 0 | 0x2C => word32 ch.bytes 1 | 0x30 => word32 ch.errAddr 0
    | 0x34 => word32 ch.errAddr 1 | 0x38 => wrap 32 ch.srcAdj | _ => 0

def wndWrite (off v : Nat) (s : State) : State :=
  if 0x400 ≤ off then s
  else
    let c := off / 64
    match off % 64 with
    | 0x00 => wndCtrlWrite c v s
    | 0x08 => modWch c (fun ch => { ch with cause := w1c ch.cause v }) s
    | 0x0C => modWch c (fun ch => { ch with irqEn := v % 16 }) s
    | 0x10 => modWch c (fun ch => { ch with prog := v % 2 ^ 22 / 16 * 16 }) s
    | 0x14 => modWch c (fun ch => { ch with hostLo := v }) s
    | 0x18 => modWch c (fun ch => { ch with hostBase := 2 ^ 32 * v + ch.hostLo }) s
    | 0x1C => wndEventSet c v s
    | _ => s

end Sys2Proof.Machine
end

