-- ==== Sys2Proof/Machine/Dp.lean ====
section
/-! DEFINITION. The datapath domain leaving Run and returning to it (01 R22, 14 R339, 15 R369 to R372). -/

namespace Sys2Proof.Machine

/-! What each block of DP keeps when its power goes: what firmware restores from the shift log and the bundle (14 Table 14.10),
and what lies in pit memory or the boot ledger. -/

/-- A lane keeps its assignment (02 R26, R27). -/
def downLane (l : Lane) : Lane :=
  { rxEnabled := l.rxEnabled, txRole := (l.txNext.getD (l.txRole, l.txRate)).1
    txRate := (l.txNext.getD (l.txRole, l.txRate)).2 }

/-- The first position that was not promoted whole. -/
def firstCut (s : State) : Nat :=
  if s.aba.consuming && (jobAt s s.aba.pos).isNone then s.aba.pos + 1 else consumePos s

/-- The sweep that will close the records found open (06 R134). -/
def downSweep (s : State) : Option Sweep :=
  match s.tal.sweep, s.tal.cur with
  | some w, _ => some { w with endCode := 5 }
  | none, some it =>
    some { integ := it, endCode := 5, bound := if s.tal.sweepDue then s.aba.drainPos + 1 else firstCut s
           channel := if s.tal.sweepDue then sweepFrom s it s.aba.drainPos
                      else if it.last && s.aba.consuming then firstCut s - it.chunk * chans s else 0 }
  | none, none => none

/-- Lines already promoted of a position that is not promoted whole give back what the tally held (06 R134, log 134). -/
def takeBack (s : State) : State :=
  s.tal.jobs.foldl (fun s j => j.undo.foldl (fun s x => pitWrite x.1 x.2 s) s) s

/-- The ring and its registers: records not wholly written are given up, and the registers are rebuilt (06 R135, 11 R237). -/
def downRing (a : Tally) : Tally :=
  let ring := (a.ring.filter (·.written)).map (fun r => { r with posted := false })
  let bare : Tally := {}
  match ring with
  | [] => match a.sched with
    | some sc => rebuildRing sc bare
    | none => bare
  | r :: _ => { bare with
      ring := ring, ringBase := a.ringBase, ringTail := r.entry, ringCap := a.ringCap
      ringHead := match a.ring.find? (fun r => !r.written) with | some r => r.entry | none => a.ringHead }

/-- Tally: the schedule and the dump ring stay (06 R134, R135). -/
def downTally (s : State) : Tally :=
  let a := s.tal
  { downRing a with
    sched := a.sched, begun := a.begun, idsUsed := a.idsUsed, next := a.next, ended := a.ended, cur := a.cur
    idsBegun := a.idsBegun, sweep := downSweep s, integId := a.integId, integFirst := a.integFirst }

/-- Beamformer: every generation and parameter stays (07 R145). -/
def downBeams (b : Beams) : Beams :=
  { sets := b.sets, inputs := b.inputs, promptTerms := b.promptTerms, prompt := b.prompt, nextPrompt := b.nextPrompt
    staged := b.staged }

/-- Assay chain: the configuration stays (08 R178). -/
def downAssay (a : Assay) : Assay :=
  { series := a.series.map (fun x => takeParams x.params {}), banks := a.banks, groupMask := a.groupMask
    groupShift := a.groupShift, staged := a.staged }

/-- An Assayer: image, ownership, and whether it is started again (09 R203). -/
def downAyr (c : AyrCore) : AyrCore :=
  { state := if c.state = .empty then .empty else .loaded, image := c.image, ownFirst := c.ownFirst, ownCount := c.ownCount
    restart := (decide (c.state = .running) || decide (c.state = .waiting) || c.restart) && !c.stopPending }

/-- Triggers: configuration, armed mask and the capture ring stay (10 R211, R222). -/
def downTrig (t : Trig) : Trig :=
  let c := t.capt
  { hold := t.hold, filter := t.filter, falling := t.falling, level := t.level, armed := t.armed
    conds := t.conds.map (fun x => { x with counter := x.prescale - 1, deadFrom := [], fired := 0 })
    outs := t.outs.map (fun o => { o with pulses := [], active := false })
    capt := { c with
      writing := none, toBuild := c.toSend ++ c.toBuild, toSend := [] } }

/-- Hoist: stream numbers, allotments and settings stay (11 R227, R237); the Crusher and the Expander sit in CTL. -/
def downHst (h : Hoist) : Hoist :=
  { seq := h.seq, lastSent := h.lastSent, expOut := h.expOut, allot := h.allot, dual := h.dual, crushDump := h.crushDump, crushCapt := h.crushCapt, unsent := h.unsent
    jobs := h.jobs, expRunning := h.expRunning }

/-- Pit memory goes into self-refresh: contents, marks, map, states, migration and settings stay (12 R254, Table 12.7). -/
def downPit (p : Pit) : Pit :=
  { p with
    state := .selfRefresh, cause := 0, irqEn := 0, chIrqEn := 0, scrubPasses := 0
    ports := p.ports.map (fun q => { q with tokens := q.burst * 10240, bytes := 0, held := 0, lat := 0 })
    chans := p.chans.map (fun c => { trained := c.trained, fullTrain := c.fullTrain }) }

/-- Membership and policy stay; every peer starts as UNKNOWN (18 R423, Table 18.3). -/
def downConst (c : Const) : Const :=
  { joined := c.joined, number := c.number, peers := c.peers.map (fun p => { source := p.source }), hold := c.hold
    leader := c.leader, bound := c.bound, holding := c.holding, staged := c.staged }

/-- ASSAYER_RUN STOP commands whose boundary has not come end OK (09 R203). -/
def downStops (t : Nat) (s : State) : State :=
  (upTo 4).foldl (fun s a =>
    if (ayrAt s a).stopPending then
      finishOpen (fun o => isOp 0x0603 o && o.key == a)
        (fun _ => { result := fields [(24, leBytes 1 AyrState.stopped.code), (25, [0])] }) t s
    else s) s

/-- Power leaves DP, with pit memory in self-refresh (15 Table 15.10 steps 4 and 5). -/
def dpDown (t : Nat) (s0 : State) : State :=
  let s := takeBack (downStops t s0)
  { s with
    lanes := { s.lanes with lane := s.lanes.lane.map downLane, delivered := [] }
    hop := {}, aba := { phys := s.aba.phys }, tal := downTally s, beams := downBeams s.beams, assay := downAssay s.assay
    ayr := s.ayr.map downAyr, trig := downTrig s.trig, hst := downHst s.hst, pit := downPit s.pit, con := downConst s.con
    shift := { s.shift with snaps := s.shift.snaps.filter (fun x => !dpOffset x.1) }
    sys := { s.sys with dp := .quiesce, suspect := false } }

/-- S5: every enabled lane starts its bring-up, on its record unless the last S5 FAILED; transmit lanes train (02 R41). -/
def startLanes (full : Bool) (s : State) : State :=
  { s with lanes := { s.lanes with lane := s.lanes.lane.zipIdx.map (fun x =>
      let l := if x.1.rxEnabled then startBringup full false (laneRecAt s x.2) x.1 else x.1
      if l.txRole = 0 then l else takeRole l.txRole l.txRate l) } }

/-- S5 ends when every enabled receive lane is UP or FAILED and no transmit lane still trains (02 R41); one in TX_FAULT does not
train, and is not waited for (log 124). -/
def lanesSettled (s : State) : Bool :=
  s.lanes.lane.all (fun l =>
    (!l.rxEnabled || decide (l.rxState = .up) || decide (l.rxState = .failed)) && !l.txTraining)

/-- Prompt channels of the configuration to come: its own PROMPT_CONFIG image's, or those in force. -/
def promptCount (s : State) : Nat :=
  match s.bun.coming with
  | some b => ((b.images.filter (fun i => i.opcode == 0x0504)).getLast?.map (fun i => u8 i.body 0)).getD 0
  | none => (s.beams.prompt.map (·.channels.length)).getD 0

/-- The result of S5 for the bundle to come: 1 OK, 2 DEGRADED, 3 FAILED (02 R41). -/
def lanesResult (b : Option Bundle) (s : State) : Nat :=
  let meets := match b with
    | some u => payloadOk u (promptCount s) (rxCapacity s)
    | none => true
  if !meets then 3 else if s.lanes.lane.all (fun l => !l.rxEnabled || decide (l.rxState = .up)) then 1 else 2

/-- The lane images of the bundle to come, applied before its lanes start (16 R402). -/
def comingLanes (t : Nat) (s : State) : State :=
  match s.bun.coming with
  | some b => runImages 0 t (laneImages b) s
  | none => s

/-- DP powered again; pit memory leaves self-refresh (14 Table 14.10 step 1). -/
def dpUp (kind : DpMove) (s : State) : State :=
  modPwr (fun p => { p with returning := some kind, retStep := 0 })
    (modPit (fun p => { p with state := .run }) { s with sys := { s.sys with dp := .run } })

/-! Leaving Run (15 R369). -/

/-- DP starts to leave Run: the Hoist flushes (Table 15.10 step 2). -/
def leaveRun (kind : DpMove) (force : Bool) (s : State) : State :=
  modPwr (fun p => { p with leaving := some kind, force := force }) (modHst (fun h => { h with flushing := true }) s)

/-- QUIESCE. -/
def quiesce (r : Req) (_ : Nat) (s : State) : Out :=
  if 1 < b8 r 24 then badReserved s
  else if !dpRun s || s.pwr.leaving.isSome || s.pwr.returning.isSome then notInState s
  else { st := leaveRun .quiesce (decide (b8 r 24 = 1)) s, stay := some .staged }

def execQuiesce (r : Req) (t : Nat) (s : State) : Host.Outcome State Fault Refusal := .next (runCommand 0x0D05 quiesce r t s)

/-- Every promotion but that of the position being consumed is done (06 R134). -/
def promotionsDone (s : State) : Bool :=
  s.tal.jobs.all (fun j => s.aba.consuming && decide (j.pos = s.aba.pos))

/-- Pit memory has served every request that left its regulator (12 R274). -/
def pitIdle (p : Pit) : Bool := p.held.isEmpty && p.chans.all (fun c => c.queue.isEmpty)

/-- SET_SLOT of BUNDLE_ACTIVATE writes BUNDLE_SLOT as the command commits (16 Table 16.9). -/
def setSlot (r : Req) (s : State) : State := if bit (b8 r 33) 0 then modShift (fun x => { x with slot := b8 r 34 }) s else s

def takeSlot (o : Option OpenCmd) (s : State) : State := match o with | some o => setSlot o.req s | none => s

/-- 15 R369, R372: the flush, the parking and the migration block are done; DP is powered down. A restart powers it again
at once. `t` is the timer count (13 R280). -/
def execDpQuiesced (t : Nat) (s : State) : Host.Outcome State Fault Refusal :=
  .next (match s.pwr.leaving with
    | none => s
    | some kind =>
      if s.hst.flushing || decide (s.aba.state = .draining) || !promotionsDone s || !pitIdle s.pit then s
      else withBell (fun s =>
        let s := wndLeaveDp s.pwr.force s
        let s := dpDown t s
        let s := modPwr (fun p => { p with leaving := none, force := false, cause := setBits p.cause [1] }) s
        match kind with
        | .quiesce => finishOpen (isOp 0x0D05) (fun _ => {}) t s
        | .trip => s
        | .restart => modShift (fun x => { x with resetCause := 4, lastKind := 4 }) (dpUp .restart (commitOpen (isOp 0x0103) t s))
        | .activate =>
          dpUp .activate (takeSlot (s.cages.openCmds.find? (isOp 0x0202)) { commitOpen (isOp 0x0202) t s with
            bun := { s.bun with staged := none } })) s)

/-! Returning to Run (14 R339). -/

/-- The junction temperature forbids DP in Run (19 R445). -/
def tooHot (s : State) : Bool := decide (95 ≤ s.pwr.tj) || s.pwr.shutOff

/-- RESUME (14 R339, 05 R108). -/
def resume (_ : Req) (_ : Nat) (s : State) : Out :=
  if s.sys.dp = .quiesce then
    if tooHot s then notInState s
    else { st := modShift (fun x => { x with resetCause := 5, lastKind := 5 }) (dpUp .quiesce s), stay := some .committed }
  else if dpRun s && decide (s.aba.state = .drained) && s.pwr.leaving.isNone && s.pwr.returning.isNone then
    answer (modAba (fun a => { a with resumePending := true }) s) (fields [(24, leBytes 1 s.shift.dev.code)])
  else notInState s

def execResume (r : Req) (t : Nat) (s : State) : Host.Outcome State Fault Refusal := .next (runCommand 0x0D06 resume r t s)

/-- The frame map after the tests: status, ledger map and mask, ID_FRAME_MAP (05 R89 to R91, 14 R340). -/
def mapAll (pass : Nat) (useMask : Bool) (s : State) : State :=
  let mask := if useMask then s.sys.faultMask else 0
  let map := (upTo 36).map (fun p => match frameServes pass mask p with | some l => 128 + l | none => 0)
  modShift (fun x => { x with idMap := map })
    (modAba (fun a => { a with phys := mapFrames pass mask })
      { s with sys := { s.sys with faultMask := maskAfter pass mask, frameMap := map } })

/-- The frames in service admit a bundle with a number of beam sets (01 R11, R17; 05 R96). -/
def framesAdmit (b : Bundle) (sets : Nat) (s : State) : Bool :=
  budgetFits (pairsOf b).length (activeGroups b).length sets (frameCount s) (kPrime b)

/-- The Abacus starts under the schedule of a bundle (05 R95, R98). -/
def startAbacus (b : Bundle) (s : State) : State :=
  let f := servedFrames s
  modAba (fun a => { a with
    state := .running, sched := some (schedOf b (setCount b) f), nextSched := none
    frames := f.map (fun n => { logical := n }), consuming := false, began := false, resumePending := false }) s

/-- Images reloaded, and the cores that ran started with BOOT = 1 (09 R203). -/
def reloadAyr (s : State) : State :=
  (upTo 4).foldl (fun s a =>
    let c := ayrAt s a
    if c.state = .empty ∨ c.image = [] then modAyr a (fun c => { c with restart := false }) s
    else
      let s := modAyr a (loadImage c.image c.ownFirst c.ownCount) s
      if c.restart then startCore a 1 s else s) s

/-- A READOUT restarts from its first unsent record, and a PENDING ring becomes HELD with PARTIAL set (10 R222), with all that
entering HELD brings (R219, R220). -/
def restartReadout (s : State) : State :=
  match s.trig.capt.state with
  | .readout => modHst (fun h => { h with units := h.units ++ s.trig.capt.toBuild.map (fun x => .capt x.1 x.2) }) s
  | .pending => enterHeld (modCapt (fun c => { c with isPartial := true }) s)
  | _ => s

/-- The messages of a window renumbered for a new session, from sequence number 0 (03 R61; log 122). -/
def renumber (w : List CtlMsg) : List CtlMsg :=
  w.zipIdx.map (fun x => { x.1 with seq := x.2, sync := decide (x.2 = 0), sent := false, queued := true })

/-- CONTROL takes a new session; messages not acknowledged go out again in it (03 R61; log 30). -/
def newSession (s : State) : State :=
  let n := (s.shift.sessionRec.getD 0 + 1) % 65536
  let s := appendPersist 255 n (modShift (fun x => { x with sessionRec := some n }) s)
  { s with seam := { s.seam with session := n, parties := s.seam.parties.map (fun p =>
      { p with window := renumber p.window, nextSeq := p.window.length, opened := !p.window.isEmpty, resends := 0
               unreachable := false }) } }

/-- RUN_START first of all records, then an UNSENT record for each stream that lost packets (11 R237, Table 11.4). -/
def runStart (s : State) : State :=
  let before := s.hst.stat
  let s0 := noteStat 1 0 s.hop.first (epochNow s) (currentSpectrum s)
    (modHst (fun h => { h with unsent := [], stat := [], started := true }) s)
  modHst (fun h => { h with stat := h.stat ++ before }) (s.hst.unsent.foldl (fun s u => noteStat 9 (65536 * (streamType u.1).1 + (streamType u.1).2) u.2.1 u.2.2 (currentSpectrum s) s) s0)
where
  /-- TYPE and STREAM_ID of a stream index (11 Table 11.7). -/
  streamType (i : Nat) : Nat × Nat :=
    if i = 0 then (8, 0) else if i = 1 then (9, 0) else if i < 11 then (10, i - 2)
    else if i = 11 then (11, 0) else if i = 12 then (12, 0) else if i = 13 then (13, 0) else (14, 0)

/-- A datapath run begins: the Abacus, the Assayers, the chain, the timetable (14 Table 14.10, 04 R70). `now` is the array
time in 2^-16 ns. -/
def beginRun (now : Nat) (s : State) : State :=
  let s := match s.bun.active with
    | some b =>
      let s := alignHopper now (startAbacus b s)
      retireGens (chunkOf s s.hop.first) s
    | none => s
  let s := modCon (fun c => { c with peers := c.peers.map (fun p => { p with since := now }) }) s
  modAssay (fun a => { a with running := true }) (runStart (restartReadout (reloadAyr s)))

/-- The bundle is held but not in force (14 R334, NO_DATA). -/
def holdBundle (s : State) : State :=
  match s.bun.active with
  | some b => { s with bun := { s.bun with active := none, changeover := none, past := none, staged := some b } }
  | none => s

end Sys2Proof.Machine
end

