-- ==== Sys2Proof/Machine/Reset.lean ====
section
/-! DEFINITION. Hard and cold resets and the reset pins (14 R331, Table 14.6; 19 R438). -/

namespace Sys2Proof.Machine

/-! What a hard reset keeps: the AON domain. -/

/-- Pending bits of AON sources (15 R347). -/
def aonSources : Nat := (2 ^ 32 - 1) * 2 ^ 640 + (2 ^ 128 - 1) * 2 ^ 800

/-- IDs of integrations that a loss of pit memory ends (06 R134). -/
def lostIntegs (s : State) : List Nat :=
  (match s.tal.cur with | some i => [i.id] | none => []) ++ (match s.tal.sweep with | some w => [w.integ.id] | none => [])

/-- The shift block: SHIFT_COUNT, RESET_CAUSE, BOOT_STAT and the ledger stay, the rest takes its reset values (14 R341). -/
def hardShift (cause : Nat) (s : State) : Shift :=
  let x := s.shift
  { count := x.count, stage := x.stage, done := x.done, dev := x.dev, altered := x.altered, results := x.results
    resetCause := cause, hardResets := min 65535 (x.hardResets + 1), cold := false, boots := x.boots, lastKind := cause
    stages := x.stages, s5 := x.s5, bootCore := x.bootCore, slot := x.slot, trained := x.trained, sessionRec := x.sessionRec, seqDue := x.seqDue
    seqRec := x.seqRec, flash := x.flash, persistOk := x.persistOk, shiftNo := x.shiftNo, coreLog := x.coreLog, lostIds := x.lostIds ++ lostIntegs s, ran := x.ran
    perst := x.perst, held := .hard }

/-- The power and GPIO registers are kept (15 R373). A channel that the reset ends sets FORCED (15 R372). -/
def hardPwr (s : State) : Pwr :=
  let p := s.pwr
  let forced := if s.wnd.chan.any wndActive then [4] else []
  { cause := setBits p.cause forced, irqEn := p.irqEn, timer := p.timer, gpioIn := p.gpioIn, seen := p.seen
    gpioIrqEn := p.gpioIrqEn, edge := p.edge, dir := p.dir, out := p.out, supply := p.supply, tj := p.tj, sensors := p.sensors, warm := p.warm
    shutOff := p.shutOff, sleepHold := p.sleepHold }

/-- Pit memory loses its contents; the rank map, the states and the migration are in the boot ledger (12 R254, R269). -/
def hardPit (p : Pit) : Pit := { rankMap := p.rankMap, rankState := p.rankState, queue := p.queue, mig := p.mig }

/-- Host memory outlives the reset; so does nothing else of a cage. -/
def hardCage (c : Cage) : Cage := { ring := c.ring, lastOut := c.lastOut }

/-- A hard reset (Table 14.6). `cause` is RESET_CAUSE: 1 HRST_N, 2 DEV_RESET, 3 RESET_REQ. It holds until its release. -/
def hardReset (cause : Nat) (s0 : State) : State :=
  let s := bellSync s0
  let s1 : State :=
    { s with
      lanes := { records := s.lanes.records }, seam := { session := s.seam.session }, hop := {}, aba := {}, tal := {}
      beams := {}, assay := {}, ayr := List.replicate 4 {}
      trig := {}, hst := { seq := s.hst.seq, lastSent := s.hst.lastSent, unsent := s.hst.unsent }
      pit := hardPit s.pit, cages := { cage := s.cages.cage.map hardCage }, bell := { pend := s.bell.pend &&& aonSources }
      wnd := { hostOut := s.wnd.hostOut }, pwr := hardPwr s, shift := hardShift cause s, con := {}
      bun := { slots := s.bun.slots }
      sys := { sec := s.sys.sec, ns := s.sys.ns, faultMask := s.sys.faultMask, frameMap := s.sys.frameMap } }
  bellSync (modBell (fun b => { b with lines := sourceLines s1 &&& sourceLines s }) s1)

/-- A cold reset (Table 14.6): everything but the board's flash, pins and supplies, and the junction's temperature. -/
def coldReset (s : State) : State :=
  { State.reset with
    pending := s.pending, freeCount := s.freeCount
    bun := { slots := s.bun.slots }
    pwr := { supply := s.pwr.supply, tj := s.pwr.tj, sensors := s.pwr.sensors, shutOff := s.pwr.shutOff, gpioIn := s.pwr.gpioIn }
    cages := { cage := s.cages.cage.map hardCage }
    shift := { flash := s.shift.flash, perst := s.shift.perst } }

/-- The device is out of reset. -/
def released (s : State) : Bool := decide (s.shift.held = .none)

/-! Pins (19 R438). -/

/-- HRST_N low for at least 1 µs; without VIO_M the pin reads high (Table 19.3). -/
def execHrstNAssert (s : State) : Host.Outcome State Fault Refusal :=
  .next (if released s && supplyOn s vioM then hardReset 1 s else s)

/-- PORST_N low for at least 10 µs. -/
def execPorstNAssert (s : State) : Host.Outcome State Fault Refusal := .next (coldReset s)

/-- R328, Table 14.12: a write of RESET_REQ. While ON_SHIFT reads DOWN only the host's counts. -/
def resetReq (agent v : Nat) (s : State) : State :=
  if released s && decide (v % 256 = 0xA5) && (decide (agent = 0) || decide (s.shift.onShift ≠ 3)) then hardReset 3 s else s

def execResetReq (agent v : Nat) (s : State) : Host.Outcome State Fault Refusal :=
  .next (if agentReaches s agent then resetReq agent v s else s)

end Sys2Proof.Machine
end

