-- ==== Sys2Proof/Machine/Cages.lean ====
section
/-! DEFINITION. The cages (16): rings and doorbells, overflow stores, posting and signalling of completions, datagrams,
SMBus, and the host's sleep. -/

namespace Sys2Proof.Machine

/-- The cages have opened at S7 since the last reset. -/
def cagesUp (s : State) : Bool := released s && s.shift.done

/-! Rings of cages 0 to 3 (R377, R378). -/

/-- A ring holds one entry fewer than its slots, so that equal indices mean an empty ring (log 31). -/
def slotFree (c : Cage) : Bool := decide ((c.cplTail + 1) % 2 ^ c.takenCplLog2 ≠ c.cplHead % 2 ^ c.takenCplLog2)

/-- The cage can write its ring now. -/
def canWrite (s : State) (n : Nat) : Bool :=
  let c := cageAt s n
  c.enable && canSend s && slotFree c

/-- CPL is set, and the count restarts (R393); overflow entries counted are remembered (R394). -/
def signalCpl (c : Cage) : Cage :=
  { c with cause := setBits c.cause [0], unsignalled := 0, timerOn := false, overSignalled := c.overflow.length }

/-- One more completion that is not yet signalled (R393). -/
def countOne (c : Cage) : Cage :=
  let c := { c with unsignalled := c.unsignalled + 1, timerOn := true }
  if max 1 c.modCount ≤ c.unsignalled then signalCpl c else c

/-- An entry is written to the ring (R378). -/
def writeEntry (e : Completion) (c : Cage) : Cage :=
  let size := 2 ^ c.takenCplLog2
  let next := (c.cplTail + 1) % size
  { c with
    ring := c.ring.filter (fun x => decide (x.1 ≠ c.cplTail)) ++ [(c.cplTail, { e with phase := c.pass })]
    cplTail := next, pass := if next = 0 then !c.pass else c.pass }

/-- The oldest overflow entry goes to the ring; one that a signal counted before is counted again (R394, R396). -/
def drainOne (n : Nat) (s : State) : State :=
  match (cageAt s n).overflow with
  | e :: rest =>
    if !canWrite s n then s else
      modCage n (fun c =>
        let c' := writeEntry e { c with overflow := rest }
        if 0 < c.overSignalled then countOne { c' with overSignalled := c.overSignalled - 1 } else c') s
  | [] => s

/-- Overflow entries go to the ring in their order while slots are free. -/
def drainOverflow (n : Nat) (s : State) : State := (cageAt s n).overflow.foldl (fun s _ => drainOne n s) s

/-- One request is fetched from the ring, if the cage may take it (R377, R386). -/
def fetchOne (n : Nat) (s : State) : State :=
  let c := cageAt s n
  match c.inRing with
  | [] => s
  | r :: rest =>
    if !c.enable || c.stalled || !canSend s || !cagesOpen s then s
    else if !hasRoom s n then (if c.busy then s else setBusy n s)
    else modCages (fun g => { g with fetched := g.fetched ++ [{ r with cage := n }] })
      (modCage n (fun c => { c with inRing := rest, busy := false, reqHead := (c.reqHead + 1) % 2 ^ c.takenReqLog2 }) s)

def fetchCage (n : Nat) (s : State) : State := (cageAt s n).inRing.foldl (fun s _ => fetchOne n s) s

/-- Every cage fetches what waits in its ring. -/
def fetchAll (s : State) : State := (upTo 4).foldl (fun s n => fetchCage n s) s

/-- A ring size as ENABLE takes it; sizes outside 4 to 12 are not written, and the write is counted (00 R2). -/
def ringLog2 (v old : Nat) : Nat := if inRange 4 12 v then v else old

/-- A write of CAGE_CTRL_n (Table 16.7). -/
def cageCtrlWrite (n v : Nat) (s : State) : State :=
  let c := cageAt s n
  let s := if inRange 4 12 (bits v 8 4) && inRange 4 12 (bits v 12 4) then s else discardInput s
  let c1 := { c with reqLog2 := ringLog2 (bits v 8 4) c.reqLog2, cplLog2 := ringLog2 (bits v 12 4) c.cplLog2 }
  if bit v 0 && !c.enable then
    drainOverflow n (modCage n (fun _ => { c1 with
      enable := true, takenReqBase := c1.reqBase, takenCplBase := c1.cplBase, takenReqLog2 := c1.reqLog2
      takenCplLog2 := c1.cplLog2, reqTail := 0, reqHead := 0, cplHead := 0, cplTail := 0, pass := true, ring := []
      inRing := [], stalled := false }) s)
  else modCage n (fun _ => { c1 with enable := bit v 0 }) s

def execCageEnable (n v : Nat) (s : State) : Host.Outcome State Fault Refusal :=
  .next (if n < 8 ∧ bit v 0 then withBell (cageCtrlWrite n v) s else s)

def execCageDisable (n v : Nat) (s : State) : Host.Outcome State Fault Refusal :=
  .next (if n < 8 ∧ !bit v 0 then withBell (cageCtrlWrite n v) s else s)

/-- A fetch failed (R377). -/
def fetchError (n : Nat) (s : State) : State := modCage n (fun c => { c with cause := setBits c.cause [3], stalled := true }) s

/-- R377: the doorbell. `entries` are what the host's ring holds from the old tail up to the new one, with their argument
blocks; `ok` says that the fetch completes successfully. An index outside the ring is discarded and counted (00 R2). -/
def doorbell (n tail : Nat) (entries : List Req) (ok : Bool) (s : State) : State :=
  let c := cageAt s n
  let size := 2 ^ c.takenReqLog2
  if size ≤ tail then discardInput s
  else if !c.enable then modCage n (fun c => { c with reqTail := tail }) s
  else
    let fresh := entries.take ((tail + size - c.reqTail % size) % size)
    let s := modCage n (fun c => { c with reqTail := tail, inRing := c.inRing ++ fresh, stalled := false }) s
    if ok && canSend s then fetchCage n s else fetchError n s

def execCageDoorbell (n tail : Nat) (entries : List Req) (ok : Bool) (s : State) : Host.Outcome State Fault Refusal :=
  .next (if n < 4 then withBell (doorbell n tail entries ok) s else s)

/-- R378: the host frees slots. -/
def cplHeadWrite (n head : Nat) (s : State) : State :=
  if 2 ^ (cageAt s n).takenCplLog2 ≤ head then discardInput s
  else fetchCage n (drainOverflow n (modCage n (fun c => { c with cplHead := head }) s))

def execCageCplHeadWrite (n head : Nat) (s : State) : Host.Outcome State Fault Refusal :=
  .next (if n < 4 then withBell (cplHeadWrite n head) s else s)

/-! Posting (R378, R380, R382, R383, R386, R389). -/

/-- A completion reaches its cage. -/
def postTo (c : Completion) (s : State) : State :=
  if c.cage ≤ 3 then
    if (cageAt s c.cage).overflow.isEmpty && canWrite s c.cage then
      modCage c.cage (fun g => countOne (writeEntry c g)) s
    else
      modCage c.cage (fun g =>
        countOne { g with overflow := g.overflow ++ [{ c with overflow := true }], cause := setBits g.cause [1] }) s
  else if c.cage = 6 then modCage 6 (fun g => { g with unread := g.unread ++ [c] }) s
  else if c.cage = 7 then queueMsg c.peer 2 (cplBytes c) (modCage 7 (fun g => { g with lastOut := some c }) s)
  else modCage c.cage (fun g => { g with lastOut := some c }) s

/-- May a completion be posted: has every command of its client that committed earlier been posted (R389)? -/
def mayPost (s : State) (c : Completion) : Bool :=
  s.cages.ready.all (fun x => decide (x.client ≠ c.client) || decide (c.order ≤ x.order)) &&
  s.cages.openCmds.all (fun o =>
    decide (o.req.client ≠ c.client) || decide (o.phase ≠ .committed) || decide (c.order ≤ o.order))

/-- The next completion of a client is posted, in the order of commit points. -/
def postNext (client : Nat) (s : State) : State :=
  match s.cages.ready.find? (fun c => decide (c.client = client) && mayPost s c) with
  | some c =>
    fetchAll (postTo c (modCages (fun g => { g with ready := g.ready.erase c }) s))
  | none => s

/-- Every completion that may be posted is posted. -/
def postAll (s : State) : State := s.cages.ready.foldl (fun s c => postNext c.client s) s

/-- Firmware runs: a core is on shift and CTL is awake. -/
def firmwareUp (s : State) : Bool := decide (s.shift.onShift < 2) && !s.pwr.ctlSleep

/-- DEV_RESET with KIND HARD: the reset follows the writing of its completion (Table 16.9). -/
def resetIfWritten (s : State) : State :=
  if s.shift.resetDue && !s.cages.ready.any (fun c => c.opcode == 0x0103) then hardReset 2 s else s

/-- R389: firmware posts the next completion of a client. -/
def execCompletionPost (client : Nat) (s : State) : Host.Outcome State Fault Refusal :=
  .next (if firmwareUp s then resetIfWritten (withBell (postNext client) s) else s)

/-- R393: the moderation timer expires. -/
def execModerationTimer (n : Nat) (s : State) : Host.Outcome State Fault Refusal :=
  .next (if n < 4 ∧ (cageAt s n).timerOn then withBell (modCage n signalCpl) s else s)

/-! Ethernet cages (R380, R381). -/

/-- Bytes that the assemblies of a cage hold, of 256 KiB. -/
def assembled (c : Cage) : Nat := (c.assembly.map (·.bytes.length)).sum

def assemblyOf (c : Cage) (r : Req) : Option Assembly :=
  c.assembly.find? (fun a => decide (a.client = r.client) && decide (a.tag = r.tag))

def dropAssembly (n client tag : Nat) (s : State) : State :=
  modCage n (fun c => { c with
    assembly := c.assembly.filter (fun a => !(decide (a.client = client) && decide (a.tag = tag))) }) s

/-- A part is held (R381). -/
def holdPart (r : Req) (before : List Byte) (t : Nat) (s : State) : State :=
  if 262144 < assembled (cageAt s r.cage) + r.arg.length then
    answerOnly r t { status := stBadArg, detail := 3 } stBadArg (dropAssembly r.cage r.client r.tag s)
  else
    answerOnly r t { status := stOk, detail := 10 } stOk
      (modCage r.cage (fun c => { c with assembly := c.assembly ++ [{ client := r.client, tag := r.tag, bytes := before ++ r.arg }] })
        (dropAssembly r.cage r.client r.tag s))

/-- A part out of order ends the assembly (R381). -/
def partOutOfOrder (r : Req) (t : Nat) (s : State) : State :=
  answerOnly r t { status := stBadArg, detail := 15 } stBadArg (dropAssembly r.cage r.client r.tag s)

/-- A datagram with a request entry, whole or in part. Its ARG_ADDR counts only as the offset of a part. -/
def takeDatagram (r0 : Req) (t : Nat) (s : State) : State :=
  let r := { r0 with badLen := r0.badLen || decide (1408 < r0.arg.length) }
  match r.part, assemblyOf (cageAt s r.cage) r with
  | true, some a => if r.argAddr = a.bytes.length then holdPart r a.bytes t s else partOutOfOrder r t s
  | true, none => if r.argAddr = 0 then holdPart r [] t s else partOutOfOrder r t s
  | false, some a =>
    if r.argAddr = a.bytes.length then
      arrive { r with arg := a.bytes ++ r.arg } t (dropAssembly r.cage r.client r.tag s)
    else partOutOfOrder r t s
  | false, none => arrive r t s

/-- The device's IPv4 address: the active bundle's, or the link-local one it has claimed. -/
def ipv4 (s : State) : Nat :=
  match s.bun.active with
  | some b => if b.ipv4 = 0 then Config.linkLocal % 2 ^ 32 else b.ipv4
  | none => Config.linkLocal % 2 ^ 32

/-- The request that a frame received on a management port brings to cage 4 or 5: its UDP ports are 20,314 and 20,315 (Table 16.4). -/
def datagramReq (s : State) (port : Nat) (frame : List Byte) : Option Req :=
  match udpDatagram (ipv4 s) frame with
  | some (src, sport, dport, b) =>
    if (dport = 20314 ∨ dport = 20315) ∧ 64 ≤ b.length then
      some { reqOfBytes (dport - 20310) (b.take 64) (b.drop 64) with
        badLen := decide (u32 b 16 ≠ b.length - 64), origin := (port % 2, src, sport) }
    else none
  | none => none

/-- The payload of the datagram that carries a completion: the completion, then the result block. -/
def replyPayload (c : Completion) : List Byte := cplBytes c ++ c.block

/-- R380: a frame with a UDP datagram, received on management port `port`. One that brings cage 4 or 5 no request is discarded. -/
def execUdpRequest (port : Nat) (frame : List Byte) (t : Nat) (s : State) : Host.Outcome State Fault Refusal :=
  .next (match if cagesUp s then datagramReq s port frame else none with
    | some r => takeDatagram r t s
    | none => s)

/-- R381: an assembly has been idle for 1 s. -/
def execPartAssemblyTimeout (n client tag : Nat) (s : State) : Host.Outcome State Fault Refusal :=
  .next (dropAssembly n client tag s)

/-! The SMBus cage (R382). -/

/-- The request that a block write carries: an entry, and the argument. -/
def smbusReq (bytes : List Byte) : Req :=
  { reqOfBytes 6 (bytes.take 64) (bytes.drop 64) with
    badLen := decide (u32 bytes 16 ≠ bytes.length - 64) || decide (128 < bytes.length - 64) }

/-- The Packet Error Code of a block write to address 0x5A: over the address with its write bit, the command code, the count and
the bytes (log 137). -/
def smbusPec (bytes : List Byte) : Nat := crc8 ([0xB4, 0x10] ++ leBytes 1 bytes.length ++ bytes)

/-- Command code 0x10: a block write of `bytes`, with its Packet Error Code if one was sent. -/
def execSmbusBlockWrite (bytes : List Byte) (pec : Option Byte) (t : Nat) (s : State) : Host.Outcome State Fault Refusal :=
  .next (if bytes.length < 64 ∨ (pec.map (·.toNat)).getD (smbusPec bytes) ≠ smbusPec bytes ∨ !cagesUp s ∨ !supplyOn s vioM then s
    else withBell (arrive (smbusReq bytes) t) s)

/-- Command code 0x11: the oldest unread completion leaves; none when none waits. -/
def execSmbusBlockRead (s : State) : Host.Outcome State Fault Refusal :=
  .next (if !cagesUp s ∨ !supplyOn s vioM then s
    else modCage 6 (fun c => { c with lastOut := c.unread.head?, unread := c.unread.drop 1 }) s)

/-- The bytes that command code 0x11 returns. -/
def smbusBlock (s : State) : List Byte :=
  match (cageAt s 6).unread with
  | c :: _ => cplBytes c ++ c.block
  | [] => [0]

/-- The byte that command code 0x12 returns. -/
def smbusStatus (s : State) : Nat := b2n (!(cageAt s 6).unread.isEmpty) + 2 * b2n (cageAt s 6).busy

/-- Command code 0x12 reads the status byte and changes nothing. -/
def execSmbusStatusRead (s : State) : Host.Outcome State Fault Refusal := .next s

/-! The host's sleep and the link (R395, R396; 19 R438). -/

/-- The endpoint can send again: overflow entries, pending vectors in their order, and requests that wait. -/
def hostBack (s : State) : State :=
  if !canSend s then s else
    let s := (upTo 4).foldl (fun s n => drainOverflow n s) s
    fetchAll (modCages (fun c => { c with pendingVectors := [] }) (sendVectors s.cages.pendingVectors s))

def execD3hotEntry (pmeEn : Bool) (s : State) : Host.Outcome State Fault Refusal :=
  .next (if s.cages.linkUp then modCages (fun c => { c with d3hot := true, pmeEn := pmeEn, pmPme := false }) s else s)

/-- The host returns the function to D0 and sets or leaves clear Bus Master Enable. -/
def execD0Return (busMaster : Bool) (s : State) : Host.Outcome State Fault Refusal :=
  .next (if s.cages.linkUp then
      withBell (fun s => hostBack (modCages (fun c => { c with d3hot := false, busMaster := busMaster }) s)) s
    else s)

def execPcieLinkDown (s : State) : Host.Outcome State Fault Refusal :=
  .next (modCages (fun c => { c with linkUp := false }) s)

def execPcieLinkUp (busMaster : Bool) (s : State) : Host.Outcome State Fault Refusal :=
  .next (if s.cages.endpointUp then
      withBell (fun s => hostBack (modCages (fun c => { c with linkUp := true, busMaster := busMaster }) s)) s
    else s)

/-- PERST_N low: the endpoint resets, with its configuration space at its defaults. -/
def execPerstNAssert (s : State) : Host.Outcome State Fault Refusal :=
  .next (modShift (fun x => { x with perst := true })
    (modCages (fun c => { c with
      endpointUp := false, linkUp := false, busMaster := false, d3hot := false, pmeEn := false, pmeStatus := false
      pmPme := false }) s))

/-- PERST_N has risen 100 ms ago: the endpoint answers, whatever boot stage is reached. -/
def execPerstNRelease (s : State) : Host.Outcome State Fault Refusal :=
  .next (modShift (fun x => { x with perst := false }) (modCages (fun c => { c with endpointUp := released s }) s))

/-- R380: an Ethernet frame on M0 or M1 (`port`): an ARP or ICMP echo request for the device is answered, and a frame that is
not addressed to it goes to the other port. -/
def execManagementFrame (port : Nat) (frame : List Byte) (s : State) : Host.Outcome State Fault Refusal :=
  .next (
    let p := port % 2
    let mac := Config.mac p % 2 ^ 48
    let out := fun (x : Nat × List Byte) => modCages (fun c => { c with mgmtOut := some x }) s
    if !released s then s
    else match (arpReply mac (ipv4 s) frame).orElse (fun _ => echoReply mac (ipv4 s) frame) with
      | some a => out (p, a)
      | none => if beAt frame 0 6 = mac then s else out (1 - p, frame))

end Sys2Proof.Machine
end

