-- ==== Sys2Proof/Machine/Activate.lean ====
section
/-! DEFINITION. BUNDLE_ACTIVATE (16 R402) and the end of DP's return to Run (14 Table 14.10). -/

namespace Sys2Proof.Machine

/-! BUNDLE_ACTIVATE. -/

/-- Refusal with the directory index of what failed (Table 16.9). -/
def refuseAt (s : State) (status detail index : Nat) : Out :=
  { st := s, reply := { status := status, detail := detail, result := fields [(36, leBytes 2 index)] } }

/-- What a changeover must leave unchanged (04 R78). -/
def sameShape (a b : Bundle) : Bool :=
  decide (a.mode = b.mode) && a.channels == b.channels && a.specPeriod == b.specPeriod && a.t0Sec == b.t0Sec &&
  a.t0Ns == b.t0Ns && a.t0Frac == b.t0Frac && a.intake == b.intake && a.groups == b.groups

/-- Role of a transmit lane as the activation leaves it. -/
def roleAfter (b : Bundle) (s : State) (n : Nat) : Nat :=
  match (laneImages b).getLast? with
  | some im => bits (assignEntry im.arg n) 8 2
  | none => ((laneAt s n).txNext.getD ((laneAt s n).txRole, 0)).1

/-- Every beacon lane is a PATH_A lane (Table 16.21). -/
def beaconLanesOk (b : Bundle) (s : State) : Bool :=
  match b.const with
  | some c => c.peers.all (fun p => decide (roleAfter b s p.lane = 1))
  | none => true

def constIndex (b : Bundle) : Nat := (b.const.map (·.index)).getD 0xFFFF

/-- The beam sets made to number at least `n`, so that their parameters can be registered. -/
def extendSets (n : Nat) (s : State) : State :=
  modBeams (fun b => { b with sets := b.sets ++ List.replicate (n - b.sets.length) {} }) s

/-- The reply of a BUNDLE_ACTIVATE that commits. -/
def activateReply (new old a : Nat) : List Byte :=
  fields [(24, leBytes 2 new), (26, leBytes 2 old), (28, leBytes 8 a), (36, leBytes 2 0xFFFF)]

/-- Sources that the layouts of two bundles name (03 R56). -/
def layoutSources (a : Option Bundle) (b : Bundle) : List Nat :=
  (((a.map (fun x => x.permit.flatten)).getD []) ++ b.permit.flatten).eraseDups

/-- EPOCH_NOTICE to every source of either layout (03 R56, Table 3.8). OLD_EPOCH is 0 where no bundle was active (log 121). -/
def sendNotices (old : Option Bundle) (b : Bundle) (a : Nat) (s : State) : State :=
  let body := leBytes 2 b.epoch ++ leBytes 2 ((old.map (·.epoch)).getD 0) ++ leBytes 8 a ++ b.digest
  (layoutSources old b).foldl (fun s x => queueMsg x 0x10 body s) s

/-- The schedule registered for the activation index, if it differs (05 R98). -/
def registerSched (a : Nat) (b : Bundle) (s : State) : State :=
  modAba (fun x => match x.sched with
    | some sc =>
      let nx := schedOf b (setCount b) sc.frames
      if nx = sc then x else { x with nextSched := some (a, nx) }
    | none => x) s

/-- The configuration as a changeover at chunk `k0` would leave it, or the first refusal. -/
def tryChangeover (b : Bundle) (k0 t : Nat) (s : State) : Except ((Nat × Nat) × Nat) State :=
  let c := modAssay (fun a => { a with running := false }) (extendSets (setCount b) (settleStaged t s))
  match tryImages b k0 t b.images { c with bun := { c.bun with active := some b, applying := true } } with
  | .ok c => .ok (modBeams (fun x => { x with sets := x.sets.take (setCount b) }) c)
  | .error w => .error w

/-- A changeover: checks in the order of R402, then its registration. -/
def changeOver (r : Req) (b old : Bundle) (t : Nat) (s : State) : Out :=
  let a := b64 r 24
  if b.epoch = old.epoch then refuseAt s stEpoch 0 0xFFFF
  else if a % 8192 ≠ 0 ∨ a < fillingSpectrum s + 16384 then refuseAt s stBadArg 2 0xFFFF
  else if !sameShape old b then refuseAt s stBadArg 2 (b.dirIndex.getD 0 0xFFFF)
  else if !beaconLanesOk b s then refuseAt s stBadArg 2 (constIndex b)
  else match tryChangeover b (a / 8192) t s with
    | .error w => refuseAt s w.1.1 w.1.2 w.2
    | .ok c =>
      let oldSets := (s.aba.sched.map (·.sets)).getD 0
      if !wholeOk b s c || !wholeOk.framesFit old oldSets s then refuseAt s stLimit 13 0xFFFF
      else
        let s1 := runImages (a / 8192) t (b.images.filter registered) (extendSets (setCount b) (settleGens t s))
        let s2 := registerSched a b { s1 with bun := { s1.bun with changeover := some (a, b), staged := none } }
        answer (sendNotices (some old) b a (setSlot r s2)) (activateReply b.epoch old.epoch a)

/-- A restart that activates a bundle: checks, then DP leaves Run; from NO_BUNDLE it is powered at once. -/
def restartWith (r : Req) (b : Bundle) (t : Nat) (s : State) : Out :=
  if !beaconLanesOk b s then refuseAt s stBadArg 2 (constIndex b)
  else
    let c := freshConfig b { s with hop := {}, aba := { phys := s.aba.phys }, sys := { s.sys with dp := .run } }
    match tryImages b 0 t b.images { c with bun := { c.bun with applying := true } } with
    | .error w => refuseAt s w.1.1 w.1.2 w.2
    | .ok c =>
      if !wholeOk b s c then refuseAt s stLimit 13 0xFFFF
      else
        let s1 := { s with bun := { s.bun with coming := some b } }
        if dpRun s then { st := leaveRun .activate false s1, stay := some .staged }
        else
          { st := dpUp .activate (setSlot r { s1 with bun := { s1.bun with staged := none } }), stay := some .committed }

/-- BUNDLE_ACTIVATE (Table 16.9). A restart needs DP in Run, or the state NO_BUNDLE. -/
def bundleActivate (r : Req) (t : Nat) (s : State) : Out :=
  if 1 < b8 r 32 ∨ 1 < b8 r 34 then refuseAt s stBadArg 2 0xFFFF
  else if 1 < b8 r 33 then refuseAt s stBadArg 1 0xFFFF
  else if !dpRun s && !(decide (s.shift.dev = .noBundle) && decide (s.sys.dp = .off)) then refuseAt s stNotInState 12 0xFFFF
  else match s.bun.staged with
    | none => refuseAt s stNotInState 0 0xFFFF
    | some b =>
      if s.bun.changeover.isSome || s.pwr.leaving.isSome || s.pwr.returning.isSome then refuseAt s stNotInState 0 0xFFFF
      else if (r.body.drop 16).take 16 ≠ b.digest then refuseAt s stDigest 0 0xFFFF
      else if b8 r 32 = 0 then
        match s.bun.active with
        | some old => if s.hop.running then changeOver r b old t s else refuseAt s stNotInState 0 0xFFFF
        | none => refuseAt s stNotInState 0 0xFFFF
      else if tooHot s then refuseAt s stNotInState 0 0xFFFF
      else restartWith r b t s

def execBundleActivate (r : Req) (t : Nat) (s : State) : Host.Outcome State Fault Refusal :=
  .next (runCommand 0x0202 bundleActivate r t s)

/-! The end of a return to Run. -/

/-- The bundle to come takes effect with its images (16 R402); `k0` is the first chunk served. -/
def activateComing (b : Bundle) (k0 t : Nat) (s : State) : State :=
  runImages k0 t (b.images.filter (fun i => i.opcode != 0x0303)) (freshConfig b (settleStaged t s))

/-- First chunk that a bundle serves after an alignment at time `now`. -/
def firstChunkOf (b : Bundle) (now : Nat) : Nat := firstPosition b now / max 1 b.channels

/-- A changeover that has committed and not taken effect keeps its schedule registered (05 R98). -/
def keepChangeover (s : State) : State :=
  match s.bun.changeover with
  | some (a, b) => registerSched a b s
  | none => s

/-- DP is in Run with its bundle served: step 6 of Table 14.10. -/
def serveRun (now : Nat) (s : State) : State :=
  modShift (fun x => { x with dev := .ready }) (newSession (keepChangeover (beginRun now s)))

/-- DP is in Run, and no bundle is in force: NO_DATA. -/
def serveNoData (now : Nat) (s : State) : State :=
  modShift (fun x => { x with dev := .noData }) (newSession (beginRun now (holdBundle s)))

/-! Records of the firmware region that fail their check (R330): restored from the bundle's own copy, or left empty. -/

/-- The images of a bundle that a record of the firmware region mirrors. -/
def recordImages (b : Bundle) (r : RegionRec) : List Image :=
  b.images.filter (fun i => match r with
    | .bundle => false
    | .beams => genOp i.opcode || i.opcode == 0x0503
    | .assay => i.opcode == 0x0601
    | .trigger => i.opcode == 0x0604
    | .image c => i.opcode == 0x0602 && decide (u8 i.body 0 = c))

/-- The record is left empty: the settings that it holds are those of reset. Without a bundle none is active. -/
def emptyRecord (r : RegionRec) (s : State) : State :=
  match r with
  | .bundle => { s with bun := { s.bun with active := none, changeover := none, past := none } }
  | .beams => modBeams (fun x => { sets := List.replicate x.sets.length {} }) s
  | .assay => { s with assay := {} }
  | .trigger => modTrig (fun t =>
      let d : Trig := {}
      { t with conds := d.conds, outs := d.outs, filter := d.filter, falling := d.falling }) s
  | .image c => modAyr c (fun x => { x with state := .empty, image := [], ownFirst := 0, ownCount := 0 }) s

/-- A record that fails its check; `k0` is the first chunk served. -/
def restoreRecord (k0 t : Nat) (s : State) (r : RegionRec) : State :=
  let e := emptyRecord r s
  match e.bun.active with
  | some b => runImages k0 t (recordImages b r) e
  | none => e

/-- Step 4 of Table 14.10: the records `bad` of the firmware region fail, and LOG_BAD is set. `now` is the array time. -/
def restoreRegion (bad : List RegionRec) (now : Nat) (s : State) : State :=
  if bad.isEmpty then s else
    let k0 := match s.bun.active with | some b => firstChunkOf b now | none => 0
    modShift (fun x => { x with logBad := true }) (bad.foldl (restoreRecord k0 (now % 2 ^ 64)) s)

/-- The bundle and its beam sets that the return will serve. -/
def bundleToServe (s : State) : Option (Bundle × Nat) :=
  match s.bun.coming with
  | some b => some (b, setCount b)
  | none => s.bun.active.map (fun b => (b, setCount b))

/-- Frames and lanes admit a bundle, and its prompt work (01 R11, R17, R18; 02 R41; 05 R102). -/
def returnAdmits (b : Bundle) (n : Nat) (s : State) : Bool :=
  framesAdmit b n s && decide (lanesResult (some b) s ≠ 3) &&
  (promptCount s == 0 || promptFits b.channels (promptCount s) (activeGroups b).length (frameCount s))

/-- The end of Table 14.10 once the lanes have settled: the bundle is served, or held. -/
def finishReturn (now : Nat) (s0 : State) : State :=
  let s := modShift (fun x => { x with s5 := lanesResult ((bundleToServe s0).map (·.1)) s0 }) s0
  match bundleToServe s with
  | none =>
    let u := serveNoData now s
    if s.bun.staged.isSome then u else modShift (fun x => { x with dev := .noBundle }) u
  | some (b, n) =>
    if returnAdmits b n s then
      match s.bun.coming with
      | some c =>
        let old := s.bun.active
        let k0 := firstChunkOf c now
        sendNotices old c (8192 * k0) (serveRun now (activateComing c k0 (now % 2 ^ 64) s))
      | none => serveRun now s
    else serveNoData now { s with bun := { s.bun with active := some b, coming := none } }

/-- Reply of the command that asked for the return. A bundle that turns out not to fit is held, and its activation refused with
LIMIT (01 R11; log 55). -/
def returnReply (oldEpoch : Nat) (s : State) (o : OpenCmd) : Reply :=
  if o.req.opcode = 0x0202 then
    { result := match s.bun.active with
        | some b => activateReply b.epoch oldEpoch (8192 * (s.hop.first / max 1 b.channels))
        | none => fields [(36, leBytes 2 0xFFFF)]
      status := if s.bun.active.isSome then stOk else stLimit
      detail := if s.bun.active.isSome then 0 else 13 }
  else { result := fields [(24, leBytes 1 s.shift.dev.code)] }

/-- Step 2: the frame tests, and the map. `pass` are the physical frames that pass (05 R89 to R91). -/
def testFrames (pass : Nat) (s : State) : State :=
  if s.pwr.retStep = 0 then modPwr (fun p => { p with retStep := 1 }) (mapAll pass true s) else s

/-- Steps 4 and 5, once the records found open are closed (06 R134): the lane images of the bundle to come, and S5. -/
def restartLanes (t : Nat) (s : State) : State :=
  if s.pwr.retStep = 1 ∧ s.tal.sweep = none then
    modShift (fun x => { x with s5 := 3 }) (modPwr (fun p => { p with retStep := 2 })
      (startLanes (decide (s.shift.s5 = 3)) (comingLanes t s)))
  else s

/-- R339: the return to Run goes on in the order of Table 14.10, and ends at array time `now` in 2^-16 ns once the lanes have
settled (log 131). `pass` are the physical frames that pass their test (R89), `bad` the records of the firmware region whose check
fails (R330). -/
def execDpReturnComplete (pass : Nat) (bad : List RegionRec) (now : Nat) (s : State) : Host.Outcome State Fault Refusal :=
  .next (match s.pwr.returning with
    | none => s
    | some _ =>
      let s := restartLanes (now % 2 ^ 64) (testFrames pass s)
      if s.pwr.retStep ≠ 2 || !lanesSettled s then s
      else withBell (fun s =>
        let old := epochNow s
        let s := finishReturn now (restoreRegion bad now s)
        let s := wndResume (modPwr (fun p => { p with returning := none, cause := setBits p.cause [2] }) s)
        finishOpen (fun o => isOp 0x0D06 o || isOp 0x0103 o || isOp 0x0202 o) (returnReply old s) (now % 2 ^ 64) s) s)

end Sys2Proof.Machine
end

