-- ==== Sys2Proof/Machine/ShiftCtl.lean ====
section
/-! DEFINITION. The shift controller, the boot ledger and the identity and shift registers (14 R318 to R330, R336 to R342). -/

namespace Sys2Proof.Machine

def devCause (ks : List Nat) (s : State) : State := modShift (fun x => { x with cause := setBits x.cause ks }) s

def coreAt (s : State) (c : Nat) : CoreState := s.shift.core.getD c .faulty

/-- A core changes state; one that enters BOOTING or REPAIR starts from the boot ROM (15 R344), and the march test leaves its
core-local SRAM at 0 (log 128). -/
def setCore (c : Nat) (st : CoreState) (s : State) : State :=
  let s := modShift (fun x => { x with
    core := upd x.core c (fun _ => st)
    coreMem := if st = .booting ∨ st = .repair then upd x.coreMem c (fun _ => []) else x.coreMem }) s
  if st = .booting ∨ st = .repair then modPwr (fun p => { p with remap := upd p.remap c (fun _ => false) }) s else s

/-- A core fails for good until the next reset (R327). -/
def coreFaulty (c : Nat) (s : State) : State := devCause [2] (setCore c .faulty s)

/-- No core can take the shift (R328). -/
def controlDown (s : State) : State := devCause [3] (modShift (fun x => { x with onShift := 3, incoming := none }) s)

/-- The lowest core in a state. -/
def coreIn (s : State) (st : CoreState) : Option Nat := (upTo 2).find? (fun c => decide (coreAt s c = st))

/-- A core for the shift: one READY comes in; else one is awaited in, or sent to, its repair pass; else none is left
(Table 14.3 step 2, R326, R328). -/
def seekCore (s : State) : State :=
  match coreIn s .ready with
  | some c => modShift (fun x => { x with incoming := some c }) (setCore c .booting s)
  | none =>
    match coreIn s .repair with
    | some _ => s
    | none =>
      match (coreIn s .relinquished).orElse (fun _ => coreIn s .off) with
      | some c => setCore c .repair s
      | none => controlDown s

/-- The core is stopped and the reason is kept (R320, Table 14.13). -/
def countRelinquish (c reason : Nat) (s : State) : State :=
  modShift (fun x => { x with relinq := upd x.relinq c (fun n => min 15 (n + 1)), lastReason := reason })
    (setCore c .relinquished s)

/-- Causes of a relinquish: WDT_EXPIRED for reason WATCHDOG. -/
def reasonCause (reason : Nat) (s : State) : State := if reason = 1 then devCause [4] s else s

/-- The jobs of the Expander are lost; their commands are executed afresh (R326, R324). -/
def loseJobs (s : State) : State := modHst (fun h => { h with jobs := [], expRunning := false }) s

/-- R320: the core on shift relinquishes, and the shift change begins (Table 14.3 step 1). -/
def relinquish (reason : Nat) (s : State) : State :=
  let c := s.shift.onShift
  seekCore (modShift (fun x => { x with onShift := 2, incoming := none })
    (devCause [0] (reasonCause reason (countRelinquish c reason (loseJobs s)))))

/-! Stage records (R333). -/

def stageRec (s : State) (k : Nat) : StageRec := s.shift.stages.getD k {}

def modStage (k : Nat) (f : StageRec → StageRec) (s : State) : State :=
  modShift (fun x => { x with stages := upd x.stages k f }) s

/-- Does a stage take its altered retry (R333)? S2 and S5 follow their own rules, S6 an end DEGRADED, and S7 has none (Table
14.7). A stage that this boot has entered before goes on in the way it began. -/
def retryNow (s : State) (k : Nat) : Bool :=
  let r := stageRec s k
  if bit s.shift.ran k then r.altered
  else if k = 2 then decide (r.result = 3)
  else if k = 5 then decide (s.shift.s5 = 3)
  else if k = 6 then decide (r.result = 2) && !r.altered
  else decide (k < 7) && decide (r.result = 3) && !r.altered

/-- Pit memory trains from the start of S2 (Table 12.8). -/
def enterTraining (k : Nat) (s : State) : State := if k = 2 then modPit (fun p => { p with state := .training }) s else s

/-- A stage starts: its record says FAILED until it ends (R333). -/
def enterStage (k : Nat) (s : State) : State :=
  let a := retryNow s k
  enterTraining k (modShift (fun x => { x with
    stage := k, ran := x.ran ||| 2 ^ k, altered := (x.altered ^^^ (x.altered &&& 2 ^ k)) ||| 2 ^ k * b2n a })
    (modStage k (fun r => { r with
      result := 3, altered := a, attempts := sat32 (r.attempts + 1), failures := sat32 (r.failures + 1) }) s))

/-- A boot is in progress: the core that runs it. -/
def bootingCore (s : State) : Option Nat :=
  if released s && decide (s.shift.dev = .booting) && s.shift.incoming.isNone then coreIn s .booting else none

/-- Result of a stage in BOOT_STAT (Table 14.12). -/
def setResult (k v : Nat) (s : State) : State := modShift (fun x => { x with results := upd x.results k (fun _ => v) }) s

/-- Table 14.4: a trigger during boot stages S0 to S6. The stage counts as FAILED; the other core starts at S0 and goes on
at the start of that stage. -/
def bootTrigger (c reason : Nat) (s : State) : State :=
  let k := s.shift.bootResume.getD s.shift.stage
  let s := reasonCause reason (countRelinquish c reason (devCause [7] (setResult s.shift.stage 3 s)))
  let o := 1 - c
  if coreAt s o = .ready ∨ coreAt s o = .off then
    enterStage 0 (setCore o .booting (modShift (fun x => { x with bootResume := some k }) s))
  else controlDown s

/-- The incoming core fails its check: FAULTY, and the outgoing core has its repair pass at once (Table 14.4). -/
def takeoverFail (c : Nat) (s : State) : State := seekCore (modShift (fun x => { x with incoming := none }) (coreFaulty c s))

/-- A hardware or firmware trigger of Table 14.2 meets the core that runs. -/
def trigger (reason : Nat) (s : State) : State :=
  if s.shift.onShift < 2 then relinquish reason s
  else match s.shift.incoming with
    | some c => takeoverFail c s
    | none => match bootingCore s with
      | some c => if s.shift.stage < 7 then bootTrigger c reason s else s
      | none => s

/-- R321: `ms` milliseconds pass on the watchdog of the core on shift. -/
def execWatchdogExpiry (ms : Nat) (s : State) : Host.Outcome State Fault Refusal :=
  .next (if 2 ≤ s.shift.onShift then s
    else if s.shift.wdtLeft ≤ ms then withBell (trigger 1) s
    else modShift (fun x => { x with wdtLeft := x.wdtLeft - ms }) s)

/-- Is an agent (0 host, 1 core A, 2 core B, 3 Winder, 4 JTAG) the core on shift? -/
def isOnShift (s : State) (agent : Nat) : Bool := decide (s.shift.onShift < 2) && decide (agent = s.shift.onShift + 1)

/-- SHIFT_WDT_KICK: any write by the core on shift. -/
def wdtKick (agent : Nat) (s : State) : State :=
  if isOnShift s agent then modShift (fun x => { x with wdtLeft := x.wdtCfg }) s else s

def execShiftWdtKick (agent : Nat) (s : State) : Host.Outcome State Fault Refusal := .next (wdtKick agent s)

/-- Every command taken has reached its commit point, but for SHIFT_HANDOVER itself (R322). -/
def allCommitted (s : State) : Bool := s.cages.openCmds.all (fun o => isOp 0x0D02 o || decide (o.phase = .committed))

/-- SHIFT_RELINQUISH: reasons that Table 14.2 does not use are discarded (00 R2). A PLANNED relinquish is the commit point of
SHIFT_HANDOVER, and waits for the commit points of the others (R322). -/
def shiftRelinquish (agent v t : Nat) (s : State) : State :=
  let reason := v % 16
  if !isOnShift s agent then s
  else if !inRange 1 7 reason then discardInput s
  else if reason = 6 then (if allCommitted s then relinquish 6 (commitOpen (isOp 0x0D02) t s) else s)
  else relinquish reason s

def execShiftRelinquish (agent v t : Nat) (s : State) : Host.Outcome State Fault Refusal :=
  .next (withBell (shiftRelinquish agent v t) s)

def execCoreMemUe (s : State) : Host.Outcome State Fault Refusal := .next (withBell (trigger 2) s)

def execBusHang (s : State) : Host.Outcome State Fault Refusal := .next (withBell (trigger 7) s)

/-- R321: the periodic self-test of the core on shift. -/
def execSelfTest (ok : Bool) (s : State) : Host.Outcome State Fault Refusal :=
  .next (if ok || decide (2 ≤ s.shift.onShift) then s else withBell (trigger 4) s)

/-- Table 14.4: the incoming core fails step 3 of Table 14.3, or its firmware image cannot be verified. -/
def execTakeoverFailed (s : State) : Host.Outcome State Fault Refusal :=
  .next (match s.shift.incoming with
    | some c => withBell (takeoverFail c) s
    | none => s)

/-- R327: a repair pass ends; a core that passes records the shift number. With no core on shift and no boot under way, the core that passes comes in. -/
def repairEnd (c : Nat) (ok : Bool) (s : State) : State :=
  let s := if ok ∧ s.shift.relinq.getD c 0 < 3 then
      setCore c .ready (modShift (fun x => { x with coreLog := upd x.coreLog c (fun _ => x.shiftNo) }) s)
    else coreFaulty c s
  if s.shift.onShift = 2 ∧ s.shift.incoming = none ∧ bootingCore s = none ∧ s.shift.dev ≠ .halted then seekCore s else s

def execRepairPassEnd (c : Nat) (ok : Bool) (s : State) : Host.Outcome State Fault Refusal :=
  .next (if coreAt s c = .repair then withBell (repairEnd c ok) s else s)

/-! Takeover (R324, R354; Table 14.3 steps 5 to 7). -/

/-- Sources active on a core's target become pending again (15 R354). -/
def rependActive (t : Nat) (b : Bell) : Bell :=
  { b with pend := b.pend ||| maskOf (b.active.getD t []), active := upd b.active t (fun _ => []) }

/-- Sources steered to `out` go to `dest`, and the two cores' claim slots change places in every mask (Table 14.3 step 6). -/
def steerBell (out dest : Nat) (b : Bell) : Bell :=
  let slotsOf := fun (t : Nat) => maskOf ((upTo 8).filter (fun k => decide (b.claimTgt.getD k 64 = t)))
  let a := slotsOf out
  let z := slotsOf dest
  let swap := fun (m : Nat) =>
    let rest := m ^^^ (m &&& (a ||| z))
    rest ||| (if m &&& a ≠ 0 then z else 0) ||| (if m &&& z ≠ 0 then a else 0)
  { b with route := b.route.map (fun r =>
      let tgt := r / 65536 % 64
      65536 * (if tgt = out then dest else tgt) + swap (r % 256)) }

/-! The shift log (R323, R329, Table 14.5). -/

def phaseCode : CmdPhase → Nat
  | .accepted => 0 | .staged => 1 | .committed => 2

/-- A journal entry: its five fields, and the CRC-32 of its first 60 bytes. The places of the fields are the model's (log 132). -/
def journalEntry (o : OpenCmd) : List Byte :=
  withTrailer (padTo 60 (leBytes 2 o.req.client ++ leBytes 2 o.req.tag ++ leBytes 2 o.req.opcode ++ leBytes 2 (phaseCode o.phase) ++
    leBytes 16 o.digest))

/-- The header: magic, shift number, FW_DIGEST, base of the firmware region and journal head (Table 14.5; log 132). -/
def logHeader (s : State) : List Byte :=
  leBytes 4 0x53484C47 ++ leBytes 4 s.shift.shiftNo ++ padTo 16 (s.shift.flash.digests.getD 0 []) ++
  leBytes 8 (4096 * (s.bun.active.map (·.fwBase)).getD 0) ++ leBytes 4 (s.cages.openCmds.length % 512)

/-- A record read back with some of its bits changed. -/
def flipBits (flips : Nat) (b : List Byte) : List Byte := leBytes b.length (leAt b 0 b.length ^^^ flips)

/-- A 64-byte record fails its CRC (R329). -/
def recordBad (flips : Nat) (b : List Byte) : Bool :=
  let c := flipBits flips b
  decide (leAt c 60 4 ≠ crc32 (c.take 60))

/-- Journal entries that fail, by client and tag. -/
def badEntries (bad : List LogFault) (s : State) : List (Nat × Nat) :=
  bad.filterMap (fun f => match f with
    | .journal c t x => match s.cages.openCmds.find? (fun o => o.req.client == c && o.req.tag == t) with
      | some o => if recordBad x (journalEntry o) then some (c, t) else none
      | none => none
    | _ => none)

/-- Entries of the reply cache that fail; their 80 bytes carry a check that any change breaks (log 132). -/
def badReplies (bad : List LogFault) : List (Nat × Nat) :=
  bad.filterMap (fun f => match f with
    | .reply c t x => if x % 2 ^ 640 = 0 then none else some (c, t)
    | _ => none)

/-- A record of the device checkpoint fails. -/
def badCheckpoint (bad : List LogFault) : Bool :=
  bad.any (fun f => match f with
    | .checkpoint x => decide (x % 2 ^ 512 ≠ 0)
    | _ => false)

/-- A record whose check fails is absent, and LOG_BAD is set (R329): a command of the journal is forgotten, and a reply of the
cache. What the device checkpoint mirrors stands in the blocks themselves. -/
def dropJournal (bad : List LogFault) (s : State) : State :=
  let open_ := badEntries bad s
  let done_ := badReplies bad
  let lost := fun (client : Nat) (e : CacheEntry) =>
    if e.done.isNone then open_.contains (client, e.tag) else done_.contains (client, e.tag)
  if open_.isEmpty && done_.isEmpty && !badCheckpoint bad then s else
    modShift (fun x => { x with logBad := true }) (modCages (fun g => { g with
      openCmds := g.openCmds.filter (fun o => !open_.contains (o.req.client, o.req.tag))
      places := g.places.map (fun p => { p with entries := p.entries.filter (fun e => !lost p.client e) }) }) s)

/-- The incoming core becomes ON_SHIFT, the cages reopen, and the outgoing core's repair pass begins. -/
def takeShift (c : Nat) (s : State) : State :=
  let out := 1 - c
  let s := modBell (fun b => steerBell out c (rependActive out b)) s
  let s := devCause [1] (modShift (fun x => { x with
    onShift := c, incoming := none, count := sat32 (x.count + 1), wdtLeft := x.wdtCfg, shiftNo := x.shiftNo + 1 }) (setCore c .onShift s))
  if coreAt s out = .relinquished then setCore out .repair s else s

/-! Commands. -/

/-- SHIFT_HANDOVER (R322): it commits with the relinquish, and the new core sends its completion. -/
def shiftHandover (_ : Req) (_ : Nat) (s : State) : Out :=
  if coreAt s (1 - s.shift.onShift) = .ready then { st := s, stay := some .accepted } else notInState s

def execShiftHandover (r : Req) (t : Nat) (s : State) : Host.Outcome State Fault Refusal :=
  .next (runCommand 0x0D02 shiftHandover r t s)

/-- SHIFT_STAT (Table 14.13). -/
def shiftStat (x : Shift) : Nat :=
  2 ^ 29 * (x.core.getD 0 .off).code + 2 ^ 26 * (x.core.getD 1 .off).code + 2 ^ 24 * x.onShift + 2 ^ 20 * x.lastReason +
  2 ^ 19 * b2n x.logBad + 4096 * x.relinq.getD 0 0 + 256 * x.relinq.getD 1 0

/-- BOOT_STAT (Table 14.12). -/
def bootStat (x : Shift) : Nat :=
  2 ^ 28 * x.stage + 2 ^ 27 * b2n x.done + 2 ^ 24 * x.dev.code + 65536 * (x.altered % 256) +
  ((upTo 8).map (fun k => 4 ^ k * (x.results.getD k 0 % 4))).sum

/-- RESET_CAUSE (Table 14.12). -/
def resetCauseReg (x : Shift) : Nat := 65536 * x.hardResets + x.resetCause

def shiftStatus (_ : Req) (_ : Nat) (s : State) : Out :=
  answer s (fields [(24, leBytes 4 (shiftStat s.shift)), (28, leBytes 4 s.shift.count),
    (32, leBytes 4 (resetCauseReg s.shift)), (36, leBytes 4 (bootStat s.shift))])

def execShiftStatus (r : Req) (t : Nat) (s : State) : Host.Outcome State Fault Refusal :=
  .next (runCommand 0x0D01 shiftStatus r t s)

/-! The boot ledger (Table 14.9). The order of the fields inside its header, its stage records and its migration record is the
model's (log 32). -/

/-- A lane record (02 Table 2.8). -/
def laneRecWord (r : LaneRec) : Nat := 2 ^ 31 * b2n r.valid + 65536 * wrap 8 r.tap1 + 256 * r.ctle + r.rate

def stageBytes (r : StageRec) : List Byte :=
  leBytes 1 r.result ++ leBytes 3 (b2n r.altered) ++ leBytes 4 r.attempts ++ leBytes 4 r.failures ++ leBytes 4 r.duration

def migBytes (p : Pit) : List Byte :=
  (match p.mig with
   | some m => leBytes 4 m.m ++ leBytes 1 m.logical ++ leBytes 1 m.source ++ leBytes 1 m.target ++ leBytes 1 1
   | none => leBytes 8 0) ++ padTo 8 (p.queue.map (BitVec.ofNat 8))

def ledgerHead (s : State) : List Byte :=
  let x := s.shift
  padTo 64 (leBytes 4 0x4C444752 ++ leBytes 4 (b2n x.cold) ++ leBytes 4 x.boots ++ leBytes 4 x.lastKind) ++
  (upTo 8).flatMap (fun k => stageBytes (x.stages.getD k {})) ++
  padTo 64 (leBytes 4 (x.bootCore % 2 + 256 * (x.slot % 2))) ++
  s.lanes.records.flatMap (fun r => leBytes 4 (laneRecWord r))

def ledgerTail (s : State) : List Byte :=
  leBytes 8 s.sys.faultMask ++ padTo 56 (s.sys.frameMap.map (BitVec.ofNat 8)) ++
  padTo 64 (s.pit.rankMap.map (BitVec.ofNat 8)) ++
  padTo 32 ((upTo 32).map (fun i => BitVec.ofNat 8 ((s.pit.rankState.getD (2 * i) .absent).code +
    16 * (s.pit.rankState.getD (2 * i + 1) .absent).code))) ++ padTo 96 (migBytes s.pit) ++
  padTo 64 (leBytes 4 (s.shift.sessionRec.getD 0)) ++
  padTo 192 ((upTo 15).flatMap (fun i => leBytes 8 ((s.shift.seqRec.getD i none).getD 0)))

def trainBytes (s : State) : List Byte :=
  (upTo 32).flatMap (fun c => (upTo 256).map (fun i =>
    if s.shift.trained.getD c false then BitVec.ofNat 8 (Config.trainByte c i) else 0))

/-- The 16 KiB of the ledger. -/
def ledgerBytes (s : State) : List Byte :=
  padTo 16384 (padTo 512 (ledgerHead s) ++ padTo 512 (ledgerTail s) ++ trainBytes s)

/-- LEDGER_READ. -/
def ledgerRead (r : Req) (_ : Nat) (s : State) : Out :=
  let n := b16 r 26
  if n % 4 ≠ 0 ∨ 16384 < b16 r 24 + n then badRange s
  else { st := s, reply := { block := some ((ledgerBytes s).drop (b16 r 24) |>.take n) } }

def execLedgerRead (r : Req) (t : Nat) (s : State) : Host.Outcome State Fault Refusal :=
  .next (runCommand 0x0D03 ledgerRead r t s)

/-- LEDGER_CLEAR (R338). -/
def ledgerClear (r : Req) (_ : Nat) (s : State) : Out :=
  if b32 r 24 ≠ 0x434C5231 then badRange s
  else answer
    { s with lanes := { s.lanes with records := List.replicate 64 {} }, sys := { s.sys with faultMask := 0 }
             shift := { s.shift with stages := List.replicate 8 {}, s5 := 0, trained := List.replicate 32 false } } []

def execLedgerClear (r : Req) (t : Nat) (s : State) : Host.Outcome State Fault Refusal :=
  .next (runCommand 0x0D04 ledgerClear r t s)

/-- R227, R336: the record of a stream whose counter has left 0 or passed a multiple of 2^32, or of a new session number. -/
def persistWrite (kind : Nat) (s : State) : State :=
  if kind = 255 then
    match s.shift.sessionRec with
    | some n => if persisted s.shift.flash 255 = some n then s else appendPersist 255 n s
    | none => s
  else
    let q := s.hst.seq.getD kind 0
    if 15 ≤ kind ∨ q = 0 ∨ s.shift.seqRec.getD kind none = some (q / 2 ^ 32) then s
    else appendPersist kind (q / 2 ^ 32) (modShift (fun x => { x with seqRec := upd x.seqRec kind (fun _ => some (q / 2 ^ 32)) }) s)

def execPersistRecordWrite (kind : Nat) (s : State) : Host.Outcome State Fault Refusal :=
  .next (if s.shift.onShift < 2 ∧ supplyOn s vioM then persistWrite kind s else s)

/-! Registers (Tables 14.12 to 14.14). -/

/-- R341: an access is refused or discarded. KIND 0 narrow, 1 wide, 2 unaligned, 3 forbidden agent. -/
def accessErr (kind agent off : Nat) (s : State) : State :=
  devCause [5] (modShift (fun x =>
    if x.accErr then x else { x with accErr := true, accKind := kind, accAgent := agent, accOff := off % 2 ^ 26 }) s)

def idRev : Nat := 65536 + 256 * (Config.stepping % 256) + Config.romVersion % 256

def idDie : Nat := 65536 * (Config.idWafer % 32) + 256 * (Config.idDieY % 256) + Config.idDieX % 256

def frameMapWord (x : Shift) (m : Nat) : Nat := ((upTo 4).map (fun j => 256 ^ j * (x.idMap.getD (4 * m + j) 0 % 256))).sum

def shiftReg (x : Shift) (off : Nat) : Nat :=
  if 0x20 ≤ off ∧ off < 0x44 then frameMapWord x ((off - 0x20) / 4)
  else match off with
    | 0x000 => 0x4F5A2048 | 0x004 => idRev | 0x008 => Config.idLot % 2 ^ 32 | 0x00C => Config.idLot / 2 ^ 32 % 65536
    | 0x010 => idDie | 0x100 => shiftStat x | 0x104 => x.cause | 0x108 => x.irqEn | 0x10C => x.count | 0x110 => x.wdtCfg
    | 0x118 => x.ceLimit
    | 0x120 => 2 ^ 31 * b2n x.accErr + 2 ^ 29 * x.accKind + 2 ^ 26 * x.accAgent + x.accOff
    | 0x124 => bootStat x | 0x128 => resetCauseReg x | _ => 0

/-- A write to the shift block by an agent at time `t`. -/
def shiftWrite (agent off v t : Nat) (s : State) : State :=
  match off with
  | 0x104 => modShift (fun x => { x with cause := w1c x.cause v }) s
  | 0x108 => modShift (fun x => { x with irqEn := v % 256 }) s
  | 0x110 =>
    if !isOnShift s agent then accessErr 3 agent off s
    else if inRange 1 10000 (v % 16384) then modShift (fun x => { x with wdtCfg := v % 16384 }) s else discardInput s
  | 0x114 => wdtKick agent s
  | 0x118 =>
    if !isOnShift s agent then accessErr 3 agent off s
    else if v % 65536 = 0 then discardInput s else modShift (fun x => { x with ceLimit := v % 65536 }) s
  | 0x11C => shiftRelinquish agent v t s
  | 0x120 => if bit v 31 then modShift (fun x => { x with accErr := false }) s else s
  | 0x12C => resetReq agent v s
  | _ => s

end Sys2Proof.Machine
end

