-- ==== Sys2Proof/Machine/Boot.lean ====
section
/-! DEFINITION. The end of a reset and the boot stages (14 R332 to R336, Table 14.7). -/

namespace Sys2Proof.Machine

/-- A stage ends with result 1 OK, 2 DEGRADED or 3 FAILED after `dur` µs. -/
def endStage (k result dur : Nat) (s : State) : State :=
  let s := setResult k result (modStage k (fun r => { r with
    result := result, duration := dur, failures := if result = 3 then r.failures else r.failures - 1 }) s)
  if result = 3 then devCause [7] s else s

/-- Skip to S7 with a device state (Table 14.7). -/
def skipTo (d : DevState) (s : State) : State := enterStage 7 (modShift (fun x => { x with bootTo := d }) s)

/-- A stage may end: a core boots, and the stage is the one that runs. -/
def atStage (k : Nat) (s : State) : Bool := (bootingCore s).isSome && decide (s.shift.stage = k)

/-! The end of a reset. -/

/-- The core that boots (R332): the one that BOOT_CORE names, or the other when S0 ended FAILED on it. -/
def firstCore (s : State) : Nat :=
  let c := if s.shift.cold then 0 else s.shift.bootCore % 2
  if retryNow s 0 then 1 - c else c

/-- The boot begins: the last boot's stages that did not run count as NONE. -/
def startBoot (s : State) : State :=
  let s := modShift (fun x => { x with
    held := .none, boots := sat32 (x.boots + 1)
    stages := x.stages.zipIdx.map (fun r => if bit x.ran r.2 then r.1 else { r.1 with result := 0 })
    ran := 0, done := false, dev := .booting, altered := 0, results := List.replicate 8 0, bootTo := .ready, bootResume := none
    onShift := 2, incoming := none }) s
  enterStage 0 (setCore (firstCore s) .booting s)

/-- R438: the reset line is released, with VIN and VAUX in range; it is VAUX's return that this event tells of. -/
def execResetRelease (s : State) : Host.Outcome State Fault Refusal :=
  .next (if !released s && supplyOn s vin && !s.pwr.shutOff then
      withBell (fun s => startBoot (modCages (fun c => { c with endpointUp := !s.shift.perst })
        (modPwr (fun p => { p with supply := upd p.supply vaux (fun _ => true) }) s))) s
    else s)

/-! S0 to S3. -/

/-- S5 starts: the bundle's lane images, then every enabled lane (02 R41). -/
def startS5 (t : Nat) (s : State) : State :=
  let s := enterStage 5 (comingLanes t s)
  startLanes (bit s.shift.altered 5) (modShift (fun x => { x with s5 := 3 }) s)

/-- S0 has passed on the booting core: the boot goes on, or resumes where a shift change cut it (Table 14.4). -/
def afterS0 (t : Nat) (s : State) : State :=
  let k := max 1 (s.shift.bootResume.getD 1)
  let s := modShift (fun x => { x with bootResume := none }) s
  if k = 5 then startS5 t s else enterStage k s

/-- S0 has failed: the other core boots from S0; if both fail, the device halts. -/
def s0Failed (c : Nat) (s : State) : State :=
  let s := coreFaulty c s
  let o := 1 - c
  if coreAt s o = .off ∨ coreAt s o = .ready then enterStage 0 (setCore o .booting s)
  else controlDown (modShift (fun x => { x with dev := .halted }) s)

/-- Stage S0, ROM digest and SRAM march on the booting core, ends after `dur` µs. -/
def execBootS0 (ok : Bool) (dur : Nat) (s : State) : Host.Outcome State Fault Refusal :=
  .next (match bootingCore s with
    | some c =>
      if s.shift.stage ≠ 0 then s
      else withBell (fun s => if ok then afterS0 (timeNow s) (endStage 0 1 dur s) else s0Failed c (endStage 0 3 dur s)) s
    | none => s)

/-- Stage S1, XO check and clock synthesis; its altered retry starts on the backup oscillator (13 R309). -/
def execBootS1 (ok : Bool) (dur : Nat) (s : State) : Host.Outcome State Fault Refusal :=
  .next (if !atStage 1 s then s else withBell (fun s =>
    let s := if bit s.shift.altered 1 then loseXo s else s
    if ok then enterStage 2 (endStage 1 1 dur s) else modShift (fun x => { x with dev := .halted }) (endStage 1 3 dur s)) s)

/-- A rank after its training: ABSENT ones leave the map to the lowest spare that passed (12 R269). -/
def absentRank (bad : List Nat) (p : Pit) (r : Nat) : Pit :=
  if rankSt p r = .retired then p
  else match p.rankMap.findIdx? (fun k => k == r) with
    | none => setRank r .absent p
    | some l =>
      match (upTo 64).find? (fun k => decide (rankSt p k = .spare) && !bad.contains k) with
      | some k => setRank k .inService { setRank r .absent p with rankMap := upd p.rankMap l (fun _ => k) }
      | none => setRank r .absent p

/-- Ranks ABSENT before this S2 are tried again. -/
def retryRanks (p : Pit) : Pit :=
  { p with rankState := p.rankState.zipIdx.map (fun x =>
      if x.1 = .absent then (if p.rankMap.contains x.2 then .inService else .spare) else x.1) }

/-- A channel has trained when one of its two ranks has. -/
def channelTrained (bad : List Nat) (c : Nat) : Bool := !(bad.contains (2 * c) && bad.contains (2 * c + 1))

/-- S2 over pit memory: an interrupted migration ends, ranks that fail leave, memory is zero (12 R269, Table 12.7). -/
def trainPit (bad : List Nat) (full : Nat) (alt : Bool) (p : Pit) : Pit :=
  let p := match p.mig with | some m => endMigration m p | none => p
  let p := ((upTo 64).filter bad.contains).foldl (absentRank bad) (retryRanks p)
  { p with
    state := .run, mem := [], damaged := [], queue := p.queue.filter (fun r => !bad.contains r)
    chans := p.chans.zipIdx.map (fun c => { c.1 with trained := channelTrained bad c.2, fullTrain := alt || bit full c.2 }) }

/-- Physical ranks that serve a logical rank. -/
def servedRanks (p : Pit) : Nat := (p.rankMap.filter (fun r => decide (rankSt p r ≠ .absent))).length

def pitResult (p : Pit) : Nat :=
  if servedRanks p < 60 then 3 else if p.rankState.contains .absent then 2 else 1

/-- Stage S2, pit training and zero fill (12 R269). `bad` are the physical ranks that fail training, and `full` has a bit per
channel whose saved parameters failed. -/
def execBootS2 (bad : List Nat) (full dur : Nat) (s : State) : Host.Outcome State Fault Refusal :=
  .next (if !atStage 2 s then s else withBell (fun s =>
    let s := modPit (trainPit bad full (bit s.shift.altered 2)) s
    let s := modShift (fun x => { x with trained := (upTo 32).map (channelTrained bad) }) s
    let r := pitResult s.pit
    if r = 3 then skipTo .noPit (endStage 2 3 dur s) else enterStage 3 (endStage 2 r dur s)) s)

/-- The persistent records read into the boot ledger, if the area can be read (R336); after a cold reset each stream resumes two steps on (11 R227). -/
def readRecords (area : Bool) (s : State) : State :=
  let s := modShift (fun x => { x with
    persistOk := area && areaOk x.flash
    sessionRec := ((if area then persisted x.flash 255 else none)).orElse (fun _ => x.sessionRec)
    seqRec := (upTo 15).map (fun i => (if area then persisted x.flash i else none).orElse (fun _ => x.seqRec.getD i none)) }) s
  if !s.shift.seqDue then s
  else modHst (fun h => { h with seq := (upTo 15).map (fun i =>
    match s.shift.seqRec.getD i none with
    | some k => (k + 2) * 2 ^ 32 % 2 ^ 48
    | none => h.seq.getD i 0) }) (modShift (fun x => { x with seqDue := false }) s)

/-- The bundle of the slot that S3 reads, if its image has the digest of the flash directory (R335). -/
def slotBundle (s : State) : Option Bundle :=
  let slot := if bit s.shift.altered 3 then 1 - s.shift.slot % 2 else s.shift.slot % 2
  let raw := s.bun.slots.getD slot []
  if !slotMatches s.shift.flash slot raw then none
  else if !headerOk raw (raw.length - 64) then none
  else match bundleOf raw with
    | .ok b => some b
    | .error _ => none

/-- Stage S3: firmware, bundle and persistent records are read from the flash; `ok` and `area` say that the images and the
persistent record area could be read. -/
def execBootS3 (ok area : Bool) (dur : Nat) (s : State) : Host.Outcome State Fault Refusal :=
  .next (if !atStage 3 s then s else withBell (fun s =>
    let s := readRecords (area && supplyOn s vioM) s
    match (if ok && firmwareOk s.shift.flash && supplyOn s vioM then slotBundle s else none) with
    | none => skipTo .noBundle (endStage 3 3 dur s)
    | some b =>
      let s := { s with bun := { s.bun with coming := some b } }
      enterStage 4 (endStage 3 (if s.shift.persistOk then 1 else 2) dur s)) s)

/-! S4 to S7. -/

/-- A physical frame is mapped out, or a logical one is absent (05 R91). -/
def framesShort (s : State) : Bool := decide (frameCount s < 32) || s.aba.phys.any (fun p => !p.inService && !p.spare)

def comingAdmitted (s : State) : Bool :=
  match s.bun.coming with
  | some b => framesAdmit b (setCount b) s
  | none => false

/-- Stage S4: DP goes to Run, its frames are tested and mapped. `pass` has a bit per physical frame. -/
def execBootS4 (dpOk : Bool) (pass dur t : Nat) (s : State) : Host.Outcome State Fault Refusal :=
  .next (if !atStage 4 s then s else withBell (fun s =>
    if !dpOk then skipTo .noData (endStage 4 3 dur s)
    else
      let s := mapAll pass (!bit s.shift.altered 4)
        (modPwr (fun p => { p with cause := setBits p.cause [2] }) { s with sys := { s.sys with dp := .run } })
      if !comingAdmitted s then skipTo .noData (endStage 4 3 dur s)
      else startS5 t (endStage 4 (if framesShort s then 2 else 1) dur s)) s)

/-- Stage S5 ends when the lanes have settled (02 R41). -/
def execBootS5 (dur : Nat) (s : State) : Host.Outcome State Fault Refusal :=
  .next (if !atStage 5 s || !lanesSettled s then s else withBell (fun s =>
    let r := lanesResult s.bun.coming s
    let s := modShift (fun x => { x with s5 := r }) s
    if r = 3 then skipTo .noData (endStage 5 3 dur s) else enterStage 6 (endStage 5 r dur s)) s)

/-- Stage S6: the TU is locked, or the wait is over (`elapsed`); its altered retry does not wait. -/
def execBootS6 (elapsed : Bool) (dur : Nat) (s : State) : Host.Outcome State Fault Refusal :=
  .next (
    let locked := decide (s.tu.out = .locked)
    if !atStage 6 s || (!locked && !elapsed && !bit s.shift.altered 6) then s
    else withBell (fun s => enterStage 7 (endStage 6 (if locked then 1 else 2) dur s)) s)

/-- The bundle takes effect, or is held, or is absent (R334). -/
def s7Bundle (now : Nat) (s : State) : State :=
  match s.shift.bootTo, s.bun.coming with
  | .ready, some b => serveRun now (activateComing b (firstChunkOf b now) (now % 2 ^ 64) s)
  | .noData, some b =>
    let s := { s with bun := { s.bun with active := some b, coming := none } }
    if dpRun s then serveNoData now s else modShift (fun x => { x with dev := .noData }) (holdBundle s)
  | d, _ => modShift (fun x => { x with dev := d }) { s with bun := { s.bun with coming := none } }

/-- Stage S7 at array time `now` in 2^-16 ns: the cages open, the core takes the shift, and the other has its repair pass. -/
def execBootS7 (now dur : Nat) (s : State) : Host.Outcome State Fault Refusal :=
  .next (match bootingCore s with
    | some c =>
      if s.shift.stage ≠ 7 then s
      else withBell (fun s =>
        let s := s7Bundle now (endStage 7 1 dur s)
        let s := devCause [6] (setCore c .onShift s)
        let s := modShift (fun x => { x with done := true, onShift := c, wdtLeft := x.wdtCfg, shiftNo := x.shiftNo + 1 }) s
        let s := if coreAt s (1 - c) = .off ∨ coreAt s (1 - c) = .relinquished then setCore (1 - c) .repair s else s
        fetchAll s) s
    | none => s)

end Sys2Proof.Machine
end

