-- ==== Sys2Proof/Machine/DpRegs.lean ====
section
/-! DEFINITION. The registers of the blocks in the datapath domain, by offset within each block (02 Tables 2.10 to 2.13,
04 Tables 4.6 to 4.9, 05 Tables 5.7 to 5.10, 06 Tables 6.8 to 6.10, 07 Tables 7.8 to 7.11, 08 Tables 8.5 to 8.7,
09 Tables 9.12 to 9.14, 10 Tables 10.8 to 10.10, 11 Tables 11.7 to 11.9). Offsets not listed read 0 and ignore writes. -/

namespace Sys2Proof.Machine

def lo32 (n : Nat) : Nat := n % 2 ^ 32
def hi32 (n : Nat) : Nat := n / 2 ^ 32 % 2 ^ 32

/-! Reads. -/

def laneEq (l : Lane) : Nat := 2 ^ 31 * b2n l.frozen + 65536 * (l.ctle % 16) + wrap 6 l.tap6

def laneDfe (l : Lane) : Nat :=
  2 ^ 26 * wrap 6 l.tap5 + 2 ^ 20 * wrap 6 l.tap4 + 2 ^ 14 * wrap 6 l.tap3 + 256 * wrap 6 l.tap2 + wrap 8 l.tap1

def laneReg (l : Lane) (off : Nat) : Nat :=
  match off with
  | 0x00 => laneStat l | 0x04 => l.cause | 0x08 => l.irqEn | 0x0C => laneEq l | 0x10 => laneDfe l
  | 0x18 => l.codeErr | 0x1C => l.dispErr | 0x20 => l.crcErr | 0x24 => l.abortCnt | 0x28 => l.elasticCnt
  | 0x2C => l.losCnt | 0x30 => l.lolCnt | 0x34 => lo32 l.rxPkt | 0x38 => hi32 l.rxPkt
  | 0x3C => lo32 l.txPktCnt | 0x40 => hi32 l.txPktCnt | 0x44 => l.peerInfo % 256 | _ => 0

def hopStat (h : Hopper) : Nat :=
  4096 * b2n h.running + ((upTo 3).map (fun k => 8 ^ k * (h.slots.getD k {}).state.code)).sum

def lastForeignReg (h : Hopper) : Nat :=
  match h.lastForeign with
  | some (src, ep) => 2 ^ 31 + 4096 * (src % 4096) + ep % 4096
  | none => 0

def lastMisrouteReg (h : Hopper) : Nat :=
  let (reason, group, src, chan) := h.lastMisroute
  2 ^ 29 * reason + 2 ^ 24 * (group % 32) + 4096 * (src % 4096) + chan % 4096

def hopReg (h : Hopper) (off : Nat) : Nat :=
  if 0x80 ≤ off then h.grpMiss.getD ((off - 0x80) / 4) 0
  else match off with
    | 0x00 => hopStat h | 0x04 => h.cause | 0x08 => h.irqEn | 0x0C => b2n h.clearPending
    | 0x10 => lo32 h.head | 0x14 => hi32 h.head | 0x18 => lo32 h.placed | 0x1C => hi32 h.placed
    | 0x20 => lo32 h.fill | 0x24 => hi32 h.fill | 0x28 => lo32 h.sealFull | 0x2C => hi32 h.sealFull
    | 0x30 => lo32 h.sealShort | 0x34 => hi32 h.sealShort | 0x38 => h.malformed | 0x3C => h.misroute
    | 0x40 => h.foreign | 0x44 => h.early | 0x48 => h.late | 0x4C => h.dup
    | 0x50 => lastForeignReg h | 0x54 => lastMisrouteReg h
    | 0x58 => 65536 * h.cells + h.blocks.length % 4 | 0x5C => lo32 h.pbPlaced | 0x60 => hi32 h.pbPlaced
    | 0x64 => h.pbShort | 0x68 => h.pbMissing | 0x6C => h.pbLate | 0x70 => h.pbDup | 0x74 => h.pbOverflow
    | 0x78 => h.pbJump | _ => 0

def abaStat (s : State) : Nat :=
  let a := s.aba
  2 ^ 18 * frameCount s + 65536 * (match a.sched with | some c => c.mode.code | none => 3) +
  4096 * (match a.sched with | some c => c.sets | none => 0) + a.state.code

/-- ABA_PROMPT_COST: 128 × u + 400 of R101; 0 with no configuration. -/
def promptCostNow (s : State) : Nat :=
  match s.aba.sched with
  | some c => promptCost ((s.beams.prompt.map (·.channels.length)).getD 0) c.ranks.length c.frames.length
  | none => 0

def frameStat (p : PhysFrame) : Nat :=
  2 ^ 31 * b2n p.inService + 2 ^ 30 * b2n p.spare + 2 ^ 28 * p.test + 65536 * (p.logical % 32) + min 65535 p.ceCount

def abaReg (s : State) (off : Nat) : Nat :=
  let a := s.aba
  if 0x100 ≤ off ∧ off < 0x220 then
    let p := a.phys.getD ((off - 0x100) / 8) {}
    if off % 8 = 0 then frameStat p else p.cause
  else match off with
    | 0x00 => abaStat s | 0x04 => a.cause | 0x08 => a.irqEn | 0x0C => b2n a.clearPending | 0x10 => kNow s | 0x14 => sNow s
    | 0x18 => promptCostNow s | 0x1C => lo32 a.preempts | 0x20 => hi32 a.preempts
    | 0x24 => lo32 a.stallCycles | 0x28 => hi32 a.stallCycles | 0x2C => a.promptDefer | 0x30 => a.overruns
    | 0x34 => a.beadUe | 0x38 => lo32 a.drainPos | 0x3C => hi32 a.drainPos | 0x40 => a.drainSamples | _ => 0

/-- The schedule of the open integration, else the one in force. -/
def talSched (a : Tally) : Option IntegSched :=
  match a.cur with
  | some i => some i.sched
  | none => a.sched

def talStat (a : Tally) : Nat :=
  2 ^ 30 * (if a.sweep.isSome then 2 else if a.cur.isSome then 1 else 0) +
  2 ^ 28 * (match talSched a with | some c => c.format % 4 | none => 3) +
  2 ^ 27 * b2n (match talSched a with | some c => c.countPlane | none => false) +
  2 ^ 26 * b2n (match talSched a with | some c => c.length == 0 | none => false) +
  (match a.cur with
   | some i => 2 ^ 25 * b2n i.last + 2 ^ 24 * b2n (i.stop.isSome && !i.stopCommitted)
   | none => 0)

def talReg (a : Tally) (off : Nat) : Nat :=
  match off with
  | 0x00 => talStat a | 0x04 => a.cause | 0x08 => a.irqEn | 0x0C => b2n a.clearPending | 0x10 => a.integId
  | 0x14 => lo32 a.integFirst | 0x18 => hi32 a.integFirst | 0x1C => a.integCycles | 0x20 => a.ringHead | 0x24 => a.ringTail
  | 0x28 => a.ringCap | 0x2C => lo32 a.promo | 0x30 => hi32 a.promo | 0x34 => a.dumps | 0x38 => a.dumpLost
  | 0x3C => a.damaged | 0x40 => a.overlength | 0x44 => a.rescale | 0x48 => a.idlePos | 0x4C => a.inflightPeak
  | 0x50 => a.galInflight.getD 0 0 | 0x54 => a.galInflight.getD 1 0 | 0x58 => a.galInflight.getD 2 0
  | 0x5C => a.galInflight.getD 3 0 | _ => 0

/-- The beams as the registers show them: the sets of the configuration in force (R160). -/
def beamsShown (s : State) : Beams := { s.beams with sets := s.beams.sets.take (setsNow s) }

def beamStat (b : Beams) : Nat :=
  2 ^ 28 * b.sets.length +
  (match b.prompt with
   | some p => 2 ^ 27 + 2 ^ 20 * p.beams + 2 ^ 15 * p.channels.length + 2 ^ 14 * b2n p.pbeam + 2 ^ 13 * b2n p.width4
   | none => 0)

/-- A generation or bank change of the set awaits its update chunk. -/
def setPending (x : BeamSet) : Bool := x.nextParams.isSome || x.terms.next.isSome

def beamSetStat (b : Beams) (n : Nat) : Nat :=
  match b.sets[n]? with
  | some x => 2 ^ 31 + 2 ^ 30 * b2n x.params.tabulated + 2 ^ 29 * b2n x.params.width4 + 2 ^ 28 * b2n (setPending x) +
      2 ^ 27 * (x.params.bank % 2) + 2 ^ 20 * (x.params.shift % 32) + 2 ^ 15 * (x.params.powerShift % 32)
  | none => 0

def promptGenPending (b : Beams) : Bool := b.promptTerms.next.isSome || b.nextPrompt.isSome

def beamPending (b : Beams) : Nat :=
  maskOf ((upTo 9).filter (fun n => match b.sets[n]? with | some x => setPending x | none => false)) +
  512 * b2n b.inputs.next.isSome + 1024 * b2n (promptGenPending b)

def beamReg (b : Beams) (off : Nat) : Nat :=
  if 0x38 ≤ off ∧ off < 0x5C then beamSetStat b ((off - 0x38) / 4)
  else match off with
    | 0x00 => beamStat b | 0x04 => b.cause | 0x08 => b.irqEn | 0x0C => b2n b.clearPending
    | 0x10 => lo32 b.blocks | 0x14 => hi32 b.blocks | 0x18 => lo32 b.pblocks | 0x1C => hi32 b.pblocks
    | 0x20 => b.beamSat | 0x24 => b.pbeamSat | 0x28 => b.powerSat | 0x2C => b.wstall | 0x30 => b.powerGap
    | 0x34 => b.promptRestart | 0x5C => beamPending b
    | 0x60 => b2n (promptGenPending b) + 2 * b2n b.inputs.next.isSome | _ => 0

/-- Blockers frozen, of series `32 k` to `32 k + 31` (R173). -/
def frozenMask (a : Assay) (k : Nat) : Nat :=
  maskOf ((upTo 32).filter (fun i => blockerFrozen (32 * k + i) (a.series.getD (32 * k + i) {})))

def assayReg (a : Assay) (off : Nat) : Nat :=
  match off with
  | 0x00 => 2048 * b2n a.probeValid + 1024 * b2n a.running + a.slot % 1024
  | 0x04 => a.cause | 0x08 => a.irqEn | 0x0C => b2n a.clearPending
  | 0x10 => lo32 a.tours | 0x14 => hi32 a.tours | 0x18 => lo32 a.events | 0x1C => hi32 a.events | 0x20 => a.gap
  | 0x24 => a.qdrop | 0x28 => a.sat | 0x2C => a.evqLost | 0x30 => a.freezeLate | 0x34 => a.probeSel
  | 0x38 => wrap 32 a.probePeak | 0x3C => a.probeRms.getD 0xFFFFFFFF | 0x40 => lo32 a.probeEnv | 0x44 => wrap 32 a.probeDc
  | 0x48 => lo32 a.probeStamp | 0x4C => hi32 a.probeStamp | 0x50 => frozenMask a 0 | 0x54 => frozenMask a 1
  | 0x58 => (a.queues.getD 0 []).length | 0x5C => (a.queues.getD 1 []).length | 0x60 => (a.queues.getD 2 []).length
  | 0x64 => (a.queues.getD 3 []).length | _ => 0

def ayrStat (c : AyrCore) : Nat :=
  65536 * c.pc.toNat + 64 * b2n c.forced + 32 * b2n c.accOv + 16 * b2n (c.lc != 0) + 8 * b2n c.ie + c.state.code

def ayrReg (c : AyrCore) (off : Nat) : Nat :=
  if 0x40 ≤ off ∧ off < 0x60 then ((c.outbox.headD []).getD ((off - 0x40) / 4) 0).toNat
  else if 0x60 ≤ off ∧ off < 0x80 then (c.inStage.getD ((off - 0x60) / 4) 0).toNat
  else match off with
    | 0x00 => ayrStat c | 0x04 => c.cause | 0x08 => c.irqEn | 0x10 => 65536 * c.faultCode + c.faultPc.toNat
    | 0x14 => lo32 c.cycles | 0x18 => hi32 c.cycles | 0x1C => c.trqSent | 0x20 => c.trqLost | 0x24 => c.msgLost
    | 0x28 => c.reject | 0x2C => c.memCe | 0x30 => c.outbox.length | 0x38 => 16 - c.inbox.length
    | 0x80 => 65536 * c.ownCount + c.ownFirst | _ => 0

def captStat (c : Capture) : Nat := 65536 * (c.protRecords % 65536) + 8 * b2n c.isPartial + c.state.code

def trigReg (s : State) (off : Nat) : Nat :=
  let t := s.trig
  if 0x60 ≤ off ∧ off < 0x80 then (t.conds.getD ((off - 0x60) / 4) {}).fired
  else match off with
    | 0x00 => 2 ^ 23 * t.hits.length + 256 * t.armed + 16 * maskOf ((upTo 4).filter (fun n => (t.outs.getD n {}).active)) +
        maskOf ((upTo 2).filter (fun n => t.level.getD n false && supplyOn s vioG))
    | 0x04 => t.cause | 0x08 => t.irqEn | 0x10 => lo32 t.fired | 0x14 => hi32 t.fired | 0x18 => t.hitCount | 0x1C => t.hitLost
    | 0x20 => t.vetoed | 0x24 => t.prescaled | 0x28 => t.deadHits | 0x2C => t.outLate | 0x30 => t.outMerged
    | 0x34 => t.outLost | 0x38 => t.inGlitch | 0x3C => captStat t.capt
    | 0x40 => wrap 64 t.capt.firstChunk % 2 ^ 32 | 0x44 => wrap 64 t.capt.firstChunk / 2 ^ 32 | 0x48 => t.capt.head
    | 0x4C => t.skipped | 0x50 => t.freezeRefused | 0x54 => t.partials | 0x58 => t.captDamaged | _ => 0

def hstStat (s : State) : Nat :=
  let h := s.hst
  16384 * h.crushCapt + 4096 * h.crushDump + 256 * min 9 h.jobs.length + 4 * b2n h.dual + 2 * b2n (pathUp s 1) + b2n (pathUp s 0)

def hstReg (s : State) (off : Nat) : Nat :=
  let h := s.hst
  if 0x100 ≤ off ∧ off < 0x178 then
    let q := h.seq.getD ((off - 0x100) / 8) 0
    if off % 8 = 0 then lo32 q else hi32 q
  else match off with
    | 0x00 => hstStat s | 0x04 => h.cause | 0x08 => h.irqEn | 0x10 => lo32 h.pktA | 0x14 => hi32 h.pktA
    | 0x18 => lo32 h.pktB | 0x1C => hi32 h.pktB | 0x20 => h.resend | 0x24 => h.copyDrop0 | 0x28 => h.copyDrop1
    | 0x2C => h.notBuilt | 0x30 => h.queuePeak | 0x34 => lo32 h.cruIn | 0x38 => hi32 h.cruIn | 0x3C => lo32 h.cruOut
    | 0x40 => hi32 h.cruOut | 0x44 => h.cruStored | 0x48 => h.expJobs | 0x4C => h.expLimit | 0x50 => h.expMalformed
    | 0x54 => 256 * h.allotSel + min 255 (h.peakUse.getD h.allotSel 0) | 0x58 => h.allotSel | _ => 0

/-- An Assayer's window (R193): IMEM, DMEM, then its registers. -/
def windowReg (c : AyrCore) (off : Nat) : Nat :=
  if off < 0x10000 then (memGet haltWord c.imem (off / 4)).toNat
  else if off < 0x30000 then leAt (memRead c.dmem (off - 0x10000) 4) 0 4
  else ayrReg c (off - 0x30000)

/-- A write to a register of an Assayer, by its offset from 0x30000. -/
def ayrRegWrite (a o v : Nat) (s : State) : State :=
  if 0x60 ≤ o ∧ o < 0x80 then
    modAyr a (fun c => { c with inStage := upd c.inStage ((o - 0x60) / 4) (fun _ => BitVec.ofNat 32 v) }) s
  else match o with
    | 0x04 => modAyr a (fun c => { c with cause := w1c c.cause v }) s
    | 0x08 => modAyr a (fun c => { c with irqEn := v % 64 }) s
    | 0x0C => if bit v 0 then modAyr a clearAyr s else s
    | 0x34 => modAyr a outFree s
    | 0x3C => modAyr a inSend s
    | _ => s

/-- A register of the datapath domain by its BAR0 offset. -/
def dpReg (s : State) (off : Nat) : Nat :=
  if !dpRun s then 0
  else if off < 0x54000 then laneReg (laneAt s ((off - 0x50000) / 256)) (off % 256)
  else if off < 0x54100 then hopReg s.hop (off - 0x54000)
  else if off < 0x54400 then 0
  else if off < 0x54800 then abaReg s (off - 0x54400)
  else if off < 0x54900 then talReg s.tal (off - 0x54800)
  else if off < 0x54A00 then beamReg (beamsShown s) (off - 0x54900)
  else if off < 0x54B00 then assayReg s.assay (off - 0x54A00)
  else if off < 0x54C00 then trigReg s (off - 0x54B00)
  else if off < 0x54D00 then constReg s (off - 0x54C00)
  else if off < 0x70000 then 0
  else if off < 0x80000 then pitReg s.pit (off - 0x70000)
  else if off < 0x100000 then hstReg s (off - 0x80000)
  else windowReg (ayrAt s ((off - 0x100000) / 0x40000)) (off % 0x40000)

/-! Writes: W1C causes, enables, CLEAR, and the registers of Table 0.2 that software writes. -/

def laneWrite (n off v : Nat) (s : State) : State :=
  match off with
  | 0x04 => modLane n (fun l => { l with cause := w1c l.cause v }) s
  | 0x08 => modLane n (fun l => { l with irqEn := v % 1024 }) s
  | 0x14 => if bit v 0 then modLane n clearLaneCounters s else s
  | _ => s

def hopWrite (off v : Nat) (s : State) : State :=
  match off with
  | 0x04 => modHop (fun h => { h with cause := w1c h.cause v }) s
  | 0x08 => modHop (fun h => { h with irqEn := v % 2048 }) s
  | 0x0C => if bit v 0 then hopClear s else s
  | _ => s

def abaWrite (off v : Nat) (s : State) : State :=
  if 0x100 ≤ off ∧ off < 0x220 then
    if off % 8 = 4 then
      modAba (fun a => { a with phys := upd a.phys ((off - 0x100) / 8) (fun p => { p with cause := w1c p.cause v }) }) s
    else s
  else match off with
    | 0x04 => modAba (fun a => { a with cause := w1c a.cause v }) s
    | 0x08 => modAba (fun a => { a with irqEn := v % 64 }) s
    | 0x0C => if bit v 0 then abaClear s else s
    | _ => s

def talWrite (off v : Nat) (s : State) : State :=
  match off with
  | 0x04 => modTal (fun a => { a with cause := w1c a.cause v }) s
  | 0x08 => modTal (fun a => { a with irqEn := v % 64 }) s
  | 0x0C => if bit v 0 then talClear s else s
  | _ => s

def beamWrite (off v : Nat) (s : State) : State :=
  match off with
  | 0x04 => modBeams (fun b => { b with cause := w1c b.cause v }) s
  | 0x08 => modBeams (fun b => { b with irqEn := v % 64 }) s
  | 0x0C => if bit v 0 then beamClear s else s
  | _ => s

def assayWrite (off v : Nat) (s : State) : State :=
  match off with
  | 0x04 => modAssay (fun a => { a with cause := w1c a.cause v }) s
  | 0x08 => modAssay (fun a => { a with irqEn := v % 64 }) s
  | 0x0C => if bit v 0 then assayClear s else s
  | 0x34 => probeSelect v s
  | _ => s

def trigWrite (off v : Nat) (s : State) : State :=
  match off with
  | 0x04 => modTrig (fun t => { t with cause := w1c t.cause v }) s
  | 0x08 => modTrig (fun t => { t with irqEn := v % 256 }) s
  | 0x0C => if bit v 0 then modTrig clearTrg s else s
  | _ => s

def hstWrite (off v : Nat) (s : State) : State :=
  match off with
  | 0x04 => modHst (fun h => { h with cause := w1c h.cause v }) s
  | 0x08 => modHst (fun h => { h with irqEn := v % 64 }) s
  | 0x0C => if bit v 0 then modHst clearHst s else s
  | 0x58 => if v % 8 < 6 then modHst (fun h => { h with allotSel := v % 8 }) s else discardInput s
  | _ => s

def pitRegWrite (off v : Nat) (s : State) : State :=
  if 0x400 ≤ off ∧ off < 0x800 then
    if off % 32 = 4 then
      modPit (fun p => { p with chans := upd p.chans ((off - 0x400) / 32) (fun c => { c with cause := w1c c.cause v }) }) s
    else s
  else match off with
    | 0x04 => modPit (fun p => { p with cause := w1c p.cause v }) s
    | 0x08 => modPit (fun p => { p with irqEn := v % 64 }) s
    | 0x0C => if bit v 0 then modPit clearPit s else s
    | 0x10 => modPit (fun p => { p with chIrqEn := v % 64 }) s
    | _ => s

def windowWrite (a off v : Nat) (s : State) : State :=
  if off < 0x30000 then windowStore a off (BitVec.ofNat 32 v) s else ayrRegWrite a (off - 0x30000) v s

/-- A write to the datapath domain; it is discarded while DP is not in Run (15 R345). -/
def dpWrite (off v : Nat) (s : State) : State :=
  if !dpRun s then s
  else if off < 0x54000 then laneWrite ((off - 0x50000) / 256) (off % 256) v s
  else if off < 0x54100 then hopWrite (off - 0x54000) v s
  else if off < 0x54400 then s
  else if off < 0x54800 then abaWrite (off - 0x54400) v s
  else if off < 0x54900 then talWrite (off - 0x54800) v s
  else if off < 0x54A00 then beamWrite (off - 0x54900) v s
  else if off < 0x54B00 then assayWrite (off - 0x54A00) v s
  else if off < 0x54C00 then trigWrite (off - 0x54B00) v s
  else if off < 0x54D00 then constWrite (off - 0x54C00) v s
  else if off < 0x70000 then s
  else if off < 0x80000 then pitRegWrite (off - 0x70000) v s
  else if off < 0x100000 then hstWrite (off - 0x80000) v s
  else windowWrite ((off - 0x100000) / 0x40000) (off % 0x40000) v s

end Sys2Proof.Machine
end

