-- ==== Sys2Proof/Machine/Power.lean ====
section
/-! DEFINITION. CTL sleep, the wake timer, GPIO, and the power and GPIO registers (15 R367, R368, R373, Tables 15.12 and
15.13; 01 R21). -/

namespace Sys2Proof.Machine

def pwrCause (ks : List Nat) (s : State) : State := modPwr (fun p => { p with cause := setBits p.cause ks }) s

/-! Sleep (R367). -/

/-- A source is deliverable to the core on shift. -/
def coreAsked (s : State) : Bool :=
  decide (s.shift.onShift < 2) && !(deliverable (bellSync s).bell s.shift.onShift).isEmpty

/-- A cage has been rung and not served: a request waits in its ring, or behind another cage's queue. -/
def doorbellLatched (s : State) : Bool :=
  (upTo 4).any (fun n => (cageAt s n).enable && !(cageAt s n).stalled && !(cageAt s n).inRing.isEmpty) ||
  !s.cages.fetched.isEmpty

/-- The channel holds CTL in Run. -/
def holdsCtl (ch : WndChan) : Bool := decide (ch.state = .running) || decide (ch.state = .waiting)

/-- Every condition of R367 and R21 holds. -/
def maySleep (s : State) : Bool :=
  !s.wnd.chan.any holdsCtl && decide (s.hst.crushDump = 0) && decide (s.hst.crushCapt = 0) && s.hst.jobs.isEmpty &&
  !s.hst.expRunning && !coreAsked s && !doorbellLatched s

def enterSleep (s : State) : State := modPwr (fun p => { p with ctlSleep := true, sleepHold := false }) s

/-- A write of PWR_SLEEP_REQ: only the core on shift asks for Sleep, with 0x5A. -/
def sleepReq (agent v : Nat) (s : State) : State :=
  if isOnShift s agent && decide (v % 256 = 0x5A) then
    if maySleep s then enterSleep s else modPwr (fun p => { p with sleepHold := true }) s
  else s

def execPwrSleepReq (agent v : Nat) (s : State) : Host.Outcome State Fault Refusal := .next (sleepReq agent v s)

/-- The first instant at which every condition holds, while a request is held. -/
def execCtlSleepEntry (s : State) : Host.Outcome State Fault Refusal :=
  .next (if s.pwr.sleepHold && maySleep s then enterSleep s else s)

/-- CTL runs again, and the cages fetch what waits; a held request is cancelled instead. -/
def wakeCtl (s : State) : State :=
  if s.pwr.ctlSleep then fetchAll (modPwr (fun p => { p with ctlSleep := false }) s)
  else if s.pwr.sleepHold then pwrCause [0] (modPwr (fun p => { p with sleepHold := false }) s)
  else s

/-- 01 R21: a doorbell or an interrupt for the core on shift wakes CTL. -/
def execCtlWake (s : State) : Host.Outcome State Fault Refusal :=
  .next (if coreAsked s || doorbellLatched s then wakeCtl s else s)

/-! The wake timer (R368). -/

def timerWrite (v : Nat) (s : State) : State := modPwr (fun p => { p with timer := v % 2 ^ 24 }) s

def execPwrTimerWrite (v : Nat) (s : State) : Host.Outcome State Fault Refusal := .next (timerWrite v s)

/-- `ticks` ticks of 1/32,768 s pass on a timer that runs. -/
def execPwrTimerExpiry (ticks : Nat) (s : State) : Host.Outcome State Fault Refusal :=
  .next (if s.pwr.timer = 0 then s
    else if s.pwr.timer ≤ ticks then withBell (fun s => wakeCtl (pwrCause [8] (timerWrite 0 s))) s
    else timerWrite (s.pwr.timer - ticks) s)

/-! GPIO (R373; 19 Table 19.3). -/

/-- GPIO_LEVEL: pins 0 to 15, then TRIG_IN_0 and TRIG_IN_1; an output pin shows what is driven on it. Without VIO_G all read 0. -/
def gpioLevels (s : State) : Nat :=
  if supplyOn s vioG then
    let p := s.pwr
    maskOf ((upTo 18).filter (fun n => if decide (n < 16) && bit p.dir n then bit p.out n else bit p.gpioIn n))
  else 0

/-- Pins whose level has changed in the direction that GPIO_EDGE selects set their seen bits. -/
def seeEdges (before : Nat) (s : State) : State :=
  let now := gpioLevels s
  modPwr (fun p => { p with seen := setBits p.seen ((upTo 18).filter (fun n =>
    bit before n != bit now n && bit now n == !(bit p.edge n))) }) s

/-- A change of pins, and what it shows. -/
def movePins (f : Pwr → Pwr) (s : State) : State := seeEdges (gpioLevels s) (modPwr f s)

/-- An edge at pin `n`: 0 to 15 GPIO, 16 and 17 TRIG_IN, unfiltered. -/
def execGpioEdge (n : Nat) (rising : Bool) (s : State) : Host.Outcome State Fault Refusal :=
  .next (if n < 18 ∧ supplyOn s vioG then
      withBell (movePins (fun p => { p with
        gpioIn := (p.gpioIn ^^^ (p.gpioIn &&& 2 ^ n)) ||| (if rising then 2 ^ n else 0) })) s
    else s)

/-! Registers. -/

/-- PWR_STAT (Table 15.13). -/
def pwrStat (s : State) : Nat :=
  65536 * maskOf ((upTo 16).filter (fun c => holdsCtl (wchAt s c))) +
  256 * (s.wnd.chan.filter (fun ch => decide (ch.state = .parked))).length + 16 * b2n s.pwr.sleepHold +
  4 * (if s.pwr.leaving.isSome || s.pwr.returning.isSome then 3
       else match s.sys.dp with | .off => 0 | .run => 1 | .quiesce => 2) + b2n s.pwr.ctlSleep

def pwrReg (s : State) (off : Nat) : Nat :=
  match off with
  | 0x00 => pwrStat s | 0x04 => s.pwr.cause | 0x08 => s.pwr.irqEn | 0x10 => s.pwr.timer | 0x20 => gpioLevels s
  | 0x24 => s.pwr.seen | 0x28 => s.pwr.gpioIrqEn | 0x2C => s.pwr.edge | 0x30 => s.pwr.dir | 0x34 => s.pwr.out | _ => 0

def pwrWrite (agent off v : Nat) (s : State) : State :=
  match off with
  | 0x04 => modPwr (fun p => { p with cause := w1c p.cause v }) s
  | 0x08 => modPwr (fun p => { p with irqEn := v % 512 }) s
  | 0x0C => sleepReq agent v s
  | 0x10 => timerWrite v s
  | 0x24 => modPwr (fun p => { p with seen := w1c p.seen v }) s
  | 0x28 => modPwr (fun p => { p with gpioIrqEn := v % 2 ^ 18 }) s
  | 0x2C => modPwr (fun p => { p with edge := v % 2 ^ 18 }) s
  | 0x30 => movePins (fun p => { p with dir := v % 65536 }) s
  | 0x34 => movePins (fun p => { p with out := v % 65536 }) s
  | _ => s

end Sys2Proof.Machine
end

