-- ==== Sys2Proof/Machine/RegMap.lean ====
section
/-! DEFINITION. The register map of BAR0: reads and writes by an agent (0 host, 1 core A, 2 core B, 3 Winder, 4 JTAG), with the
rules common to every register (00 R4 to R9; 15 R345; 14 R319, R337, R341). -/

namespace Sys2Proof.Machine

/-! Cage pages (16 Tables 16.6 and 16.7). -/

def cageStat (s : State) (n : Nat) : Nat :=
  let c := cageAt s n
  65536 * min 255 (inProgress s n) + 32768 * b2n c.busy +
  16384 * b2n (decide (n < 4) && s.cages.linkUp && s.cages.busMaster) + 8192 * b2n s.cages.d3hot + min 256 c.overflow.length

def cageReg (s : State) (n off : Nat) : Nat :=
  let c := cageAt s n
  match off with
  | 0x00 => 4096 * c.cplLog2 + 256 * c.reqLog2 + b2n c.enable | 0x04 => cageStat s n | 0x08 => c.cause | 0x0C => c.irqEn
  | 0x10 => lo32 c.reqBase | 0x14 => hi32 c.reqBase | 0x18 => c.reqTail | 0x1C => c.reqHead
  | 0x20 => lo32 c.cplBase | 0x24 => hi32 c.cplBase | 0x28 => c.cplHead | 0x2C => c.cplTail
  | 0x30 => 65536 * c.modTime + c.modCount | 0x34 => c.accepted | 0x38 => c.replayed | 0x3C => c.conflict
  | 0x40 => c.busyCnt | _ => 0

/-- A write to a cage's page. A doorbell rung here brings no entries: the host's ring is known only from CAGE_DOORBELL
(log 33). -/
def cageWrite (n off v : Nat) (s : State) : State :=
  match off with
  | 0x00 => cageCtrlWrite n v s
  | 0x08 => modCage n (fun c => { c with cause := w1c c.cause v }) s
  | 0x0C => modCage n (fun c => { c with irqEn := v % 16 }) s
  | 0x10 => modCage n (fun c => { c with reqBaseLo := v / 64 * 64 }) s
  | 0x14 => modCage n (fun c => { c with reqBase := 2 ^ 32 * v + c.reqBaseLo }) s
  | 0x18 => if n < 4 then doorbell n (v % 4096) [] true s else s
  | 0x20 => modCage n (fun c => { c with cplBaseLo := v / 64 * 64 }) s
  | 0x24 => modCage n (fun c => { c with cplBase := 2 ^ 32 * v + c.cplBaseLo }) s
  | 0x28 => if n < 4 then cplHeadWrite n (v % 4096) s else s
  | 0x30 => modCage n (fun c => { c with modCount := v % 256, modTime := v / 65536 }) s
  | _ => s

/-- Writes to the timing unit (13 Table 13.15). -/
def tuWrite (off v : Nat) (s : State) : State :=
  match off with
  | 0x004 => modTu (fun u => { u with cause := w1c u.cause v }) s
  | 0x008 => modTu (fun u => { u with irqEn := v % 1024 }) s
  | 0x00C => if bit v 0 then modTu clearTu s else s
  | 0x204 => modTu (fun u => { u with ptp := { u.ptp with cause := w1c u.ptp.cause v } }) s
  | 0x208 => modTu (fun u => { u with ptp := { u.ptp with irqEn := v % 64 } }) s
  | _ => s

/-! Quantities wider than 32 bits (00 R9). -/

/-- Words of the wide quantity whose lowest word is at a BAR0 offset; 0 for any other offset. -/
def wideWords (o : Nat) : Nat :=
  let two := fun (b : Bool) => if b then 2 else 0
  if o < 0x10000 then 0
  else if o < 0x18000 then two ([0x10, 0x20].contains (o % 0x1000))
  else if o < 0x30000 then 0
  else if o < 0x30400 then two ([0x14, 0x28, 0x30].contains (o % 64))
  else if o < 0x40000 then 0
  else if o = 0x40010 then 4
  else if o < 0x50000 then
    two ([0x40020, 0x40028, 0x40030, 0x4020C].contains o || (decide (o < 0x40160) && decide (0x40080 ≤ o) && o % 32 == 4))
  else if o < 0x54000 then two ([0x34, 0x3C].contains (o % 256))
  else if o < 0x54400 then two ([0x10, 0x18, 0x20, 0x28, 0x30, 0x5C].contains (o - 0x54000))
  else if o < 0x54800 then two ([0x1C, 0x24, 0x38].contains (o - 0x54400))
  else if o < 0x54900 then two ([0x14, 0x2C].contains (o - 0x54800))
  else if o < 0x54A00 then two ([0x10, 0x18].contains (o - 0x54900))
  else if o < 0x54B00 then two ([0x10, 0x18, 0x48].contains (o - 0x54A00))
  else if o < 0x54C00 then two ([0x10, 0x40].contains (o - 0x54B00))
  else if o < 0x70000 then 0
  else if o < 0x80000 then two (decide (o < 0x70200) && decide (0x70100 ≤ o) && o % 32 == 8)
  else if o < 0x100000 then
    two ([0x80010, 0x80018, 0x80034, 0x8003C].contains o || (decide (o < 0x80178) && decide (0x80100 ≤ o) && o % 8 == 0))
  else if o < 0x200000 then two (o % 0x40000 == 0x30014)
  else 0

/-- The lowest word and the place of a higher word of a wide quantity. -/
def wideHigh (o : Nat) : Option (Nat × Nat) :=
  ([1, 2, 3].find? (fun k => decide (4 * k ≤ o) && decide (k < wideWords (o - 4 * k)))).map (fun k => (o - 4 * k, k))

/-! Reads. -/

/-- What a register shows, without any side effect of the read. -/
def regNow (s : State) (o : Nat) : Nat :=
  if o < 0x1000 then shiftReg s.shift o
  else if o < 0x5000 then u32 (ledgerBytes s) (o - 0x1000)
  else if o < 0x6000 then pwrReg s (o - 0x5000)
  else if o < 0x10000 then 0
  else if o < 0x18000 then cageReg s ((o - 0x10000) / 0x1000) (o % 0x1000)
  else if o < 0x20000 then 0
  else if o < 0x30000 then bellReg (bellSync s).bell (o - 0x20000)
  else if o < 0x40000 then wndReg s (o - 0x30000)
  else if o < 0x50000 then tuReg s (o - 0x40000)
  else if 0x60000 ≤ o ∧ o < 0x70000 then monReg s (o - 0x60000)
  else if dpOffset o then dpReg s o
  else if 0x1000000 ≤ o ∧ o < 0x1400000 then leAt (memRead s.sys.sram (o - 0x1000000) 4) 0 4
  else 0

/-- The value of a read: a higher word of a wide quantity is its snapshot, once one has been taken. -/
def regRead (s : State) (o : Nat) : Nat :=
  match wideHigh o with
  | some (base, k) => match s.shift.snaps.find? (fun x => x.1 == base) with
    | some x => x.2.getD (k - 1) 0
    | none => regNow s o
  | none => regNow s o

/-- A read of the lowest word latches the higher ones. -/
def latchWide (o : Nat) (s : State) : State :=
  if wideWords o = 0 ∨ (dpOffset o ∧ !dpRun s) then s
  else
    let high := (upTo (wideWords o - 1)).map (fun i => regNow s (o + 4 * (i + 1)))
    modShift (fun x => { x with snaps := x.snaps.filter (fun y => decide (y.1 ≠ o)) ++ [(o, high)] }) s

/-- Winder registers and the shared SRAM window, which lie in CTL (15 R368). -/
def ctlResource (o : Nat) : Bool := (decide (0x30000 ≤ o) && decide (o < 0x40000)) || (decide (0x1000000 ≤ o) && decide (o < 0x1400000))

/-- A host access to CTL is held and completes after the wake (15 R368). -/
def wakeFor (agent o : Nat) (s : State) : State := if agent = 0 ∧ ctlResource o ∧ s.pwr.ctlSleep then wakeCtl s else s

/-- A 32-bit read: its value, and its side effects. -/
def busRead (agent o : Nat) (s0 : State) : Nat × State :=
  let s := wakeFor agent o s0
  if !agentReaches s agent then (0, s)
  else if o % 4 ≠ 0 then (0, accessErr 2 agent o s)
  else if 0x22000 ≤ o ∧ o < 0x22220 ∧ o % 16 = 0 then claim agent ((o - 0x22000) / 16) s
  else if 0x60048 ≤ o ∧ o < 0x60080 ∧ o % 16 = 8 then monFifoRead ((o - 0x60040) / 16) s
  else (regRead s o, latchWide o s)

/-! Writes. -/

/-- A 32-bit write at timer count `t`. -/
def busWrite (agent o v t : Nat) (s0 : State) : State :=
  let s := wakeFor agent o s0
  if !agentReaches s agent then s
  else if o % 4 ≠ 0 then accessErr 2 agent o s
  else if o < 0x1000 then shiftWrite agent o v t s
  else if o < 0x5000 then accessErr 3 agent o s
  else if o < 0x6000 then pwrWrite agent (o - 0x5000) v s
  else if o < 0x10000 then s
  else if o < 0x18000 then cageWrite ((o - 0x10000) / 0x1000) (o % 0x1000) v s
  else if o < 0x20000 then s
  else if o < 0x30000 then bellWrite agent (o - 0x20000) v s
  else if o < 0x40000 then wndWrite (o - 0x30000) v s
  else if o < 0x50000 then tuWrite (o - 0x40000) v s
  else if 0x60000 ≤ o ∧ o < 0x70000 then monWrite (o - 0x60000) v s
  else if dpOffset o then dpWrite o v s
  else if 0x1000000 ≤ o ∧ o < 0x1400000 then
    if agent = 0 ∧ 0x13F0000 ≤ o then discardInput s
    else { s with sys := { s.sys with sram := memWrite s.sys.sram (o - 0x1000000) (leBytes 4 v) } }
  else s

/-- Does an access by an agent to a BAR0 offset end in a bus error: the matrix keeps the core out, or the core reaches into DP
while DP is not in Run (15 Table 15.2)? -/
def busError (s : State) (agent o : Nat) : Bool :=
  !agentReaches s agent || ((decide (agent = 1) || decide (agent = 2)) && dpOffset o && !dpRun s)

/-- A write over the bus, with its answer. -/
def busAccess (agent o v t : Nat) (s : State) : State := answerBus agent 0 (busError s agent o) (busWrite agent o v t s)

/-! The Suhel address space (15 R344, Table 15.1). -/

inductive SuhelSpace where
  | rom (o : Nat) | coreLocal (o : Nat) | ctrl | aperture | sram (o : Nat) | window (o : Nat) | pit (a : Nat) | unmapped
  deriving DecidableEq, Repr

/-- Where an address of a core's space leads. -/
def suhelAt (s : State) (core a : Nat) : SuhelSpace :=
  if a < 0x10000 then (if s.pwr.remap.getD core false then .coreLocal a else .rom a)
  else if 0x100000 ≤ a ∧ a < 0x110000 then .rom (a - 0x100000)
  else if 0x200000 ≤ a ∧ a < 0x220000 then .coreLocal (a - 0x200000)
  else if a = 0x300000 then .ctrl
  else if a = 0x300004 then .aperture
  else if 0x10000000 ≤ a ∧ a < 0x10400000 then .sram (a - 0x10000000)
  else if 0x40000000 ≤ a ∧ a < 0x44000000 then .window (a - 0x40000000)
  else if 0x80000000 ≤ a ∧ a < 0xC0000000 then .pit (2 ^ 30 * s.pwr.aperture.getD core 0 + (a - 0x80000000))
  else .unmapped

/-- A word written by a core through its pit aperture, on port P5 (12 R256; 15 R343, R345). -/
def suhelPit (agent a v : Nat) (s : State) : State :=
  if !dpRun s then answerBus agent 0 true s
  else if !addressOk a 4 then answerBus agent 0 true (modPit (pitCause [5]) s)
  else answerBus agent 0 false (servePort 5 4 (pitWrite a (leBytes 4 v) s))

/-- A word written by Suhel core `agent − 1` at timer count `t`. A core in REPAIR reaches its own SRAM and the ROM only (14 R319),
and a core without power nothing. -/
def suhelWrite (agent a v t : Nat) (s : State) : State :=
  let core := agent - 1
  let on := agentReaches s agent
  match suhelAt s core a with
  | .coreLocal o =>
    if on || decide (coreAt s core = .repair) then
      answerBus agent 0 false (modShift (fun x => { x with
        coreMem := upd x.coreMem core (fun m => memWrite m o (leBytes 4 v)) }) s)
    else answerBus agent 0 true s
  | .rom _ => answerBus agent 0 (!(on || decide (coreAt s core = .repair))) s
  | .window o => busAccess agent o v t s
  | .ctrl => if on then answerBus agent 0 false (remapWrite core v s) else answerBus agent 0 true s
  | .aperture =>
    if on then answerBus agent 0 false (modPwr (fun p => { p with aperture := upd p.aperture core (fun _ => v % 64) }) s)
    else answerBus agent 0 true s
  | .sram o =>
    if on then answerBus agent 0 false { s with sys := { s.sys with sram := memWrite s.sys.sram o (leBytes 4 v) } }
    else answerBus agent 0 true s
  | .pit p => if on then suhelPit agent p v s else answerBus agent 0 true s
  | .unmapped => answerBus agent 0 true s

/-- A register that is written: a BAR0 offset, or an address of a Suhel core's space. -/
def regWrite (agent : Nat) (a : RegAddr) (v t : Nat) (s : State) : State :=
  match a with
  | .bar0 o => busAccess agent (o % 2 ^ 26) (v % 2 ^ 32) t s
  | .suhel x => if agent = 1 ∨ agent = 2 then suhelWrite agent x (v % 2 ^ 32) t s else s

/-- 00 R5. -/
def execRegisterWrite (agent : Nat) (a : RegAddr) (v t : Nat) (s : State) : Host.Outcome State Fault Refusal :=
  .next (if released s then withBell (regWrite agent a v t) s else s)

/-- 00 R4: an access that is narrow (0), wide (1) or unaligned (2), to a register: a read returns 0, a write is discarded, and
the access ends normally. Shared SRAM is memory and takes any. -/
def execIllegalRegisterAccess (agent o kind : Nat) (s : State) : Host.Outcome State Fault Refusal :=
  .next (if released s ∧ kind < 3 ∧ o < 0x1000000 then
      if agentReaches s agent then answerBus agent 0 false (withBell (accessErr kind agent o) s) else answerBus agent 0 true s
    else s)

/-- 00 R9: a read of the lowest word of a wide quantity. -/
def execWideQuantityLowRead (agent o : Nat) (s : State) : Host.Outcome State Fault Refusal :=
  .next (if released s ∧ o % 4 = 0 ∧ 0 < wideWords o then
      answerBus agent (busRead agent o s).1 (busError s agent o) (busRead agent o s).2
    else s)

/-- The highest word of a wide quantity that software writes: ring bases and the Winder's host base. -/
def wideHighRw (o : Nat) : Bool :=
  (decide (0x10000 ≤ o) && decide (o < 0x18000) && [0x14, 0x24].contains (o % 0x1000)) ||
  (decide (0x30000 ≤ o) && decide (o < 0x30400) && o % 64 == 0x18)

/-- 00 R9: a write to the highest word commits the quantity. -/
def execWideQuantityHighWrite (agent o v t : Nat) (s : State) : Host.Outcome State Fault Refusal :=
  .next (if released s ∧ wideHighRw o then withBell (busAccess agent o (v % 2 ^ 32) t) s else s)

end Sys2Proof.Machine
end

