-- ==== Sys2Proof/Machine/Commands.lean ====
section
/-! DEFINITION. The commands that answer about the device (16 Tables 16.9 and 16.10), ABORT and DEV_RESET, the taking of requests
(R385), and the end of a takeover (14 R324). -/

namespace Sys2Proof.Machine

/-! Answers that change nothing. -/

/-- DEV_INFO. -/
def devInfo (_ : Req) (_ : Nat) (s : State) : Out :=
  { st := s
    reply := {
      result := fields [(24, leBytes 4 (shiftReg s.shift 0x000)), (28, leBytes 4 idRev), (32, leBytes 6 Config.idLot),
        (38, leBytes 1 (Config.idWafer % 32)), (39, leBytes 1 Config.idDieX), (40, leBytes 1 Config.idDieY),
        (44, leBytes 4 Config.firmwareVersion), (48, leBytes 16 Config.firmwareDigest)]
      block := some (padTo 36 (s.shift.idMap.map (BitVec.ofNat 8)) ++ leBytes 4 (ipv4 s)) } }

/-- DEV_STATUS: eight registers, TAL_INTEG_ID, the epoch and three flags. -/
def devStatus (_ : Req) (_ : Nat) (s : State) : Out :=
  let reg := fun (o : Nat) => leBytes 4 (regNow s o)
  answer s (fields [(24, reg 0x100), (28, reg 0x124), (32, reg 0x5000), (36, reg 0x40000), (40, reg 0x54400),
    (44, reg 0x54800), (48, reg 0x80000), (52, reg 0x70000), (56, reg 0x54810), (60, leBytes 2 (epochNow s)),
    (62, leBytes 1 (b2n s.sys.suspect + 2 * b2n s.bun.changeover.isSome + 4 * b2n (!s.shift.persistOk)))])

/-- ECHO. -/
def echo (r : Req) (_ : Nat) (s : State) : Out := { st := s, reply := { result := r.body, block := some r.arg } }

/-- CONFIG_DIGEST; a bundle that is not there reads as 0. -/
def configDigest (_ : Req) (_ : Nat) (s : State) : Out :=
  let dg := fun (b : Option Bundle) => (b.map (·.digest)).getD (List.replicate 16 0)
  let ep := fun (b : Option Bundle) => leBytes 2 ((b.map (·.epoch)).getD 0)
  answer s (fields [(24, dg s.bun.active), (40, ep s.bun.active), (42, dg s.bun.staged), (58, ep s.bun.staged),
    (60, leBytes 1 (b2n s.bun.staged.isSome + 2 * b2n s.bun.changeover.isSome))])

/-- ARRAY_LAYOUT. -/
def arrayLayout (_ : Req) (_ : Nat) (s : State) : Out :=
  match s.bun.active with
  | none => notInState s
  | some b =>
    answer s (fields [(24, leBytes 1 b.mode.code), (25, leBytes 1 (activeGroups b).length), (26, leBytes 2 b.channels),
      (28, leBytes 2 (inputsOf b)), (30, leBytes 2 b.intake), (32, leBytes 4 b.groups), (36, leBytes 8 b.specPeriod),
      (44, leBytes 6 b.t0Sec), (50, leBytes 4 b.t0Ns), (54, leBytes 2 b.t0Frac), (56, leBytes 2 b.source),
      (60, leBytes 4 (if b.mode = .x4 then b.pGroups else 0))])

/-- The reply of FRAME_BUDGET: block-pairs, groups, beam sets, prompt channels, K′, C and F (R17, R95, R96, R101, R102). -/
def budgetReply (pairs g sets q k c f : Nat) : List Byte :=
  let total := pairs * 8192 + 16384 * g * sets
  fields [(24, leBytes 4 f), (28, leBytes 4 (sat32 k)), (32, leBytes 4 (committed pairs g sets f)),
    (36, leBytes 4 (if f = 0 then 0 else 128 * cdiv total (128 * f))), (40, leBytes 4 (promptCost q g f)),
    (44, leBytes 1 (b2n (budgetFits pairs g sets f k) + 2 * b2n (promptFits c q g f)))]

/-- FRAME_BUDGET: the configuration in force, or the mix that the request describes. -/
def frameBudget (r : Req) (_ : Nat) (s : State) : Out :=
  let f := frameCount s
  if b8 r 24 = 3 then
    match s.bun.active with
    | none => notInState s
    | some b => answer s (budgetReply (pairsOf b).length (activeGroups b).length (setsNow s)
        ((s.beams.prompt.map (·.channels.length)).getD 0) (kPrime b) b.channels f)
  else
    let g := b8 r 25
    let bw := b32 r 28
    let c := b16 r 32
    if 3 < b8 r 24 ∨ !inRange 1 32 g ∨ 16 < b8 r 27 ∨ !inRange 1 62500000 bw ∨ !inRange 1 4096 c ∨
        (b8 r 24 = 2 ∧ b8 r 34 + b8 r 35 ≠ g) then badRange s
    else
      let pairs := if b8 r 24 = 2 then b8 r 34 * b8 r 35 else g * (g + 1) / 2
      answer s (budgetReply pairs g (b8 r 26) (b8 r 27) (128 * (80000000000 / bw)) c f)

def execDevInfo (r : Req) (t : Nat) (s : State) : Host.Outcome State Fault Refusal := .next (runCommand 0x0101 devInfo r t s)

def execDevStatus (r : Req) (t : Nat) (s : State) : Host.Outcome State Fault Refusal := .next (runCommand 0x0102 devStatus r t s)

def execEcho (r : Req) (t : Nat) (s : State) : Host.Outcome State Fault Refusal := .next (runCommand 0x0105 echo r t s)

def execConfigDigest (r : Req) (t : Nat) (s : State) : Host.Outcome State Fault Refusal :=
  .next (runCommand 0x0203 configDigest r t s)

def execArrayLayout (r : Req) (t : Nat) (s : State) : Host.Outcome State Fault Refusal :=
  .next (runCommand 0x0404 arrayLayout r t s)

def execFrameBudget (r : Req) (t : Nat) (s : State) : Host.Outcome State Fault Refusal :=
  .next (runCommand 0x0405 frameBudget r t s)

/-! DEV_RESET. -/

/-- DEV_RESET: HARD answers, and the reset follows its completion; DATAPATH leaves Run and returns to it. -/
def devReset (r : Req) (_ : Nat) (s : State) : Out :=
  if 1 < b8 r 24 then badRange s
  else if b32 r 28 ≠ s.shift.boots then notInState s
  else if b8 r 24 = 0 then { st := modShift (fun x => { x with resetDue := true }) s }
  else if !dpRun s || s.pwr.leaving.isSome || s.pwr.returning.isSome || tooHot s then notInState s
  else { st := leaveRun .restart false s, stay := some .staged }

/-- A reset that is due waits only for its completion: what may be posted is posted, and the reset follows. -/
def resetNow (s : State) : State := if s.shift.resetDue && firmwareUp s then resetIfWritten (withBell postAll s) else s

def execDevReset (r : Req) (t : Nat) (s : State) : Host.Outcome State Fault Refusal :=
  .next (resetNow (runCommand 0x0103 devReset r t s))

/-! ABORT (R391, R392). -/

/-- The Expander job of a command is withdrawn. -/
def dropJob (client tag : Nat) (s : State) : State :=
  let mine := fun (j : ExpJob) => j.client == client && j.tag == tag
  modHst (fun h => { h with
    jobs := h.jobs.filter (fun j => !mine j), expRunning := h.expRunning && !((h.jobs.head?.map mine).getD false) }) s

/-- SIDE_EFFECTS of a withdrawn Expander job: DEST if it was running, and STAGING for a bundle. -/
def jobSide (o : OpenCmd) (s : State) : Nat :=
  let running := s.hst.expRunning &&
    ((s.hst.jobs.head?.map (fun j => j.client == o.req.client && j.tag == o.req.tag)).getD false)
  4 * b2n running + b2n (decide (o.req.opcode = 0x0201) && !s.bun.staging.isEmpty)

/-- DP stays in Run, and parked channels go on (15 R369). -/
def stayInRun (s : State) : State :=
  wndResume { modHst (fun h => { h with flushing := false }) (modPwr (fun p => { p with leaving := none, force := false }) s) with
    bun := { s.bun with coming := none } }

/-- An urgent request leaves its converter's queue; a measurement of calibration may be under way (17 R413, R408). -/
def dropUrgent (m : Nat) (mine : UrgReq → Bool) (s : State) : State :=
  let s := modConv m (fun c => { c with queue := c.queue.filter (fun q => !mine q) }) s
  match (convAt s m).serving with
  | some q => if mine q then resumeConv m (modConv m (fun c => { c with serving := none }) s) else s
  | none => s

def urgentOf (client tag : Nat) (q : UrgReq) : Bool :=
  match q.source with
  | .tu => false
  | .command c t => c == client && t == tag
  | .calibrate _ n => n == client * 65536 + tag

/-- The staged change of an open command that has not committed is withdrawn. -/
def undo (o : OpenCmd) (s : State) : State :=
  let op := o.req.opcode
  let s := if op = 0x0201 ∨ op = 0x0602 then dropJob o.req.client o.req.tag s else s
  match op with
  | 0x0402 => modTal (fun a => { a with cur := a.cur.map (fun i => { i with stop := none }) }) s
  | 0x0501 | 0x0502 | 0x0504 => modBeams (fun b => { b with staged := none }) s
  | 0x0601 => modAssay (fun a => { a with staged := a.staged.filter (fun g => !g.command) }) s
  | 0x0603 => modAyr o.key (fun c => { c with stopPending := false, stopCycles := 0 }) s
  | 0x0703 => modCapt (fun c => { c with discard := false }) s
  | 0x0A04 => modTu (fun u => { u with setSec := none }) s
  | 0x0B01 => modMon (fun x => { x with staged := none }) s
  | 0x0B02 | 0x0B04 => dropUrgent o.key (urgentOf o.req.client o.req.tag) s
  | 0x0C01 => modCon (fun c => { c with staged := none }) s
  | 0x0103 | 0x0202 | 0x0D05 => stayInRun s
  | _ => s

/-- A command that has not committed ends ABORTED. -/
def endAborted (r : Req) (side t : Nat) (s : State) : State :=
  let s := nextCommit s
  conclude r s.cages.commits t { status := stAborted, side := side } s

/-- Is the request, fetched and not taken, the target of an ABORT? A request for a peer is not this device's to abort. -/
def isTarget (client tag : Nat) (q : Req) : Bool := !q.forward && q.client == client && q.tag == tag

/-- The decision of R391: the target is open, or has ended, or waits to be taken, or is unknown. -/
def abort (r : Req) (t : Nat) (s : State) : Out :=
  let tag := b16 r 24
  let named := fun (o : OpenCmd) => o.req.client == r.client && o.req.tag == tag
  let status := fun (n : Nat) => fields [(24, leBytes 1 n)]
  match s.cages.openCmds.find? named with
  | some o =>
    if o.phase = .committed then { st := s, reply := { status := stAlready, result := status stOk } }
    else
      let s1 := modCages (fun g => { g with openCmds := g.openCmds.filter (fun o => !named o) }) (undo o s)
      answer (endAborted o.req (jobSide o s) t s1) (status stAborted)
  | none =>
    match ((placeOf s r.client).getD {}).entries.find? (fun e => e.tag == tag) with
    | some e =>
      (match e.done with
       | some c =>
         if c.opcode = 0x0104 then badRange s
         else { st := s, reply := { status := stAlready, result := status c.status } }
       | none => badRange s)
    | none =>
      match s.cages.fetched.find? (isTarget r.client tag) with
      | some q =>
        if q.opcode = 0x0104 then badRange s
        else
          let s1 := modCages (fun g => { g with fetched := g.fetched.erase q }) s
          answer (endAborted q 0 t (enterTag q.client q.tag (reqDigest q) true s1)) (status stAborted)
      | none => refuse s stBadArg 6

def execAbort (r : Req) (t : Nat) (s : State) : Host.Outcome State Fault Refusal := .next (runCommand 0x0104 abort r t s)

/-! Taking requests (R385). -/

/-- The meanings of the commands of groups 0x01 to 0x06. -/
def meaningA (op : Nat) : Option (Req → Nat → State → Out) :=
  match op with
  | 0x0101 => some devInfo | 0x0102 => some devStatus | 0x0103 => some devReset | 0x0104 => some abort | 0x0105 => some echo
  | 0x0201 => some bundleLoad | 0x0202 => some bundleActivate | 0x0203 => some configDigest
  | 0x0301 => some laneBringup | 0x0302 => some laneStatus | 0x0303 => some laneAssign
  | 0x0401 => some integSchedule | 0x0402 => some integStop | 0x0403 => some drainCmd | 0x0404 => some arrayLayout
  | 0x0405 => some frameBudget
  | 0x0501 => some beamsetDefine | 0x0502 => some beamDelays | 0x0503 => some beamWeightTable | 0x0504 => some promptConfig
  | 0x0601 => some assayConfig | 0x0602 => some assayerLoad | 0x0603 => some assayerRun | 0x0604 => some triggerConfig
  | 0x0605 => some triggerArm | _ => none

/-- The meanings of the commands of groups 0x07 to 0x0D. -/
def meaningB (op : Nat) : Option (Req → Nat → State → Out) :=
  match op with
  | 0x0701 => some captureConfig | 0x0702 => some captureFreeze | 0x0703 => some captureRelease
  | 0x0801 => some hoistStreams | 0x0802 => some hoistPaths | 0x0803 => some crushConfig
  | 0x0901 => some pitStatus | 0x0902 => some pitRetireRank | 0x0903 => some pitRegulator | 0x0904 => some pitScrub
  | 0x0A01 => some doTimeRefs | 0x0A02 => some doTimeLoop | 0x0A03 => some doTimePhaseStep | 0x0A04 => some doTimeSet
  | 0x0A05 => some doTimeStatus | 0x0A06 => some doPtpConfig | 0x0A07 => some doHoldoverModel
  | 0x0B01 => some monSequence | 0x0B02 => some monCalibrate | 0x0B03 => some monRead | 0x0B04 => some monUrgent
  | 0x0C01 => some constJoin | 0x0C02 => some constState | 0x0C03 => some constPolicy
  | 0x0D01 => some shiftStatus | 0x0D02 => some shiftHandover | 0x0D03 => some ledgerRead | 0x0D04 => some ledgerClear
  | 0x0D05 => some quiesce | 0x0D06 => some resume | _ => none

/-- What a request's opcode means; an unlisted one is refused before its meaning is asked for (R384). -/
def meaningOf (op : Nat) : Req → Nat → State → Out :=
  ((meaningA op).orElse (fun _ => meaningB op)).getD (fun _ _ s => refuse s stUnknown 0)

/-- May a fetched request be taken, with the earlier ones still waiting (R385)? -/
def mayTake (s : State) (i : Nat) : Bool :=
  match s.cages.fetched[i]? with
  | some r => (r.forward && decide (r.cage ≤ 5)) || !mustWait (s.cages.fetched.take i) r.opcode s
  | none => false

/-- The first request that need not wait is taken. -/
def takeRequest (t : Nat) (s : State) : State :=
  match (upTo s.cages.fetched.length).find? (mayTake s) with
  | some i =>
    let r := s.cages.fetched.getD i {}
    runNow r.opcode (meaningOf r.opcode) r t (modCages (fun g => { g with fetched := g.fetched.eraseIdx i }) s)
  | none => s

def execRequestAccept (t : Nat) (s : State) : Host.Outcome State Fault Refusal :=
  .next (if cagesOpen s then resetNow (withBell (takeRequest t) s) else s)

/-! The end of a takeover (14 R324, Table 14.3 steps 5 to 7). -/

/-- A command ACCEPTED in the journal is executed from the start. -/
def redo (t : Nat) (s : State) (o : OpenCmd) : State :=
  let s := undo o (modCages (fun g => { g with openCmds := g.openCmds.erase o }) s)
  match entryCheck ((cmdSpec o.req.opcode).getD { op := o.req.opcode }) o.req s with
  | some (st, d) => settle o.req o.digest t (refuse s st d)
  | none => settle o.req o.digest t (meaningOf o.req.opcode o.req t s)

/-- The incoming core acts on the journal, takes the shift, and opens the cages. -/
def takeOver (c t : Nat) (bad : List LogFault) (s : State) : State :=
  let s := serveInbox t (takeShift c (dropJournal bad s))
  let s := finishOpen (fun o => isOp 0x0D02 o && decide (o.phase = .committed)) (fun _ => {}) t s
  fetchAll ((s.cages.openCmds.filter (fun o => decide (o.phase = .accepted))).foldl (redo t) s)

/-- R324: the incoming core ends its takeover. `bad` are the records of the shift log that memory has altered. -/
def execTakeoverComplete (t : Nat) (bad : List LogFault) (s : State) : Host.Outcome State Fault Refusal :=
  .next (match s.shift.incoming with
    | some c => withBell (takeOver c t bad) s
    | none => s)

end Sys2Proof.Machine
end

