-- ==== Sys2Proof/Machine/Elec.lean ====
section
/-! DEFINITION. Supplies and temperature (19 R436, R437, R445, Table 19.3). -/

namespace Sys2Proof.Machine

/-! Supplies. -/

/-- A supply leaves its range: SUPPLY in PWR_CAUSE (R437). -/
def loseSupply (k : Nat) (s : State) : State :=
  let s := if supplyOn s k then pwrCause [7] s else s
  modPwr (fun p => { p with supply := upd p.supply k (fun _ => false) }) s

def gainSupply (k : Nat) (s : State) : State := modPwr (fun p => { p with supply := upd p.supply k (fun _ => true) }) s

/-- IO, CTL and DP lose power, and AON runs on; no reset is counted yet. -/
def powerOff (s : State) : State :=
  let s := modTu restOutputs s
  if s.shift.held = .cold then s
  else modShift (fun x => { x with
    resetCause := s.shift.resetCause, hardResets := s.shift.hardResets, cold := s.shift.cold, lastKind := s.shift.lastKind })
    (hardReset 1 s)

/-- Power is back: a hard reset with RESET_CAUSE 1, as if HRST_N had been held low. -/
def powerOn (s : State) : State := if s.shift.held = .hard then hardReset 1 s else s

/-- VAUX has been out of its range for 1 µs: a cold reset, held until VAUX is back and PORST_N is high. -/
def execVauxLoss (s : State) : Host.Outcome State Fault Refusal := .next (coldReset (loseSupply vaux s))

def execVinLoss (s : State) : Host.Outcome State Fault Refusal := .next (powerOff (withBell (loseSupply vin) s))

/-- VIN returns; a shut-off by temperature goes on (R445). -/
def execVinReturn (s : State) : Host.Outcome State Fault Refusal :=
  .next (if supplyOn s vin then s
    else if s.pwr.shutOff then gainSupply vin s
    else powerOn (gainSupply vin s))

/-- In Run, every enabled receive lane reaches LOS, and every enabled transmit lane loses its lock. `inPkt` has a bit for each
lane that is receiving a packet. -/
def loseLanes (inPkt : Nat) (s : State) : State :=
  (upTo 64).foldl (fun s n => loseSerialiser n (loseSignal n (bit inPkt n) s)) s

def execVlaneLoss (inPkt : Nat) (s : State) : Host.Outcome State Fault Refusal :=
  .next (withBell (fun s => loseLanes inPkt (loseSupply vlane s)) s)

/-- The lanes recover by R35, R37 and R39. -/
def execVlaneReturn (s : State) : Host.Outcome State Fault Refusal := .next (gainSupply vlane s)

/-- Without VIO_T the candidates REFA, REFB, PPSA and PPSB fail, XO_IN is lost, and the outputs are not driven. -/
def losePins (s : State) : State := loseXo (modTu restOutputs <| (upTo 4).foldl (fun s i => signalFails i 0 s) s)

/-- Bank `k` of the VIO supplies, 0 VIO_M, 1 VIO_G, 2 VIO_T, is absent. -/
def execVioLoss (k : Nat) (s : State) : Host.Outcome State Fault Refusal :=
  .next (if 2 < k then s
    else withBell (fun s => let s := loseSupply (vioM + k) s; if k = 2 then losePins s else s) s)

/-- The bank is in its range again; signals and XO_IN return by their own rules. -/
def execVioReturn (k : Nat) (s : State) : Host.Outcome State Fault Refusal :=
  .next (if 2 < k then s else gainSupply (vioM + k) s)

/-! Temperature (R445). -/

/-- THERM_WARN is set on reaching 95 °C and clears below 90 °C. -/
def warmth (tj : Int) (s : State) : State :=
  if 95 ≤ tj ∧ !s.pwr.warm then pwrCause [5] (modPwr (fun p => { p with warm := true }) s)
  else if tj < 90 ∧ s.pwr.warm then modPwr (fun p => { p with warm := false, cause := p.cause ^^^ (p.cause &&& 32) }) s
  else s

/-- THERM_TRIP: a QUIESCE with FORCE starts, or one under way takes FORCE. -/
def thermalTrip (s : State) : State :=
  let s := pwrCause [6] s
  if !dpRun s || s.pwr.returning.isSome then s
  else match s.pwr.leaving with
    | some _ => modPwr (fun p => { p with force := true }) s
    | none => leaveRun .trip true s

/-- At 125 °C the device is held as without VIN, until the junction is below 100 °C. -/
def shutOff (tj : Int) (s : State) : State :=
  if 125 ≤ tj ∧ !s.pwr.shutOff then powerOff (modPwr (fun p => { p with shutOff := true }) s)
  else if tj < 100 ∧ s.pwr.shutOff then
    let s := modPwr (fun p => { p with shutOff := false }) s
    if supplyOn s vin then powerOn s else s
  else s

/-- Tj_max: the highest of the readings. -/
def hottest (l : List Int) : Int := l.foldl max (l.headD 0)

/-- R445: the five sensors are read, in °C, and Tj_max is the highest; `rankHot` says that a rank indicates a temperature beyond its operating range. AON samples. -/
def execThermalSample (sensors : List Int) (rankHot : Bool) (s : State) : Host.Outcome State Fault Refusal :=
  .next (if !supplyOn s vaux then s
    else
      let tj := hottest sensors
      let s := withBell (fun s =>
        let s := warmth tj (modPwr (fun p => { p with tj := tj, sensors := sensors }) s)
        if 110 ≤ tj ∨ rankHot then thermalTrip s else s) s
      shutOff tj s)

end Sys2Proof.Machine
end

