-- ==== Sys2Proof/Machine/Winder.lean ====
section
/-! DEFINITION. What a Winder channel executes (15 R357 to R364, R370): MOVE and its bursts, LOOP, WAIT and SIGNAL. -/

namespace Sys2Proof.Machine

/-! Writes that reach the Winder, which CTL's sleep holds until it wakes (R368). -/

/-- R356: a write of WND_CTRL_c with START. -/
def execWinderStart (c v : Nat) (s : State) : Host.Outcome State Fault Refusal :=
  .next (if c < 16 ∧ bit v 1 then wndCtrlWrite c v (wakeFor 0 0x30000 s) else s)

/-- R365: a write of WND_CTRL_c that clears EN. -/
def execWinderDisable (c v : Nat) (s : State) : Host.Outcome State Fault Refusal :=
  .next (if c < 16 ∧ !bit v 0 then wndCtrlWrite c v (wakeFor 0 0x30000 s) else s)

def execWinderEventSet (c v : Nat) (s : State) : Host.Outcome State Fault Refusal :=
  .next (wndEventSet c v (wakeFor 0 0x30000 s))

/-! Stops (R363). -/

/-- The channel stops in ERROR. -/
def wndError (c code : Nat) (s : State) : State :=
  modWch c (fun ch => wndCause [2] { ch with state := .error, err := code, move := none, pack := [] }) s

/-- The channel stops in ERROR with the address that failed. -/
def wndErrorAt (c code addr : Nat) (s : State) : State := wndError c code (modWch c (fun ch => { ch with errAddr := addr % 2 ^ 44 }) s)

def wndIllegal (c : Nat) (s : State) : State := wndError c 1 s

/-- A Winder address with an effective offset. -/
def wndAddrOf (a : Nat) (off : Int) : Nat := 2 ^ 40 * wndSpace a + wrap 40 off

/-- DP may be touched: it is in Run, and has returned to it whole (R370, R371). -/
def dpReady (s : State) : Bool := dpRun s && s.pwr.returning.isNone

/-- The instruction at a running channel's PC, when no MOVE is under way. One that touches DP while DP is not in Run parks the
channel, an illegal one stops it, and so does one that cannot be fetched. -/
def atInstr (c : Nat) (f : WndChan → WndInstr → State → State) (s : State) : State :=
  let ch := wchAt s c
  if 16 ≤ c ∨ s.pwr.ctlSleep ∨ ch.state ≠ .running ∨ ch.move.isSome then s
  else match wndFetch s ch with
    | none => wndErrorAt c 2 (2 ^ 40 + wndFetchAt ch) s
    | some .illegal => wndIllegal c s
    | some i => if instrTouches ch i && !dpReady s then wndPark c s else f ch i s

def wndNext (c : Nat) (s : State) : State := modWch c (fun ch => { ch with pc := (ch.pc + 1) % 65536 }) s

/-! MOVE (R358, R359). -/

/-- Bytes that a space holds; none for a space that does not exist. -/
def spaceSize (space : Nat) : Option Nat :=
  match space with
  | 0 => some pitBytes
  | 1 => some 0x400000
  | 2 => some 0x4000000
  | 3 => some (2 ^ 40)
  | _ => none

/-- `n` bytes at an effective offset lie inside the space of an address. -/
def inSpace (a : Nat) (off : Int) (n : Nat) : Bool :=
  match spaceSize (wndSpace a) with
  | some z => decide (0 ≤ off) && decide (off + n ≤ z)
  | none => false

/-- LEN is a multiple of both widths, both addresses are aligned, and register space is reached 4 bytes at a time. -/
def moveLegal (ch : WndChan) (m : WndMove) : Bool :=
  m.len % m.srcW == 0 && m.len % m.dstW == 0 &&
  decide (effOffset m.src ch.srcAdj % m.srcW = 0) && decide (effOffset m.dst ch.dstAdj % m.dstW = 0) &&
  (decide (wndSpace m.src ≠ 2) || m.srcW == 4) && (decide (wndSpace m.dst ≠ 2) || m.dstW == 4)

/-- An access outside its space stops the channel; one to pit memory is refused there (R358; 12 R256). -/
def outOfSpace (c a : Nat) (off : Int) (s : State) : State :=
  wndErrorAt c 2 (wndAddrOf a off) (if wndSpace a = 0 then modPit (pitCause [5]) s else s)

/-- The first access of each side must lie in its space. -/
def startMove (c : Nat) (ch : WndChan) (m : WndMove) (s : State) : State :=
  let so := effOffset m.src ch.srcAdj
  let eo := effOffset m.dst ch.dstAdj
  if !moveLegal ch m then wndIllegal c s
  else if !inSpace m.src so m.srcW then outOfSpace c m.src so s
  else if !inSpace m.dst eo m.dstW then outOfSpace c m.dst eo s
  else modWch c (fun ch => { ch with move := some (0, 0), pack := [] }) s

/-- R359: channel `c` starts the MOVE at its PC. -/
def execMove (c : Nat) (s : State) : Host.Outcome State Fault Refusal :=
  .next (withBell (atInstr c (fun ch i s => match i with | .move m => startMove c ch m s | _ => s)) s)

/-! Bursts. -/

/-- The MOVE that a channel has under way. -/
def moveOf (s : State) (ch : WndChan) : Option WndMove :=
  match ch.state, ch.move, wndFetch s ch with
  | .running, some _, some (.move m) => some m
  | _, _, _ => none

/-- The channel's next burst writes what the packing register holds; otherwise it reads. -/
def writesNext (ch : WndChan) (m : WndMove) : Bool := decide (m.dstW ≤ ch.pack.length)

/-- The next burst reaches host memory. -/
def burstToHost (ch : WndChan) (m : WndMove) : Bool := wndSpace (if writesNext ch m then m.dst else m.src) == 3

/-- Bytes from an offset to the end of its 256-byte block; a fixed address never leaves its place. -/
def toBoundary (fix : Bool) (off : Int) : Nat := if fix then 256 else 256 - wrap 8 off

/-- Offset and length of a channel's next read burst: no more than the packing register has room for (R359). -/
def readSpan (ch : WndChan) (m : WndMove) : Int × Nat :=
  let r := (ch.move.getD (0, 0)).1
  let off := effOffset m.src ch.srcAdj + (if m.srcFix then 0 else r)
  (off, min (min (m.len - r) (toBoundary m.srcFix off)) (32 - ch.pack.length))

/-- Offset and length of its next write burst. -/
def writeSpan (ch : WndChan) (m : WndMove) : Int × Nat :=
  let w := (ch.move.getD (0, 0)).2
  let off := effOffset m.dst ch.dstAdj + (if m.dstFix then 0 else w)
  (off, min (ch.pack.length / max 1 m.dstW * m.dstW) (toBoundary m.dstFix off))

/-- The next burst reaches pit memory, and P4's regulator never lets it through: RATE is 0 and tokens lack (12 R263). -/
def burstStarved (s : State) (ch : WndChan) (m : WndMove) : Bool :=
  let q := portAt s.pit 4
  let n := if writesNext ch m then (writeSpan ch m).2 else (readSpan ch m).2
  wndSpace (if writesNext ch m then m.dst else m.src) == 0 && q.rate == 0 && decide (q.tokens < 10 * n)

/-- A burst is ready: in D3hot a host access waits (16 R395), and without DP one that touches it. -/
def burstReady (s : State) (c : Nat) : Bool :=
  let ch := wchAt s c
  match moveOf s ch with
  | some m => (!instrTouches ch (.move m) || dpReady s) && !(burstToHost ch m && s.cages.linkUp && s.cages.d3hot) &&
      !burstStarved s ch m
  | none => false

/-- R364: the channel whose burst goes next: the highest priority, then round robin after the one served last. -/
def nextChannel (s : State) : Option Nat :=
  (upTo 4).findSome? (fun p =>
    ((upTo 16).map (fun k => (s.wnd.last.getD p 15 + 1 + k) % 16)).find? (fun c =>
      burstReady s c && decide ((wchAt s c).prio = p)))

/-- Host memory can be reached (Table 15.7, HOST_ERR). -/
def hostReach (s : State) : Bool := s.cages.linkUp && s.cages.busMaster

/-- Register reads of a burst: `k` accesses from an offset. -/
def readRegs (o step : Nat) : Nat → State → List Byte × State
  | 0, s => ([], s)
  | k + 1, s =>
    let (v, s) := busRead 3 o s
    let (l, s) := readRegs (o + step) step k s
    (leBytes 4 v ++ l, s)

def writeRegs (o step t : Nat) : List Byte → Nat → State → State
  | _, 0, s => s
  | l, k + 1, s => writeRegs (o + step) step t (l.drop 4) k (busWrite 3 o (leAt l 0 4) t s)

/-- The bytes that `n` bytes of accesses of width `w` read from a byte-addressed space: those from one place over and over
when the address is fixed. -/
def repeatAt (fix : Bool) (n w : Nat) (read : Nat → Nat → List Byte) (o : Nat) : List Byte :=
  if fix then (List.replicate (n / max 1 w) (read o w)).flatten else read o n

/-- What a write burst leaves in a byte-addressed space: with a fixed address the last access. -/
def lastOf (fix : Bool) (w : Nat) (l : List Byte) : List Byte := if fix then l.drop (l.length - w) else l

/-- A read burst of channel `c`. `host` is what host memory holds, and `ok` that its read completes successfully. -/
def readBurst (c : Nat) (m : WndMove) (host : List Byte) (ok : Bool) (s : State) : State :=
  let ch := wchAt s c
  let (r, w) := ch.move.getD (0, 0)
  let (off, n) := readSpan ch m
  let o := off.toNat
  let got := fun (l : List Byte) (s : State) => modWch c (fun ch => { ch with move := some (r + n, w), pack := ch.pack ++ l }) s
  if !inSpace m.src off (if m.srcFix then m.srcW else n) then outOfSpace c m.src off s
  else match wndSpace m.src with
    | 0 =>
      let x := pitRead s o (if m.srcFix then m.srcW else n)
      if x.2 then
        let line := ((upTo n).find? (fun i => s.pit.damaged.contains ((o + i) / 64))).getD 0
        wndErrorAt c 3 ((o + line) / 64 * 64) (servePort 4 n s)
      else got (repeatAt m.srcFix n m.srcW (fun a k => (pitRead s a k).1) o) (servePort 4 n s)
    | 1 => got (repeatAt m.srcFix n m.srcW (memRead s.sys.sram) o) s
    | 2 =>
      let x := readRegs o (if m.srcFix then 0 else 4) (n / 4) s
      got x.1 x.2
    | _ => if hostReach s && ok then got (padTo n host) s else wndErrorAt c 4 (wndAddrOf m.src off) s

/-- The MOVE has written all its bytes: the next instruction follows. -/
def moveDone (c : Nat) (m : WndMove) (s : State) : State :=
  match (wchAt s c).move with
  | some (_, w) => if m.len ≤ w then wndNext c (modWch c (fun ch => { ch with move := none, pack := [] }) s) else s
  | none => s

/-- A write burst of channel `c` at timer count `t`. -/
def writeBurst (c : Nat) (m : WndMove) (t : Nat) (s : State) : State :=
  let ch := wchAt s c
  let (r, w) := ch.move.getD (0, 0)
  let (off, n) := writeSpan ch m
  let l := ch.pack.take n
  let o := off.toNat
  let put := fun (s : State) => moveDone c m (modWch c (fun ch => { ch with
    move := some (r, w + n), pack := ch.pack.drop n, bytes := (ch.bytes + n) % 2 ^ 64 }) s)
  if !inSpace m.dst off (if m.dstFix then m.dstW else n) then outOfSpace c m.dst off s
  else match wndSpace m.dst with
    | 0 => put (servePort 4 n (pitWrite o (lastOf m.dstFix m.dstW l) s))
    | 1 => put { s with sys := { s.sys with sram := memWrite s.sys.sram o (lastOf m.dstFix m.dstW l) } }
    | 2 => put (writeRegs o (if m.dstFix then 0 else 4) t l (n / 4) s)
    | _ =>
      if hostReach s then put (modWnd (fun x => { x with hostOut := some ((ch.hostBase + o) % 2 ^ 64, l) }) s)
      else wndErrorAt c 4 (wndAddrOf m.dst off) s

/-- One burst of one channel. -/
def burst (host : List Byte) (ok : Bool) (t : Nat) (s : State) : State :=
  match nextChannel s with
  | none => s
  | some c =>
    let ch := wchAt s c
    let s := modWnd (fun w => { w with last := upd w.last ch.prio (fun _ => c) }) s
    match moveOf s ch with
    | some m => if writesNext ch m then writeBurst c m t s else readBurst c m host ok s
    | none => s

/-- R359, R364: the next burst of the Winder, at timer count `t`. -/
def execWinderBurst (host : List Byte) (ok : Bool) (t : Nat) (s : State) : Host.Outcome State Fault Refusal :=
  .next (if s.pwr.ctlSleep then s else withBell (burst host ok t) s)

/-! LOOP (R360). -/

def runLoop (c : Nat) (ch : WndChan) (target count : Nat) (ss ds : Int) (s : State) : State :=
  if ch.loopAt.isSome ∧ ch.loopAt ≠ some ch.pc then wndIllegal c s
  else
    if loopsOn ch count then
      modWch c (fun ch => { ch with
        loop := (if ch.loopAt.isNone then count - 1 else ch.loop) - 1, loopAt := some ch.pc, srcAdj := ch.srcAdj + ss, dstAdj := ch.dstAdj + ds, pc := target }) s
    else wndNext c (modWch c (fun ch => { ch with loop := 0, loopAt := none, srcAdj := 0, dstAdj := 0 }) s)

def execWinderLoop (c : Nat) (s : State) : Host.Outcome State Fault Refusal :=
  .next (withBell (atInstr c (fun ch i s => match i with
    | .loop target count ss ds => runLoop c ch target count ss ds s
    | _ => s)) s)

/-! WAIT (R361). -/

def isWait : WndInstr → Bool
  | .waitEvent _ | .waitDelay _ | .waitPoll _ _ _ => true
  | _ => false

def execWinderWait (c : Nat) (s : State) : Host.Outcome State Fault Refusal :=
  .next (withBell (atInstr c (fun _ i s =>
    if isWait i then modWch c (fun ch => { ch with state := .waiting, met := false }) s else s)) s)

/-- The WAIT that a channel is in. -/
def waitOf (s : State) (c : Nat) : Option WndInstr :=
  let ch := wchAt s c
  if c < 16 ∧ ch.state = .waiting then wndFetch s ch else none

/-- Once per microsecond: a POLL reads its register. -/
def poll (c : Nat) (s : State) : State :=
  match waitOf s c with
  | some (.waitPoll o mask value) =>
    if 0x4000000 ≤ o then wndErrorAt c 2 (2 ^ 41 + o) s
    else if dpOffset o && !dpReady s then wndPark c s
    else
      let (v, s) := busRead 3 o s
      modWch c (fun ch => { ch with met := decide (v &&& mask = value) }) s
  | _ => s

def execWinderPoll (c : Nat) (s : State) : Host.Outcome State Fault Refusal := .next (withBell (poll c) s)

/-- The wait ends: its event bit is set and is cleared, its `ns` nanoseconds have passed, or its last read matched. -/
def endWait (c ns : Nat) (s : State) : State :=
  let go := fun (s : State) => wndNext c (modWch c (fun ch => { ch with state := .running, met := false }) s)
  match waitOf s c with
  | some (.waitEvent b) =>
    if bit (wchAt s c).event b then go (modWch c (fun ch => { ch with event := ch.event ^^^ 2 ^ b }) s) else s
  | some (.waitDelay d) => if d ≤ ns then go s else s
  | some (.waitPoll _ _ _) => if (wchAt s c).met then go s else s
  | _ => s

def execWinderWaitEnd (c ns : Nat) (s : State) : Host.Outcome State Fault Refusal := .next (endWait c ns s)

/-! SIGNAL (R362). -/

def runSignal (c : Nat) (last irq event : Bool) (target b stamp : Nat) (s : State) : State :=
  let s := modWch c (fun ch => wndCause (if irq then [0] else []) { ch with signal := stamp }) s
  let s := if event then wndEventSet target (2 ^ b) s else s
  if last then modWch c (fun ch => wndCause [1] { ch with state := .done }) s else wndNext c s

def execSignal (c : Nat) (s : State) : Host.Outcome State Fault Refusal :=
  .next (withBell (atInstr c (fun _ i s => match i with
    | .signal last irq event target b stamp => runSignal c last irq event target b stamp s
    | _ => s)) s)

end Sys2Proof.Machine
end

