-- ==== Sys2Proof/Machine/Dispatch.lean ====
section
/-! DEFINITION. One arm per command or event: each is one direct call of its meaning. -/

namespace Sys2Proof.Machine

def exec (i : Instr) (s : State) : Host.Outcome State Fault Refusal :=
  match i with
  | .registerWrite agent a v t => Sys2Proof.Machine.execRegisterWrite agent a v t s
  | .illegalRegisterAccess agent o kind => Sys2Proof.Machine.execIllegalRegisterAccess agent o kind s
  | .wideQuantityLowRead agent o => Sys2Proof.Machine.execWideQuantityLowRead agent o s
  | .wideQuantityHighWrite agent o v t => Sys2Proof.Machine.execWideQuantityHighWrite agent o v t s
  | .laneAssign r t => Sys2Proof.Machine.execLaneAssign r t s
  | .txLaneTurnOff n => Sys2Proof.Machine.execTxLaneTurnOff n s
  | .txTrainDone n => Sys2Proof.Machine.execTxTrainDone n s
  | .txSkipSend n w => Sys2Proof.Machine.execTxSkipSend n w s
  | .txTrainSend n w => Sys2Proof.Machine.execTxTrainSend n w s
  | .txTrainReport n w => Sys2Proof.Machine.execTxTrainReport n w s
  | .txFault n => Sys2Proof.Machine.execTxFault n s
  | .txSerialiserRelock n => Sys2Proof.Machine.execTxSerialiserRelock n s
  | .rxTrain n info lane => Sys2Proof.Machine.execRxTrain n info lane s
  | .rxSkip n fill => Sys2Proof.Machine.execRxSkip n fill s
  | .elasticEvent n inPkt => Sys2Proof.Machine.execElasticEvent n inPkt s
  | .wordAlignment n words => Sys2Proof.Machine.execWordAlignment n words s
  | .codeError n w pos word disp inPkt => Sys2Proof.Machine.execCodeError n w pos word disp inPkt s
  | .rxPacket n how bytes crc t => Sys2Proof.Machine.execRxPacket n how bytes crc t s
  | .losAssert n inPkt => Sys2Proof.Machine.execLosAssert n inPkt s
  | .losDeassert n => Sys2Proof.Machine.execLosDeassert n s
  | .lolAssert n inPkt => Sys2Proof.Machine.execLolAssert n inPkt s
  | .lolDeassert n => Sys2Proof.Machine.execLolDeassert n s
  | .rateTrialSuccess n => Sys2Proof.Machine.execRateTrialSuccess n s
  | .rateTrialFail n => Sys2Proof.Machine.execRateTrialFail n s
  | .savedRateAttemptEnd n => Sys2Proof.Machine.execSavedRateAttemptEnd n s
  | .adaptEnd n clean ctle taps => Sys2Proof.Machine.execAdaptEnd n clean ctle taps s
  | .relockAttempt n ok => Sys2Proof.Machine.execRelockAttempt n ok s
  | .laneBringup r t => Sys2Proof.Machine.execLaneBringup r t s
  | .laneStatus r t => Sys2Proof.Machine.execLaneStatus r t s
  | .laneCounterClear n => Sys2Proof.Machine.execLaneCounterClear n s
  | .dataPacket lane => Sys2Proof.Machine.execDataPacket lane s
  | .promptPacket lane => Sys2Proof.Machine.execPromptPacket lane s
  | .promptWaitExpiry n => Sys2Proof.Machine.execPromptWaitExpiry n s
  | .controlMessage lane t => Sys2Proof.Machine.execControlMessage lane t s
  | .controlAck lane => Sys2Proof.Machine.execControlAck lane s
  | .pureAckSend id => Sys2Proof.Machine.execPureAckSend id s
  | .controlSend id => Sys2Proof.Machine.execControlSend id s
  | .controlRetransmit id t => Sys2Proof.Machine.execControlRetransmit id t s
  | .sealWindowOpen j => Sys2Proof.Machine.execSealWindowOpen j s
  | .chunkBoundary opens admitted stalls t => Sys2Proof.Machine.execChunkBoundary opens admitted stalls t s
  | .hopCounterClear => Sys2Proof.Machine.execHopCounterClear s
  | .runHandover k => Sys2Proof.Machine.execRunHandover k s
  | .shadowEmptied k cycles => Sys2Proof.Machine.execShadowEmptied k cycles s
  | .beadStoreError k ctx ue => Sys2Proof.Machine.execBeadStoreError k ctx ue s
  | .preemptionLatch k n admitted => Sys2Proof.Machine.execPreemptionLatch k n admitted s
  | .preemptionEnd k done => Sys2Proof.Machine.execPreemptionEnd k done s
  | .preemptionDeferredStart k => Sys2Proof.Machine.execPreemptionDeferredStart k s
  | .drain r t => Sys2Proof.Machine.execDrain r t s
  | .drainDone admitted stalls t => Sys2Proof.Machine.execDrainDone admitted stalls t s
  | .abaCounterClear => Sys2Proof.Machine.execAbaCounterClear s
  | .linePromotion g ue inflight => Sys2Proof.Machine.execLinePromotion g ue inflight s
  | .dumpRecordPosted => Sys2Proof.Machine.execDumpRecordPosted s
  | .integSchedule r t => Sys2Proof.Machine.execIntegSchedule r t s
  | .integStop r t => Sys2Proof.Machine.execIntegStop r t s
  | .closeSweep => Sys2Proof.Machine.execCloseSweep s
  | .closeDone t => Sys2Proof.Machine.execCloseDone t s
  | .talCounterClear => Sys2Proof.Machine.execTalCounterClear s
  | .beamsetDefine r t => Sys2Proof.Machine.execBeamsetDefine r t s
  | .beamDelays r t => Sys2Proof.Machine.execBeamDelays r t s
  | .generationCommit t => Sys2Proof.Machine.execGenerationCommit t s
  | .beamWeightTable r t => Sys2Proof.Machine.execBeamWeightTable r t s
  | .promptConfig r t => Sys2Proof.Machine.execPromptConfig r t s
  | .weightBlockArrival set r cycles => Sys2Proof.Machine.execWeightBlockArrival set r cycles s
  | .beamBlocksHandover pos => Sys2Proof.Machine.execBeamBlocksHandover pos s
  | .promptBlockJoin n => Sys2Proof.Machine.execPromptBlockJoin n s
  | .promptPowerHandover n => Sys2Proof.Machine.execPromptPowerHandover n s
  | .beamCounterClear => Sys2Proof.Machine.execBeamCounterClear s
  | .tourStart t => Sys2Proof.Machine.execTourStart t s
  | .seriesSlot n => Sys2Proof.Machine.execSeriesSlot n s
  | .assayConfig r t => Sys2Proof.Machine.execAssayConfig r t s
  | .assayCounterClear => Sys2Proof.Machine.execAssayCounterClear s
  | .assayProbeSelWrite n => Sys2Proof.Machine.execAssayProbeSelWrite n s
  | .add a dd ds dt => Sys2Proof.Machine.execAdd a dd ds dt s
  | .sub a dd ds dt => Sys2Proof.Machine.execSub a dd ds dt s
  | .and a dd ds dt => Sys2Proof.Machine.execAnd a dd ds dt s
  | .or a dd ds dt => Sys2Proof.Machine.execOr a dd ds dt s
  | .xor a dd ds dt => Sys2Proof.Machine.execXor a dd ds dt s
  | .shl a dd ds dt => Sys2Proof.Machine.execShl a dd ds dt s
  | .shra a dd ds dt => Sys2Proof.Machine.execShra a dd ds dt s
  | .shrl a dd ds dt => Sys2Proof.Machine.execShrl a dd ds dt s
  | .slt a dd ds dt => Sys2Proof.Machine.execSlt a dd ds dt s
  | .sltu a dd ds dt => Sys2Proof.Machine.execSltu a dd ds dt s
  | .min a dd ds dt => Sys2Proof.Machine.execMin a dd ds dt s
  | .max a dd ds dt => Sys2Proof.Machine.execMax a dd ds dt s
  | .abs a dd ds => Sys2Proof.Machine.execAbs a dd ds s
  | .addi a dd ds imm => Sys2Proof.Machine.execAddi a dd ds imm s
  | .andi a dd ds imm => Sys2Proof.Machine.execAndi a dd ds imm s
  | .ori a dd ds imm => Sys2Proof.Machine.execOri a dd ds imm s
  | .xori a dd ds imm => Sys2Proof.Machine.execXori a dd ds imm s
  | .shli a dd ds sh => Sys2Proof.Machine.execShli a dd ds sh s
  | .shrai a dd ds sh => Sys2Proof.Machine.execShrai a dd ds sh s
  | .shrli a dd ds sh => Sys2Proof.Machine.execShrli a dd ds sh s
  | .movi a dd imm => Sys2Proof.Machine.execMovi a dd imm s
  | .movhi a dd imm => Sys2Proof.Machine.execMovhi a dd imm s
  | .mul a ds dt hs ht ld al dl e => Sys2Proof.Machine.execMul a ds dt hs ht ld al dl e s
  | .mac a ds dt hs ht ld al dl e => Sys2Proof.Machine.execMac a ds dt hs ht ld al dl e s
  | .msu a ds dt hs ht ld al dl e => Sys2Proof.Machine.execMsu a ds dt hs ht ld al dl e s
  | .mova a dd sh => Sys2Proof.Machine.execMova a dd sh s
  | .mfah a dd => Sys2Proof.Machine.execMfah a dd s
  | .mta a ds dt => Sys2Proof.Machine.execMta a ds dt s
  | .clra a => Sys2Proof.Machine.execClra a s
  | .ld a d ar post off e => Sys2Proof.Machine.execLd a d ar post off e s
  | .ldh a d ar post off e => Sys2Proof.Machine.execLdh a d ar post off e s
  | .st a d ar post off => Sys2Proof.Machine.execSt a d ar post off s
  | .sth a d ar post off e => Sys2Proof.Machine.execSth a d ar post off e s
  | .movai a ar imm => Sys2Proof.Machine.execMovai a ar imm s
  | .adda a ar off => Sys2Proof.Machine.execAdda a ar off s
  | .movda a ar d => Sys2Proof.Machine.execMovda a ar d s
  | .movad a d ar => Sys2Proof.Machine.execMovad a d ar s
  | .br a target => Sys2Proof.Machine.execBr a target s
  | .beqz a d target => Sys2Proof.Machine.execBeqz a d target s
  | .bnez a d target => Sys2Proof.Machine.execBnez a d target s
  | .bltz a d target => Sys2Proof.Machine.execBltz a d target s
  | .bgez a d target => Sys2Proof.Machine.execBgez a d target s
  | .call a target => Sys2Proof.Machine.execCall a target s
  | .jr a d => Sys2Proof.Machine.execJr a d s
  | .loop a d stop => Sys2Proof.Machine.execLoop a d stop s
  | .loopi a count stop => Sys2Proof.Machine.execLoopi a count stop s
  | .mtl a d r => Sys2Proof.Machine.execMtl a d r s
  | .mfl a d r => Sys2Proof.Machine.execMfl a d r s
  | .pin a d port t => Sys2Proof.Machine.execPin a d port t s
  | .pout a d port => Sys2Proof.Machine.execPout a d port s
  | .nop a => Sys2Proof.Machine.execNop a s
  | .ei a => Sys2Proof.Machine.execEi a s
  | .di a => Sys2Proof.Machine.execDi a s
  | .wait a => Sys2Proof.Machine.execWait a s
  | .waitWake a n => Sys2Proof.Machine.execWaitWake a n s
  | .reti a => Sys2Proof.Machine.execReti a s
  | .halt a => Sys2Proof.Machine.execHalt a s
  | .illegalInstruction a e => Sys2Proof.Machine.execIllegalInstruction a e s
  | .interruptEntry a => Sys2Proof.Machine.execInterruptEntry a s
  | .tickLoad a d => Sys2Proof.Machine.execTickLoad a d s
  | .tickExpiry a => Sys2Proof.Machine.execTickExpiry a s
  | .evFree a d => Sys2Proof.Machine.execEvFree a d s
  | .injValue a d => Sys2Proof.Machine.execInjValue a d s
  | .frz a d => Sys2Proof.Machine.execFrz a d s
  | .trqGo a d => Sys2Proof.Machine.execTrqGo a d s
  | .outSend a d => Sys2Proof.Machine.execOutSend a d s
  | .inFree a d => Sys2Proof.Machine.execInFree a d s
  | .ayrOutFree a => Sys2Proof.Machine.execAyrOutFree a s
  | .ayrInSend a => Sys2Proof.Machine.execAyrInSend a s
  | .assayerWindowWrite a off v => Sys2Proof.Machine.execAssayerWindowWrite a off v s
  | .assayerLoad r t => Sys2Proof.Machine.execAssayerLoad r t s
  | .assayerRun r t => Sys2Proof.Machine.execAssayerRun r t s
  | .assayerStopCommit a t => Sys2Proof.Machine.execAssayerStopCommit a t s
  | .forcedStop a t => Sys2Proof.Machine.execForcedStop a t s
  | .ayrCounterClear a => Sys2Proof.Machine.execAyrCounterClear a s
  | .trigInEdge n level held tick => Sys2Proof.Machine.execTrigInEdge n level held tick s
  | .hitArrival src => Sys2Proof.Machine.execHitArrival src s
  | .hitExpiry => Sys2Proof.Machine.execHitExpiry s
  | .candidateDecision cond tick => Sys2Proof.Machine.execCandidateDecision cond tick s
  | .pulseStart n => Sys2Proof.Machine.execPulseStart n s
  | .pulseEnd n => Sys2Proof.Machine.execPulseEnd n s
  | .triggerConfig r t => Sys2Proof.Machine.execTriggerConfig r t s
  | .triggerArm r t => Sys2Proof.Machine.execTriggerArm r t s
  | .captureConfig r t => Sys2Proof.Machine.execCaptureConfig r t s
  | .captureFreeze r t => Sys2Proof.Machine.execCaptureFreeze r t s
  | .captureRelease r t => Sys2Proof.Machine.execCaptureRelease r t s
  | .captureReadoutDone t => Sys2Proof.Machine.execCaptureReadoutDone t s
  | .trgCounterClear => Sys2Proof.Machine.execTrgCounterClear s
  | .packetBuild stream => Sys2Proof.Machine.execPacketBuild stream s
  | .statPacketBuild elapsed => Sys2Proof.Machine.execStatPacketBuild elapsed s
  | .lanePacketStart n aged now => Sys2Proof.Machine.execLanePacketStart n aged now s
  | .packetSent n => Sys2Proof.Machine.execPacketSent n s
  | .copyDrop path timed => Sys2Proof.Machine.execCopyDrop path timed s
  | .hoistFlushEnd => Sys2Proof.Machine.execHoistFlushEnd s
  | .hoistStreams r t => Sys2Proof.Machine.execHoistStreams r t s
  | .hoistPaths r t => Sys2Proof.Machine.execHoistPaths r t s
  | .crushConfig r t => Sys2Proof.Machine.execCrushConfig r t s
  | .crusherFrameDone stream => Sys2Proof.Machine.execCrusherFrameDone stream s
  | .expanderJobStart => Sys2Proof.Machine.execExpanderJobStart s
  | .expanderJobEnd ok t => Sys2Proof.Machine.execExpanderJobEnd ok t s
  | .hstCounterClear => Sys2Proof.Machine.execHstCounterClear s
  | .pitRequest port addr len data ns => Sys2Proof.Machine.execPitRequest port addr len data ns s
  | .pitRequestServed c f ns => Sys2Proof.Machine.execPitRequestServed c f ns s
  | .perBankRefresh r doubled => Sys2Proof.Machine.execPerBankRefresh r doubled s
  | .retrainPause c ok => Sys2Proof.Machine.execRetrainPause c ok s
  | .scrubRead f => Sys2Proof.Machine.execScrubRead f s
  | .migrationStart => Sys2Proof.Machine.execMigrationStart s
  | .migrationBlockCopy faults targetFails => Sys2Proof.Machine.execMigrationBlockCopy faults targetFails s
  | .pitStatus r t => Sys2Proof.Machine.execPitStatus r t s
  | .pitRetireRank r t => Sys2Proof.Machine.execPitRetireRank r t s
  | .pitRegulator r t => Sys2Proof.Machine.execPitRegulator r t s
  | .pitScrub r t => Sys2Proof.Machine.execPitScrub r t s
  | .pitCounterClear => Sys2Proof.Machine.execPitCounterClear s
  | .tuSecondEvaluation ns t => Sys2Proof.Machine.execTuSecondEvaluation ns t s
  | .ppsOutFall => Sys2Proof.Machine.execPpsOutFall s
  | .signalFailure cand why => Sys2Proof.Machine.execSignalFailure cand why s
  | .signalRestore cand => Sys2Proof.Machine.execSignalRestore cand s
  | .phaseMeasurement cand raw ns => Sys2Proof.Machine.execPhaseMeasurement cand raw ns s
  | .ppsEdge cand off => Sys2Proof.Machine.execPpsEdge cand off s
  | .lockDeclared => Sys2Proof.Machine.execLockDeclared s
  | .historyRecord mean temp => Sys2Proof.Machine.execHistoryRecord mean temp s
  | .tempStale => Sys2Proof.Machine.execTempStale s
  | .xoLost => Sys2Proof.Machine.execXoLost s
  | .xoReturn => Sys2Proof.Machine.execXoReturn s
  | .timeRefs r t => Sys2Proof.Machine.execTimeRefs r t s
  | .timeLoop r t => Sys2Proof.Machine.execTimeLoop r t s
  | .timePhaseStep r t => Sys2Proof.Machine.execTimePhaseStep r t s
  | .timeSet r t => Sys2Proof.Machine.execTimeSet r t s
  | .timeStatus r t => Sys2Proof.Machine.execTimeStatus r t s
  | .ptpConfig r t => Sys2Proof.Machine.execPtpConfig r t s
  | .holdoverModel r t => Sys2Proof.Machine.execHoldoverModel r t s
  | .ptpAnnounce a => Sys2Proof.Machine.execPtpAnnounce a s
  | .ptpSync port sender twoStep t1 t2 cs log ns => Sys2Proof.Machine.execPtpSync port sender twoStep t1 t2 cs log ns s
  | .ptpDelayResp port sender seq t4 cr log => Sys2Proof.Machine.execPtpDelayResp port sender seq t4 cr log s
  | .ptpDelayReqSend t3 => Sys2Proof.Machine.execPtpDelayReqSend t3 s
  | .ptpTcForward port frame residence => Sys2Proof.Machine.execPtpTcForward port frame residence s
  | .ptpTcDrop => Sys2Proof.Machine.execPtpTcDrop s
  | .tuCounterClear => Sys2Proof.Machine.execTuCounterClear s
  | .watchdogExpiry ms => Sys2Proof.Machine.execWatchdogExpiry ms s
  | .shiftWdtKick agent => Sys2Proof.Machine.execShiftWdtKick agent s
  | .shiftRelinquish agent v t => Sys2Proof.Machine.execShiftRelinquish agent v t s
  | .coreMemUe => Sys2Proof.Machine.execCoreMemUe s
  | .busHang => Sys2Proof.Machine.execBusHang s
  | .selfTest ok => Sys2Proof.Machine.execSelfTest ok s
  | .takeoverComplete t bad => Sys2Proof.Machine.execTakeoverComplete t bad s
  | .takeoverFailed => Sys2Proof.Machine.execTakeoverFailed s
  | .repairPassEnd c ok => Sys2Proof.Machine.execRepairPassEnd c ok s
  | .resetReq agent v => Sys2Proof.Machine.execResetReq agent v s
  | .hrstNAssert => Sys2Proof.Machine.execHrstNAssert s
  | .porstNAssert => Sys2Proof.Machine.execPorstNAssert s
  | .resetRelease => Sys2Proof.Machine.execResetRelease s
  | .perstNAssert => Sys2Proof.Machine.execPerstNAssert s
  | .bootS0 ok dur => Sys2Proof.Machine.execBootS0 ok dur s
  | .bootS1 ok dur => Sys2Proof.Machine.execBootS1 ok dur s
  | .bootS2 bad full dur => Sys2Proof.Machine.execBootS2 bad full dur s
  | .bootS3 ok area dur => Sys2Proof.Machine.execBootS3 ok area dur s
  | .bootS4 dpOk pass dur t => Sys2Proof.Machine.execBootS4 dpOk pass dur t s
  | .bootS5 dur => Sys2Proof.Machine.execBootS5 dur s
  | .bootS6 elapsed dur => Sys2Proof.Machine.execBootS6 elapsed dur s
  | .bootS7 now dur => Sys2Proof.Machine.execBootS7 now dur s
  | .dpReturnComplete pass bad now => Sys2Proof.Machine.execDpReturnComplete pass bad now s
  | .persistRecordWrite kind => Sys2Proof.Machine.execPersistRecordWrite kind s
  | .shiftStatus r t => Sys2Proof.Machine.execShiftStatus r t s
  | .shiftHandover r t => Sys2Proof.Machine.execShiftHandover r t s
  | .ledgerRead r t => Sys2Proof.Machine.execLedgerRead r t s
  | .ledgerClear r t => Sys2Proof.Machine.execLedgerClear r t s
  | .quiesce r t => Sys2Proof.Machine.execQuiesce r t s
  | .dpQuiesced t => Sys2Proof.Machine.execDpQuiesced t s
  | .resume r t => Sys2Proof.Machine.execResume r t s
  | .devReset r t => Sys2Proof.Machine.execDevReset r t s
  | .bellSwset w v => Sys2Proof.Machine.execBellSwset w v s
  | .bellClaim agent t => Sys2Proof.Machine.execBellClaim agent t s
  | .bellComplete agent t n => Sys2Proof.Machine.execBellComplete agent t n s
  | .bellPendClear w v => Sys2Proof.Machine.execBellPendClear w v s
  | .bellModeWrite v => Sys2Proof.Machine.execBellModeWrite v s
  | .coreRemapWrite core v => Sys2Proof.Machine.execCoreRemapWrite core v s
  | .winderStart c v => Sys2Proof.Machine.execWinderStart c v s
  | .winderDisable c v => Sys2Proof.Machine.execWinderDisable c v s
  | .winderEventSet c v => Sys2Proof.Machine.execWinderEventSet c v s
  | .move c => Sys2Proof.Machine.execMove c s
  | .winderBurst host ok t => Sys2Proof.Machine.execWinderBurst host ok t s
  | .winderLoop c => Sys2Proof.Machine.execWinderLoop c s
  | .winderWait c => Sys2Proof.Machine.execWinderWait c s
  | .winderPoll c => Sys2Proof.Machine.execWinderPoll c s
  | .winderWaitEnd c ns => Sys2Proof.Machine.execWinderWaitEnd c ns s
  | .signal c => Sys2Proof.Machine.execSignal c s
  | .pwrSleepReq agent v => Sys2Proof.Machine.execPwrSleepReq agent v s
  | .ctlSleepEntry => Sys2Proof.Machine.execCtlSleepEntry s
  | .ctlWake => Sys2Proof.Machine.execCtlWake s
  | .pwrTimerWrite v => Sys2Proof.Machine.execPwrTimerWrite v s
  | .pwrTimerExpiry ticks => Sys2Proof.Machine.execPwrTimerExpiry ticks s
  | .gpioEdge n rising => Sys2Proof.Machine.execGpioEdge n rising s
  | .cageEnable n v => Sys2Proof.Machine.execCageEnable n v s
  | .cageDoorbell n tail entries ok => Sys2Proof.Machine.execCageDoorbell n tail entries ok s
  | .cageCplHeadWrite n head => Sys2Proof.Machine.execCageCplHeadWrite n head s
  | .requestAccept t => Sys2Proof.Machine.execRequestAccept t s
  | .completionPost client => Sys2Proof.Machine.execCompletionPost client s
  | .moderationTimer n => Sys2Proof.Machine.execModerationTimer n s
  | .udpRequest port frame t => Sys2Proof.Machine.execUdpRequest port frame t s
  | .partAssemblyTimeout n client tag => Sys2Proof.Machine.execPartAssemblyTimeout n client tag s
  | .smbusBlockWrite bytes pec t => Sys2Proof.Machine.execSmbusBlockWrite bytes pec t s
  | .smbusBlockRead => Sys2Proof.Machine.execSmbusBlockRead s
  | .smbusStatusRead => Sys2Proof.Machine.execSmbusStatusRead s
  | .d3hotEntry pmeEn => Sys2Proof.Machine.execD3hotEntry pmeEn s
  | .d0Return busMaster => Sys2Proof.Machine.execD0Return busMaster s
  | .pcieLinkDown => Sys2Proof.Machine.execPcieLinkDown s
  | .pcieLinkUp busMaster => Sys2Proof.Machine.execPcieLinkUp busMaster s
  | .devInfo r t => Sys2Proof.Machine.execDevInfo r t s
  | .devStatus r t => Sys2Proof.Machine.execDevStatus r t s
  | .abort r t => Sys2Proof.Machine.execAbort r t s
  | .echo r t => Sys2Proof.Machine.execEcho r t s
  | .bundleLoad r t => Sys2Proof.Machine.execBundleLoad r t s
  | .bundleActivate r t => Sys2Proof.Machine.execBundleActivate r t s
  | .configDigest r t => Sys2Proof.Machine.execConfigDigest r t s
  | .arrayLayout r t => Sys2Proof.Machine.execArrayLayout r t s
  | .frameBudget r t => Sys2Proof.Machine.execFrameBudget r t s
  | .monSequence r t => Sys2Proof.Machine.execMonSequence r t s
  | .monSequenceCommit t => Sys2Proof.Machine.execMonSequenceCommit t s
  | .monCalibrate r t => Sys2Proof.Machine.execMonCalibrate r t s
  | .monRead r t => Sys2Proof.Machine.execMonRead r t s
  | .monUrgent r t => Sys2Proof.Machine.execMonUrgent r t s
  | .sequencerEntryStart => Sys2Proof.Machine.execSequencerEntryStart s
  | .urgentConversionStart m t => Sys2Proof.Machine.execUrgentConversionStart m t s
  | .conversionEnd m raw t => Sys2Proof.Machine.execConversionEnd m raw t s
  | .monFifoRead m => Sys2Proof.Machine.execMonFifoRead m s
  | .monCounterClear => Sys2Proof.Machine.execMonCounterClear s
  | .constJoin r t => Sys2Proof.Machine.execConstJoin r t s
  | .constState r t => Sys2Proof.Machine.execConstState r t s
  | .constPolicy r t => Sys2Proof.Machine.execConstPolicy r t s
  | .beaconReceived lane ingress => Sys2Proof.Machine.execBeaconReceived lane ingress s
  | .peerSilent source now => Sys2Proof.Machine.execPeerSilent source now s
  | .constRealign t => Sys2Proof.Machine.execConstRealign t s
  | .constAlarmPoll => Sys2Proof.Machine.execConstAlarmPoll s
  | .constPeerSelWrite v => Sys2Proof.Machine.execConstPeerSelWrite v s
  | .constCounterClear => Sys2Proof.Machine.execConstCounterClear s
  | .vauxLoss => Sys2Proof.Machine.execVauxLoss s
  | .vinLoss => Sys2Proof.Machine.execVinLoss s
  | .vinReturn => Sys2Proof.Machine.execVinReturn s
  | .vlaneLoss inPkt => Sys2Proof.Machine.execVlaneLoss inPkt s
  | .vlaneReturn => Sys2Proof.Machine.execVlaneReturn s
  | .vioLoss k => Sys2Proof.Machine.execVioLoss k s
  | .vioReturn k => Sys2Proof.Machine.execVioReturn k s
  | .thermalSample sensors rankHot => Sys2Proof.Machine.execThermalSample sensors rankHot s
  | .equaliserAdapt n ctle taps => Sys2Proof.Machine.execEqualiserAdapt n ctle taps s
  | .phaseStepSlewEnd ns => Sys2Proof.Machine.execPhaseStepSlewEnd ns s
  | .managementFrame port frame => Sys2Proof.Machine.execManagementFrame port frame s
  | .cageDisable n v => Sys2Proof.Machine.execCageDisable n v s
  | .perstNRelease => Sys2Proof.Machine.execPerstNRelease s

end Sys2Proof.Machine
end

