-- ==== Sys2Proof/WellFormed.lean ====
section
/-! DEFINITION. Which commands and events are well formed: each operand within the range that the manual gives the thing it
names. The machine itself is total, and answers an ill-formed command as the manual says for the nearest case. -/

namespace Sys2Proof

/-- A lane number (02). -/
def onLane (n : Nat) : Bool := decide (n < 64)

/-- A SOURCE identity (03 R48). -/
def sourceId (n : Nat) : Bool := decide (n < 4096)

/-- An agent of DEV_ACCESS_ERR (14 Table 14.13): host, core A, core B, Winder, JTAG. -/
def agentId (n : Nat) : Bool := decide (n < 5)

/-- A register value (00 R4). -/
def word (v : Nat) : Bool := decide (v < 2 ^ 32)

/-- A timer count (13 R280). -/
def timer (t : Nat) : Bool := decide (t < 2 ^ 64)

/-- A word-aligned BAR0 offset (00 R4). -/
def offset (o : Nat) : Bool := decide (o < 2 ^ 26) && decide (o % 4 = 0)

/-- A record of the firmware region: Assayer images are those of four cores (09). -/
def RegionRec.wf : RegionRec → Bool
  | .image c => decide (c < 4)
  | _ => true

def RegAddr.wf : RegAddr → Bool
  | .bar0 o => offset o
  | .suhel a => decide (a < 2 ^ 32) && decide (a % 4 = 0)

/-- A request whose fields fit their places (16 Table 16.1). -/
def Req.wf (r : Req) : Bool :=
  decide (r.cage < 8) && decide (r.opcode < 2 ^ 16) && decide (r.tag < 2 ^ 16) && decide (r.client < 2 ^ 16) &&
  decide (r.dest < 2 ^ 12) && decide (r.argAddr < 2 ^ 64) && decide (r.resMax < 2 ^ 32) && decide (r.body.length = 40) &&
  decide (r.arg.length < 2 ^ 32)

/-- A command or event whose operands are in range. -/
def Instr.wf (i : Instr) : Bool :=
  match i with
  | .registerWrite agent a v t => agentId agent && a.wf && word v && timer t
  | .illegalRegisterAccess agent _ kind => agentId agent && decide (kind < 4)
  | .wideQuantityLowRead agent o => agentId agent && offset o
  | .wideQuantityHighWrite agent o v t => agentId agent && offset o && word v && timer t
  | .laneAssign r t => r.wf && timer t
  | .txLaneTurnOff n => onLane n
  | .txTrainDone n => onLane n
  | .txSkipSend n _ => onLane n
  | .txTrainSend n _ => onLane n
  | .txTrainReport n _ => onLane n
  | .txFault n => onLane n
  | .txSerialiserRelock n => onLane n
  | .rxTrain n info _ => onLane n && decide (info < 2 ^ 8)
  | .rxSkip n _ => onLane n
  | .elasticEvent n _ => onLane n
  | .wordAlignment n _ => onLane n
  | .codeError n _ pos _ _ _ => onLane n && decide (pos < 4)
  | .rxPacket n _ _ _ t => onLane n && timer t
  | .losAssert n _ => onLane n
  | .losDeassert n => onLane n
  | .lolAssert n _ => onLane n
  | .lolDeassert n => onLane n
  | .rateTrialSuccess n => onLane n
  | .rateTrialFail n => onLane n
  | .savedRateAttemptEnd n => onLane n
  | .adaptEnd n _ _ _ => onLane n
  | .relockAttempt n _ => onLane n
  | .laneBringup r t => r.wf && timer t
  | .laneStatus r t => r.wf && timer t
  | .laneCounterClear n => onLane n
  | .dataPacket lane => onLane lane
  | .promptPacket lane => onLane lane
  | .promptWaitExpiry _ => true
  | .controlMessage lane t => onLane lane && timer t
  | .controlAck lane => onLane lane
  | .pureAckSend id => sourceId id
  | .controlSend id => sourceId id
  | .controlRetransmit id t => sourceId id && timer t
  | .sealWindowOpen _ => true
  | .chunkBoundary _ _ _ t => timer t
  | .hopCounterClear => true
  | .runHandover k => decide (k < 36)
  | .shadowEmptied k _ => decide (k < 36)
  | .beadStoreError k ctx _ => decide (k < 36) && decide (ctx < 2)
  | .preemptionLatch k _ _ => decide (k < 36)
  | .preemptionEnd k _ => decide (k < 36)
  | .preemptionDeferredStart k => decide (k < 36)
  | .drain r t => r.wf && timer t
  | .drainDone _ _ t => timer t
  | .abaCounterClear => true
  | .linePromotion g _ _ => decide (g < 4)
  | .dumpRecordPosted => true
  | .integSchedule r t => r.wf && timer t
  | .integStop r t => r.wf && timer t
  | .closeSweep => true
  | .closeDone t => timer t
  | .talCounterClear => true
  | .beamsetDefine r t => r.wf && timer t
  | .beamDelays r t => r.wf && timer t
  | .generationCommit t => timer t
  | .beamWeightTable r t => r.wf && timer t
  | .promptConfig r t => r.wf && timer t
  | .weightBlockArrival set _ _ => decide (set < 9)
  | .beamBlocksHandover _ => true
  | .promptBlockJoin _ => true
  | .promptPowerHandover _ => true
  | .beamCounterClear => true
  | .tourStart t => timer t
  | .seriesSlot n => decide (n < 1024)
  | .assayConfig r t => r.wf && timer t
  | .assayCounterClear => true
  | .assayProbeSelWrite n => word n
  | .add a _ _ _ => decide (a < 4)
  | .sub a _ _ _ => decide (a < 4)
  | .and a _ _ _ => decide (a < 4)
  | .or a _ _ _ => decide (a < 4)
  | .xor a _ _ _ => decide (a < 4)
  | .shl a _ _ _ => decide (a < 4)
  | .shra a _ _ _ => decide (a < 4)
  | .shrl a _ _ _ => decide (a < 4)
  | .slt a _ _ _ => decide (a < 4)
  | .sltu a _ _ _ => decide (a < 4)
  | .min a _ _ _ => decide (a < 4)
  | .max a _ _ _ => decide (a < 4)
  | .abs a _ _ => decide (a < 4)
  | .addi a _ _ _ => decide (a < 4)
  | .andi a _ _ _ => decide (a < 4)
  | .ori a _ _ _ => decide (a < 4)
  | .xori a _ _ _ => decide (a < 4)
  | .shli a _ _ _ => decide (a < 4)
  | .shrai a _ _ _ => decide (a < 4)
  | .shrli a _ _ _ => decide (a < 4)
  | .movi a _ _ => decide (a < 4)
  | .movhi a _ _ => decide (a < 4)
  | .mul a _ _ _ _ _ _ _ _ => decide (a < 4)
  | .mac a _ _ _ _ _ _ _ _ => decide (a < 4)
  | .msu a _ _ _ _ _ _ _ _ => decide (a < 4)
  | .mova a _ _ => decide (a < 4)
  | .mfah a _ => decide (a < 4)
  | .mta a _ _ => decide (a < 4)
  | .clra a => decide (a < 4)
  | .ld a _ _ _ _ _ => decide (a < 4)
  | .ldh a _ _ _ _ _ => decide (a < 4)
  | .st a _ _ _ _ => decide (a < 4)
  | .sth a _ _ _ _ _ => decide (a < 4)
  | .movai a _ _ => decide (a < 4)
  | .adda a _ _ => decide (a < 4)
  | .movda a _ _ => decide (a < 4)
  | .movad a _ _ => decide (a < 4)
  | .br a _ => decide (a < 4)
  | .beqz a _ _ => decide (a < 4)
  | .bnez a _ _ => decide (a < 4)
  | .bltz a _ _ => decide (a < 4)
  | .bgez a _ _ => decide (a < 4)
  | .call a _ => decide (a < 4)
  | .jr a _ => decide (a < 4)
  | .loop a _ _ => decide (a < 4)
  | .loopi a _ _ => decide (a < 4)
  | .mtl a _ _ => decide (a < 4)
  | .mfl a _ _ => decide (a < 4)
  | .pin a _ _ t => decide (a < 4) && timer t
  | .pout a _ _ => decide (a < 4)
  | .nop a => decide (a < 4)
  | .ei a => decide (a < 4)
  | .di a => decide (a < 4)
  | .wait a => decide (a < 4)
  | .waitWake a _ => decide (a < 4)
  | .reti a => decide (a < 4)
  | .halt a => decide (a < 4)
  | .illegalInstruction a _ => decide (a < 4)
  | .interruptEntry a => decide (a < 4)
  | .tickLoad a _ => decide (a < 4)
  | .tickExpiry a => decide (a < 4)
  | .evFree a _ => decide (a < 4)
  | .injValue a _ => decide (a < 4)
  | .frz a _ => decide (a < 4)
  | .trqGo a _ => decide (a < 4)
  | .outSend a _ => decide (a < 4)
  | .inFree a _ => decide (a < 4)
  | .ayrOutFree a => decide (a < 4)
  | .ayrInSend a => decide (a < 4)
  | .assayerWindowWrite a off _ => decide (a < 4) && decide (off < 2 ^ 18)
  | .assayerLoad r t => r.wf && timer t
  | .assayerRun r t => r.wf && timer t
  | .assayerStopCommit a t => decide (a < 4) && timer t
  | .forcedStop a t => decide (a < 4) && timer t
  | .ayrCounterClear a => decide (a < 4)
  | .trigInEdge n _ _ _ => decide (n < 2)
  | .hitArrival _ => true
  | .hitExpiry => true
  | .candidateDecision _ _ => true
  | .pulseStart n => decide (n < 4)
  | .pulseEnd n => decide (n < 4)
  | .triggerConfig r t => r.wf && timer t
  | .triggerArm r t => r.wf && timer t
  | .captureConfig r t => r.wf && timer t
  | .captureFreeze r t => r.wf && timer t
  | .captureRelease r t => r.wf && timer t
  | .captureReadoutDone t => timer t
  | .trgCounterClear => true
  | .packetBuild stream => decide (stream < 15)
  | .statPacketBuild _ => true
  | .lanePacketStart n _ _ => onLane n
  | .packetSent n => onLane n
  | .copyDrop path _ => decide (path < 2)
  | .hoistFlushEnd => true
  | .hoistStreams r t => r.wf && timer t
  | .hoistPaths r t => r.wf && timer t
  | .crushConfig r t => r.wf && timer t
  | .crusherFrameDone stream => decide (stream < 15)
  | .expanderJobStart => true
  | .expanderJobEnd _ t => timer t
  | .hstCounterClear => true
  | .pitRequest port _ _ _ _ => decide (port < 8)
  | .pitRequestServed c _ _ => decide (c < 32)
  | .perBankRefresh r _ => decide (r < 64)
  | .retrainPause c _ => decide (c < 32)
  | .scrubRead _ => true
  | .migrationStart => true
  | .migrationBlockCopy _ _ => true
  | .pitStatus r t => r.wf && timer t
  | .pitRetireRank r t => r.wf && timer t
  | .pitRegulator r t => r.wf && timer t
  | .pitScrub r t => r.wf && timer t
  | .pitCounterClear => true
  | .tuSecondEvaluation _ t => timer t
  | .ppsOutFall => true
  | .signalFailure cand _ => decide (cand < 7)
  | .signalRestore cand => decide (cand < 7)
  | .phaseMeasurement cand _ _ => decide (cand < 7)
  | .ppsEdge cand _ => decide (cand < 7)
  | .lockDeclared => true
  | .historyRecord _ _ => true
  | .tempStale => true
  | .xoLost => true
  | .xoReturn => true
  | .timeRefs r t => r.wf && timer t
  | .timeLoop r t => r.wf && timer t
  | .timePhaseStep r t => r.wf && timer t
  | .timeSet r t => r.wf && timer t
  | .timeStatus r t => r.wf && timer t
  | .ptpConfig r t => r.wf && timer t
  | .holdoverModel r t => r.wf && timer t
  | .ptpAnnounce _ => true
  | .ptpSync _ _ _ _ _ _ _ _ => true
  | .ptpDelayResp _ _ _ _ _ _ => true
  | .ptpDelayReqSend _ => true
  | .ptpTcForward port _ _ => decide (port < 2)
  | .ptpTcDrop => true
  | .tuCounterClear => true
  | .watchdogExpiry _ => true
  | .shiftWdtKick agent => agentId agent
  | .shiftRelinquish agent v t => agentId agent && word v && timer t
  | .coreMemUe => true
  | .busHang => true
  | .selfTest _ => true
  | .takeoverComplete t _ => timer t
  | .takeoverFailed => true
  | .repairPassEnd c _ => decide (c < 2)
  | .resetReq agent v => agentId agent && word v
  | .hrstNAssert => true
  | .porstNAssert => true
  | .resetRelease => true
  | .perstNAssert => true
  | .bootS0 _ _ => true
  | .bootS1 _ _ => true
  | .bootS2 _ _ _ => true
  | .bootS3 _ _ _ => true
  | .bootS4 _ pass _ t => decide (pass < 2 ^ 36) && timer t
  | .bootS5 _ => true
  | .bootS6 _ _ => true
  | .bootS7 _ _ => true
  | .dpReturnComplete pass bad _ => decide (pass < 2 ^ 36) && bad.all RegionRec.wf
  | .persistRecordWrite kind => decide (kind < 15 ∨ kind = 255)
  | .shiftStatus r t => r.wf && timer t
  | .shiftHandover r t => r.wf && timer t
  | .ledgerRead r t => r.wf && timer t
  | .ledgerClear r t => r.wf && timer t
  | .quiesce r t => r.wf && timer t
  | .dpQuiesced t => timer t
  | .resume r t => r.wf && timer t
  | .devReset r t => r.wf && timer t
  | .bellSwset w v => decide (29 ≤ w) && decide (w < 32) && word v
  | .bellClaim agent t => agentId agent && decide (t < 34)
  | .bellComplete agent t n => agentId agent && decide (t < 34) && decide (n < 2 ^ 11)
  | .bellPendClear w v => decide (w < 32) && word v
  | .bellModeWrite v => word v
  | .coreRemapWrite core v => decide (core < 2) && word v
  | .winderStart c v => decide (c < 16) && word v
  | .winderDisable c v => decide (c < 16) && word v
  | .winderEventSet c v => decide (c < 16) && word v
  | .move c => decide (c < 16)
  | .winderBurst _ _ t => timer t
  | .winderLoop c => decide (c < 16)
  | .winderWait c => decide (c < 16)
  | .winderPoll c => decide (c < 16)
  | .winderWaitEnd c _ => decide (c < 16)
  | .signal c => decide (c < 16)
  | .pwrSleepReq agent v => agentId agent && word v
  | .ctlSleepEntry => true
  | .ctlWake => true
  | .pwrTimerWrite v => word v
  | .pwrTimerExpiry _ => true
  | .gpioEdge n _ => decide (n < 18)
  | .cageEnable n v => decide (n < 8) && word v
  | .cageDoorbell n tail entries _ => decide (n < 4) && decide (tail < 2 ^ 12) && entries.all Req.wf
  | .cageCplHeadWrite n head => decide (n < 4) && decide (head < 2 ^ 12)
  | .requestAccept t => timer t
  | .completionPost _ => true
  | .moderationTimer n => decide (n < 4)
  | .udpRequest port _ t => decide (port < 2) && timer t
  | .partAssemblyTimeout n _ _ => decide (n = 4 ∨ n = 5)
  | .smbusBlockWrite bytes _ t => decide (bytes.length < 256) && timer t
  | .smbusBlockRead => true
  | .smbusStatusRead => true
  | .d3hotEntry _ => true
  | .d0Return _ => true
  | .pcieLinkDown => true
  | .pcieLinkUp _ => true
  | .devInfo r t => r.wf && timer t
  | .devStatus r t => r.wf && timer t
  | .abort r t => r.wf && timer t
  | .echo r t => r.wf && timer t
  | .bundleLoad r t => r.wf && timer t
  | .bundleActivate r t => r.wf && timer t
  | .configDigest r t => r.wf && timer t
  | .arrayLayout r t => r.wf && timer t
  | .frameBudget r t => r.wf && timer t
  | .monSequence r t => r.wf && timer t
  | .monSequenceCommit t => timer t
  | .monCalibrate r t => r.wf && timer t
  | .monRead r t => r.wf && timer t
  | .monUrgent r t => r.wf && timer t
  | .sequencerEntryStart => true
  | .urgentConversionStart m t => decide (m < 4) && timer t
  | .conversionEnd m raw t => decide (m < 4) && decide (raw < 2 ^ 24) && timer t
  | .monFifoRead m => decide (m < 4)
  | .monCounterClear => true
  | .constJoin r t => r.wf && timer t
  | .constState r t => r.wf && timer t
  | .constPolicy r t => r.wf && timer t
  | .beaconReceived lane _ => onLane lane
  | .peerSilent source _ => sourceId source
  | .constRealign t => timer t
  | .constAlarmPoll => true
  | .constPeerSelWrite v => word v
  | .constCounterClear => true
  | .vauxLoss => true
  | .vinLoss => true
  | .vinReturn => true
  | .vlaneLoss inPkt => decide (inPkt < 2 ^ 64)
  | .vlaneReturn => true
  | .vioLoss k => decide (k < 3)
  | .vioReturn k => decide (k < 3)
  | .thermalSample sensors _ => decide (sensors.length = 5)
  | .equaliserAdapt n _ _ => onLane n
  | .phaseStepSlewEnd _ => true
  | .managementFrame port _ => decide (port < 2)
  | .cageDisable n v => decide (n < 8) && word v
  | .perstNRelease => true

end Sys2Proof
end

