-- ==== Sys2Proof/Safety.lean ====
section
/-! DEFINITION. What the statements about the block speak of: the invariants of a state, and when a request is taken. -/

namespace Sys2Proof.Machine

/-- An Assayer's data and program memories have their canonical form. -/
def ayrOk (c : AyrCore) : Prop := Memory.wf c.dmem = true ∧ memWfFrom haltWord 0 c.imem = true

/-- The byte memories and the Assayers' memories have their canonical form. -/
def memsOk (sram pit : List Host.Cell) (ayr : List AyrCore) : Prop :=
  Memory.wf sram = true ∧ Memory.wf pit = true ∧ ∀ c ∈ ayr, ayrOk c

/-- Every memory of a state has its canonical form: shared SRAM, pit memory, each Assayer's two, and the core-local SRAMs. -/
def MemOk (s : State) : Prop := memsOk s.sys.sram s.pit.mem s.ayr ∧ ∀ m ∈ s.shift.coreMem, Memory.wf m = true

/-- The request is taken now, as a new command of opcode `op`, and its entry passes every check of 16 R374, R379, R380,
R384 to R387; `u` is the state in which the command's own meaning starts. Its argument is at hand: where shared SRAM holds
it (R379), the request carries what stands there. -/
def Takes (op : Nat) (r : Req) (t : Nat) (s u : State) : Prop :=
  let q : Req := { r with opcode := op }
  withArg s q = q ∧ hasRoom s r.cage = true ∧ cagesOpen s = true ∧ mustWait s.cages.fetched op s = false ∧ r.forward = false ∧
  ∃ spec v, cmdSpec op = some spec ∧ takePlace r.client t (accepted q s) = some v ∧
    classify ((placeOf v r.client).getD {}) r.tag (reqDigest q) = .new ∧
    u = enterTag r.client r.tag (reqDigest q) (!atAcceptance spec q) v ∧ entryCheck spec q u = none

/-- The command commits at `t` with its effect made (`u`), and its completion is formed, kept with its tag, and waits to be
posted (16 R388, R389). -/
def ended (op : Nat) (r : Req) (t : Nat) (a : Reply) (u : State) : State :=
  conclude { r with opcode := op } (u.cages.commits + 1) t a (nextCommit u)

/-- The command has made its first effect (`u`) and stays open in the commit journal in phase `ph`. -/
def staysOpen (op : Nat) (r : Req) (t : Nat) (ph : CmdPhase) (key : Nat) (result : List Byte) (u : State) : State :=
  let v := nextCommit u
  modCages (fun g => { g with openCmds := g.openCmds ++
    [{ req := { r with opcode := op }, phase := ph, digest := reqDigest { r with opcode := op }, order := g.commits,
       commitTime := t, key := key, result := result }] }) v

/-- An Assayer fetches straight on: no load and no MTL is on its way, no delay slot is left, and no loop ends at PC. -/
def straight (c : AyrCore) : Prop := c.load = none ∧ c.mtl = [] ∧ c.slots = 0 ∧ (c.pc = c.le → c.lc = 0)

/-- An instruction of kind `k` has been fetched and the registers are `u`: one cycle has passed and PC has moved on. -/
def ayrNext (k : AyrKind) (c u : AyrCore) : AyrCore :=
  tickOnce { u with pc := c.pc + 1, acc1 := c.acc, acc2 := c.acc1, prev1 := k, prev2 := c.prev1, started := false
                    portOld := [] }

/-- Winder channel `c` runs between instructions, and the word at its PC spells `i`. -/
def AtWord (c : Nat) (i : WndInstr) (s : State) : Prop :=
  c < 16 ∧ s.pwr.ctlSleep = false ∧ (wchAt s c).state = .running ∧ (wchAt s c).move = none ∧
  wndFetch s (wchAt s c) = some i

end Sys2Proof.Machine
end

