-- ==== Sys2Proof/Certificates/Slice0/Obligations.lean ====
section
/-! DEFINITION. What is claimed of the block: the statements for the provers. Every clause is about a command or event named in
it, with its hypotheses; `Takes`, `ended` and `staysOpen` (Safety) say when a request is taken and how a command ends. -/

set_option linter.unusedVariables false

section
open Sys2Proof Sys2Proof.Machine

/-- R31, R32, R28, R42: what a lane port does with the TRAINs, SKIPs and elastic events that it receives, when word
alignment is declared, and what its counter clear leaves; each answers a next state in which that one lane has changed
and nothing else. R35, R39: loss of signal and of lock. LOS implies LOL, and LOL in UP moves the lane to RELOCK; the rate
and the equaliser values stay; a packet that was arriving is counted once. Deassertion needs what R35 says, and a RELOCK
attempt that succeeds returns to UP. With the datapath down no lane event does anything. -/
def Obligations.LaneReception : Prop :=
  ∀ (s : State) (n : Nat) (cut : Bool → Lane → Lane), (cut = fun (inPkt : Bool) (l : Lane) =>
      if inPkt = false then l
      else if l.pktErr = true then { l with pktErr := false, crcErr := sat32 (l.crcErr + 1), cause := setBits l.cause [6] }
      else { l with abortCnt := sat32 (l.abortCnt + 1), cause := setBits l.cause [7] }) →
    (dpRun s = true →
      (∀ info lane, (laneAt s n).rxEnabled = true → bit info 3 = false →
        exec (.rxTrain n info lane) s = .next (modLane n (fun l => { l with
          peerValid := true, peerLane := bits lane 0 6, peerMax := bits info 4 2, peerInfo := info % 256 }) s)) ∧
      (∀ info lane, bit info 3 = true → exec (.rxTrain n info lane) s = .next s) ∧
      (∀ fill, (laneAt s n).rxEnabled = true → exec (.rxSkip n fill) s = .next (modLane n (fun l => { l with
          elastic := if 12 < fill then fill - 1 else if fill < 4 then fill + 1 else fill }) s)) ∧
      (∀ inPkt, (laneAt s n).rxEnabled = true → exec (.elasticEvent n inPkt) s = .next (modLane n (fun l => cut inPkt { l with
          elastic := 8, elasticCnt := sat32 (l.elasticCnt + 1), cause := setBits l.cause [8] }) s)) ∧
      (∀ words, (laneAt s n).rxEnabled = true → (laneAt s n).los = false → 8 ≤ words.length →
        (∀ w ∈ words.drop (words.length - 8), alignsWord w = true) →
        exec (.wordAlignment n words) s = .next (modLane n (fun l => { l with aligned := true, errWords := [] }) s)) ∧
      (∀ words, (words.length < 8 ∨ ∃ w ∈ words.drop (words.length - 8), alignsWord w = false) →
        exec (.wordAlignment n words) s = .next s) ∧
      exec (.laneCounterClear n) s = .next (modLane n (fun l => { l with
        codeErr := 0, dispErr := 0, crcErr := 0, abortCnt := 0, elasticCnt := 0, losCnt := 0, lolCnt := 0, rxPkt := 0,
        txPktCnt := 0 }) s) ∧
      (∀ inPkt, (laneAt s n).rxEnabled = true → (laneAt s n).los = false → (laneAt s n).lol = false →
        exec (.losAssert n inPkt) s = .next (modLane n (fun l0 => let l := cut inPkt l0; { l with
          los := true, losCnt := sat32 (l.losCnt + 1), lol := true, lolCnt := sat32 (l.lolCnt + 1), aligned := false
          errWords := [], rxState := if l.rxState = .up then .relock else l.rxState
          cause := setBits (setBits l.cause [0]) [1] }) s)) ∧
      (∀ inPkt, (laneAt s n).rxEnabled = true → (laneAt s n).los = false → (laneAt s n).lol = true →
        exec (.losAssert n inPkt) s = .next (modLane n (fun l0 => let l := cut inPkt l0; { l with
          los := true, losCnt := sat32 (l.losCnt + 1), cause := setBits l.cause [0] }) s)) ∧
      ((laneAt s n).los = true → supplyOn s vlane = true →
        exec (.losDeassert n) s = .next (modLane n (fun l => { l with los := false }) s)) ∧
      (∀ inPkt, (laneAt s n).rxEnabled = true → (laneAt s n).lol = false →
        exec (.lolAssert n inPkt) s = .next (modLane n (fun l0 => let l := cut inPkt l0; { l with
          lol := true, lolCnt := sat32 (l.lolCnt + 1), aligned := false, errWords := []
          rxState := if l.rxState = .up then .relock else l.rxState, cause := setBits l.cause [1] }) s)) ∧
      ((laneAt s n).lol = true → (laneAt s n).aligned = true → (laneAt s n).los = false →
        exec (.lolDeassert n) s = .next (modLane n (fun l => { l with lol := false }) s)) ∧
      ((laneAt s n).los = true → exec (.lolDeassert n) s = .next s) ∧
      ((laneAt s n).rxState = .relock → (laneAt s n).los = false →
        exec (.relockAttempt n true) s = .next (modLane n (fun l => { l with
          rxState := .up, lol := false, aligned := true, cause := setBits l.cause [2] }) s)) ∧
      exec (.relockAttempt n false) s = .next s) ∧
    (dpRun s = false → ∀ (inPkt ok : Bool) (a b : Nat) (ws : List (List RxChar)) (bs crc : List Byte) (how : RxEnd),
      ∀ e ∈ [Instr.rxTrain n a b, .rxSkip n a, .elasticEvent n inPkt, .wordAlignment n ws, .laneCounterClear n, .losAssert n inPkt,
        .losDeassert n, .lolAssert n inPkt, .lolDeassert n, .relockAttempt n ok, .rxPacket n how bs crc a, .rateTrialSuccess n,
        .rateTrialFail n, .savedRateAttemptEnd n, .txTrainDone n, .txSkipSend n a, .txTrainSend n a, .txTrainReport n a,
        .txFault n, .txSerialiserRelock n], exec e s = .next s) ∧
    (∀ w : List RxChar, alignsWord w = true ↔ w.length = 4 ∧ isCtl 0xBC (w.getD 0 {}) = true ∧
      ((∀ c ∈ w.drop 1, isData 0xB5 c = true) ∨ (∀ c ∈ w.drop 1, isCtl 0x1C c = true) ∨
       (isData 0x4A (w.getD 1 {}) = true ∧ ∀ c ∈ w.drop 2, c.valid = true ∧ c.ctl = false)))

/-- R28, R36, R35, R47 and Table 2.5: character errors and the end of a packet. A character is a code error in the three cases
of R28; four code errors within 16 words lose alignment. A good packet is delivered and counted, and a malformed one then
discarded and counted; a bad one is discarded and counted once, in LANE_CRC_ERR_n or in LANE_ABORT_n. R72: packets of one
instant are delivered in the order of their lanes. That a good packet outside UP is counted nowhere is the model's choice
(log 114), and so is how SKIP is told (log 113). -/
def Obligations.LanePacketOutcomes : Prop :=
  (∀ (word : List RxChar) (pos : Nat), codeFault word pos = true ↔
    (word.getD pos {}).valid = false ∨ ((word.getD pos {}).ctl = true ∧
      ((word.getD pos {}).byte ∉ [0xBC, 0x1C, 0xFB, 0xFD, 0xFE] ∨
       (pos ≠ 0 ∧ ¬(isCtl 0x1C (word.getD pos {}) = true ∧ isCtl 0xBC (word.getD 0 {}) = true))))) ∧
  (∀ (p : RxPkt) (l : List RxPkt), ((∀ q ∈ l, q.time = p.time → q.lane ≤ p.lane) → joinDelivered p l = l ++ [p]) ∧
    (∀ q r, (∀ x ∈ l, x.time = p.time → x.lane ≤ p.lane) → q.time = p.time → p.lane < q.lane →
      joinDelivered p (l ++ q :: r) = l ++ p :: q :: r)) ∧
  (∀ (s : State) (n : Nat), dpRun s = true → (laneAt s n).rxEnabled = true →
    (∀ w pos word disp inPkt, codeFault word pos = true →
      ((laneAt s n).errWords.filter (fun x => decide (w < x + 16))).length < 3 →
      exec (.codeError n w pos word disp inPkt) s = .next (modLane n (fun l => { l with
        codeErr := sat32 (l.codeErr + 1), dispErr := if disp then sat32 (l.dispErr + 1) else l.dispErr
        pktErr := l.pktErr || inPkt
        cause := if disp then setBits (setBits l.cause [4]) [5] else setBits l.cause [4]
        errWords := l.errWords.filter (fun x => decide (w < x + 16)) ++ [w] }) s)) ∧
    (∀ w pos word disp inPkt, codeFault word pos = true → (laneAt s n).lol = false →
      3 ≤ ((laneAt s n).errWords.filter (fun x => decide (w < x + 16))).length →
      ∃ t, exec (.codeError n w pos word disp inPkt) s = .next t ∧ (laneAt t n).aligned = false ∧ (laneAt t n).lol = true ∧
        (laneAt t n).errWords = [] ∧ (laneAt t n).codeErr = sat32 ((laneAt s n).codeErr + 1) ∧
        (laneAt t n).lolCnt = sat32 ((laneAt s n).lolCnt + 1) ∧
        (laneAt t n).rxState = (if (laneAt s n).rxState = .up then .relock else (laneAt s n).rxState) ∧
        (laneAt t n).crcErr = (if inPkt then sat32 ((laneAt s n).crcErr + 1) else (laneAt s n).crcErr) ∧
        (∀ k, k ≠ n → laneAt t k = laneAt s k) ∧ t = { s with lanes := t.lanes }) ∧
    (∀ w pos word inPkt, codeFault word pos = false →
      exec (.codeError n w pos word true inPkt) s = .next (modLane n (fun l => { l with
        dispErr := sat32 (l.dispErr + 1), pktErr := l.pktErr || inPkt, cause := setBits l.cause [5] }) s) ∧
      exec (.codeError n w pos word false inPkt) s = .next s) ∧
    (∀ bytes crc t, (laneAt s n).pktErr = false → bytes.length + 4 ≤ 8228 → leAt crc 0 4 = crc32 bytes →
      ((laneAt s n).rxState = .up → malformed bytes = false →
        exec (.rxPacket n .eop bytes crc t) s = .next { s with lanes := { s.lanes with
          lane := upd s.lanes.lane n (fun l => { l with rxPkt := sat64 (l.rxPkt + 1) })
          delivered := joinDelivered { lane := n, time := t, bytes := bytes } s.lanes.delivered } }) ∧
      ((laneAt s n).rxState = .up → malformed bytes = true →
        exec (.rxPacket n .eop bytes crc t) s = .next { s with
          lanes := { s.lanes with lane := upd s.lanes.lane n (fun l => { l with rxPkt := sat64 (l.rxPkt + 1) }) }
          hop := { s.hop with malformed := sat32 (s.hop.malformed + 1), cause := setBits s.hop.cause [3] } }) ∧
      ((laneAt s n).rxState ≠ .up → exec (.rxPacket n .eop bytes crc t) s = .next s)) ∧
    (∀ how bytes crc t, ((laneAt s n).pktErr = true ∨
        (how = .eop ∧ bytes.length + 4 ≤ 8228 ∧ leAt crc 0 4 ≠ crc32 bytes)) →
      exec (.rxPacket n how bytes crc t) s = .next (modLane n (fun l => { l with
        pktErr := false, crcErr := sat32 (l.crcErr + 1), cause := setBits l.cause [6] }) s)) ∧
    (∀ how bytes crc t, (laneAt s n).pktErr = false → (how ≠ .eop ∨ 8228 < bytes.length + 4) →
      exec (.rxPacket n how bytes crc t) s = .next (modLane n (fun l => { l with
        abortCnt := sat32 (l.abortCnt + 1), cause := setBits l.cause [7] }) s)))

/-- R38, R32, R34 and Table 2.7: a trial that succeeds enters ADAPT; one that fails on the ladder goes to the next lower rate,
or to FAILED after the lowest; the saved-rate attempt gives way to the ladder at RATE_25G; SEARCH clears the PEER fields
only when it is entered; a clean ADAPT enters UP and writes the record, another one goes on. A LANE_BRINGUP ends when its
lanes have settled. The equalisers of a lane in UP adapt unless it is frozen. -/
def Obligations.LaneBringupLadder : Prop :=
  ∀ (s : State) (n : Nat), dpRun s = true →
    ((laneAt s n).rxState = .search → (laneAt s n).los = false →
      exec (.rateTrialSuccess n) s = .next (modLane n (fun l => { l with
        rxState := .adapt, lol := false, aligned := true, errWords := [] }) s)) ∧
    ((laneAt s n).rxState = .search → (laneAt s n).bringup = .ladder → 0 < (laneAt s n).rxRate →
      exec (.rateTrialFail n) s = .next (finishBringups (modLane n (fun l => { l with
        bringup := .ladder, rxRate := l.rxRate - 1 }) s))) ∧
    ((laneAt s n).rxState = .search → (laneAt s n).bringup = .ladder → (laneAt s n).rxRate = 0 →
      exec (.rateTrialFail n) s = .next (finishBringups (setLaneRec n (fun r => { r with valid := false })
        (modLane n (fun l => { l with rxState := .failed, bringup := .none, cause := setBits l.cause [3] }) s)))) ∧
    ((laneAt s n).rxState = .search → (laneAt s n).bringup = .saved → exec (.rateTrialFail n) s = .next s ∧
      exec (.savedRateAttemptEnd n) s = .next (modLane n (fun l => { l with bringup := .ladder, rxRate := 3 }) s)) ∧
    (∀ ctle taps, (laneAt s n).rxState = .adapt →
      exec (.adaptEnd n true ctle taps) s = .next (finishBringups (setLaneRec n (fun _ => {
          valid := true, tap1 := clampI (-128) 127 (taps.getD 0 0), ctle := min ctle 15, rate := (laneAt s n).rxRate })
        (modLane n (fun l => { setEq ctle taps l with
          rxState := .up, bringup := .none, frozen := l.freezeReq, cause := setBits l.cause [2] }) s)))) ∧
    (∀ ctle taps, (laneAt s n).rxState = .adapt → (laneAt s n).bringup = .saved →
      exec (.adaptEnd n false ctle taps) s = .next (modLane n (fun l => { setEq ctle taps l with
        rxState := .search, peerValid := false, peerLane := 0, peerMax := 0, peerInfo := 0, frozen := false
        bringup := .ladder, rxRate := 3 }) s)) ∧
    (∀ ctle taps, (laneAt s n).rxState = .adapt → (laneAt s n).bringup ≠ .saved → 0 < (laneAt s n).rxRate →
      exec (.adaptEnd n false ctle taps) s = .next (finishBringups (modLane n (fun l => { setEq ctle taps l with
        rxState := .search, peerValid := false, peerLane := 0, peerMax := 0, peerInfo := 0, frozen := false
        bringup := .ladder, rxRate := l.rxRate - 1 }) s))) ∧
    (∀ ctle taps, (laneAt s n).rxState = .up → (laneAt s n).frozen = false → ctle ≤ (laneAt s n).ctle + 1 →
      (laneAt s n).ctle ≤ ctle + 1 → exec (.equaliserAdapt n ctle taps) s = .next (modLane n (setEq ctle taps) s)) ∧
    (∀ ctle taps, (laneAt s n).frozen = true → exec (.equaliserAdapt n ctle taps) s = .next s) ∧
    (∀ ctle taps l, (setEq ctle taps l).ctle = min ctle 15 ∧ (setEq ctle taps l).tap1 = clampI (-128) 127 (taps.getD 0 0) ∧
      (setEq ctle taps l).tap2 = clampI (-32) 31 (taps.getD 1 0) ∧ (setEq ctle taps l).tap3 = clampI (-32) 31 (taps.getD 2 0) ∧
      (setEq ctle taps l).tap4 = clampI (-32) 31 (taps.getD 3 0) ∧ (setEq ctle taps l).tap5 = clampI (-32) 31 (taps.getD 4 0) ∧
      (setEq ctle taps l).tap6 = clampI (-32) 31 (taps.getD 5 0) ∧
      setEq ctle taps l = { l with ctle := (setEq ctle taps l).ctle, tap1 := (setEq ctle taps l).tap1
                                   tap2 := (setEq ctle taps l).tap2, tap3 := (setEq ctle taps l).tap3
                                   tap4 := (setEq ctle taps l).tap4, tap5 := (setEq ctle taps l).tap5
                                   tap6 := (setEq ctle taps l).tap6 }) ∧
    ((∀ o ∈ s.cages.openCmds, o.req.opcode = 0x0301 → ∃ k ∈ bitsSet 64 o.key, (laneAt s k).rxState = .search ∨
        (laneAt s k).rxState = .adapt) → finishBringups s = s) ∧
    (∀ o, s.cages.openCmds = [o] → o.phase = .committed → o.req.opcode = 0x0301 →
      (∀ k ∈ bitsSet 64 o.key, (laneAt s k).rxState ≠ .search ∧ (laneAt s k).rxState ≠ .adapt) →
      finishBringups s = conclude o.req o.order o.commitTime { result := fields [
          (24, leBytes 8 (stateMask s o.key .up)), (32, leBytes 8 (stateMask s o.key .failed))] }
        { s with cages := { s.cages with openCmds := [] } })

/-- R27, R29, R30, R37, R40: what a transmit lane sends and how its role changes; R236: a packet that a fault ends goes out
again. LANE_ASSIGN, LANE_BRINGUP and LANE_STATUS as 16 Table 16.10 and R26, R27, R38 give them, for a request that is
taken: what changes before the completion, and what the completion says. -/
def Obligations.LaneTransmission : Prop :=
  (∀ (s : State) (n : Nat), dpRun s = true →
    (∀ role rate, (laneAt s n).txNext = some (role, rate) → (laneAt s n).txCur = none →
      exec (.txLaneTurnOff n) s = .next (afterTxChange s (modLane n (fun l => { l with
        txRole := role, txRate := rate, txUp := false, txTraining := decide (role ≠ 0) && !l.txFault, txNext := none
        txCtl := [], sinceSkip := 0, sinceTrain0 := 0, sinceTrain := 0 }) s))) ∧
    (((laneAt s n).txNext = none ∨ (laneAt s n).txCur ≠ none) → exec (.txLaneTurnOff n) s = .next s) ∧
    ((laneAt s n).txTraining = true → (laneAt s n).txFault = false →
      exec (.txTrainDone n) s = .next (afterTxChange s { s with
        hst := { s.hst with freeTick := s.hst.freeTick + 1 }
        lanes := { s.lanes with lane := upd s.lanes.lane n (fun l => { l with
          txTraining := false, txUp := true, sinceTrain0 := 0, sinceTrain := 0
          lastTrain := some (trainInfo l.txRate false false, n), freed := s.hst.freeTick + 1 }) } })) ∧
    (∀ w, (laneAt s n).txUp = true → (laneAt s n).txCur = none → 1024 ≤ (laneAt s n).sinceSkip + w →
      exec (.txSkipSend n w) s = .next (modLane n (fun l => { l with
        sinceSkip := 0, sinceTrain0 := l.sinceTrain0 + w, sinceTrain := l.sinceTrain + w }) s)) ∧
    (∀ w, (laneAt s n).txUp = true → (laneAt s n).txCur = none → 61440 ≤ (laneAt s n).sinceTrain0 + w →
      exec (.txTrainSend n w) s = .next (modLane n (fun l => { l with
        sinceSkip := l.sinceSkip + w, sinceTrain0 := 0, sinceTrain := 0
        lastTrain := some (trainInfo l.txRate false false, n) }) s)) ∧
    (∀ w k, (laneAt s n).txUp = true → (laneAt s n).txCur = none → (laneAt s n).txRole = 3 →
      256 ≤ (laneAt s n).sinceTrain + w → nextReport s (laneAt s n).lastReport = some k →
      exec (.txTrainReport n w) s = .next (modLane n (fun l => { l with
        sinceSkip := l.sinceSkip + w, sinceTrain0 := l.sinceTrain0 + w, sinceTrain := 0, lastReport := some k
        lastTrain := some (trainInfo l.txRate true (decide ((laneAt s k).rxState = .up)), k) }) s)) ∧
    (∀ w, ((laneAt s n).txUp = false ∨ (laneAt s n).txCur ≠ none ∨ (laneAt s n).sinceTrain + w < 256) →
      exec (.txTrainReport n w) s = .next (modLane n (fun l => { l with
        sinceSkip := l.sinceSkip + w, sinceTrain0 := l.sinceTrain0 + w, sinceTrain := l.sinceTrain + w }) s)) ∧
    (∀ rate report ready, rate < 4 → bits (trainInfo rate report ready) 6 2 = rate ∧ bits (trainInfo rate report ready) 4 2 = 3 ∧
      bit (trainInfo rate report ready) 3 = report ∧ bit (trainInfo rate report ready) 2 = ready ∧
      bits (trainInfo rate report ready) 0 2 = 0) ∧
    (∀ last k, nextReport s last = some k → k < 64 ∧ (laneAt s k).rxEnabled = true ∧
      ∀ l, last = some l → (l < k ∧ ∀ j, l < j → j < k → (laneAt s j).rxEnabled = false) ∨
        (k ≤ l ∧ ∀ j, j < 64 → (l < j ∨ j < k) → (laneAt s j).rxEnabled = false)) ∧
    ((laneAt s n).txRole ≠ 0 → (laneAt s n).txFault = false → (laneAt s n).txCur = none →
      exec (.txFault n) s = .next (afterTxChange s (modLane n (fun l => { l with
        txFault := true, txUp := false, txTraining := false, txCur := none, cause := setBits l.cause [9] }) s))) ∧
    (∀ p, (laneAt s n).txRole = 3 → (laneAt s n).txFault = false → (laneAt s n).txCur = some p →
      exec (.txFault n) s = .next (afterTxChange s (modLane n (fun l => { l with
        txCtl := p.bytes :: l.txCtl, txFault := true, txUp := false, txTraining := false, txCur := none, cause := setBits l.cause [9] }) s))) ∧
    (∀ p, ((laneAt s n).txRole = 1 ∨ (laneAt s n).txRole = 2) → (laneAt s n).txFault = false → (laneAt s n).txCur = some p →
      exec (.txFault n) s = .next (afterTxChange s (modLane n (fun l => { l with
        txFault := true, txUp := false, txTraining := false, txCur := none, cause := setBits l.cause [9] })
          (requeue (laneAt s n).txRole p s)))) ∧
    (∀ num bytes, requeue 1 { ctl := false, num := num, bytes := bytes } s = { s with hst := { s.hst with
      resend := sat32 (s.hst.resend + 1), cause := setBits s.hst.cause [2]
      queue := s.hst.queue.map (fun q => if q.num = num then { q with waitA := true, redoA := true, onA := false } else q) } } ∧
      requeue 2 { ctl := false, num := num, bytes := bytes } s = { s with hst := { s.hst with
      resend := sat32 (s.hst.resend + 1), cause := setBits s.hst.cause [2]
      queue := s.hst.queue.map (fun q => if q.num = num then { q with waitB := true, redoB := true, onB := false } else q) } }) ∧
    ((laneAt s n).txFault = true → supplyOn s vlane = true →
      exec (.txSerialiserRelock n) s = .next (modLane n (fun l => { l with
        txFault := false, txTraining := decide (l.txRole ≠ 0), sinceTrain0 := 0, sinceTrain := 0 }) s))) ∧
  (∀ (rec : LaneRec) (e : Nat) (l : Lane),
    (bit e 0 = true → l.rxEnabled = false → (assignLane rec e l).rxEnabled = true ∧ (assignLane rec e l).rxState = .search ∧
      (assignLane rec e l).peerValid = false ∧ (rec.valid = true → (assignLane rec e l).bringup = .saved ∧
        (assignLane rec e l).rxRate = rec.rate ∧ (assignLane rec e l).ctle = rec.ctle ∧ (assignLane rec e l).tap1 = rec.tap1) ∧
      (rec.valid = false → (assignLane rec e l).bringup = .ladder ∧ (assignLane rec e l).rxRate = 3)) ∧
    (bit e 0 = true → l.rxEnabled = true → (assignLane rec e l).rxEnabled = true ∧ (assignLane rec e l).rxState = l.rxState ∧
      (assignLane rec e l).bringup = l.bringup ∧ (assignLane rec e l).rxRate = l.rxRate) ∧
    (bit e 0 = false → (assignLane rec e l).rxEnabled = false ∧ (l.rxEnabled = true → (assignLane rec e l).rxState = .off)) ∧
    (bits e 8 2 = l.txRole → bits e 12 2 = l.txRate → (assignLane rec e l).txRole = l.txRole ∧
      (assignLane rec e l).txUp = l.txUp ∧ (assignLane rec e l).txNext = none) ∧
    ((bits e 8 2 ≠ l.txRole ∨ (bits e 12 2 ≠ l.txRate ∧ l.txRole ≠ 0)) →
      (l.txCur ≠ none → (assignLane rec e l).txNext = some (bits e 8 2, bits e 12 2) ∧
        (assignLane rec e l).txRole = l.txRole ∧ (assignLane rec e l).txUp = l.txUp) ∧
      (l.txCur = none → (assignLane rec e l).txRole = bits e 8 2 ∧ (assignLane rec e l).txRate = bits e 12 2 ∧
        (assignLane rec e l).txUp = false ∧
        (assignLane rec e l).txTraining = (decide (bits e 8 2 ≠ 0) && !l.txFault)))) ∧
  (∀ (r : Req) (t : Nat) (s u : State),
    (Takes 0x0303 r t s u → (∀ n, n < 64 → assignEntry r.arg n &&& 0xFFFFCCFE = 0) → b8 r 24 < 2 →
      roleRates r.arg 1 ≠ [] → sameRates (roleRates r.arg 1) = true → sameRates (roleRates r.arg 2) = true →
      (bit (b8 r 24) 0 = true → roleRates r.arg 2 ≠ []) →
      ∃ v, v = afterTxChange u { u with
          lanes := { u.lanes with
            lane := u.lanes.lane.zipIdx.map (fun p => assignLane (laneRecAt u p.2) (assignEntry r.arg p.2) p.1) }
          hst := { u.hst with dual := bit (b8 r 24) 0 } } ∧
        exec (.laneAssign r t) s = .next (ended 0x0303 r t { result := fields [
          (24, leBytes 8 (laneMask v (·.rxEnabled))), (32, leBytes 8 (laneMask v (·.txUp)))] } v)) ∧
    (Takes 0x0301 r t s u → b8 r 32 < 4 → bitsSet 64 (b64 r 24) ≠ [] →
      (∀ n ∈ bitsSet 64 (b64 r 24), (laneAt u n).rxEnabled = true) →
      exec (.laneBringup r t) s = .next (staysOpen 0x0301 r t .committed (b64 r 24) []
        ((bitsSet 64 (b64 r 24)).foldl (fun v n => modLane n
          (startBringup (bit (b8 r 32) 1) (bit (b8 r 32) 0) (laneRecAt v n)) v) u))) ∧
    (Takes 0x0301 r t s u → b8 r 32 < 4 → (∃ n ∈ bitsSet 64 (b64 r 24), (laneAt u n).rxEnabled = false) →
      ∃ d, exec (.laneBringup r t) s = .next (ended 0x0301 r t { status := stBadArg, detail := d } u)) ∧
    (Takes 0x0302 r t s u → b8 r 24 = 0 → b8 r 25 < 64 →
      exec (.laneStatus r t) s = .next (ended 0x0302 r t { result := fields [
        (24, leBytes 4 (laneStat (laneAt u (b8 r 25)))), (28, leBytes 4 (laneAt u (b8 r 25)).cause),
        (32, leBytes 4 (laneAt u (b8 r 25)).codeErr), (36, leBytes 4 (laneAt u (b8 r 25)).crcErr),
        (40, leBytes 4 (laneAt u (b8 r 25)).abortCnt), (44, leBytes 4 (laneAt u (b8 r 25)).elasticCnt),
        (48, leBytes 8 (laneAt u (b8 r 25)).rxPkt), (56, leBytes 8 (laneAt u (b8 r 25)).txPktCnt)] } u)) ∧
    (Takes 0x0302 r t s u → b8 r 24 = 1 → b16 r 26 < 4096 →
      exec (.laneStatus r t) s = .next (ended 0x0302 r t { result := fields [
        (24, leBytes 4 (partyAt u (b16 r 26)).retrans), (28, leBytes 4 (partyAt u (b16 r 26)).dups),
        (32, leBytes 4 (partyAt u (b16 r 26)).discards),
        (36, leBytes 1 (b2n (!(partyAt u (b16 r 26)).unreachable)))] } u)))

/-- R24: a LANE_ASSIGN that leaves path A with no lanes, gives the lanes of one path different rates, or enables dual path
with no PATH_B lane is refused with BAD_ARG, and no lane changes. -/
def Obligations.LaneAssignRefused : Prop :=
  ∀ (r : Req) (t : Nat) (s u : State), Takes 0x0303 r t s u →
    (∀ n, n < 64 → assignEntry r.arg n &&& 0xFFFFCCFE = 0) → b8 r 24 < 2 →
    (roleRates r.arg 1 = [] ∨ sameRates (roleRates r.arg 1) = false ∨ sameRates (roleRates r.arg 2) = false ∨
      (bit (b8 r 24) 0 = true ∧ roleRates r.arg 2 = [])) →
    ∃ d, exec (.laneAssign r t) s = .next (ended 0x0303 r t { status := stBadArg, detail := d } u)

/-- R61 to R64, R453: a CONTROL message that the device takes from a lane. One for another DEST is discarded and counted;
a duplicate is counted and acknowledged again; one in a session that is neither current nor new, or beyond the number
expected, is discarded and counted; the number expected is put in the inbox if that has room, and the next one is
expected; with the inbox full it is dropped unacknowledged. Firmware on shift takes the inbox, oldest first, and does with
each message what its KIND says: a USER message is shown in shared SRAM (at places of the model's choice, log 116), one of
an unlisted KIND is counted and discarded, and a CAGE_REQUEST goes to cage 7. With no core on shift the messages wait. -/
def Obligations.ControlMessages : Prop :=
  (∀ (s s' : State) (lane t : Nat) (b : List Byte), takeDelivered lane 3 s = some (b, s') → hMessage b = true →
    (ownId s ≠ some (hDest b) → exec (.controlMessage lane t) s = .next { s' with seam := { s'.seam with
      destDiscards := sat32 (s'.seam.destDiscards + 1) } }) ∧
    (ownId s = some (hDest b) → ∀ p, p = (if hAckValid b = true then
        releaseAcked s'.seam.session (hAckSession b) (hAck b) (partyAt s' (hSource b)) else partyAt s' (hSource b)) →
      (p.session = some (hSession b) → hSeq b ≠ p.expected → seqAfter p.expected (hSeq b) = true →
        exec (.controlMessage lane t) s = .next (setParty { p with dups := sat32 (p.dups + 1), ackDue := true } s')) ∧
      (p.session = some (hSession b) → hSeq b ≠ p.expected → seqAfter p.expected (hSeq b) = false →
        exec (.controlMessage lane t) s = .next (setParty { p with discards := sat32 (p.discards + 1) } s')) ∧
      (p.session ≠ some (hSession b) → hSync b = false →
        exec (.controlMessage lane t) s = .next (setParty { p with discards := sat32 (p.discards + 1) } s')) ∧
      (p.session = some (hSession b) → hSeq b = p.expected → s'.seam.inbox.length < 64 → ∃ v,
        v = setParty { p with expected := (hSeq b + 1) % 2 ^ 32, lastRx := some (hSeq b), ackDue := true } s' ∧
        exec (.controlMessage lane t) s = .next (serveInbox t { v with seam := { v.seam with
          inbox := s'.seam.inbox ++ [(p.id, hPayload b)] } })) ∧
      (p.session = some (hSession b) → hSeq b = p.expected → 64 ≤ s'.seam.inbox.length →
        exec (.controlMessage lane t) s = .next (setParty p s')) ∧
      (p.session ≠ some (hSession b) → hSync b = true → s'.seam.inbox.length < 64 → ∃ v,
        v = setParty { p with session := some (hSession b), expected := (hSeq b + 1) % 2 ^ 32, lastRx := some (hSeq b),
                              ackDue := true } s' ∧
        exec (.controlMessage lane t) s = .next (serveInbox t { v with seam := { v.seam with
          inbox := s'.seam.inbox ++ [(p.id, hPayload b)] } })))) ∧
  (∀ (s : State) (t : Nat),
    (2 ≤ s.shift.onShift → serveInbox t s = s) ∧ (s.seam.inbox = [] → serveInbox t s = s) ∧
    (s.shift.onShift < 2 → serveInbox t s =
      s.seam.inbox.foldl (fun v m => actOnKind m.1 t m.2 v) { s with seam := { s.seam with inbox := [] } })) ∧
  (∀ (peer t : Nat) (m : List Byte) (s : State),
    (u16 m 0 = 32 → ∃ n k, n = leAt (memRead s.sys.sram 0x3F9FFC 4) 0 4 ∧
      k = memWrite s.sys.sram (0x3F8000 + 72 * (n % 64)) (padTo 72 m) ∧
      actOnKind peer t m s = { s with sys := { s.sys with sram := memWrite k 0x3F9FFC (leBytes 4 (n + 1)) } }) ∧
    (u16 m 0 ≠ 1 → u16 m 0 ≠ 2 → u16 m 0 ≠ 32 → actOnKind peer t m s = { s with seam := { s.seam with
      kindDiscards := sat32 (s.seam.kindDiscards + 1) } }) ∧
    (u16 m 0 = 2 → answered s peer (completionOfBytes (m.drop 8)) = none → actOnKind peer t m s = { s with seam := { s.seam with
      kindDiscards := sat32 (s.seam.kindDiscards + 1) } }) ∧
    (∀ f, u16 m 0 = 2 → answered s peer (completionOfBytes (m.drop 8)) = some f →
      f.peer = peer ∧ f.req.opcode = u16 m 8 ∧ f.req.tag = u16 m 10 ∧ f.req.client = u16 m 12 ∧
      ∃ c, c.cage = f.req.cage ∧ c.forwarded = true ∧ c.status = u8 m 14 ∧ c.origin = f.req.origin ∧
        (actOnKind peer t m s).cages.ready = s.cages.ready ++ [c] ∧
        (actOnKind peer t m s).cages.forwards = s.cages.forwards.erase f ∧
        actOnKind peer t m s = { s with cages := (actOnKind peer t m s).cages }) ∧
    (u16 m 0 = 1 → hasRoom s 7 = true → ∃ q, q.cage = 7 ∧ q.peer = peer ∧ q.arg = [] ∧ q.body = padTo 40 (m.drop 32) ∧
      (actOnKind peer t m s).cages.fetched = s.cages.fetched ++ [q] ∧
      actOnKind peer t m s = { s with cages := (actOnKind peer t m s).cages }))

/-- R63, R64: acknowledgements and resends of CONTROL: on the RETURN lanes of an upstream source's route, else on path A and,
under dual path, on both, where a lane in service can take them. R63: an acknowledgement of this session releases exactly
the messages already sent whose number is not after it, and that is progress; one of another session releases nothing.
After eight resends without progress the receiver is unreachable, and requests that wait for it end with TIMEOUT; that
its messages stay and are resent is the model's choice (log 117). -/
def Obligations.ControlWindow : Prop :=
  (∀ (s : State),
    (∀ lane b s', takeDelivered lane 3 s = some (b, s') → hMessage b = false → ownId s = some (hDest b) →
      hAckValid b = true → exec (.controlAck lane) s = .next
        (setParty (releaseAcked s.seam.session (hAckSession b) (hAck b) (partyAt s' (hSource b))) s')) ∧
    (∀ lane b s', takeDelivered lane 3 s = some (b, s') → hMessage b = false → ownId s ≠ some (hDest b) →
      exec (.controlAck lane) s = .next { s' with seam := { s'.seam with destDiscards := sat32 (s'.seam.destDiscards + 1) } }) ∧
    (∀ id pkt, (∀ n, n < 64 → (n ∈ returnLanes s id ↔ (laneAt s n).txRole = 3 ∧ (laneAt s n).txUp = true ∧
        ∀ r, routeOf s id = some r → bit r.mask n = true)) ∧
      (upstreamSource s id = true → returnLanes s id = [] → launch id pkt s = none) ∧
      (upstreamSource s id = true → returnLanes s id ≠ [] → ∃ v, launch id pkt s = some v ∧ v = { s with lanes := v.lanes } ∧
        ∀ n, (laneAt v n).txCtl = if n ∈ returnLanes s id ∧ n < s.lanes.lane.length then (laneAt s n).txCtl ++ [pkt]
          else (laneAt s n).txCtl) ∧
      (upstreamSource s id = false → (pathUp s 0 = true ∨ (s.hst.dual = true ∧ pathUp s 1 = true)) →
        launch id pkt s = some { s with hst := { s.hst with
          ctlA := if pathUp s 0 = true then s.hst.ctlA ++ [pkt] else s.hst.ctlA
          ctlB := if s.hst.dual = true ∧ pathUp s 1 = true then s.hst.ctlB ++ [pkt] else s.hst.ctlB } }) ∧
      (upstreamSource s id = false → pathUp s 0 = false → (s.hst.dual = false ∨ pathUp s 1 = false) →
        launch id pkt s = none)) ∧
    (∀ id v, dpRun s = true → (partyAt s id).ackDue = true →
      launch id (controlPacket (ownSource s) (epochNow s) id s.seam.session (partyAt s id).nextSeq false
        (ackOf (partyAt s id)) none) s = some v →
      exec (.pureAckSend id) s = .next (setParty { partyAt s id with ackDue := false } v)) ∧
    (∀ id m v, dpRun s = true → nextToSend (partyAt s id) = some m →
      launch id (controlPacket (ownSource s) (epochNow s) id s.seam.session m.seq m.sync (ackOf (partyAt s id)) (some m.msg)) s =
        some v →
      exec (.controlSend id) s = .next (setParty { partyAt s id with
          ackDue := false, window := (partyAt s id).window.map (fun x =>
            if x = m then { x with sent := true, queued := false } else x) } v)) ∧
    (∀ id, (∀ pkt, launch id pkt s = none) → exec (.controlSend id) s = .next s ∧ exec (.pureAckSend id) s = .next s) ∧
    (∀ id t, dpRun s = true → (partyAt s id).window ≠ [] → ((partyAt s id).resends < 8 ∨ (partyAt s id).unreachable = true) →
      exec (.controlRetransmit id t) s = .next (setParty { partyAt s id with
        resends := (partyAt s id).resends + 1
        retrans := sat32 ((partyAt s id).retrans + (((partyAt s id).window.take 16).filter (·.sent)).length)
        window := (partyAt s id).window.zipIdx.map (fun x => if x.2 < 16 then { x.1 with queued := true } else x.1) } s)) ∧
    (∀ id t, dpRun s = true → (partyAt s id).window ≠ [] → 8 ≤ (partyAt s id).resends → (partyAt s id).unreachable = false →
      ((∀ f ∈ s.cages.forwards, f.peer ≠ id) →
        exec (.controlRetransmit id t) s = .next (setParty { partyAt s id with unreachable := true } s)) ∧
      (∀ f v, s.cages.forwards = [f] → f.peer = id → v = setParty { partyAt s id with unreachable := true } s →
        exec (.controlRetransmit id t) s = .next (answerOnly f.req t { status := stTimeout, detail := 11 } stTimeout
          { v with cages := { v.cages with forwards := [] } })))) ∧
  (∀ (session ackSession ack : Nat) (p : Party),
    (releaseAcked session ackSession ack p).window =
      (if ackSession = session then p.window.filter (fun m => seqAfter m.seq ack || !m.sent) else p.window) ∧
    ((releaseAcked session ackSession ack p).window.length < p.window.length →
      (releaseAcked session ackSession ack p).resends = 0 ∧ (releaseAcked session ackSession ack p).unreachable = false) ∧
    (ackSession ≠ session → releaseAcked session ackSession ack p = p))

/-- Table 4.3 with R55, R71 to R73: the outcomes of a delivered DATA packet in their order of checking. Each discarded
packet changes the counters of the Hopper and nothing else; a placed one fills its block. DATA and PROMPT packets are
taken in the order of their delivery. A packet is foreign when its EPOCH is not the one in force for its index, and
misrouted for the lowest of the reasons of Table 4.4. -/
def Obligations.DataPacketJudged : Prop :=
  (∀ (s s' : State) (lane typ : Nat) (b : List Byte), takeDelivered lane typ s = some (b, s') →
    ∃ p, p ∈ s.lanes.delivered ∧ p.lane = lane ∧ p.bytes = b ∧ hType b = typ ∧
      s.lanes.delivered.find? (fun q => q.lane == lane) = some p ∧
      ((typ = 1 ∨ typ = 2) → s.lanes.delivered.find? (fun q => hType q.bytes == 1 || hType q.bytes == 2) = some p) ∧
      s' = { s with lanes := { s.lanes with delivered := s.lanes.delivered.erase p } }) ∧
  (∀ (s s' : State) (lane : Nat) (b : List Byte), takeDelivered lane 1 s = some (b, s') →
    (foreign s' b = true → exec (.dataPacket lane) s = .next { s' with hop := { s'.hop with
      foreign := sat32 (s'.hop.foreign + 1), lastForeign := some (hSource b, hEpoch b)
      cause := setBits s'.hop.cause [1] } }) ∧
    (foreign s' b = false → misroute s' b ≠ 0 → exec (.dataPacket lane) s = .next { s' with hop := { s'.hop with
      misroute := sat32 (s'.hop.misroute + 1), lastMisroute := (misroute s' b, hGroup b, hSource b, hChannel b)
      cause := setBits s'.hop.cause [2] } }) ∧
    (foreign s' b = false → misroute s' b = 0 →
      (s'.hop.running = true → s'.hop.first ≤ dataPos s' b → s'.hop.nextOpen ≤ dataPos s' b →
        exec (.dataPacket lane) s = .next { s' with hop := { s'.hop with
          early := sat32 (s'.hop.early + 1), cause := setBits s'.hop.cause [4] } }) ∧
      ((s'.hop.running = false ∨ dataPos s' b < s'.hop.first ∨ (dataPos s' b < s'.hop.nextOpen ∧
          ((slotAt s' (dataPos s' b)).pos ≠ dataPos s' b ∨ (slotAt s' (dataPos s' b)).state = .sealed ∨
           (slotAt s' (dataPos s' b)).state = .consuming))) →
        exec (.dataPacket lane) s = .next { s' with hop := { s'.hop with
          late := sat32 (s'.hop.late + 1), cause := setBits s'.hop.cause [5] } }) ∧
      (s'.hop.running = true → s'.hop.first ≤ dataPos s' b → dataPos s' b < s'.hop.nextOpen →
        (slotAt s' (dataPos s' b)).pos = dataPos s' b →
        ((slotAt s' (dataPos s' b)).state = .complete ∨ ((slotAt s' (dataPos s' b)).state = .opened ∧
          (slotAt s' (dataPos s' b)).placed.any (fun p => p.group == hGroup b && p.block == dataBlock b) = true)) →
        exec (.dataPacket lane) s = .next { s' with hop := { s'.hop with
          dup := sat32 (s'.hop.dup + 1), cause := setBits s'.hop.cause [6] } }) ∧
      (s'.hop.running = true → s'.hop.first ≤ dataPos s' b → dataPos s' b < s'.hop.nextOpen →
        (slotAt s' (dataPos s' b)).pos = dataPos s' b → (slotAt s' (dataPos s' b)).state = .opened →
        (slotAt s' (dataPos s' b)).placed.any (fun p => p.group == hGroup b && p.block == dataBlock b) = false →
        ∃ v, exec (.dataPacket lane) s = .next (settleSlot (dataPos s' b) v) ∧
          v = { s' with hop := { s'.hop with
            placed := sat64 (s'.hop.placed + 1)
            slots := upd s'.hop.slots (dataPos s' b % 3) (fun sl => { sl with placed := sl.placed ++
              [{ group := hGroup b, block := dataBlock b, allBlank := hBlank b == 2, payload := hPayload b }] }) } }))) ∧
  (∀ (s : State) (b : List Byte),
    (bundleAt s (hIndex b) = none → foreign s b = false ∧ misroute s b = 1) ∧
    (∀ u, bundleAt s (hIndex b) = some u → (foreign s b = true ↔ hEpoch b ≠ u.epoch) ∧
      (bit u.groups (hGroup b) = false → misroute s b = 1) ∧
      (bit u.groups (hGroup b) = true → hSource b ∉ u.permit.getD (hGroup b) [] → misroute s b = 2) ∧
      (bit u.groups (hGroup b) = true → hSource b ∈ u.permit.getD (hGroup b) [] → u.channels ≤ hChannel b → misroute s b = 3) ∧
      (bit u.groups (hGroup b) = true → hSource b ∈ u.permit.getD (hGroup b) [] → hChannel b < u.channels →
        misroute s b = (if hType b = 2 ∧ hChannel b ∉ ((promptFor s (hIndex b / 64)).map (·.channels)).getD [] then 4 else 0))))

/-- R74, R76, R77: a full slot seals once its seal window has opened and every lower position has sealed, otherwise it is
COMPLETE; a slot that is not full stays as it is; a seal with missing blocks counts them and leaves a STAT record. Packets
delivered before the window opens or the wait ends are judged first (R71, R72). R79 to R82: the outcomes of a PROMPT packet
that is neither foreign nor misrouted, the wait of an open block, and the close of a block with what it lacks counted;
R83: the counter clear. That a packet is late with no block open, and that one without a cell opens no block, are the
model's choices (logs 118, 119). -/
def Obligations.SealingAndPrompt : Prop :=
  (∀ (typ : Nat) (f : List Byte → State → State) (s : State),
    ((∀ p ∈ s.lanes.delivered, hType p.bytes ≠ typ) → judgeWaiting typ f s = s) ∧
    (∀ p q, s.lanes.delivered = p ++ q → (∀ x ∈ p, hType x.bytes ≠ typ) → ∀ x r, q = x :: r → hType x.bytes = typ →
      (∀ y ∈ r, hType y.bytes ≠ typ) → ∀ v, v = { s with lanes := { s.lanes with delivered := p ++ r } } →
      (foreign v x.bytes = false → misroute v x.bytes = 0 → judgeWaiting typ f s = f x.bytes v) ∧
      (foreign v x.bytes = true → judgeWaiting typ f s = { v with hop := { v.hop with
        foreign := sat32 (v.hop.foreign + 1), lastForeign := some (hSource x.bytes, hEpoch x.bytes)
        cause := setBits v.hop.cause [1] } }))) ∧
  (∀ (s w : State) (j : Nat),
    (slotFull s (slotAt s j) = true → (slotAt s j).window = true → lowerSealed s j = true →
      settleSlot j s = sealSlot j false s) ∧
    (slotFull s (slotAt s j) = true → ((slotAt s j).window = false ∨ lowerSealed s j = false) →
      settleSlot j s = modSlot j (fun sl => { sl with state := .complete }) s) ∧
    (slotFull s (slotAt s j) = false → settleSlot j s = s) ∧
    (s = judgeWaiting 1 takeData w → s.hop.running = true → (slotAt s j).pos = j →
      ((slotAt s j).state = .opened → exec (.sealWindowOpen j) w = .next (modSlot j (fun x => { x with window := true }) s)) ∧
      ((slotAt s j).state = .complete → lowerSealed s j = true →
        exec (.sealWindowOpen j) w = .next (sealSlot j false (modSlot j (fun x => { x with window := true }) s)))) ∧
    (∀ deadline, s.hop.slots.length = 3 → (sealRecord s (slotAt s j) deadline).missing ≠ 0 →
      let t := sealSlot j deadline s
      (slotAt t j).state = .sealed ∧ (slotAt t j).record = sealRecord s (slotAt s j) deadline ∧
      (∀ k, k % 3 ≠ j % 3 → slotAt t k = slotAt s k) ∧
      t.hop.sealShort = sat64 (s.hop.sealShort + 1) ∧ t.hop.sealFull = s.hop.sealFull ∧
      t.hop.fill = sat64 (s.hop.fill + (sealRecord s (slotAt s j) deadline).missing) ∧
      t.hop.cause = setBits s.hop.cause [0] ∧ t.hst.stat.length = s.hst.stat.length + 1 ∧
      t = { s with hop := t.hop, hst := t.hst }) ∧
    (∀ deadline, s.hop.slots.length = 3 → (sealRecord s (slotAt s j) deadline).missing = 0 →
      (sealRecord s (slotAt s j) deadline).blankMask = 0 →
      let t := sealSlot j deadline s
      (slotAt t j).state = .sealed ∧ t.hop.sealFull = sat64 (s.hop.sealFull + 1) ∧ t.hop.sealShort = s.hop.sealShort ∧
      t.hop.fill = s.hop.fill ∧ t = { s with hop := t.hop })) ∧
  (∀ (s w : State),
    (∀ lane b s', takeDelivered lane 2 s = some (b, s') → foreign s' b = false → misroute s' b = 0 →
      (promptLate s'.hop (hIndex b / 64) = true → exec (.promptPacket lane) s = .next { s' with hop := { s'.hop with
        pbLate := sat32 (s'.hop.pbLate + 1), cause := setBits s'.hop.cause [8] } }) ∧
      (∀ x, promptLate s'.hop (hIndex b / 64) = false → s'.hop.blocks.find? (fun x => x.num == hIndex b / 64) = some x →
        (x.pairs.contains { channel := hChannel b, group := hGroup b } = true →
          exec (.promptPacket lane) s = .next { s' with hop := { s'.hop with pbDup := sat32 (s'.hop.pbDup + 1) } }) ∧
        (x.pairs.contains { channel := hChannel b, group := hGroup b } = false → hBlank b ≠ 2 → 512 ≤ s'.hop.cells →
          exec (.promptPacket lane) s = .next { s' with hop := { s'.hop with
            pbOverflow := sat32 (s'.hop.pbOverflow + 1), cause := setBits s'.hop.cause [9] } }) ∧
        (x.pairs.contains { channel := hChannel b, group := hGroup b } = false → (hBlank b = 2 ∨ s'.hop.cells < 512) →
          exec (.promptPacket lane) s = .next (placePrompt b (hIndex b / 64) s'))) ∧
      (promptLate s'.hop (hIndex b / 64) = false → s'.hop.blocks.find? (fun x => x.num == hIndex b / 64) = none →
        ((hBlank b = 2 ∨ s'.hop.cells < 512) →
          exec (.promptPacket lane) s = .next (placePrompt b (hIndex b / 64) (openBlock (hIndex b / 64) s'))) ∧
        (hBlank b ≠ 2 → 512 ≤ s'.hop.cells → exec (.promptPacket lane) s = .next { s' with hop := { s'.hop with
          pbOverflow := sat32 (s'.hop.pbOverflow + 1), cause := setBits s'.hop.cause [9] } }))) ∧
    (∀ h n, promptLate h n = true ↔ (∃ k, h.highest = some k ∧ n ≤ k) ∧ ∀ b ∈ h.blocks, b.num ≠ n) ∧
    (∀ n, s = judgeWaiting 2 takePrompt w →
      (s.hop.blocks.any (fun b => b.num == n && b.waiting) = true → exec (.promptWaitExpiry n) w = .next (closeBlock n s)) ∧
      (s.hop.blocks.any (fun b => b.num == n && b.waiting) = false → exec (.promptWaitExpiry n) w = .next s)) ∧
    (∀ n b, s.hop.blocks.find? (fun b => b.num == n) = some b →
      let miss := (promptPairs s n).filter (fun p => !b.pairs.contains p)
      ∃ t, closeBlock n s = t ∧ t.hop.blocks = s.hop.blocks.filter (fun b => decide (b.num ≠ n)) ∧
        t.hop.pbMissing = (if miss = [] then s.hop.pbMissing else sat32 (s.hop.pbMissing + miss.length)) ∧
        t.hop.pbShort = (if miss = [] then s.hop.pbShort else sat32 (s.hop.pbShort + 1)) ∧
        t.hop.cause = (if miss = [] then s.hop.cause else setBits s.hop.cause [7]) ∧
        (∃ x, x ∈ t.beams.jobs ∧ x.num = n ∧ x.closed = some { num := n, missing := miss }) ∧
        t = { s with hop := t.hop, beams := t.beams }) ∧
    (dpRun s = true → s.hop.running = true →
      exec .hopCounterClear s = .next { s with hop := { s.hop with clearPending := true } }) ∧
    (dpRun s = true → s.hop.running = false → exec .hopCounterClear s = .next { s with hop := { s.hop with
      clearPending := false, placed := 0, fill := 0, sealFull := 0, sealShort := 0, malformed := 0, misroute := 0
      foreign := 0, early := 0, late := 0, dup := 0, lastForeign := none, lastMisroute := (0, 0, 0, 0)
      grpMiss := List.replicate 32 0, pbPlaced := 0, pbShort := 0, pbMissing := 0, pbLate := 0, pbDup := 0
      pbOverflow := 0, pbJump := 0 } }))

/-- Table 4.2, R74, R76, R71, R108, R13: a chunk boundary judges the DATA packets delivered before it, takes pending counter
clears, ends the consumption of the position three before the one that opens, brings back an Abacus that RESUME released,
but not for a slot that sealed while it was drained, seals at its deadline and begins the position two before, and opens a
slot with its bits clear, which no other slot notices; a complete slot whose window has opened seals in its turn; a
boundary that is not the next one is no event. That HOP_HEAD keeps the last position consumed is the model's choice
(log 120). -/
def Obligations.ChunkBoundaryOrder : Prop :=
  ∀ (s : State) (opens : Nat) (admitted stalls : List Nat) (t : Nat),
    (s.hop.running = true → s.hop.nextOpen = opens → ∀ c d e u x,
      c = boundaryFrames admitted stalls (boundaryClears (judgeWaiting 1 takeData s)) →
      d = (if c.hop.first + 3 ≤ opens then endPosition (opens - 3) c else c) →
      e = (if d.aba.resumePending = true ∧ ((slotAt d (opens - 2)).pos ≠ opens - 2 ∨ (slotAt d (opens - 2)).state ≠ .sealed)
           then { d with aba := { d.aba with resumePending := false, state := .running } } else d) →
      u = (if e.hop.first + 2 ≤ opens then beginPosition (opens - 2) t (deadline (opens - 2) e) else e) →
      x = (if u.aba.resumePending = true then { u with aba := { u.aba with resumePending := false, state := .running } } else u) →
      ∃ v, exec (.chunkBoundary opens admitted stalls t) s = .next v ∧ v.hop.nextOpen = opens + 1 ∧ v.aba = x.aba ∧
        (u.hop.slots.length = 3 → slotAt v opens = { state := .opened, pos := opens } ∧
          slotAt v (opens + 1) = slotAt u (opens + 1) ∧
          (1 ≤ opens → u.hop.first + 1 ≤ opens → (slotAt u (opens - 1)).pos = opens - 1 →
            (slotAt u (opens - 1)).state = .complete → (slotAt u (opens - 1)).window = true →
            (slotAt v (opens - 1)).state = .sealed))) ∧
    ((s.hop.running = false ∨ s.hop.nextOpen ≠ opens) → exec (.chunkBoundary opens admitted stalls t) s = .next s) ∧
    (∀ j, (slotAt s j).pos = j → (slotAt s j).state = .opened →
      deadline j s = sealSlot j (!slotFull s (slotAt s j)) s) ∧
    (∀ j, consumes s = false → s.bun.changeover = none → s.aba.nextSched = none →
      (beginPosition j t s).hop = s.hop ∧ (beginPosition j t s).aba = s.aba ∧ (beginPosition j t s).tal = s.tal)

/-- R90: physical frame 9g + k serves logical frame 8g + k when it is fit; the gallery's spare, when fit, takes the
logical number of the lowest unfit frame, and serves none when there is no such frame; an unfit frame serves none.
R93, R94: the end of a correlation run hands its beads to the shadow beads and the next run starts; with the shadow
beads still full the frame stalls and STALL is set. R123: shadow beads empty only into staging that has room. R92: an
error in a context of the bead store loses the sums that this context saved, and no other. R104: the words of a cell.
R109: the counter clear. -/
def Obligations.FrameUse : Prop :=
  (∀ (pass mask g : Nat), g < 4 →
    (∀ k, k < 8 → frameServes pass mask (9 * g + k) = if frameFit pass mask (9 * g + k) = true then some (8 * g + k) else none) ∧
    (frameFit pass mask (9 * g + 8) = false → frameServes pass mask (9 * g + 8) = none) ∧
    (frameFit pass mask (9 * g + 8) = true → (∀ i, i < 8 → frameFit pass mask (9 * g + i) = true) →
      frameServes pass mask (9 * g + 8) = none) ∧
    (∀ k, k < 8 → frameFit pass mask (9 * g + 8) = true → frameFit pass mask (9 * g + k) = false →
      (∀ i, i < k → frameFit pass mask (9 * g + i) = true) → frameServes pass mask (9 * g + 8) = some (8 * g + k)) ∧
    (∀ p, frameFit pass mask p = true ↔ (bit pass p = true ∧ bit mask p = false))) ∧
  (∀ (m : Mode) (b : Bead), b.count < 2 ^ 14 → (m ≠ .w8f → -(2 ^ 23) ≤ b.re ∧ b.re < 2 ^ 23 ∧ -(2 ^ 23) ≤ b.im ∧ b.im < 2 ^ 23) →
    (m = .w8f → -(2 ^ 47) ≤ b.re ∧ b.re < 2 ^ 47 ∧ -(2 ^ 47) ≤ b.im ∧ b.im < 2 ^ 47) →
    wordsBead m (beadWords m b) 0 = b ∧ (beadWords m b).length = if m = .w8f then 2 else 1) ∧
  (∀ (s : State) (k : Nat) (f : Frame), frameAt s k = some f →
    (runsOn s f = true → f.runs ≠ [] → exec (.runHandover k) s = .next (endRun k s)) ∧
    (runsOn s f = false → exec (.runHandover k) s = .next s) ∧
    (runsOn s f = true ↔ s.aba.state = .running ∧ s.aba.consuming = true ∧ f.preempt = none ∧ f.stalled = false ∧
      f.weightStall = false ∧ f.carried = []) ∧
    (∀ r rest a b, f.runs = r :: rest → r.item = .pair a b → f.shadow = none →
      endRun k s = startRun k (modFrame k (fun f => { f with
        shadow := some { run := r, upTo := r.hi, beads := pairBeads s r a b r.hi }, runs := rest, fresh := false
        stalled := false }) s)) ∧
    (∀ r rest a b, f.runs = r :: rest → r.item = .pair a b → f.shadow ≠ none →
      endRun k s = { s with aba := { s.aba with
        frames := upd s.aba.frames k (fun f => { f with stalled := true }), cause := setBits s.aba.cause [2] } }) ∧
    (∀ r rest set rk, f.runs = r :: rest → r.item = .beam set rk →
      endRun k s = startRun k (modFrame k (fun f => { f with runs := rest, fresh := false })
        (beamRunDone r.pos set rk r.lo r.hi r.hi s))) ∧
    (∀ sh cycles, f.shadow = some sh →
      (stagingRoom s (modeAt s (chunkOf s sh.run.pos)) (f.logical / 8) (shadowBytes s sh) = false →
        exec (.shadowEmptied k cycles) s = .next s) ∧
      (stagingRoom s (modeAt s (chunkOf s sh.run.pos)) (f.logical / 8) (shadowBytes s sh) = true → ∀ u v,
        u = stageShadow f.logical sh s →
        v = modFrame k (fun g => { g with
          shadow := f.second.map (fun x => { x with beads := contextBeads u x.run f.ctx1 }), second := none, ctx1 := []
          stalled := false }) u →
        (f.stalled = false → exec (.shadowEmptied k cycles) s = .next { v with aba := { v.aba with
          stallCycles := sat64 v.aba.stallCycles } }) ∧
        (f.stalled = true → exec (.shadowEmptied k cycles) s = .next (endRun k { v with aba := { v.aba with
          stallCycles := sat64 (v.aba.stallCycles + cycles) } })))) ∧
    (∀ p ctx, physOf s f.logical = some p →
      exec (.beadStoreError k ctx false) s = .next { s with aba := { s.aba with phys := upd s.aba.phys p (fun q => { q with
        ceCount := min 0xFFFF (q.ceCount + 1), cause := setBits q.cause [0] }) } }) ∧
    (∀ ctx, contextSaved f ctx = true → ∃ t, exec (.beadStoreError k ctx true) s = .next t ∧
      t.aba.beadUe = sat32 (s.aba.beadUe + 1) ∧ bit t.aba.cause 5 = true ∧ t.hst.stat.length = s.hst.stat.length + 1 ∧
      (∀ g, frameAt t k = some g → g.shadow = f.shadow ∧ g.preempt = f.preempt ∧ g.held = f.held ∧
        (ctx = 0 → g.ctx0 = f.ctx0.map (fun _ => 0) ∧ g.ctx1 = f.ctx1 ∧ g.second = f.second) ∧
        (ctx ≠ 0 → g.ctx1 = f.ctx1.map (fun _ => 0) ∧ g.ctx0 = f.ctx0 ∧ g.runs = f.runs)) ∧
      (∀ j, j ≠ k → frameAt t j = frameAt s j) ∧ t = { s with aba := t.aba, sys := t.sys, hst := t.hst }) ∧
    (∀ ctx, contextSaved f ctx = false → exec (.beadStoreError k ctx true) s = .next s) ∧
    (dpRun s = true → s.hop.running = true →
      exec .abaCounterClear s = .next { s with aba := { s.aba with clearPending := true } }) ∧
    (dpRun s = true → s.hop.running = false → exec .abaCounterClear s = .next { s with aba := { s.aba with
      clearPending := false, preempts := 0, stallCycles := 0, promptDefer := 0, overruns := 0, beadUe := 0
      phys := s.aba.phys.map (fun p => { p with ceCount := 0 }) } }))

/-- R101: what a preemption costs its frame: 128n + 400 with a saved context within a correlation run, 128n + 144 at the
end of a run, 128n + 136 with the slice finished or nothing of it admitted, 128n + 272 within a run in weighted mode. -/
def Obligations.PreemptionCost : Prop :=
  ∀ (s : State) (f : Frame) (admitted n : Nat),
    ((sliceDone s f = true ∨ hasAdmitted f admitted = false) → preemptCost s f admitted n = (128 * n + 136, false)) ∧
    (sliceDone s f = false → hasAdmitted f admitted = true → ∀ r rest, f.runs = r :: rest →
      ((admitted ≤ r.lo ∨ r.hi ≤ admitted ∨ f.stalled = true) → preemptCost s f admitted n = (128 * n + 144, false)) ∧
      (r.lo < admitted → admitted < r.hi → f.stalled = false →
        (∀ set rk, r.item = .beam set rk → preemptCost s f admitted n = (128 * n + 272, false)) ∧
        (∀ a b, r.item = .pair a b → preemptCost s f admitted n = (128 * n + 400, true)))) ∧
    (sliceDone s f = true ↔ f.runs = [] ∨ s.aba.state ≠ .running) ∧
    (hasAdmitted f admitted = true ↔ f.fresh = false ∨ ∃ r rest, f.runs = r :: rest ∧ r.lo < admitted)

/-- R100, R101, R103, R104: prompt work of a frame: a latched block that fits the allowance starts a preemption, which saves
the bead context where R101 says so, and one that does not fit is deferred and counted; each unit that ends frees its
cell, and after the last the saved run resumes from its context; deferred work starts when the slice is finished, or first
in the next interval. That the latch of a second block waits for the end is the model's choice (log 125). R105, R107,
R108: DRAIN is accepted by a running Abacus and refused otherwise; at its end the Abacus is DRAINED, the drain record
stands in shared SRAM at 0x3F_0000, every byte of it elsewhere is untouched, and the reply gives the offset. -/
def Obligations.DrainAndPromptWork : Prop :=
  (∀ (s : State) (k n : Nat) (f : Frame) (us : List PbUnit), frameAt s k = some f →
    (∀ admitted, f.held.find? (fun x => x.1 == n) = some (n, us) → f.preempt = none → f.deferred.contains n = false →
      (blockClosed s n = true ∨ blockShare s n ≤ us.length) →
      let adm := ((f.runs.head?).map (fun r => max r.lo (min r.hi admitted))).getD 0
      ((sliceDone s f = true ∨ f.promptUsed + (preemptCost s f adm us.length).1 ≤ kNow s - sNow s) →
        exec (.preemptionLatch k n admitted) s = .next { s with aba := { s.aba with
          preempts := sat64 (s.aba.preempts + 1)
          frames := upd s.aba.frames k (fun g => { g with
            preempt := some { block := n, units := us, inRun := !sliceDone s f, admitted := adm
                              saved := (preemptCost s f adm us.length).2 }
            ctx0 := match f.runs.head? with
              | some r => if (preemptCost s f adm us.length).2 = true then contextOf s r adm else []
              | none => []
            promptUsed := g.promptUsed + (preemptCost s f adm us.length).1
            deferred := g.deferred.filter (fun x => decide (x ≠ n)), carried := g.carried.filter (fun x => decide (x ≠ n))
            held := g.held.filter (fun x => decide (x.1 ≠ n)) }) } }) ∧
      (sliceDone s f = false → kNow s - sNow s < f.promptUsed + (preemptCost s f adm us.length).1 →
        exec (.preemptionLatch k n admitted) s = .next { s with aba := { s.aba with
          promptDefer := sat32 (s.aba.promptDefer + 1), cause := setBits s.aba.cause [1]
          frames := upd s.aba.frames k (fun f => { f with deferred := f.deferred ++ [n] }) } })) ∧
    (∀ admitted, (f.preempt ≠ none ∨ f.deferred.contains n = true ∨ f.held.find? (fun x => x.1 == n) = none ∨
        (blockClosed s n = false ∧ f.held.find? (fun x => x.1 == n) = some (n, us) ∧ us.length < blockShare s n)) →
      exec (.preemptionLatch k n admitted) s = .next s) ∧
    (∀ p done, f.preempt = some p →
      (done < p.units.length → exec (.preemptionEnd k done) s = .next (modFrame k (fun f => { f with
        preempt := some { p with units := p.units.drop done } }) (endUnits (p.units.take done) s))) ∧
      (p.units.length ≤ done → (p.saved = false ∨ f.runs = []) →
        exec (.preemptionEnd k done) s = .next (modFrame k (fun f => { f with preempt := none }) (endUnits p.units s))) ∧
      (p.units.length ≤ done → p.saved = true → ∀ r rest, f.runs = r :: rest →
        exec (.preemptionEnd k done) s = .next (modFrame k (fun g => { g with
          preempt := none, ctx0 := [], runs := { r with base := f.ctx0, sumFrom := p.admitted } :: rest })
          (endUnits p.units s)))) ∧
    (f.preempt = none → ∀ done, exec (.preemptionEnd k done) s = .next s) ∧
    (∀ us, (endUnits us s).hop = { s.hop with cells := s.hop.cells - us.length } ∧
      endUnits us s = { s with hop := (endUnits us s).hop, beams := (endUnits us s).beams }) ∧
    (∀ rest, f.deferred = n :: rest → f.preempt = none → (sliceDone s f = true ∨ f.carried.contains n = true) →
      f.held.find? (fun x => x.1 == n) = some (n, us) →
      exec (.preemptionDeferredStart k) s = .next { s with aba := { s.aba with
        preempts := sat64 (s.aba.preempts + 1)
        frames := upd s.aba.frames k (fun g => { g with
          preempt := some { block := n, units := us, saved := false, inRun := !sliceDone s f
                            admitted := ((f.runs.head?).map (·.lo)).getD 0 }
          ctx0 := [], promptUsed := g.promptUsed + (128 * us.length + 136)
          deferred := g.deferred.filter (fun x => decide (x ≠ n)), carried := g.carried.filter (fun x => decide (x ≠ n))
          held := g.held.filter (fun x => decide (x.1 ≠ n)) }) } }) ∧
    (∀ rest, f.deferred = n :: rest → sliceDone s f = false → f.carried.contains n = false →
      exec (.preemptionDeferredStart k) s = .next s)) ∧
  (∀ (s : State),
    (∀ r t u, Takes 0x0403 r t s u → u.aba.state = .running →
      exec (.drain r t) s = .next (staysOpen 0x0403 r t .committed 0 [] { u with aba := { u.aba with state := .draining } })) ∧
    (∀ r t u, Takes 0x0403 r t s u → u.aba.state ≠ .running →
      exec (.drain r t) s = .next (ended 0x0403 r t { status := stNotInState } u)) ∧
    (∀ admitted stalls t, s.aba.state = .draining → s.aba.frames = [] → ∀ cut v,
      cut = s.aba.cut.getD { pos := consumePos s, counts := drainCounts s admitted } →
      v = { s with
        sys := { s.sys with sram := memWrite s.sys.sram 0x3F0000 (drainRecord s cut.pos cut.counts) }
        aba := { s.aba with state := .drained, cut := none, drainPos := cut.pos
                            drainSamples := (cut.counts.map (·.2)).sum % 2 ^ 32, cause := setBits s.aba.cause [0] }
        tal := { s.tal with sweepDue := s.tal.cur.isSome } } →
      ((∀ o ∈ s.cages.openCmds, isOp 0x0403 o = false) → exec (.drainDone admitted stalls t) s = .next v) ∧
      (∀ o, s.cages.openCmds = [o] → isOp 0x0403 o = true → o.phase = .committed →
        exec (.drainDone admitted stalls t) s = .next (conclude o.req o.order o.commitTime { result := fields [
            (24, leBytes 4 0x3F0000), (28, leBytes 4 (16 + 4 * cut.counts.length)), (32, leBytes 8 cut.pos),
            (40, leBytes 4 (cut.counts.map (·.2)).sum)] }
          { v with cages := { s.cages with openCmds := [] } }))) ∧
    (∀ admitted stalls t, s.aba.state = .draining → ∃ v, exec (.drainDone admitted stalls t) s = .next v ∧
      v.aba.state = .drained ∧ v.aba.cut = none ∧ bit v.aba.cause 0 = true ∧
      (v.cages.openCmds.any (isOp 0x0403) = false)) ∧
    (∀ admitted stalls t, s.aba.state ≠ .draining → exec (.drainDone admitted stalls t) s = .next s) ∧
    (∀ pos counts, pos < 2 ^ 64 → counts.length < 2 ^ 32 → (drainRecord s pos counts).length = 16 + 4 * counts.length ∧
      u64 (drainRecord s pos counts) 0 = pos ∧ u32 (drainRecord s pos counts) 8 = counts.length))

/-- Rounding to nearest, halves to even, of a quotient and of a square root, as R149, R167 and R169 use them. R137: the
parts of a beam sum are joined by exact integer addition, in any split of the groups. R152: a power sample is scaled,
rounded half to even, and saturated to 8,388,607. R117, R121: a promotion into a T32E component is exact and keeps the
residue below 2^EXP. -/
def Obligations.ExactArithmetic : Prop :=
  ((∀ (v : Int) (d : Nat), 0 < d →
    2 * (v - d * divHalfEven v d) ≤ d ∧ 2 * (d * divHalfEven v d - v) ≤ d ∧
    (2 * (v - d * divHalfEven v d) = d ∨ 2 * (d * divHalfEven v d - v) = d → divHalfEven v d % 2 = 0)) ∧
  (∀ a b : Nat, 0 < b → a / b < 2 ^ 80 →
    4 * a ≤ b * ((2 * sqrtHalfEven a b + 1) * (2 * sqrtHalfEven a b + 1)) ∧
    (sqrtHalfEven a b = 0 ∨ b * ((2 * sqrtHalfEven a b - 1) * (2 * sqrtHalfEven a b - 1)) ≤ 4 * a))) ∧
  ((∀ (bp : BeamPos) (set sp : Nat) (part : BeamPart), part.set = set → part.lo ≤ sp → sp < part.hi →
    beamSums { bp with parts := bp.parts ++ [part] } set sp = addSums (beamSums bp set sp) (part.sums.getD (sp - part.lo) [])) ∧
  (∀ (bp : BeamPos) (set sp : Nat) (part : BeamPart), (part.set ≠ set ∨ sp < part.lo ∨ part.hi ≤ sp) →
    beamSums { bp with parts := bp.parts ++ [part] } set sp = beamSums bp set sp) ∧
  (∀ sum shift, ((powerSample sum shift).1 : Int) = min (divHalfEven sum (2 ^ shift)) 8388607 ∧
    ((powerSample sum shift).2 = true ↔ (8388607 : Int) < divHalfEven sum (2 ^ shift)))) ∧
  (∀ (e : Nat) (m : Int) (r : Nat) (b : Int),
    (promoteE e m r b).1 * 2 ^ e + ((promoteE e m r b).2 : Int) = m * 2 ^ e + r + b ∧ (promoteE e m r b).2 < 2 ^ e)

/-- Reading back what a write stored, and every byte that it did not store as before; the canonical form of a memory is
kept (the model's memories: log 34). -/
def Obligations.MemoryReadAfterWrite : Prop :=
  ∀ (m : List Host.Cell) (a : Nat) (bs : List Byte), Memory.wf m = true →
    Memory.wf (memWrite m a bs) = true ∧
    (∀ i, i < bs.length → memByte (memWrite m a bs) (a + i) = bs.getD i 0) ∧
    (∀ x, (x < a ∨ a + bs.length ≤ x) → memByte (memWrite m a bs) x = memByte m x)

/-- R116 to R119, R124, R126: a line of an integration that is neither at its first nor at its last promotion, and not the
last line of its position: its sums are read from the tally, the beads are added, and the line, and its count line
where the schedule has a count plane, are written back to their own places; every other byte of pit memory is as
before. R134: the lines' earlier bytes are kept with the position's job until it is over. R452: a ring taken up from
another schedule, and a header with no room left in its ring, counted lost.
R130, R131, R135: a finished record is posted to the Hoist, oldest first, and the last one of its integration
sets DUMP_DONE; with no finished record at the front nothing happens; the counter clear. -/
def Obligations.IntegrationLines : Prop :=
  (∀ (s : State) (g : Nat) (inflight : List Nat) (l : StagedLine) (b : Bundle) (j : PromJob), Memory.wf s.pit.mem = true →
    nextLine s g = some l → s.bun.active = some b → jobAt s l.pos = some j → j.begun = true → j.fresh = false →
    j.last = false → 1 < j.linesLeft → l.damaged = false → s.pit.damaged = [] →
    let sc := j.integ.sched
    let n := (lineVis b).getD l.pair 0
    let at_ := recordAddr b sc j.channel + lineOffset b sc.format l.pair
    let cAt := countAddr b sc j.channel + countOffset b l.pair
    let new := (promoteLine sc.format ((pitRead s at_ (lineBytes sc.format n)).1) l.beads).1
    let cnt := promoteCounts ((pitRead s cAt (4 * n)).1) l.beads
    ∃ t, exec (.linePromotion g false inflight) s = .next t ∧
      t.pit.mem = (if sc.countPlane = true then memWrite (memWrite s.pit.mem at_ new) cAt cnt
                   else memWrite s.pit.mem at_ new) ∧
      (∀ x, (x < at_ ∨ at_ + new.length ≤ x) → (sc.countPlane = false ∨ x < cAt ∨ cAt + cnt.length ≤ x) →
        memByte t.pit.mem x = memByte s.pit.mem x) ∧
      t.tal.staging = s.tal.staging.erase l ∧ t.tal.promo = sat64 (s.tal.promo + n) ∧ t.tal.damaged = s.tal.damaged ∧
      t.tal.galInflight = (upTo 4).map (fun q => min 65536 (inflight.getD q 0)) ∧
      t.tal.inflightPeak = max s.tal.inflightPeak t.tal.galInflight.sum ∧
      jobAt t l.pos = some { j with linesLeft := j.linesLeft - 1, absent := j.absent + l.absent,
                                    undo := (at_, (pitRead s at_ (lineBytes sc.format n)).1) ::
                                      (if sc.countPlane = true then [(cAt, (pitRead s cAt (4 * n)).1)] else []) ++ j.undo } ∧
      t = { s with tal := t.tal, pit := t.pit }) ∧
  (∀ (s : State) (g : Nat) (ue : Bool) (inflight : List Nat), nextLine s g = none →
    exec (.linePromotion g ue inflight) s = .next s) ∧
  (∀ (s : State),
    (∀ r, s.tal.ring.find? (fun r => !r.posted) = some r → r.written = true →
      exec .dumpRecordPosted s = .next { s with
        hst := { s.hst with units := s.hst.units ++ [.dump { r with posted := true } 0] }
        tal := { s.tal with
          ring := s.tal.ring.map (fun x => if x = r then { r with posted := true } else x)
          dumps := sat32 (s.tal.dumps + 1)
          cause := if r.final then setBits s.tal.cause [0] else s.tal.cause } }) ∧
    (∀ r, s.tal.ring.find? (fun r => !r.posted) = some r → r.written = false → exec .dumpRecordPosted s = .next s) ∧
    (∀ sc, s.tal.ringBase = sc.ringBase → s.tal.ringCap = sc.ringRecords → adoptRing sc s = s) ∧
    (∀ sc, (s.tal.ringBase ≠ sc.ringBase ∨ s.tal.ringCap ≠ sc.ringRecords) → adoptRing sc s = { s with tal := { s.tal with
      ringBase := sc.ringBase, ringCap := sc.ringRecords, ringHead := 0
      ringTail := if s.tal.ring = [] then 0 else s.tal.ringTail } }) ∧
    (∀ b it c j, ringUsed (adoptRing it.sched s) < (adoptRing it.sched s).tal.ringCap →
      (ringTest b it c j s).1.lost = j.lost ∧ (ringTest b it c j s).2.tal.dumpLost = s.tal.dumpLost) ∧
    (∀ b it c j, (adoptRing it.sched s).tal.ringCap ≤ ringUsed (adoptRing it.sched s) →
      (ringTest b it c j s).1.lost = true ∧ (ringTest b it c j s).2.tal.dumpLost = sat32 (s.tal.dumpLost + 1) ∧
      (ringTest b it c j s).2.tal.ring = s.tal.ring ∧ (ringTest b it c j s).2.pit = s.pit) ∧
    (dpRun s = true → s.hop.running = true →
      exec .talCounterClear s = .next { s with tal := { s.tal with clearPending := true } }) ∧
    (dpRun s = true → s.hop.running = false → exec .talCounterClear s = .next { s with tal := { s.tal with
      clearPending := false, promo := 0, dumps := 0, dumpLost := 0, damaged := 0, overlength := 0, rescale := 0
      idlePos := 0, inflightPeak := 0 } }))

/-- R111, R112, R128, R129: how the chunk cycle that begins ends its integration, and a position consumed with none open or
while one is being closed (R133); R113, R128: a continuation follows an integration at its limit. R114, R133, R454:
INTEG_SCHEDULE, INTEG_STOP and the close sweep that follows a drain, which waits for DP in Run and the frames tested. -/
def Obligations.Integrations : Prop :=
  (∀ (k : Nat) (it : Integ),
    (it.stop = some k → (judgeCycle k it).last = true ∧ (judgeCycle k it).endCode = 2) ∧
    (it.stop ≠ some k → 0 < it.sched.length → k + 1 = it.k0 + it.sched.length →
      (judgeCycle k it).last = true ∧ (judgeCycle k it).endCode = 1) ∧
    (it.stop ≠ some k → it.sched.length = 0 → k + 1 - it.k0 = formatLimit it.sched.format it.sched.countPlane →
      (judgeCycle k it).last = true ∧ (judgeCycle k it).endCode = 3 ∧ (judgeCycle k it).overlength = true) ∧
    (it.stop ≠ some k → (it.sched.length = 0 ∨ k + 1 ≠ it.k0 + it.sched.length) →
      k + 1 - it.k0 ≠ formatLimit it.sched.format it.sched.countPlane →
      (judgeCycle k it).last = false ∧ (judgeCycle k it).endCode = 0) ∧
    (∀ (s : State) (j t : Nat) (b : Bundle), bundleOfPos s j = some b →
      (s.tal.sweepDue = true ∨ s.tal.sweep ≠ none ∨ (channelOf s j ≠ 0 ∧ s.tal.cur = none)) →
      beginTally j t s = { s with tal := { s.tal with idlePos := sat32 (s.tal.idlePos + 1) } }) ∧
    (∀ (s : State) (t : Nat), s.tal.cur = some it → (it.last = false → followOn k t s = s) ∧
      (it.last = true → it.endCode = 2 → (followOn k t s).tal.cur = none ∧ (followOn k t s).tal.ended = true) ∧
      (it.last = true → it.endCode = 3 → (followOn k t s).tal.cur = some {
        sched := it.sched, num := s.tal.idsUsed, id := (it.sched.firstId + s.tal.idsUsed) % 2 ^ 32, k0 := k, chunk := k
        continues := some it.id }))) ∧
  (∀ (r : Req) (t : Nat) (s u : State) (b : Bundle), u.bun.active = some b →
    (Takes 0x0401 r t s u → b8 r 45 < 2 → 2 ≤ (schedOfReq r).ringRecords → formatSuits b.mode (schedOfReq r).format = true →
      allApart (schedRegions b (schedOfReq r) ++ captRegion u ++ fwRegion b) = true →
      (oldRing u (schedOfReq r)).all (fun o => (schedRegions b (schedOfReq r)).all (regionsApart o)) = true →
      consumeChunk u + 2 ≤ (schedOfReq r).firstChunk → u.tal.sweep = none → u.tal.sweepDue = false → u.tal.cur = none →
      (schedOfReq r).length ≤ formatLimit (schedOfReq r).format (schedOfReq r).countPlane →
      (u.bun.applying = true ∨ (regionsFit (schedRegions b (schedOfReq r)) = true ∧ ringRuleOk u b (schedOfReq r) = true ∧
        ratesOk { u with tal := { u.tal with
          sched := some (schedOfReq r), next := none, begun := 0, idsUsed := 0, ended := false } } = true)) →
      ∃ v reply, exec (.integSchedule r t) s = .next (ended 0x0401 r t reply v) ∧ reply.status = stOk ∧
        v.tal.sched = some (schedOfReq r) ∧ v.tal.next = none ∧ v.tal.begun = 0 ∧ v.tal.cur = none ∧
        v.con.holding = false ∧ v.pit.mem = u.pit.mem) ∧
    (∀ it, Takes 0x0401 r t s u → b8 r 45 < 2 → 2 ≤ (schedOfReq r).ringRecords →
      formatSuits b.mode (schedOfReq r).format = true →
      allApart (schedRegions b (schedOfReq r) ++ captRegion u ++ fwRegion b) = true → oldRing u (schedOfReq r) = [] →
      consumeChunk u + 2 ≤ (schedOfReq r).firstChunk → u.tal.sweep = none → u.tal.sweepDue = false → u.tal.cur = some it →
      it.sched.length ≠ 0 → it.k0 + it.sched.length ≤ (schedOfReq r).firstChunk →
      (schedOfReq r).length ≤ formatLimit (schedOfReq r).format (schedOfReq r).countPlane → u.bun.applying = true →
      ∃ v reply, exec (.integSchedule r t) s = .next (ended 0x0401 r t reply v) ∧ reply.status = stOk ∧
        v.tal.next = some (schedOfReq r) ∧ v.tal.sched = u.tal.sched ∧ v.tal.cur = some it) ∧
    (Takes 0x0401 r t s u → (schedOfReq r).ringRecords < 2 →
      exec (.integSchedule r t) s = .next (ended 0x0401 r t { status := stBadArg, detail := 2 } u)) ∧
    (Takes 0x0402 r t s u → b32 r 24 = 0xFFFFFFFF → u.tal.cur = none →
      exec (.integStop r t) s = .next (ended 0x0402 r t { status := stNotInState } u)) ∧
    (∀ it, Takes 0x0402 r t s u → b32 r 24 = 0xFFFFFFFF → u.tal.cur = some it → it.last = false → it.sched.length = 0 →
      ∃ k, it.chunk < k ∧ chunkAfter b (fullTime u t) 1000000 ≤ k ∧
        exec (.integStop r t) s = .next (staysOpen 0x0402 r t .staged k (fields [(24, leBytes 4 it.id), (28, leBytes 8 k)])
          { u with tal := { u.tal with cur := some { it with stop := some k } } })) ∧
    (∀ it, Takes 0x0402 r t s u → (b32 r 24 = 0xFFFFFFFF ∨ (b32 r 24 = it.id ∧ u.tal.idsBegun.contains it.id = true)) →
      u.tal.cur = some it → it.last = false → it.sched.length ≠ 0 →
      chunkAfter b (fullTime u t) 1000000 ≤ it.k0 + it.sched.length - 1 →
      ∃ k, k ≤ it.k0 + it.sched.length - 1 ∧ chunkAfter b (fullTime u t) 1000000 ≤ k ∧
        exec (.integStop r t) s = .next (staysOpen 0x0402 r t .staged k (fields [(24, leBytes 4 it.id), (28, leBytes 8 k)])
          { u with tal := { u.tal with cur := some { it with stop := some k } } })) ∧
    (∀ it, Takes 0x0402 r t s u → b32 r 24 = 0xFFFFFFFF → u.tal.cur = some it → it.last = true →
      exec (.integStop r t) s = .next (ended 0x0402 r t { status := stAlready, result := fields [(24, leBytes 4 it.id)] } u)) ∧
    (sweepsOn s = true ↔ dpRun s = true ∧ (s.pwr.returning = none ∨ 1 ≤ s.pwr.retStep)) ∧
    (sweepsOn s = false → exec .closeSweep s = .next s ∧ exec (.closeDone t) s = .next s) ∧
    (∀ it, s.tal.sweepDue = true → s.tal.jobs = [] → s.tal.sweep = none → s.tal.cur = some it →
      startSweep s = { s with tal := { s.tal with sweepDue := false, sweep := some {
        integ := it, endCode := 4, bound := s.aba.drainPos + 1
        channel := if it.last = true ∧ chunkOf s s.aba.drainPos = it.chunk then channelOf s s.aba.drainPos + 1 else 0 } } }) ∧
    (∀ sw, sweepsOn s = true → s.bun.active = some b → s.tal.sweep = some sw → s.tal.sweepDue = false →
      sw.channel < b.channels →
      (s.tal.ring.filter (fun r => r.base == sw.integ.sched.ringBase && r.cap == sw.integ.sched.ringRecords)).length <
        sw.integ.sched.ringRecords →
      ∃ v, v = sweepChannel b sw sw.channel s ∧
        exec .closeSweep s = .next { v with tal := { v.tal with sweep := some { sw with channel := sw.channel + 1 } } }) ∧
    (∀ sw, sweepsOn s = true → s.bun.active = some b → s.tal.sweep = some sw → b.channels ≤ sw.channel →
      (∀ o ∈ s.cages.openCmds, isOp 0x0402 o = false ∨ o.phase ≠ .staged) →
      exec (.closeDone t) s = .next { s with tal := { s.tal with
        sweep := none, cur := none, ended := true, cause := setBits s.tal.cause [5] } }))

/-- R149: each component of a beam sum is rounded half to even and saturated to ±127 or ±7, never to a blank code, and the
handover of a position's blocks adds the number of saturated components to BEAM_SAT. -/
def Obligations.BeamRequantised : Prop :=
  (∀ (shift : Nat) (v : Int),
    (requant shift false v).1 = max (-127) (min 127 (divHalfEven v (2 ^ shift))) ∧
    (requant shift true v).1 = max (-7) (min 7 (divHalfEven v (2 ^ shift))) ∧
    (∀ w, (requant shift w v).2 = if (requant shift w v).1 = divHalfEven v (2 ^ shift) then 0 else 1) ∧
    (requant shift false v).1 ≠ -128 ∧ (requant shift true v).1 ≠ -8) ∧
  (∀ (s : State) (bp : BeamPos), s.beams.pos.find? (fun p => !p.handed) = some bp →
    bp.seen = bp.setParams.length * bp.ranks * 8192 →
    ∃ t, exec (.beamBlocksHandover bp.pos) s = .next t ∧
      t.beams.blocks = sat64 (s.beams.blocks + 128 * bp.setParams.length) ∧
      t.beams.beamSat = sat32 (s.beams.beamSat + ((upTo bp.setParams.length).map (fun k =>
        ((upTo 8192).map (fun sp => ((beamOut bp k sp).map (·.2)).sum)).sum)).sum) ∧
      t.hst.units = s.hst.units ++ (upTo bp.setParams.length).map (fun k => .pkts (2 + k) ((upTo 128).map (beamPacket bp k))) ∧
      t = { s with beams := t.beams, hst := { s.hst with units := t.hst.units } })

/-- R139, R143, R144, R147: the beam commands stage a generation with its update chunk and stay open until it is staged
for every frame, which commits it; a set number that the configuration in force does not have is refused; a weight
table is written to pit memory at its own blocks. R154, R102, R144: PROMPT_CONFIG stages its parameters; a breach of R102 is refused with LIMIT, and a prompt wait outside 5 µs to 1,000
µs with BAD_ARG. -/
def Obligations.BeamConfiguration : Prop :=
  (∀ (r : Req) (t : Nat) (s u : State),
    (∀ p, p = { tabulated := decide (b8 r 25 = 1), width4 := decide (b8 r 26 = 4), shift := b8 r 27, powerShift := b8 r 28
                bank := b8 r 29, base0 := 4096 * b24 r 40, base1 := 4096 * b24 r 43
                powerMask := leAt r.arg 0 r.arg.length : SetParams } →
      Takes 0x0501 r t s u → r.arg.length = maskBytes u → b8 r 24 < setsNow u → b8 r 25 < 2 →
      (b8 r 26 = 8 ∨ b8 r 26 = 4) → p.shift ≤ 31 → p.powerShift ≤ 31 → p.bank ≤ 1 →
      maskFits (chans u) p.powerMask = true → updateChunkOk u (b64 r 32) = true →
      (u.beams.sets.getD (b8 r 24) {}).nextParams = none →
      (u.bun.applying = true ∨ ratesOk { u with beams := { u.beams with
        sets := upd u.beams.sets (b8 r 24) (fun x => { x with nextParams := some (b64 r 32, p) }) } } = true) →
      exec (.beamsetDefine r t) s = .next (staysOpen 0x0501 r t .staged (b64 r 32) (fields [(24, leBytes 8 (b64 r 32))])
        { u with beams := { u.beams with staged := some (.params (b64 r 32) (b8 r 24) p) } })) ∧
    (∀ p, p = { tabulated := decide (b8 r 25 = 1), width4 := decide (b8 r 26 = 4), shift := b8 r 27, powerShift := b8 r 28
                bank := b8 r 29, base0 := 4096 * b24 r 40, base1 := 4096 * b24 r 43
                powerMask := leAt r.arg 0 r.arg.length : SetParams } →
      Takes 0x0501 r t s u → r.arg.length = maskBytes u →
      (setsNow u ≤ b8 r 24 ∨ 1 < b8 r 25 ∨ (b8 r 26 ≠ 8 ∧ b8 r 26 ≠ 4) ∨ 31 < b8 r 27 ∨ 31 < b8 r 28 ∨ 1 < b8 r 29 ∨
        maskFits (chans u) p.powerMask = false ∨ updateChunkOk u (b64 r 32) = false) →
      exec (.beamsetDefine r t) s = .next (ended 0x0501 r t { status := stBadArg, detail := 2 } u)) ∧
    (s.bun.applying = false → (s.bun.active = none → setsNow s = 0) ∧
      (∀ sc, s.bun.active.isSome = true → s.aba.sched = some sc → setsNow s = min sc.sets s.beams.sets.length)) ∧
    (Takes 0x0502 r t s u → b8 r 24 = 1 → r.arg.length = 24 * inputCount u →
      (recordsOf r.arg 0 24 (inputCount u)).any (fun b => leAt b 19 5 ≠ 0) = false → updateChunkOk u (b64 r 32) = true →
      u.beams.inputs.next = none →
      exec (.beamDelays r t) s = .next (staysOpen 0x0502 r t .staged (b64 r 32) (fields [(24, leBytes 8 (b64 r 32))])
        { u with beams := { u.beams with staged := some (.input (b64 r 32)
          ((recordsOf r.arg 0 24 (inputCount u)).map inputTerm)) } })) ∧
    (∀ b, Takes 0x0503 r t s u → u.bun.active = some b → b8 r 24 < setsNow u → b8 r 25 ≤ 1 →
      b16 r 26 + b16 r 28 ≤ b.channels → b8 r 30 + b8 r 31 ≤ (activeGroups b).length → b16 r 28 ≠ 0 → b8 r 31 ≠ 0 →
      r.arg.length = b16 r 28 * b8 r 31 * weightBlockBytes b.mode →
      (u.beams.sets.getD (b8 r 24) {}).params.tabulated = false → (u.beams.sets.getD (b8 r 24) {}).nextParams = none →
      let base := bankBase (u.beams.sets.getD (b8 r 24) {}).params (b8 r 25)
      weightAddr b base b.channels 0 ≤ pitBytes →
      exec (.beamWeightTable r t) s = .next (ended 0x0503 r t { result := fields [(24, leBytes 4 (b16 r 28 * b8 r 31))] }
        (((upTo (b16 r 28)).flatMap (fun c => (upTo (b8 r 31)).map (fun g => (c, g)))).zipIdx.foldl (fun v p =>
          pitWrite (weightAddr b base (b16 r 26 + p.1.1) (b8 r 30 + p.1.2))
            ((r.arg.drop (weightBlockBytes b.mode * p.2)).take (weightBlockBytes b.mode)) v) u |> servePort 5 r.arg.length))) ∧
    (∀ k l, s.beams.staged = some (.input k l) → s.cages.openCmds = [] →
      ∃ v, exec (.generationCommit t) s = .next v ∧ v.beams.inputs.next = some (k, l) ∧ v.beams.staged = none ∧
        v.beams.sets = s.beams.sets ∧ v = { s with beams := v.beams, pit := v.pit }) ∧
    (s.beams.staged = none → exec (.generationCommit t) s = .next s)) ∧
  (∀ (r : Req) (t : Nat) (s u : State) (b : Bundle), Takes 0x0504 r t s u → u.bun.active = some b →
    let q := b8 r 24
    let p : PromptParams := {
      channels := (upTo q).map (fun i => u16 r.arg (2 * i)), delays := (upTo q).map (fun i => u8 r.arg (32 + i))
      beams := b8 r 25, shift := b8 r 26, width4 := decide (b8 r 27 = 4), pbeam := decide (b8 r 28 = 1)
      powerMask := b16 r 30, wait := b16 r 40 }
    ((b16 r 40 < 5 ∨ 1000 < b16 r 40) →
      exec (.promptConfig r t) s = .next (ended 0x0504 r t { status := stBadArg, detail := 2 } u)) ∧
    (1 ≤ q → q ≤ 16 → 1 ≤ b8 r 25 → b8 r 25 ≤ 64 → b8 r 26 ≤ 31 → (b8 r 27 = 8 ∨ b8 r 27 = 4) → b8 r 28 ≤ 1 →
      5 ≤ b16 r 40 → b16 r 40 ≤ 1000 → p.channels.all (fun c => decide (c < chans u)) = true →
      p.channels.eraseDups.length = q → p.delays.all (fun d => decide (d ≤ 63)) = true →
      updateChunkOk u (b64 r 32) = true →
      (upTo 16).all (fun i => decide (i < q) || (u16 r.arg (2 * i) == 0 && u8 r.arg (32 + i) == 0)) = true →
      u.beams.nextPrompt = none → u.bun.applying = false →
      ((promptFits (chans u) q (activeGroups b).length (frameCount u) = false ∨ payloadOk b q (rxCapacity u) = false) →
        exec (.promptConfig r t) s = .next (ended 0x0504 r t { status := stLimit, detail := 13 } u)) ∧
      (promptFits (chans u) q (activeGroups b).length (frameCount u) = true → payloadOk b q (rxCapacity u) = true →
        exec (.promptConfig r t) s = .next (staysOpen 0x0504 r t .staged (b64 r 32) (fields [(24, leBytes 8 (b64 r 32))])
          { u with beams := { u.beams with staged := some (.prompt (b64 r 32) p) } }))) ∧
    (∀ c q g f, 0 < c → 0 < f → (promptFits c q g f = true ↔ cdiv 128 c * (128 * cdiv (q * g) f + 400) ≤ 8192)))

/-- R148, R155 to R158, R160: weight blocks that arrive, prompt blocks that are joined and handed over, the counter clear. -/
def Obligations.BeamBlocks : Prop :=
  ∀ (s : State),
    (∀ bp b set rk cycles, beamPosAt s s.aba.pos = some bp → bundleOfPos s s.aba.pos = some b → s.aba.consuming = true →
      (bp.setParams.getD set {}).tabulated = true → rk < bp.ranks →
      bp.weights.any (fun w => w.set == set && w.rank == rk) = false → s.aba.frames = [] → s.pit.damaged = [] →
      exec (.weightBlockArrival set rk cycles) s = .next
        (modAba (fun a => { a with stallCycles := sat64 a.stallCycles })
          (modBeamPos bp.pos (fun q => { q with weights := q.weights ++ [{ set := set, rank := rk, bytes :=
            (pitRead s (weightAddr b (bankBase (bp.setParams.getD set {}) (bp.setParams.getD set {}).bank) bp.channel rk)
              (weightBlockBytes b.mode)).1 }] }) (servePort 3 (weightBlockBytes b.mode) s)))) ∧
    (∀ j, s.beams.jobs.find? (fun j => j.volts.isNone) = some j → j.closed.isSome = true → j.ended = j.units →
      j.params.pbeam = false →
      ∃ t, exec (.promptBlockJoin j.num) s = .next t ∧
        t.beams.jobs = s.beams.jobs.map (fun x => if x.num = j.num then { x with
          volts := some (j.params.channels.map (fun c => (promptVolts j c).map (fun row => row.map (·.1)))), sums := [] } else x) ∧
        t.beams.pbeamSat = sat32 (s.beams.pbeamSat + ((j.params.channels.map (promptVolts j)).flatMap (fun c =>
          c.flatMap (fun row => row.map (·.2)))).sum) ∧ t.beams.pblocks = s.beams.pblocks ∧
        t = { s with beams := t.beams }) ∧
    (∀ j v, s.beams.jobs.head? = some j → j.volts = some v →
      ∃ t, exec (.promptPowerHandover j.num) s = .next t ∧ t.beams.jobs = s.beams.jobs.drop 1 ∧
        t.beams.hist = some { num := j.num, params := j.params, volts := v } ∧
        t = { s with beams := t.beams, assay := t.assay }) ∧
    (dpRun s = true → s.hop.running = true →
      exec .beamCounterClear s = .next { s with beams := { s.beams with clearPending := true } }) ∧
    (dpRun s = true → s.hop.running = false → exec .beamCounterClear s = .next { s with beams := { s.beams with
      clearPending := false, blocks := 0, pblocks := 0, beamSat := 0, pbeamSat := 0, powerSat := 0, wstall := 0
      powerGap := 0, promptRestart := 0 } })

/-- R163, R164, R177, R179: a tour begins: it is counted, its snapshot holds every queued sample, a staged
configuration takes effect and ends its command, and a pending counter clear, of every counter, is taken first. R174:
a gap closes the open windows, with PARTIAL, clears the filters, the RMS result and the envelope, restarts settling
and emits one GAP event with the number of samples missed, or −1 where that is unknown. R171: the envelope's two
events. -/
def Obligations.AssayWatch : Prop :=
  (∀ (s : State) (t : Nat), s.assay.running = true → (1024 ≤ s.assay.slot ∨ s.assay.started = false) →
    (s.assay.staged = [] → s.assay.clearPending = false →
      exec (.tourStart t) s = .next { s with assay := { s.assay with
        tours := sat64 (s.assay.tours + 1), started := true, slot := 0
        series := s.assay.series.map (fun sr => { sr with snap := sr.queue.length }) } }) ∧
    (s.assay.staged ≠ [] → s.assay.clearPending = false → s.cages.openCmds = [] →
      ∃ v, exec (.tourStart t) s = .next v ∧ v.assay.staged = [] ∧
      v.assay.tours = sat64 (s.assay.tours + 1) ∧ v.assay.slot = 0 ∧ bit v.assay.cause 5 = true ∧
      (∀ x g, s.assay.staged.getLast? = some x → x.group = some g → v.assay.groupMask = g.1 ∧ v.assay.groupShift = g.2) ∧
      ((∀ x ∈ s.assay.staged, x.group = none) → v.assay.groupMask = s.assay.groupMask) ∧
      v = { s with assay := v.assay }) ∧
    (s.assay.clearPending = true → s.assay.staged = [] → ∃ v, exec (.tourStart t) s = .next v ∧ v.assay.events = 0 ∧
      v.assay.gap = 0 ∧ v.assay.qdrop = 0 ∧ v.assay.sat = 0 ∧ v.assay.evqLost = 0 ∧ v.assay.freezeLate = 0 ∧
      v.assay.tours = 1 ∧ v.assay.clearPending = false ∧ v = { s with assay := v.assay })) ∧
  (∀ (s : State) (t : Nat), (s.assay.running = false ∨ (s.assay.slot < 1024 ∧ s.assay.started = true)) →
    exec (.tourStart t) s = .next s) ∧
  (∀ (n stamp : Nat) (w : ChainWork),
    ((takeGap n stamp w).gaps = w.gaps + 1 ∧ (takeGap n stamp w).sr.sinceGap = 0 ∧ (takeGap n stamp w).sr.env = 0 ∧
      (takeGap n stamp w).sr.envOn = false ∧ (takeGap n stamp w).sr.rmsLast = none ∧
      (takeGap n stamp w).sr.hist = [[], [], []] ∧ (takeGap n stamp w).sr.peak = none ∧
      ∃ e, (takeGap n stamp w).ev.getLast? = some e ∧ e.kind = 5 ∧ e.stamp = stamp ∧ e.series = n ∧
        (w.sr.expected = none → e.value = -1) ∧ (∀ x, w.sr.expected = some x → stamp < x → e.value = -1)) ∧
    (0 < w.sr.rmsCount → w.sr.params.rmsReport = true →
      ∃ e, e ∈ (takeGap n stamp w).ev ∧ e.kind = 2 ∧ e.isPartial = true) ∧
    (∀ q, w.sr.peak = some q → w.sr.params.peakReport = true →
      ∃ e, e ∈ (takeGap n stamp w).ev ∧ (e.kind = 0 ∨ e.kind = 1) ∧ e.isPartial = true) ∧
    (∀ v frozen, (envelope n stamp v frozen w).sr.envOn = true → w.sr.envOn = false →
      256 * w.sr.params.envOn ≤ (envelope n stamp v frozen w).sr.env ∧
      ∃ e, (envelope n stamp v frozen w).ev = w.ev ++ [e] ∧ e.kind = 3 ∧ e.stamp = stamp) ∧
    (∀ v frozen, (envelope n stamp v frozen w).sr.envOn = false → w.sr.envOn = true →
      (envelope n stamp v frozen w).sr.env < 256 * w.sr.params.envOff ∧
      ∃ e, (envelope n stamp v frozen w).ev = w.ev ++ [e] ∧ e.kind = 4 ∧ e.stamp = stamp) ∧
    (∀ p rms v, peakPasses p rms v = true ↔
      ((p.peakMode = 1 ∧ p.peakThr ≤ v) ∨ (p.peakMode = 2 ∧ ∃ r, rms = some r ∧ ((p.peakMul * r : Nat) : Int) ≤ 16 * v))))

/-- R164, R167, R174, R180: the slot of a series processes at most 64 samples of its snapshot, oldest first, one at a time
through the chain, and leaves every other series as it was; a slot out of turn is no event. R164, R162: a sample
handed over joins its series' queue of 256; a full queue discards it and counts it in ASSAY_QDROP; a disabled series
takes none. -/
def Obligations.AssaySamples : Prop :=
  (∀ (s : State) (n : Nat), n < 1024 → s.assay.series.length = 1024 →
    (s.assay.running = true → s.assay.slot = n → ∀ sr k w, sr = seriesAt s n →
      k = (if sr.params.enable = true then min 64 (min sr.snap sr.queue.length) else 0) →
      w = (sr.queue.take k).foldl (chainSample n s.assay.banks) { sr := { sr with queue := sr.queue.drop k, snap := 0 } } →
      ∃ t, exec (.seriesSlot n) s = .next t ∧ seriesAt t n = w.sr ∧ (∀ m, m ≠ n → seriesAt t m = seriesAt s m) ∧
        t.assay.slot = n + 1 ∧ t.assay.tours = s.assay.tours ∧
        t.assay.gap = (if w.gaps = 0 then s.assay.gap else sat32 (s.assay.gap + w.gaps)) ∧
        t.assay.sat = (if w.sats = 0 then s.assay.sat else sat32 (s.assay.sat + w.sats)) ∧
        t = { s with assay := t.assay }) ∧
    (s.assay.slot ≠ n → exec (.seriesSlot n) s = .next s)) ∧
  (∀ (s : State) (n stamp : Nat) (v : Int),
    ((seriesAt s n).params.enable = true → (seriesAt s n).queue.length < 256 → handOver n stamp v s =
      { s with assay := { s.assay with series := upd s.assay.series n (fun sr => { sr with
        queue := sr.queue ++ [{ stamp := stamp, value := v }] }) } }) ∧
    ((seriesAt s n).params.enable = true → 256 ≤ (seriesAt s n).queue.length → handOver n stamp v s =
      { s with assay := { s.assay with qdrop := sat32 (s.assay.qdrop + 1), cause := setBits s.assay.cause [1] } }) ∧
    ((seriesAt s n).params.enable = false → handOver n stamp v s = s))

/-- R173, R177 to R180: ASSAY_CONFIG stages a configuration for the next tour, or freezes or releases a blocker; the probe
selection and the counter clear. -/
def Obligations.AssayCommands : Prop :=
  ∀ (r : Req) (t : Nat) (s u : State),
    (Takes 0x0601 r t s u → b8 r 24 = 1 → b8 r 25 = 0 → b32 r 28 = 0 → r.arg = [] → b16 r 26 < 64 →
      (∀ m, (seriesAt u (b16 r 26)).maxStamp = some m → m < b64 r 32) →
      exec (.assayConfig r t) s = .next (ended 0x0601 r t {} { u with assay := { u.assay with
        series := upd u.assay.series (b16 r 26) (fun sr => { sr with
          requests := sr.requests ++ [{ stamp := b64 r 32, freeze := true }] }) } })) ∧
    (∀ m, Takes 0x0601 r t s u → b8 r 24 = 2 → b8 r 25 = 0 → b32 r 28 = 0 → r.arg = [] → b16 r 26 < 64 →
      (seriesAt u (b16 r 26)).maxStamp = some m → b64 r 32 ≤ m →
      exec (.assayConfig r t) s = .next (ended 0x0601 r t {} { u with assay := { u.assay with
        freezeLate := sat32 (u.assay.freezeLate + 1), cause := setBits u.assay.cause [4]
        series := upd u.assay.series (b16 r 26) (fun sr => { sr with
          requests := sr.requests ++ [{ stamp := 0, freeze := false }] }) } })) ∧
    (Takes 0x0601 r t s u → b8 r 24 = 0 → b8 r 25 < 2 → b8 r 27 = 0 → b16 r 28 = 0 → b8 r 30 = 0 → b8 r 31 = 0 →
      b64 r 32 = 0 → r.arg.length = maskBytes u → maskFits (chans u) (leAt r.arg 0 (maskBytes u)) = true →
      exec (.assayConfig r t) s = .next (staysOpen 0x0601 r t .staged 0 [] { u with assay := { u.assay with
        staged := u.assay.staged ++ [{
          series := [], banks := [], command := !u.bun.applying
          group := if bit (b8 r 25) 0 = true then some (leAt r.arg 0 (maskBytes u), b8 r 26) else none }] } })) ∧
    (∀ n, dpRun s = true → exec (.assayProbeSelWrite n) s = .next { s with assay := { s.assay with
        probeSel := n % 1024, probeValid := false
        probeSkip := s.assay.running && decide (s.assay.slot = n % 1024) } }) ∧
    (dpRun s = true → s.assay.running = true → s.assay.started = true →
      exec .assayCounterClear s = .next { s with assay := { s.assay with clearPending := true } }) ∧
    (dpRun s = true → s.assay.started = false → exec .assayCounterClear s = .next { s with assay := { s.assay with
      clearPending := false, tours := 0, events := 0, gap := 0, qdrop := 0, sat := 0, evqLost := 0, freezeLate := 0 } })

/-- R184, R185, R189: a running core whose PC holds the instruction executes it: every instruction of Tables 9.3 and
9.4 but PIN, POUT and HALT does to the core what `ayrStep` says, whether it reads DMEM without an error, stands in a
delay slot or ends a loop. A core that does not hold the instruction now is left as it is. -/
def Obligations.AyrInstructions : Prop :=
  ∀ (s : State) (a : Nat) (d x y : BitVec 4) (ar : BitVec 3) (p hs ht ld : Bool) (i : BitVec 18) (sh : BitVec 5)
    (t : BitVec 14),
    (∀ (op : AyrOp) (e : MemErr) (now : Nat), ayrCan a op s = false → ayrRun a op e now s = s) ∧
    (ayrCan a (.alu .add d x y) s = true → exec (.add a d x y) s = .next (modAyr a (ayrStep (.alu .add d x y) 0) s)) ∧
    (ayrCan a (.alu .sub d x y) s = true → exec (.sub a d x y) s = .next (modAyr a (ayrStep (.alu .sub d x y) 0) s)) ∧
    (ayrCan a (.alu .and d x y) s = true → exec (.and a d x y) s = .next (modAyr a (ayrStep (.alu .and d x y) 0) s)) ∧
    (ayrCan a (.alu .or d x y) s = true → exec (.or a d x y) s = .next (modAyr a (ayrStep (.alu .or d x y) 0) s)) ∧
    (ayrCan a (.alu .xor d x y) s = true → exec (.xor a d x y) s = .next (modAyr a (ayrStep (.alu .xor d x y) 0) s)) ∧
    (ayrCan a (.alu .shl d x y) s = true → exec (.shl a d x y) s = .next (modAyr a (ayrStep (.alu .shl d x y) 0) s)) ∧
    (ayrCan a (.alu .shra d x y) s = true → exec (.shra a d x y) s = .next (modAyr a (ayrStep (.alu .shra d x y) 0) s)) ∧
    (ayrCan a (.alu .shrl d x y) s = true → exec (.shrl a d x y) s = .next (modAyr a (ayrStep (.alu .shrl d x y) 0) s)) ∧
    (ayrCan a (.alu .slt d x y) s = true → exec (.slt a d x y) s = .next (modAyr a (ayrStep (.alu .slt d x y) 0) s)) ∧
    (ayrCan a (.alu .sltu d x y) s = true → exec (.sltu a d x y) s = .next (modAyr a (ayrStep (.alu .sltu d x y) 0) s)) ∧
    (ayrCan a (.alu .min d x y) s = true → exec (.min a d x y) s = .next (modAyr a (ayrStep (.alu .min d x y) 0) s)) ∧
    (ayrCan a (.alu .max d x y) s = true → exec (.max a d x y) s = .next (modAyr a (ayrStep (.alu .max d x y) 0) s)) ∧
    (ayrCan a (.abs d x) s = true → exec (.abs a d x) s = .next (modAyr a (ayrStep (.abs d x) 0) s)) ∧
    (ayrCan a (.imm .add d x i) s = true → exec (.addi a d x i) s = .next (modAyr a (ayrStep (.imm .add d x i) 0) s)) ∧
    (ayrCan a (.imm .and d x i) s = true → exec (.andi a d x i) s = .next (modAyr a (ayrStep (.imm .and d x i) 0) s)) ∧
    (ayrCan a (.imm .or d x i) s = true → exec (.ori a d x i) s = .next (modAyr a (ayrStep (.imm .or d x i) 0) s)) ∧
    (ayrCan a (.imm .xor d x i) s = true → exec (.xori a d x i) s = .next (modAyr a (ayrStep (.imm .xor d x i) 0) s)) ∧
    (ayrCan a (.shift .shl d x sh) s = true →
      exec (.shli a d x sh) s = .next (modAyr a (ayrStep (.shift .shl d x sh) 0) s)) ∧
    (ayrCan a (.shift .shra d x sh) s = true →
      exec (.shrai a d x sh) s = .next (modAyr a (ayrStep (.shift .shra d x sh) 0) s)) ∧
    (ayrCan a (.shift .shrl d x sh) s = true →
      exec (.shrli a d x sh) s = .next (modAyr a (ayrStep (.shift .shrl d x sh) 0) s)) ∧
    (∀ v, ayrCan a (.movi d v) s = true → exec (.movi a d v) s = .next (modAyr a (ayrStep (.movi d v) 0) s)) ∧
    (∀ v, ayrCan a (.movhi d v) s = true → exec (.movhi a d v) s = .next (modAyr a (ayrStep (.movhi d v) 0) s)) ∧
    (ayrCan a (.mac .mul x y hs ht ld ar d) s = true →
      exec (.mul a x y hs ht ld ar d .none) s = .next (modAyr a (ayrStep (.mac .mul x y hs ht ld ar d) 0) s)) ∧
    (ayrCan a (.mac .mac x y hs ht ld ar d) s = true →
      exec (.mac a x y hs ht ld ar d .none) s = .next (modAyr a (ayrStep (.mac .mac x y hs ht ld ar d) 0) s)) ∧
    (ayrCan a (.mac .msu x y hs ht ld ar d) s = true →
      exec (.msu a x y hs ht ld ar d .none) s = .next (modAyr a (ayrStep (.mac .msu x y hs ht ld ar d) 0) s)) ∧
    (ayrCan a (.mova d sh) s = true → exec (.mova a d sh) s = .next (modAyr a (ayrStep (.mova d sh) 0) s)) ∧
    (ayrCan a (.mfah d) s = true → exec (.mfah a d) s = .next (modAyr a (ayrStep (.mfah d) 0) s)) ∧
    (ayrCan a (.mta x y) s = true → exec (.mta a x y) s = .next (modAyr a (ayrStep (.mta x y) 0) s)) ∧
    (ayrCan a .clra s = true → exec (.clra a) s = .next (modAyr a (ayrStep .clra 0) s)) ∧
    (ayrCan a (.mem .ld d ar p i) s = true →
      exec (.ld a d ar p i .none) s = .next (modAyr a (ayrStep (.mem .ld d ar p i) 0) s)) ∧
    (ayrCan a (.mem .ldh d ar p i) s = true →
      exec (.ldh a d ar p i .none) s = .next (modAyr a (ayrStep (.mem .ldh d ar p i) 0) s)) ∧
    (ayrCan a (.mem .st d ar p i) s = true →
      exec (.st a d ar p i) s = .next (modAyr a (ayrStep (.mem .st d ar p i) 0) s)) ∧
    (ayrCan a (.mem .sth d ar p i) s = true →
      exec (.sth a d ar p i .none) s = .next (modAyr a (ayrStep (.mem .sth d ar p i) 0) s)) ∧
    (∀ v, ayrCan a (.movai ar v) s = true → exec (.movai a ar v) s = .next (modAyr a (ayrStep (.movai ar v) 0) s)) ∧
    (ayrCan a (.adda ar i) s = true → exec (.adda a ar i) s = .next (modAyr a (ayrStep (.adda ar i) 0) s)) ∧
    (ayrCan a (.movda ar d) s = true → exec (.movda a ar d) s = .next (modAyr a (ayrStep (.movda ar d) 0) s)) ∧
    (ayrCan a (.movad d ar) s = true → exec (.movad a d ar) s = .next (modAyr a (ayrStep (.movad d ar) 0) s)) ∧
    (ayrCan a (.br t) s = true → exec (.br a t) s = .next (modAyr a (ayrStep (.br t) 0) s)) ∧
    (ayrCan a (.brc .eqz d t) s = true → exec (.beqz a d t) s = .next (modAyr a (ayrStep (.brc .eqz d t) 0) s)) ∧
    (ayrCan a (.brc .nez d t) s = true → exec (.bnez a d t) s = .next (modAyr a (ayrStep (.brc .nez d t) 0) s)) ∧
    (ayrCan a (.brc .ltz d t) s = true → exec (.bltz a d t) s = .next (modAyr a (ayrStep (.brc .ltz d t) 0) s)) ∧
    (ayrCan a (.brc .gez d t) s = true → exec (.bgez a d t) s = .next (modAyr a (ayrStep (.brc .gez d t) 0) s)) ∧
    (ayrCan a (.call t) s = true → exec (.call a t) s = .next (modAyr a (ayrStep (.call t) 0) s)) ∧
    (ayrCan a (.jr d) s = true → exec (.jr a d) s = .next (modAyr a (ayrStep (.jr d) 0) s)) ∧
    (ayrCan a (.loop d t) s = true → exec (.loop a d t) s = .next (modAyr a (ayrStep (.loop d t) 0) s)) ∧
    (∀ n, ayrCan a (.loopi n t) s = true → exec (.loopi a n t) s = .next (modAyr a (ayrStep (.loopi n t) 0) s)) ∧
    (∀ q : BitVec 2, ayrCan a (.mtl (loopRegOf q.toNat) d) s = true →
      exec (.mtl a d q) s = .next (modAyr a (ayrStep (.mtl (loopRegOf q.toNat) d) 0) s)) ∧
    (∀ q : BitVec 2, ayrCan a (.mfl d (loopRegOf q.toNat)) s = true →
      exec (.mfl a d q) s = .next (modAyr a (ayrStep (.mfl d (loopRegOf q.toNat)) 0) s)) ∧
    (ayrCan a .nop s = true →
      exec (.nop a) s = .next (modAyr a (ayrStep .nop 0) s)) ∧
    (ayrCan a .ei s = true → exec (.ei a) s = .next (modAyr a (ayrStep .ei 0) s)) ∧
    (ayrCan a .di s = true → exec (.di a) s = .next (modAyr a (ayrStep .di 0) s)) ∧
    (ayrCan a .wait s = true →
      exec (.wait a) s = .next (modAyr a (ayrStep .wait 0) s)) ∧
    (ayrCan a .reti s = true → exec (.reti a) s = .next (modAyr a (ayrStep .reti 0) s))

/-- R183, Tables 9.3 and 9.4: what each instruction writes, on a core that fetches straight on; every register, memory and
port that a clause does not name keeps its value, one cycle passes and PC moves on by 1. A load's register changes one
instruction later, an MTL's three fetches later, and a branch after its two delay slots. -/
def Obligations.AyrResults : Prop :=
  ∀ (c : AyrCore) (pin : W32) (d dx dy : BitVec 4) (ar : BitVec 3) (i : BitVec 18) (sh : BitVec 5), straight c →
    let x := getD_ c dx
    let y := getD_ c dy
    let n := y.toNat % 32
    (∀ f v, ((f = .add ∧ v = x + y) ∨ (f = .sub ∧ v = x - y) ∨ (f = .and ∧ v = x &&& y) ∨ (f = .or ∧ v = x ||| y) ∨
        (f = .xor ∧ v = x ^^^ y) ∨ (f = .shl ∧ v = x <<< n) ∨ (f = .shra ∧ v = x.sshiftRight n) ∨ (f = .shrl ∧ v = x >>> n) ∨
        (f = .slt ∧ v = if x.toInt < y.toInt then 1 else 0) ∨ (f = .sltu ∧ v = if x.toNat < y.toNat then 1 else 0) ∨
        (f = .min ∧ v = if x.toInt < y.toInt then x else y) ∨ (f = .max ∧ v = if x.toInt < y.toInt then y else x)) →
      ayrStep (.alu f d dx dy) pin c = ayrNext {} c (setD d v c)) ∧
    ayrStep (.abs d dx) pin c = ayrNext {} c (setD d (if x.toInt < 0 then - x else x) c) ∧
    (∀ f v, ((f = .add ∧ v = x + i.signExtend 32) ∨ (f = .and ∧ v = x &&& i.zeroExtend 32) ∨
        (f = .or ∧ v = x ||| i.zeroExtend 32) ∨ (f = .xor ∧ v = x ^^^ i.zeroExtend 32)) →
      ayrStep (.imm f d dx i) pin c = ayrNext {} c (setD d v c)) ∧
    (∀ f v, ((f = .shl ∧ v = x <<< sh.toNat) ∨ (f = .shra ∧ v = x.sshiftRight sh.toNat) ∨ (f = .shrl ∧ v = x >>> sh.toNat)) →
      ayrStep (.shift f d dx sh) pin c = ayrNext {} c (setD d v c)) ∧
    (∀ v, ayrStep (.movi d v) pin c = ayrNext {} c (setD d (v.signExtend 32) c)) ∧
    (∀ v : BitVec 16, ayrStep (.movhi d v) pin c =
      ayrNext {} c (setD d (BitVec.ofNat 32 (v.toNat * 2 ^ 16 + (getD_ c d).toNat % 2 ^ 16)) c)) ∧
    (∀ f hs ht dl v, ((f = .mul ∧ v = half x hs * half y ht) ∨ (f = .mac ∧ v = c.acc.toInt + half x hs * half y ht) ∨
        (f = .msu ∧ v = c.acc.toInt - half x hs * half y ht)) →
      ayrStep (.mac f dx dy hs ht false ar dl) pin c = ayrNext { long := true } c { c with
        acc := BitVec.ofInt 40 v, accOv := c.accOv || decide ((BitVec.ofInt 40 v).toInt ≠ v) } ∧
      ayrStep (.mac f dx dy hs ht true ar dl) pin c = ayrNext { long := true, short := true } c { c with
        acc := BitVec.ofInt 40 v, accOv := c.accOv || decide ((BitVec.ofInt 40 v).toInt ≠ v),
        load := some (dl, dmemWord c (getA c ar)), a := upd c.a ar.toNat (fun _ => getA c ar + 4) }) ∧
    ayrStep (.mova d sh) pin c = ayrNext {} c (setD d (BitVec.ofInt 32 (c.acc2.toInt / 2 ^ sh.toNat)) c) ∧
    ayrStep (.mfah d) pin c = ayrNext {} c (setD d (BitVec.ofInt 32 (c.acc2.toInt / 2 ^ 32)) c) ∧
    ayrStep (.mta dx dy) pin c = ayrNext { long := true } c { c with acc := x.truncate 8 ++ y } ∧
    ayrStep .clra pin c = ayrNext { long := true } c { c with acc := 0 } ∧
    (∀ f v, ((f = .ld ∧ v = dmemWord c (getA c ar + i.truncate 17)) ∨ (f = .ldh ∧ v = dmemHalf c (getA c ar + i.truncate 17))) →
      ayrStep (.mem f d ar false i) pin c = ayrNext { short := true } c { setA ar (getA c ar) c with load := some (d, v) }) ∧
    (∀ f v, ((f = .ld ∧ v = dmemWord c (getA c ar)) ∨ (f = .ldh ∧ v = dmemHalf c (getA c ar))) →
      ayrStep (.mem f d ar true i) pin c =
        ayrNext { short := true } c { setA ar (getA c ar + i.truncate 17) c with load := some (d, v) }) ∧
    (∀ post adr, adr = (if post = true then getA c ar else getA c ar + i.truncate 17).toNat →
      ayrStep (.mem .st d ar post i) pin c = ayrNext {} c { setA ar (memAddr c ar post i).2 c with
        dmem := memWrite c.dmem (adr / 4 * 4) (leBytes 4 (getD_ c d).toNat) } ∧
      ayrStep (.mem .sth d ar post i) pin c = ayrNext {} c { setA ar (memAddr c ar post i).2 c with
        dmem := memWrite c.dmem (adr / 2 * 2) (leBytes 2 (getD_ c d).toNat) }) ∧
    (∀ v, ayrStep (.movai ar v) pin c = ayrNext {} c (setA ar v c)) ∧
    ayrStep (.adda ar i) pin c = ayrNext {} c (setA ar (getA c ar + i.truncate 17) c) ∧
    ayrStep (.movda ar dx) pin c = ayrNext {} c (setA ar (x.truncate 17) c) ∧
    ayrStep (.movad d ar) pin c = ayrNext {} c (setD d ((getA c ar).zeroExtend 32) c) ∧
    (∀ t, ayrStep (.br t) pin c = ayrNext { long := true } c { c with slots := 2, target := some t }) ∧
    (∀ f t b, ((f = .eqz ∧ b = decide (x = 0)) ∨ (f = .nez ∧ b = decide (x ≠ 0)) ∨ (f = .ltz ∧ b = decide (x.toInt < 0)) ∨
        (f = .gez ∧ b = decide (0 ≤ x.toInt))) →
      ayrStep (.brc f dx t) pin c = ayrNext { long := true } c { c with
        slots := 2, target := if b = true then some t else none }) ∧
    (∀ t, ayrStep (.call t) pin c = ayrNext { long := true } c { setD 15 ((c.pc + 3).zeroExtend 32) c with
        slots := 2, target := some t }) ∧
    ayrStep (.jr dx) pin c = ayrNext { long := true } c { c with slots := 2, target := some (x.truncate 14) } ∧
    (∀ e, ayrStep (.loop dx e) pin c = ayrNext { long := true } c { c with
        ls := c.pc + 3, le := e, lc := x,
        slots := 2, target := some (if x = 0 then e + 1 else c.pc + 3) }) ∧
    (∀ (k : BitVec 12) e, ayrStep (.loopi k e) pin c = ayrNext { long := true } c { c with
        ls := c.pc + 3, le := e, lc := k.zeroExtend 32,
        slots := 2, target := some (if k = 0 then e + 1 else c.pc + 3) }) ∧
    (∀ q, ayrStep (.mtl q dx) pin c = ayrNext { long := true } c { c with mtl := [(q, x, 2)] }) ∧
    (∀ q v, ((q = .lc ∧ v = c.lc) ∨ (q = .ls ∧ v = c.ls.zeroExtend 32) ∨ (q = .le ∧ v = c.le.zeroExtend 32) ∨
        (q = .epc ∧ v = c.epc.zeroExtend 32)) → ayrStep (.mfl d q) pin c = ayrNext {} c (setD d v c)) ∧
    (∀ q, ayrStep (.pin d q) pin c = ayrNext { short := true } c { c with load := some (d, pin) }) ∧
    (∀ q, ayrStep (.pout d q) pin c = ayrNext { short := true } c c) ∧
    ayrStep .nop pin c = ayrNext {} c c ∧
    ayrStep .ei pin c = ayrNext {} c { c with ie := true } ∧
    ayrStep .di pin c = ayrNext {} c { c with ie := false } ∧
    ayrStep .wait pin c = ayrNext {} c { c with state := .waiting } ∧
    ayrStep .reti pin c = ayrNext { long := true } c { c with retiIe := true, slots := 2, target := some c.epc }

/-- Table 9.5, R188, R190: the delays of the pipeline, whatever the instruction: the instruction after a load reads the
old register and the one after that the new; MOVA and MFAH read ACC as it stood two instructions before; an MTL
applies from the third fetch after it; two delay slots and then the target, a RETI's setting IE there; a fetch from LE
while LC ≠ 0 goes on from LS with LC one less, or from LE + 1 when LC was 1. DMEM changes only in the bytes that a
store writes, IMEM never. -/
def Obligations.AyrPipeline : Prop :=
  ∀ (op : AyrOp) (pin : W32) (c : AyrCore),
    ((ayrStep op pin c).acc1 = c.acc ∧ (ayrStep op pin c).acc2 = c.acc1 ∧ (ayrStep op pin c).imem = c.imem) ∧
    (∀ d dx v, op = .imm .add d dx 0 → c.load = some (dx, v) → d ≠ dx → c.d.length = 16 →
      getD_ (ayrStep op pin c) d = getD_ c dx ∧ getD_ (ayrStep op pin c) dx = v ∧ (ayrStep op pin c).load = none) ∧
    (∀ q v, op.isBranch = false → (∀ q x, op ≠ .mtl q x) →
      (c.mtl = [(q, v, 2)] → (ayrStep op pin c).mtl = [(q, v, 1)]) ∧
      (c.mtl = [(q, v, 1)] → (ayrStep op pin c).mtl = [] ∧ getLoop (ayrStep op pin c) q =
        getLoop (setLoop q v c) q)) ∧
    (op.isBranch = false → op ≠ .wait → op ≠ .halt →
      (c.slots = 2 → (ayrStep op pin c).slots = 1 ∧ (ayrStep op pin c).target = c.target) ∧
      (c.slots = 1 → (ayrStep op pin c).slots = 0 ∧ (ayrStep op pin c).target = none ∧
        (∀ t, c.target = some t → (ayrStep op pin c).pc = t) ∧
        (c.retiIe = true → (ayrStep op pin c).ie = true ∧ (ayrStep op pin c).retiIe = false)) ∧
      (c.slots = 0 → c.pc = c.le → c.mtl = [] → c.lc ≠ 0 → (∀ q x, op ≠ .mtl q x) →
        (ayrStep op pin c).lc = c.lc - 1 ∧ (ayrStep op pin c).pc = (if c.lc = 1 then c.le + 1 else c.ls))) ∧
    ((∀ d a p o, op ≠ .mem .st d a p o) → (∀ d a p o, op ≠ .mem .sth d a p o) → (ayrStep op pin c).dmem = c.dmem) ∧
    (∀ f d a p o w z, op = .mem f d a p o → Memory.wf c.dmem = true → ((f = .st ∧ w = 4) ∨ (f = .sth ∧ w = 2)) →
      ¬ ((memAddr c a p o).1.toNat / w * w ≤ z ∧ z < (memAddr c a p o).1.toNat / w * w + w) →
      memByte (ayrStep op pin c).dmem z = memByte c.dmem z)

/-- R194 to R199, Table 9.6: PIN and POUT, HALT, and the ports that act: TICK, EV_FREE, INJ_VALUE, FRZ, TRQ_GO,
OUT_SEND and IN_FREE. NOW is the spectrum number of the Hopper's timetable. A PIN's register changes one instruction
later; a PIN of a LO port latches the HI port. -/
def Obligations.AyrPorts : Prop :=
  ∀ (s : State) (a : Nat) (d : BitVec 4) (p : BitVec 8) (t : Nat), a < s.ayr.length →
    let c := ayrAt s a
    let v := getD_ c d
    let u := modAyr a (ayrStep (.pout d p) 0) s
    let after := fun (q : Nat) (w : State) => modAyr a (fun k => { k with
      portOld := (affectedPorts q).map (fun x => (x, portValue u a x 0)) }) w
    (ayrCan a (.pin d p) s = true → exec (.pin a d p t) s = .next (modAyr a (fun k =>
      ayrStep (.pin d p) (pinValue s a p.toNat (spectrumNow s t)) (pinLatch p.toNat (spectrumNow s t) k)) s)) ∧
    (∀ b, s.bun.active = some b → s.hop.running = true → spectrumNow s t = spectrumAt b (fullTime s t)) ∧
    (ayrCan a (.pout d p) s = true → exec (.pout a d p) s = .next (after p.toNat (portWrite a p.toNat v u))) ∧
    (ayrCan a .halt s = true → s.cages.openCmds = [] → exec (.halt a) s = .next (modAyr a (fun k => { drainCore
      (ayrStep .halt 0 k) with state := .halted, cause := setBits (drainCore (ayrStep .halt 0 k)).cause [0],
                               stopPending := false, stopCycles := 0 }) s)) ∧
    (p = 0x06 → ayrCan a (.pout d p) s = true → exec (.tickLoad a d) s = .next (after 0x06 (portWrite a 0x06 v u))) ∧
    (p = 0x15 → ayrCan a (.pout d p) s = true → exec (.evFree a d) s = .next (after 0x15 (portWrite a 0x15 v u))) ∧
    (p = 0x1B → ayrCan a (.pout d p) s = true → exec (.injValue a d) s = .next (after 0x1B (portWrite a 0x1B v u))) ∧
    (p = 0x22 → ayrCan a (.pout d p) s = true → exec (.frz a d) s = .next (after 0x22 (portWrite a 0x22 v u))) ∧
    (p = 0x2B → ayrCan a (.pout d p) s = true → exec (.trqGo a d) s = .next (after 0x2B (portWrite a 0x2B v u))) ∧
    (p = 0x38 → ayrCan a (.pout d p) s = true → exec (.outSend a d) s = .next (after 0x38 (portWrite a 0x38 v u))) ∧
    (p = 0x3D → ayrCan a (.pout d p) s = true → exec (.inFree a d) s = .next (after 0x3D (portWrite a 0x3D v u))) ∧
    portWrite a 0x06 v s = modAyr a (fun k => { k with tick := v.toNat }) s ∧
    portWrite a 0x15 v s = { s with assay := { s.assay with queues := upd s.assay.queues a (fun q => q.drop 1) } } ∧
    ((c.injSeries < c.ownFirst ∨ c.ownFirst + c.ownCount ≤ c.injSeries) → portWrite a 0x1B v s =
      modAyr a (fun k => { k with reject := sat32 (k.reject + 1), cause := setBits k.cause [4] }) s) ∧
    (c.ownFirst ≤ c.injSeries → c.injSeries < c.ownFirst + c.ownCount → sat24 v.toInt = v.toInt → portWrite a 0x1B v s =
      modAyr a (fun k => { k with
        injStamp :=
          (k.injStamp + stepOf c.injSeries (seriesAt (handOver c.injSeries c.injStamp v.toInt s) c.injSeries).params) % 2 ^ 64 })
        (handOver c.injSeries c.injStamp v.toInt s)) ∧
    (bit (seriesAt s (v.toNat % 64)).params.mask a = true → portWrite a 0x22 v s =
      requestFreeze (v.toNat % 64) c.frzStamp (bit v.toNat 8) s) ∧
    (c.requests.length < 16 → portWrite a 0x2B v s = modAyr a (fun k => { k with
      requests := k.requests ++ [{ line := v.toNat % 8, stamp := k.trqStamp, info := k.trqInfo }] }) s) ∧
    (16 ≤ c.requests.length → portWrite a 0x2B v s = modAyr a (fun k => { k with
      trqLost := sat32 (k.trqLost + 1), cause := setBits k.cause [3] }) s) ∧
    (c.outbox.length < 16 → c.outbox ≠ [] → portWrite a 0x38 v s =
      modAyr a (fun k => { k with outbox := k.outbox ++ [k.outStage] }) s) ∧
    (16 ≤ c.outbox.length → portWrite a 0x38 v s = modAyr a (fun k => { k with
      msgLost := sat32 (k.msgLost + 1), cause := setBits k.cause [3] }) s) ∧
    portWrite a 0x3D v s = modAyr a (fun k => { k with inbox := k.inbox.drop 1 }) s

/-- R187 to R192, R199, R202, R204: the events of a core: an interrupt is taken with EPC, IE := 0 and PC = 4; WAIT
ends on an enabled cause, every earlier instruction complete; an ILLEGAL instruction stops the core in FAULTED; TICK
expires; the host's window; a STOP takes effect at an interruptible boundary, or, forced, without one after 1,024
cycles. R200 to R202: ASSAYER_LOAD of an uncompressed image loads it; ASSAYER_RUN starts, asks for a stop, or
continues. -/
def Obligations.AyrControl : Prop :=
  (∀ (s : State) (a t n off : Nat) (v : W32), dpRun s = true → a < 4 → s.cages.openCmds = [] →
    let c := ayrAt s a
    (c.state = .running → intDue s a = true → stopDue c = false → exec (.interruptEntry a) s = .next (modAyr a (fun k =>
      tickOnce (tickOnce { commitLoad k with
        acc1 := (commitLoad k).acc, acc2 := (commitLoad k).acc, epc := k.pc, ie := false, pc := 4, prev1 := {}, prev2 := {}, started := false,
                                             portOld := [] })) s)) ∧
    (c.state = .waiting → causePending (modAyr a (fun k => tickMany n (drainCore k)) s) a = true → c.ie = true →
      a < s.ayr.length → ∃ u, exec (.waitWake a n) s = .next u ∧ (ayrAt u a).state = .running ∧ (ayrAt u a).epc = c.pc ∧
        (ayrAt u a).mtl = [] ∧ (ayrAt u a).acc2 = c.acc ∧
        (ayrAt u a).ie = false ∧ (ayrAt u a).pc = 4 ∧ (∀ b, b ≠ a → ayrAt u b = ayrAt s b) ∧ u = { s with ayr := u.ayr }) ∧
    (c.state = .waiting → causePending (modAyr a (fun k => tickMany n (drainCore k)) s) a = true → c.ie = false →
      exec (.waitWake a n) s = .next (modAyr a (fun k => { tickMany n (drainCore k) with state := .running }) s)) ∧
    (c.state = .running → intDue s a = false → stopDue c = false →
      (∀ op, decodeAyr (imemAt c c.pc) = some op → illegalHere c op = true) →
      exec (.illegalInstruction a .none) s = .next (modAyr a (fun k => { drainCore k with
        state := .faulted, faultCode := 1, faultPc := k.pc, cause := setBits (drainCore k).cause [1],
        stopPending := false, stopCycles := 0 }) s)) ∧
    (c.state = .waiting → c.tick ≠ 0 → exec (.tickExpiry a) s = .next (modAyr a (fun k => tickMany c.tick k) s) ∧
      (tickMany c.tick c).tick = 0 ∧ (tickMany c.tick c).tickCause = true) ∧
    exec (.ayrOutFree a) s = .next (modAyr a (fun k => { k with outbox := k.outbox.drop 1 }) s) ∧
    (c.inbox.length < 16 → exec (.ayrInSend a) s =
      .next (modAyr a (fun k => { k with inbox := k.inbox ++ [k.inStage] }) s)) ∧
    (16 ≤ c.inbox.length → exec (.ayrInSend a) s =
      .next (modAyr a (fun k => { k with msgLost := sat32 (k.msgLost + 1) }) s)) ∧
    (off % 4 = 0 → off < 0x10000 → c.state ≠ .running → c.state ≠ .waiting → exec (.assayerWindowWrite a off v) s =
      .next (modAyr a (fun k => { k with imem := memSet haltWord k.imem (off / 4) v }) s)) ∧
    (off % 4 = 0 → off < 0x10000 → c.state = .running → exec (.assayerWindowWrite a off v) s =
      .next (modAyr a (fun k => { k with reject := sat32 (k.reject + 1), cause := setBits k.cause [4] }) s)) ∧
    (off % 4 = 0 → 0x10000 ≤ off → off < 0x30000 → exec (.assayerWindowWrite a off v) s =
      .next (modAyr a (fun k => { k with dmem := memWrite k.dmem (off - 0x10000) (leBytes 4 v.toNat) }) s)) ∧
    exec (.ayrCounterClear a) s = .next (modAyr a (fun k => { k with
      cycles := 0, trqSent := 0, trqLost := 0, msgLost := 0, reject := 0, memCe := 0 }) s) ∧
    ((c.state = .running ∨ c.state = .waiting) → c.stopPending = true → interruptible c = true →
      exec (.assayerStopCommit a t) s = .next (modAyr a (fun k => { commitLoad k with
        state := .stopped, forced := false, stopPending := false, stopCycles := 0 }) s)) ∧
    ((c.state = .running ∨ c.state = .waiting) → c.stopPending = true → interruptible c = false → 1024 ≤ c.stopCycles →
      exec (.forcedStop a t) s = .next (modAyr a (fun k => { k with
        state := .stopped, forced := true, stopPending := false, stopCycles := 0 }) s))) ∧
  (∀ (r : Req) (t : Nat) (s u : State),
    (Takes 0x0602 r t s u → b8 r 24 < 4 → b8 r 25 = 0 → ownOk u (b8 r 24) (b16 r 28) (b16 r 30) = true →
      (ayrAt u (b8 r 24)).state ≠ .running → (ayrAt u (b8 r 24)).state ≠ .waiting → imageOk r.arg = true →
      digest128 (r.arg.drop 64) = (r.arg.drop 20).take 16 →
      exec (.assayerLoad r t) s = .next (ended 0x0602 r t {}
        (modAyr (b8 r 24) (loadImage r.arg (b16 r 28) (b16 r 30)) u))) ∧
    (Takes 0x0602 r t s u → b8 r 24 < 4 → b8 r 25 = 0 → ownOk u (b8 r 24) (b16 r 28) (b16 r 30) = true →
      (ayrAt u (b8 r 24)).state = .running → exec (.assayerLoad r t) s = .next (ended 0x0602 r t { status := stNotInState } u)) ∧
    (Takes 0x0603 r t s u → b8 r 24 < 4 → b8 r 25 = 0 → b8 r 24 < u.ayr.length →
      ((ayrAt u (b8 r 24)).state = .loaded ∨ (ayrAt u (b8 r 24)).state = .stopped ∨ (ayrAt u (b8 r 24)).state = .halted ∨
        (ayrAt u (b8 r 24)).state = .faulted) → ∃ v, exec (.assayerRun r t) s = .next (ended 0x0603 r t
          { result := fields [(24, leBytes 1 2), (25, leBytes 1 0)] } v) ∧ v = startCore (b8 r 24) 0 u ∧
        (ayrAt v (b8 r 24)).state = .running ∧ (ayrAt v (b8 r 24)).pc = (ayrAt u (b8 r 24)).entry ∧
        (ayrAt v (b8 r 24)).d = List.replicate 16 0 ∧ (ayrAt v (b8 r 24)).acc = 0 ∧ (ayrAt v (b8 r 24)).ie = false ∧
        (ayrAt v (b8 r 24)).imem = (ayrAt u (b8 r 24)).imem ∧ (ayrAt v (b8 r 24)).dmem = (ayrAt u (b8 r 24)).dmem) ∧
    (Takes 0x0603 r t s u → b8 r 24 < 4 → b8 r 25 = 1 → (ayrAt u (b8 r 24)).state = .running →
      (ayrAt u (b8 r 24)).stopPending = false → exec (.assayerRun r t) s = .next (staysOpen 0x0603 r t .staged (b8 r 24) []
        (modAyr (b8 r 24) (fun k => { k with stopPending := true, stopCycles := 0 }) u))) ∧
    (Takes 0x0603 r t s u → b8 r 24 < 4 → b8 r 25 = 2 → (ayrAt u (b8 r 24)).state = .halted → b8 r 24 < u.ayr.length →
      exec (.assayerRun r t) s = .next (ended 0x0603 r t
        { result := fields [(24, leBytes 1 2), (25, leBytes 1 (b2n (ayrAt u (b8 r 24)).forced))] }
        (modAyr (b8 r 24) (fun k => { k with state := .running, started := true, prev1 := {}, prev2 := {} }) u))))

/-- R184, R185, Tables 9.2 to 9.4: the word of each Assayer instruction, with every field at every value, decodes to that
instruction. -/
def Obligations.AyrEncoding : Prop :=
 ∀ op : AyrOp, decodeAyr (encodeAyr op) = some op

/-- R206, R207: an edge that lasts longer than the filter becomes a hit on its way, timed 6 samples (4.8 ns) before the
sample that first showed it; one that does not is a glitch. A hit that arrives enters the store of 256, or is counted
lost; no condition being armed, nothing else changes. The oldest hit leaves the store after HIT_HOLD. R209, R210: the
decision on a candidate: a veto hit within its window stops it; else the prescale counter passes every P-th, and what
fires takes the next trigger number and is counted; the deadtime starts from the candidate's stamp in both cases. -/
def Obligations.TriggerHandling : Prop :=
  (∀ (s : State) (n held tick : Nat) (level : Bool), dpRun s = true →
    (n < 2 → supplyOn s vioG = true → held ≤ s.trig.filter.getD n 0 → level ≠ s.trig.falling.getD n false →
      exec (.trigInEdge n level held tick) s =
        .next { s with trig := { s.trig with inGlitch := sat32 (s.trig.inGlitch + 1) } }) ∧
    (n < 2 → supplyOn s vioG = true → s.trig.filter.getD n 0 < held → level = s.trig.falling.getD n false →
      exec (.trigInEdge n level held tick) s =
        .next { s with trig := { s.trig with level := upd s.trig.level n (fun _ => level) } }) ∧
    (∀ b, n < 2 → supplyOn s vioG = true → s.trig.filter.getD n 0 < held → level ≠ s.trig.falling.getD n false →
      s.bun.active = some b → exec (.trigInEdge n level held tick) s = .next { s with trig := { s.trig with
        level := upd s.trig.level n (fun _ => level)
        edges := s.trig.edges ++ [(32 + n, spectrumAt b ((tick - 6) * 4 * 65536 / 5),
          (tick - 6) * 4 * 65536 / 5 / 65536 % 1000000000)] } }) ∧
    (∀ q rest, n < 4 → (ayrAt s n).requests = q :: rest → s.trig.hits.length < 256 → s.trig.armed = 0 →
      exec (.hitArrival n) s = .next { modAyr n (fun c => { c with
          requests := rest, trqSent := sat32 (c.trqSent + 1) }) s with trig := { s.trig with
        hits := s.trig.hits ++ [{ input := 8 * n + q.line, stamp := q.stamp, info := q.info, order := s.trig.nextOrder }]
        nextOrder := s.trig.nextOrder + 1, hitCount := sat32 (s.trig.hitCount + 1) } }) ∧
    (∀ q rest, n < 4 → (ayrAt s n).requests = q :: rest → 256 ≤ s.trig.hits.length → exec (.hitArrival n) s = .next
      { modAyr n (fun c => { c with requests := rest, trqSent := sat32 (c.trqSent + 1) }) s with trig := { s.trig with
        hitLost := sat32 (s.trig.hitLost + 1), cause := setBits s.trig.cause [1] } }) ∧
    exec .hitExpiry s = .next { s with trig := { s.trig with hits := s.trig.hits.drop 1 } }) ∧
  (∀ (s : State) (cond tick : Nat) (c : Candidate), dpRun s = true →
    s.trig.candidates.find? (fun x => x.cond == cond) = some c → cond < s.trig.conds.length →
    let cd := s.trig.conds.getD cond {}
    let vetoed := s.trig.hits.any (fun h => bit cd.vetoMask h.input && decide (stampDist h.stamp c.stamp ≤ cd.vetoW))
    (vetoed = true → exec (.candidateDecision cond tick) s = .next { s with trig := { s.trig with
        candidates := s.trig.candidates.erase c, vetoed := sat32 (s.trig.vetoed + 1) } }) ∧
    (vetoed = false → cd.counter + 1 < cd.prescale → exec (.candidateDecision cond tick) s = .next { s with
      trig := { s.trig with
        candidates := s.trig.candidates.erase c, prescaled := sat32 (s.trig.prescaled + 1)
        conds := upd s.trig.conds cond (fun x => { x with
          counter := cd.counter + 1, deadFrom := x.deadFrom ++ [c.stamp] }) } }) ∧
    (vetoed = false → cd.prescale ≤ cd.counter + 1 → cd.outputs = 0 → cd.freeze = false → cd.record = false →
      c.cond = cond → exec (.candidateDecision cond tick) s = .next { s with trig := { s.trig with
        candidates := s.trig.candidates.erase c, cause := setBits s.trig.cause [0]
        number := (s.trig.number + 1) % 2 ^ 64, fired := sat64 (s.trig.fired + 1)
        conds := upd s.trig.conds cond (fun x => { x with
          counter := 0, deadFrom := x.deadFrom ++ [c.stamp], fired := sat32 (x.fired + 1) }) } }))

/-- R208, R209: an armed condition looks at a hit on one of its inputs: in its deadtime the hit is counted and consumed
for it; with hits on M inputs within W spectra, nearest first, a candidate is made, stamped with the earliest of them,
and they are consumed for it; a condition that is not armed does nothing. No condition looks at the hits twice over. -/
def Obligations.TriggerCandidates : Prop :=
  ∀ (h : Hit) (c : Nat) (t : Trig),
    ((bit t.armed c = false ∨ bit (t.conds.getD c {}).mask h.input = false) → searchCond h c t = t) ∧
    (bit t.armed c = true → bit (t.conds.getD c {}).mask h.input = true →
      (∃ d ∈ (t.conds.getD c {}).deadFrom, d ≤ h.stamp ∧ h.stamp < d + (t.conds.getD c {}).dead) →
      (searchCond h c t).deadHits = sat32 (t.deadHits + 1) ∧ (searchCond h c t).candidates = t.candidates ∧
      ∀ x ∈ (searchCond h c t).hits, x.order = h.order → bit x.consumed c = true) ∧
    ((searchCond h c t).candidates = t.candidates ∨ ∃ x, (searchCond h c t).candidates = t.candidates ++ [x] ∧ x.cond = c ∧
      x.info = h.info ∧ (t.conds.getD c {}).m ≤ x.chosen.length ∧ x.stamp ≤ h.stamp ∧
      (∀ y ∈ x.chosen, x.stamp ≤ y.2 ∧ stampDist y.2 h.stamp ≤ (t.conds.getD c {}).w ∧
        bit (t.conds.getD c {}).mask y.1 = true) ∧
      x.chosen.Pairwise (fun a b => a.1 < b.1)) ∧
    ((searchCond h c t).hits.length = t.hits.length ∧ (searchCond h c t).armed = t.armed ∧
      (searchCond h c t).conds = t.conds ∧ (searchCond h c t).outs = t.outs)

/-- R212, R213: a firing schedules a pulse of its output no earlier than 24 ns (30 × 0.8 ns) after it, at the instant
asked for where there is one and late otherwise; pulses that touch merge, and with 16 waiting one that merges with
none is lost. A pulse begins and ends in turn; outside Run an output shows its inactive level. R206, R207, R211, R216
to R221, R223: the commands of triggers and captures, the end of a readout, and the counter clear. -/
def Obligations.TriggerControl : Prop :=
  (∀ (s : State) (n tick sp : Nat) (b : Bundle) (t : Trig),
    let o := t.outs.getD n {}
    (o.at_ = false → (drive (some b) tick sp n t).2.1 = false) ∧
    (o.at_ = true → (drive (some b) tick sp n t).2.1 = decide (atTick b sp o.delay < tick + 30)) ∧
    (o.pulses = [] → n < t.outs.length → ((drive (some b) tick sp n t).1.outs.getD n {}).pulses =
      [{ start := if o.at_ = true then max (atTick b sp o.delay) (tick + 30) else tick + 30,
         stop := (if o.at_ = true then max (atTick b sp o.delay) (tick + 30) else tick + 30) + 10 * o.width }]) ∧
    (16 ≤ o.pulses.length → (∀ p ∈ o.pulses, p.stop < tick + 30) → o.at_ = false →
      (drive none tick sp n t).1.outLost = sat32 (t.outLost + 1) ∧ (drive none tick sp n t).2.2 = false ∧
      bit (drive none tick sp n t).1.cause 2 = true) ∧
    (dpRun s = true → exec (.pulseStart n) s = .next { s with trig := { s.trig with
      outs := upd s.trig.outs n (fun x => if x.pulses = [] ∨ x.active = true then x else { x with active := true }) } }) ∧
    (dpRun s = true → exec (.pulseEnd n) s = .next { s with trig := { s.trig with
      outs := upd s.trig.outs n (fun x =>
        if x.active = true then { x with active := false, pulses := x.pulses.drop 1 } else x) } }) ∧
    (dpRun s = false → trigOutLevel s n = (s.trig.outs.getD n {}).activeLow) ∧
    (dpRun s = true → trigOutLevel s n = ((s.trig.outs.getD n {}).active != (s.trig.outs.getD n {}).activeLow))) ∧
  (∀ (r : Req) (t : Nat) (s u : State),
    (Takes 0x0604 r t s u → b8 r 24 = 0 → b8 r 25 = 0 → r.arg = [] → b8 r 30 < 4 → 1 ≤ b16 r 26 → b16 r 26 ≤ 10000 →
      exec (.triggerConfig r t) s = .next (ended 0x0604 r t {} { u with trig := { u.trig with
        hold := b16 r 26, filter := [b8 r 28, b8 r 29], falling := [bit (b8 r 30) 0, bit (b8 r 30) 1] } })) ∧
    (Takes 0x0605 r t s u → exec (.triggerArm r t) s = .next (ended 0x0605 r t
      { result := fields [(24, leBytes 1 (b8 r 24))] } { u with trig := armConds (b8 r 24) u.trig })) ∧
    (∀ c, c < 8 → u.trig.armed < 256 → b8 r 24 < 256 → (bit (armConds (b8 r 24) u.trig).armed c = bit (b8 r 24) c)) ∧
    (∀ b, Takes 0x0701 r t s u → u.bun.active = some b → captFrozen u = false → b8 r 40 < 2 → b8 r 41 < 2 → b8 r 42 = 1 →
      exec (.captureConfig r t) s = .next (ended 0x0701 r t {}
        (setRates { u with trig := { u.trig with capt := {} } }))) ∧
    (∀ b, Takes 0x0701 r t s u → u.bun.active = some b → captFrozen u = true →
      exec (.captureConfig r t) s = .next (ended 0x0701 r t { status := stNotInState } u)) ∧
    (Takes 0x0702 r t s u → u.trig.capt.state = .idle → exec (.captureFreeze r t) s = .next (ended 0x0702 r t
      { status := stNotInState } { u with trig := { u.trig with
        freezeRefused := sat32 (u.trig.freezeRefused + 1), cause := setBits u.trig.cause [5] } })) ∧
    (Takes 0x0702 r t s u → u.trig.capt.state = .held → u.trig.capt.firstChunk = 5 → b64 r 24 = 8192 * 5 + 4096 →
      exec (.captureFreeze r t) s = .next (ended 0x0702 r t
        { result := fields [(24, leBytesI 8 5), (32, leBytes 1 1)] } u)) ∧
    (Takes 0x0703 r t s u → b8 r 24 < 2 → (u.trig.capt.state = .pending ∨ u.trig.capt.state = .held ∨
      u.trig.capt.state = .done) → exec (.captureRelease r t) s = .next (ended 0x0703 r t {} (releaseRing u))) ∧
    (Takes 0x0703 r t s u → b8 r 24 = 1 → u.trig.capt.state = .readout → exec (.captureRelease r t) s =
      .next (staysOpen 0x0703 r t .staged 0 [] { u with trig := { u.trig with
        capt := { u.trig.capt with discard := true } } })) ∧
    (s.trig.capt.state = .readout → s.trig.capt.toSend = [] → s.trig.capt.toBuild = [] → s.trig.capt.discard = false →
      s.trig.capt.cfg.autoRelease = false → exec (.captureReadoutDone t) s = .next { s with trig := { s.trig with
        cause := setBits s.trig.cause [4], capt := { s.trig.capt with state := .done } } }) ∧
    (dpRun s = true → exec .trgCounterClear s = .next { s with trig := clearTrg s.trig } ∧
      (clearTrg s.trig).fired = 0 ∧ (clearTrg s.trig).hitLost = 0 ∧ (clearTrg s.trig).skipped = 0))

/-- R215, R217 to R221: the capture ring. A freeze takes the two chunks about its stamp: K and K + 1 when the stamp lies
in the second half of chunk K, else K − 1 and K; a stamp more than 1,024 chunks ahead is refused, and so is a second
freeze on other chunks; a position of a selected channel is recorded unless the ring is held, and then it is skipped
and counted. The capture is PARTIAL when the ring has overwritten a protected position that it had recorded, and not for
one that it never recorded. R222, R220: a ring left PENDING is HELD when Run returns, with PARTIAL, and is read out at
once where READOUT is 1. -/
def Obligations.CaptureRing : Prop :=
  ∀ (s : State) (stamp number j : Nat),
    (s.trig.capt.state = .recording → stamp % 8192 < 4096 → (stamp / 8192 : Nat) ≤ consumeChunk s + 1024 →
      (freezeRing stamp number s).1 = .taken ∧
      (freezeRing stamp number s).2.trig.capt.firstChunk = (stamp / 8192 : Nat) - 1 ∧
      (freezeRing stamp number s).2.trig.capt.freezeNumber = number) ∧
    (s.trig.capt.state = .recording → 4096 ≤ stamp % 8192 → (stamp / 8192 : Nat) ≤ consumeChunk s + 1024 →
      (freezeRing stamp number s).1 = .taken ∧
      (freezeRing stamp number s).2.trig.capt.firstChunk = (stamp / 8192 : Nat)) ∧
    (s.trig.capt.state = .recording → 4096 ≤ stamp % 8192 → consumeChunk s + 1024 < stamp / 8192 →
      freezeRing stamp number s = (.outOfRange, { s with trig := { s.trig with
        freezeRefused := sat32 (s.trig.freezeRefused + 1), cause := setBits s.trig.cause [5] } })) ∧
    (s.trig.capt.state = .held → 4096 ≤ stamp % 8192 → s.trig.capt.firstChunk = (stamp / 8192 : Nat) →
      freezeRing stamp number s = (.merged, s)) ∧
    (s.trig.capt.state = .held → 4096 ≤ stamp % 8192 → s.trig.capt.firstChunk ≠ (stamp / 8192 : Nat) →
      (stamp / 8192 : Nat) ≤ consumeChunk s + 1024 → freezeRing stamp number s = (.notInState, { s with trig := { s.trig with
        freezeRefused := sat32 (s.trig.freezeRefused + 1), cause := setBits s.trig.cause [5] } })) ∧
    (captSelects s j = true → (s.trig.capt.state = .recording ∨ s.trig.capt.state = .pending) → captBegin j s =
      { s with trig := { s.trig with capt := { s.trig.capt with writing := some j } } }) ∧
    (captSelects s j = true → (s.trig.capt.state = .held ∨ s.trig.capt.state = .readout ∨ s.trig.capt.state = .done) →
      captBegin j s = { s with trig := { s.trig with
        skipped := sat32 (s.trig.skipped + 1), cause := setBits s.trig.cause [7] } }) ∧
    (captSelects s j = false → captBegin j s = s) ∧
    (overwritten s j = true ↔ (∃ x ∈ s.trig.capt.spans, x.1 ≤ j ∧ j ≤ x.2) ∧ ∀ e ∈ s.trig.capt.entries, e.pos ≠ j) ∧
    (s.trig.capt.state = .recording → stamp % 8192 < 4096 → (stamp / 8192 : Nat) ≤ consumeChunk s + 1024 →
      (∀ i, overwritten s i = false) → (freezeRing stamp number s).2.trig.capt.isPartial = false ∧
        (freezeRing stamp number s).2.trig.partials = s.trig.partials) ∧
    (s.trig.capt.writing ≠ some j → captEnd j s = s) ∧
    (s.trig.capt.writing = some j → s.trig.capt.state = .recording →
      (captEnd j s).trig.capt.spans = extendSpans s j s.trig.capt.spans ∧ (captEnd j s).trig.capt.writing = none ∧
      (captEnd j s).trig.capt.head = (s.trig.capt.head + 1) % max 1 s.trig.capt.cfg.records ∧
      (∃ e ∈ (captEnd j s).trig.capt.entries, e.pos = j ∧ e.entry = s.trig.capt.head)) ∧
    (s.trig.capt.state = .pending → (restartReadout s).trig.capt.isPartial = true ∧
      (restartReadout s).trig.capt.state = (if s.trig.capt.cfg.readout = true then .readout else .held) ∧
      bit (restartReadout s).trig.cause 3 = true)

/-- R226, R228, R232, R234, R240: a packet built takes the next number of its stream and waits on the paths in use;
with no room a whole unit is not built and is counted; the STAT packet is built 1 ms after its first record, or at 128.
R233, R235 to R239: at a packet boundary a lane starts what waits first for it: a control packet of its own, then those
of its path, then data in the order of R239, charged to its class; a lane that is not up starts nothing. A packet ended
by EAB goes again before everything else; output packets start on the lane of their path that became free first, the
lowest-numbered on a tie. A packet sent is counted on its path, and the identity last sent is kept. Copies that lag are
dropped. A flush that ends loses what was not sent, and records it. -/
def Obligations.HoistPackets : Prop :=
  (∀ (s : State) (p : HPkt) (k : Nat) (b : Bundle), dpRun s = true → s.hst.flushing = false → s.bun.active = some b →
    (s.hst.notBuiltRuns = [] → (buildPkt p s).hst.queue.length = s.hst.queue.length + 1 ∧
      ∃ q, (buildPkt p s).hst.queue.getLast? = some q ∧ q.seq = s.hst.seq.getD p.stream 0 ∧ q.num = s.hst.nextNum ∧
        q.payload = p.payload ∧ q.ref = p.ref ∧ q.source = ownSource s ∧ q.waitA = true ∧
        (isFirst p = true → p.stream < s.hst.unitDual.length → q.waitB = s.hst.dual) ∧
        (streamClass p.stream ≠ 0 → q.charge = p.payload.length) ∧
        (buildPkt p s).hst.seq = upd s.hst.seq p.stream (fun n => (n + 1) % 2 ^ 48)) ∧
    (∀ l, s.hst.units = [.pkts k l] → k ≠ 0 → queueRoom s ((l.map pktBytes).sum) = true → exec (.packetBuild k) s =
      .next (setUnit (.pkts k l) none (l.foldl (fun s p => buildPkt p s) s))) ∧
    (∀ x, s.hst.units = [.pkts k [x]] → k ≠ 0 → k ≠ 12 → x.endsCapt = none → queueRoom s (pktBytes x) = false →
      exec (.packetBuild k) s = .next (lose k x.ref (setUnit (.pkts k [x]) none s)) ∧
      (lose k x.ref s).hst.notBuilt = sat32 (s.hst.notBuilt + 1) ∧ bit (lose k x.ref s).hst.cause 4 = true ∧
      (lose k x.ref s).hst.queue = s.hst.queue) ∧
    (∀ x, s.hst.units = [.pkts 12 [x]] → queueRoom s (pktBytes x) = false → exec (.packetBuild 12) s = .next s) ∧
    (s.hst.started = true → s.hst.dropRun = [0, 0] → s.hst.stat ≠ [] → exec (.statPacketBuild true) s = .next
      { buildPkt (statPkt s (s.hst.stat.take 128)) s with hst :=
        { (buildPkt (statPkt s (s.hst.stat.take 128)) s).hst with
          stat := (buildPkt (statPkt s (s.hst.stat.take 128)) s).hst.stat.drop 128 } } ∧
      (statPkt s (s.hst.stat.take 128)).tword = (s.hst.stat.take 128).length) ∧
    ((s.hst.stat.length < 128 ∨ s.hst.started = false) → exec (.statPacketBuild false) s = .next s) ∧
    (∀ n l j js d c, s.hst.units = [.crush n l (j :: js) d c] → exec (.crusherFrameDone n) s = .next { s with
      hst := { s.hst with
        units := [.crush n (l ++ framePkts j.tmpl (crushFrame j.mode j.raw).1 (decide (j.tmpl.stream = 1))) js d c]
        cruIn := sat64 (s.hst.cruIn + j.raw.length), cruOut := sat64 (s.hst.cruOut + (crushFrame j.mode j.raw).1.length)
        cruStored := sat32 (s.hst.cruStored + (crushFrame j.mode j.raw).2) } })) ∧
  (∀ (s : State) (n : Nat) (aged : List Nat) (now : Nat) (l : Lane), l = laneAt s n → dpRun s = true →
    ((l.txUp = false ∨ l.txCur.isSome = true) → exec (.lanePacketStart n aged now) s = .next s) ∧
    (∀ p rest, l.txUp = true → l.txCur = none → l.txNext = none → l.txRole = 3 → l.txCtl = p :: rest →
      exec (.lanePacketStart n aged now) s = .next (modLane n (fun x => { x with
        txCtl := rest, txCur := some { bytes := p } }) s)) ∧
    (l.txUp = true → l.txCur = none → l.txNext = none → l.txRole = 1 → aged = [] →
      (∀ p, laneTurn s n = true → (resendPkt s 0 = some p ∨
          (resendPkt s 0 = none ∧ l.txCtl = [] ∧ s.hst.ctlA = [] ∧ pickPacket s 0 = some p)) →
        exec (.lanePacketStart n aged now) s = .next (modLane n (fun x => { x with
            txCur := some { ctl := false, num := p.num, bytes := wireBytes 0 p } })
          { s with hst := startPkt 0 p s.hst })) ∧
      (∀ p rest u, (laneTurn s n = false ∨ resendPkt s 0 = none) → l.txCtl = p :: rest →
        u = modLane n (fun x => { x with txCtl := rest }) s → exec (.lanePacketStart n aged now) s =
          .next (modLane n (fun x => { x with txCur := some { bytes := (beaconEgress p now u).1 } }) (beaconEgress p now u).2)) ∧
      (∀ p rest, laneTurn s n = true → resendPkt s 0 = none → l.txCtl = [] → s.hst.ctlA = p :: rest →
        exec (.lanePacketStart n aged now) s = .next (modLane n (fun x => { x with txCur := some { bytes := p } })
          { s with hst := { s.hst with ctlA := rest } })) ∧
      (laneTurn s n = false → l.txCtl = [] → exec (.lanePacketStart n aged now) s = .next s)) ∧
    (∀ p, (startPkt 0 p s.hst).used =
      upd s.hst.used (streamClass p.stream) (fun x => if p.redoA = true then x else x + p.charge)) ∧
    (laneTurn s n = true ↔ ∀ k < 64, (laneAt s k).txUp = true → (laneAt s k).txCur = none → (laneAt s k).txNext = none →
      (laneAt s k).txRole = l.txRole → (l.freed < (laneAt s k).freed ∨ (l.freed = (laneAt s k).freed ∧ n ≤ k))) ∧
    (∀ p, resendPkt s 0 = some p → p ∈ s.hst.queue ∧ p.waitA = true ∧ p.redoA = true) ∧
    (∀ p, pickPacket s 0 = some p → p ∈ s.hst.queue ∧ p.waitA = true ∧
      (withinAllot s 0 (streamClass p.stream) = true ∨ streamClass p.stream = 0 ∨ streamClass p.stream = 4)) ∧
    (∀ p u, l.txCur = some p → p.ctl = true → l.txRole = 2 →
      u = modLane n (fun x => { x with txCur := none, txPktCnt := sat64 (x.txPktCnt + 1) }) (freeLane n s) →
      exec (.packetSent n) s = .next { u with hst := { u.hst with pktB := sat64 (u.hst.pktB + 1) } }) ∧
    (∀ p num, s.hst.queue.find? (fun q => q.num == num) = some p → p.stream < s.hst.lastSent.length →
      (copySent 0 num s.hst).lastSent.getD p.stream none = some (p.source, p.seq) ∧
      (copySent 0 num s.hst).seq = s.hst.seq) ∧
    (l.txCur = none → exec (.packetSent n) s = .next s) ∧
    ((pathUp s 0 = false ∨ pathUp s 1 = false) → exec (.copyDrop 0 aged) s = .next s) ∧
    (∀ p, s.hst.queue = [p] → pathUp s 0 = true → pathUp s 1 = true → lagging 0 p = true → aged = [p.num] →
      p.waitB = false → p.onA = false → p.endsDump = none → p.endsCapt = none → exec (.copyDrop 0 aged) s = .next { s with
        hst := { s.hst with queue := [], copyDrop0 := sat32 (s.hst.copyDrop0 + 1), cause := setBits s.hst.cause [3]
                            dropRun := upd s.hst.dropRun 0 (· + 1) } }) ∧
    (s.hst.flushing = true → exec .hoistFlushEnd s = .next { s with
      hst := { s.hst with flushing := false, unsent := unsentOf s, queue := [], units := [] }
      lanes := { s.lanes with lane := s.lanes.lane.map (fun x =>
        if x.txRole = 3 then x else { x with txCur := none }) } }) ∧
    (s.hst.flushing = false → exec .hoistFlushEnd s = .next s))

/-- R234, R238, R241, R249 to R251: the commands of the Hoist and the Crusher, the Expander's jobs, and the counter
clear. An allotment or a Crusher setting that the paths and rings cannot carry is refused with nothing changed. A job's
output stands at its destination, which holds a free value after a refusal. -/
def Obligations.HoistCommands : Prop :=
  ∀ (r : Req) (t : Nat) (s u : State),
    (∀ a, Takes 0x0801 r t s u → u.bun.active = none → a = [24, 28, 32, 36, 40, 44].map (b32 r) →
      ratesOk { u with hst := { u.hst with allot := a } } = true →
      exec (.hoistStreams r t) s = .next (ended 0x0801 r t
        { result := fields [(24, leBytes 4 (pathCapacity u 0 / 8)), (28, leBytes 4 (pathCapacity u 1 / 8)),
            (32, leBytes 4 a.sum)] } (setRates { u with hst := { u.hst with allot := a } }))) ∧
    (∀ a, Takes 0x0801 r t s u → u.bun.applying = false → a = [24, 28, 32, 36, 40, 44].map (b32 r) →
      allotmentsOk { u with hst := { u.hst with allot := a } } = false →
      exec (.hoistStreams r t) s = .next (ended 0x0801 r t { status := stLimit, detail := 13 } u)) ∧
    (Takes 0x0802 r t s u → b8 r 24 = 0 → exec (.hoistPaths r t) s = .next (ended 0x0802 r t {}
      { u with hst := { u.hst with dual := false } })) ∧
    (Takes 0x0802 r t s u → b8 r 24 = 1 → (∀ l ∈ u.lanes.lane, (l.txNext.getD (l.txRole, l.txRate)).1 ≠ 2) →
      exec (.hoistPaths r t) s = .next (ended 0x0802 r t { status := stBadArg, detail := 2 } u)) ∧
    (Takes 0x0803 r t s u → b8 r 24 ≤ 2 → b8 r 25 ≤ 2 → (u.bun.applying = true ∨
      (crusherOk u (b8 r 24) (b8 r 25) = true ∧
        allotmentsOk { u with hst := { u.hst with crushDump := b8 r 24, crushCapt := b8 r 25 } } = true)) →
      exec (.crushConfig r t) s = .next (ended 0x0803 r t {} { u with hst := { u.hst with
        crushDump := b8 r 24, crushCapt := b8 r 25 } })) ∧
    (s.hst.jobs ≠ [] → s.hst.expRunning = false → s.shift.held = .none → s.pwr.ctlSleep = false →
      exec .expanderJobStart s = .next { s with hst := { s.hst with expRunning := true } }) ∧
    (∀ j rest ok, s.hst.expRunning = true → s.hst.jobs = j :: rest → s.cages.openCmds = [] →
      exec (.expanderJobEnd ok t) s =
        .next (jobOutput j { s with hst := { s.hst with jobs := rest, expRunning := false } })) ∧
    (∀ j out left, expandJob j = .ok out left → (j.expect = 0 ∨ out.length = j.expect) →
      jobOutput j s = { s with hst := { s.hst with expOut := out } }) ∧
    (∀ j, (∀ out left, expandJob j = .ok out left → j.expect ≠ 0 ∧ out.length ≠ j.expect) →
      jobOutput j s = { s with
        hst := { s.hst with expOut := leBytes j.limit (freeVal (8 * j.limit) s) }, freeCount := s.freeCount + 1 }) ∧
    (∀ j, j.use = 1 → expandJob j = if j.frame = true then expandFrame j.limit j.input else inflate j.limit j.input) ∧
    (∀ j rest o ok, s.hst.expRunning = true → s.hst.jobs = j :: rest → ok = false →
      s.cages.openCmds.find? (fun o => o.req.client == j.client && o.req.tag == j.tag) = some o → o.req.opcode ≠ 0x0602 →
      exec (.expanderJobEnd ok t) s = .next (finishOpen (fun p => p.req.client == j.client && p.req.tag == j.tag)
        (fun _ => { status := stHardware }) t
          (jobOutput j { s with hst := { s.hst with jobs := rest, expRunning := false } }))) ∧
    (dpRun s = true → exec .hstCounterClear s = .next { s with hst := { s.hst with
      pktA := 0, pktB := 0, resend := 0, copyDrop0 := 0, copyDrop1 := 0, notBuilt := 0, queuePeak := 0
      cruIn := 0, cruOut := 0, cruStored := 0, expJobs := 0, expLimit := 0, expMalformed := 0
      peakUse := [0, 0, 0, 0, 0, 0] } })

/-- R253, R255, R256, R258, R262, R263, R273: a pit address lies in one logical rank and one line of it, and no two
addresses share a place; a request leaves its regulator for the queue of its rank's channel, held back while the bucket
lacks its bytes, and for ever at RATE 0; one that crosses a granule or lies outside memory is answered with an address
error. A request that has left its regulator comes after all before it: a read takes its data, a write takes effect. -/
def Obligations.PitAddresses : Prop :=
  (∀ a, a < pitBytes → logicalRank a < 60 ∧ rankOffset a < 1006632960 ∧ rankOffset a / 64 < rankLines ∧
    checkBlock a < rankBlocks ∧ lineAddr (logicalRank a) (rankOffset a / 64) + a % 64 = a) ∧
  (∀ a b, a < pitBytes → b < pitBytes → logicalRank a = logicalRank b → rankOffset a = rankOffset b → a = b) ∧
  (∀ (p : Pit) a, a < pitBytes → (decodePit p a).col < 2048 ∧ (decodePit p a).bank < 16 ∧ (decodePit p a).row < 32768 ∧
    (decodePit p a).line % 16 < 15 ∧ (decodePit p a).phys = p.rankMap.getD (logicalRank a) 0) ∧
  (∀ (s : State) (port addr len ns : Nat) (d : Option (List Byte)) (q f : PitPort),
    s.pit.state = .run → port < 8 → q = portAt s.pit port → q.waiting = [] → f = { fillBucket ns q with issued := q.issued + 1 } →
    f.tokens = min (q.burst * 10240) (q.tokens + ns * q.rate) ∧
    (addressOk addr len = false → exec (.pitRequest port addr len d ns) s = .next { s with pit := { s.pit with
      cause := setBits s.pit.cause [5]
      ports := upd s.pit.ports port (fun _ => respond q.issued { addrErr := true } f) } }) ∧
    (addressOk addr len = true → (10 * len ≤ f.tokens ∨ q.rate ≠ 0) → s.pit.mig = none →
      let route := fun (e : PitReq) => upd s.pit.chans (s.pit.rankMap.getD (logicalRank addr) 0 / 2) (fun x => { x with
        queue := x.queue ++ [e] })
      let ports := upd s.pit.ports port (fun _ => takeTokens len f)
      (d = none → exec (.pitRequest port addr len d ns) s = .next { s with pit := { s.pit with
        ports := ports
        chans := route { port := port, id := q.issued, addr := addr, len := len, resp := {
          data := (upTo len).map (fun i => if s.pit.damaged.contains ((addr + i) / 64) = true then 0
                    else memByte s.pit.mem (addr + i))
          damaged := (upTo len).any (fun i => s.pit.damaged.contains ((addr + i) / 64)) } } } }) ∧
      (∀ b, d = some b → exec (.pitRequest port addr len d ns) s = .next { s with pit := { s.pit with
        ports := ports, mem := memWrite s.pit.mem addr (padTo len b)
        damaged := s.pit.damaged.filter (fun l => !coversLine addr (padTo len b).length l)
        chans := route { port := port, id := q.issued, addr := addr, len := len, data := some b } } })) ∧
    (addressOk addr len = true → f.tokens < 10 * len → q.rate = 0 →
      exec (.pitRequest port addr len d ns) s = .next { s with pit := { s.pit with
        ports := upd s.pit.ports port (fun _ => { f with
          waiting := [{ port := port, id := q.issued, addr := addr, len := len, data := d }] }) } }) ∧
    (10 * len ≤ f.tokens → takeTokens len f = { f with tokens := f.tokens - 10 * len }) ∧
    (f.tokens < 10 * len → q.rate ≠ 0 → (takeTokens len f).held =
      sat32 (q.held + cdiv (5 * cdiv (10 * len - f.tokens) q.rate) 8)) ∧
    (∀ m, s.pit.mig = some m → s.pit.held = [] → m.logical = logicalRank addr →
      routePit s.pit addr = if checkBlock addr < m.m then some m.target
        else if checkBlock addr = m.m then none else some m.source))

/-- R257 to R262, Table 12.2: a channel serves its oldest request, and responses come in the order of issue. A read
returns its data, with every damaged line's bytes zero and flagged; one byte in error is corrected and counted; more
are uncorrectable, which marks the line and fails its rank; an error placed in the address, or a TAG with an even
number of wrong bits, is a command error, which marks the block's lines; a TAG with an odd number is rewritten and
counted; a link error is retried twice, and a write that fails all the same marks its line. Stored bytes do not change.
-/
def Obligations.PitService : Prop :=
  (∀ (s : State) (c ns : Nat) (q : PitReq) (rest : List PitReq) (y : PitPort) (f : PitFault),
    s.pit.state = .run → (chanAt s.pit c).queue = q :: rest → c < s.pit.chans.length → q.port < s.pit.ports.length →
    y = portAt s.pit q.port → y.early = [] → y.answered = q.id →
    ∃ t x, exec (.pitRequestServed c f ns) s = .next t ∧ t = { s with pit := t.pit } ∧ t.pit.mem = s.pit.mem ∧
      (portAt t.pit q.port).resps = [x] ∧ (portAt t.pit q.port).answered = q.id + 1 ∧
      (portAt t.pit q.port).bytes = sat64 (y.bytes + q.len) ∧ (chanAt t.pit c).queue = rest ∧
      (∀ l ∈ s.pit.damaged, l ∈ t.pit.damaged) ∧
      (q.data.isSome = true → x = {}) ∧
      (∀ k, f = { bytes := k } → k ≤ 1 → t.pit.damaged = s.pit.damaged ∧ (q.data = none → x = {
        data := q.resp.data.zipIdx.map (fun b => if s.pit.damaged.contains ((q.addr + b.2) / 64) = true then 0 else b.1)
        damaged := q.resp.damaged || (upTo q.len).any (fun i => s.pit.damaged.contains ((q.addr + i) / 64)) })) ∧
      (f = { bytes := 1 } → (chanAt t.pit c).ce = sat32 ((chanAt s.pit c).ce + 1) ∧ bit (chanAt t.pit c).cause 0 = true) ∧
      (∀ k n, f = { line := k, bytes := n } → 2 ≤ n → (q.addr / 64 + k) ∈ t.pit.damaged ∧
        (chanAt t.pit c).ue = sat16 ((chanAt s.pit c).ue + 1) ∧ bit (chanAt t.pit c).cause 2 = true ∧
        t.pit.queue = (failRank (physOfAddr s.pit q.addr) s.pit).queue ∧
        (q.data = none → 64 * k < q.len → q.addr % 64 = 0 → x.damaged = true)) ∧
      (f = { place := true } → (∀ l ∈ blockLines q.addr, l ∈ t.pit.damaged) ∧
        (chanAt t.pit c).cmdErr = sat16 ((chanAt s.pit c).cmdErr + 1) ∧ bit (chanAt t.pit c).cause 4 = true) ∧
      (∀ k, f = { tag := 2 ^ k } → k < 32 → t.pit.damaged = s.pit.damaged ∧
        (chanAt t.pit c).ce = sat32 ((chanAt s.pit c).ce + 1) ∧ bit (chanAt t.pit c).cause 5 = true) ∧
      (∀ n, f = { tries := n } → 1 ≤ n → n ≤ 2 → t.pit.damaged = s.pit.damaged ∧
        (chanAt t.pit c).linkRetried = sat16 ((chanAt s.pit c).linkRetried + 1) ∧ bit (chanAt t.pit c).cause 1 = true) ∧
      (∀ k n, f = { line := k, tries := n } → 3 ≤ n → bit (chanAt t.pit c).cause 3 = true ∧
        (chanAt t.pit c).ue = sat16 ((chanAt s.pit c).ue + 1) ∧
        (q.data.isSome = true → (q.addr / 64 + k) ∈ t.pit.damaged) ∧ (q.data = none → t.pit.damaged = s.pit.damaged))) ∧
  (∀ (s : State) (c ns : Nat) (f : PitFault), (s.pit.state ≠ .run ∨ (chanAt s.pit c).queue = []) →
    exec (.pitRequestServed c f ns) s = .next s) ∧
  (∀ phys line data, checkWord phys line data true = checkWord phys line data false ^^^ 0x5A5AA5A5)

/-- R267, R268, R270 to R273: refresh at the doubled rate, a timing check, a scrub read, and migration: the oldest rank
that waits moves to the lowest spare, block by block; after the last block the map names the new rank, and the old is
retired. With no spare the rank is degraded. R263, R265, R270, R271, R275, R276: the commands of pit memory and its
counter clear. -/
def Obligations.PitMaintenance : Prop :=
  (∀ (s : State) (r c : Nat) (o : PitFault), s.pit.state = .run →
    (r < 64 → r % 2 = 0 → (chanAt s.pit (r / 2)).hot0 = false → exec (.perBankRefresh r true) s = .next { s with
      pit := { s.pit with cause := setBits s.pit.cause [4]
                          chans := upd s.pit.chans (r / 2) (fun x => { x with hot0 := true }) } }) ∧
    (r < 64 → r % 2 = 1 → exec (.perBankRefresh r false) s = .next { s with
      pit := { s.pit with chans := upd s.pit.chans (r / 2) (fun x => { x with hot1 := false }) } }) ∧
    (c < 32 → exec (.retrainPause c true) s = .next { s with
      pit := { s.pit with chans := upd s.pit.chans c (fun x => { x with pauses := (x.pauses + 1) % 2 }) } }) ∧
    (c < 32 → s.pit.queue = [] → rankSt s.pit (2 * c) = .inService → rankSt s.pit (2 * c + 1) = .inService →
      ∃ t, exec (.retrainPause c false) s = .next t ∧ t.pit.queue = [2 * c, 2 * c + 1] ∧ t.pit.mem = s.pit.mem ∧
        t = { s with pit := t.pit }) ∧
    (s.pit.scrubOn = false → exec (.scrubRead o) s = .next s) ∧
    (s.pit.scrubOn = true → scrubRankFrom s.pit s.pit.scrubRank = some s.pit.scrubRank → s.pit.scrubLine + 1 < rankLines →
      rankSt s.pit s.pit.scrubRank = .inService → exec (.scrubRead {}) s = .next { s with
        pit := { s.pit with scrubLine := s.pit.scrubLine + 1
                            ports := upd s.pit.ports 7 (fun q => { q with bytes := sat64 (q.bytes + 64) })
                            chans := upd s.pit.chans (s.pit.scrubRank / 2) (fun x => x) } }) ∧
    (s.pit.scrubOn = true → scrubRankFrom s.pit s.pit.scrubRank = some s.pit.scrubRank → s.pit.scrubRank < 64 →
      s.pit.rankState.length = 64 → rankSt s.pit s.pit.scrubRank = .spare → ∃ t,
      exec (.scrubRead { bytes := 2 }) s = .next t ∧ rankSt t.pit s.pit.scrubRank = .retired ∧
        bit t.pit.cause 3 = true ∧ t.pit.damaged = s.pit.damaged ∧ t = { s with pit := t.pit }) ∧
    (∀ rest l t, s.pit.mig = none → s.pit.queue = r :: rest → s.pit.rankMap.findIdx? (· == r) = some l →
      lowestSpare s.pit = some t → exec .migrationStart s = .next { s with pit := { s.pit with
        queue := rest, mig := some { logical := l, source := r, target := t, m := 0 }, cause := setBits s.pit.cause [0]
        rankState := upd (upd s.pit.rankState t (fun _ => .target)) r (fun _ => .source) } }) ∧
    (∀ rest l, s.pit.mig = none → s.pit.queue = r :: rest → s.pit.rankMap.findIdx? (· == r) = some l →
      lowestSpare s.pit = none → exec .migrationStart s = .next { s with pit := { s.pit with
        queue := rest, cause := setBits s.pit.cause [2], rankState := upd s.pit.rankState r (fun _ => .degraded) } }) ∧
    (∀ m, s.pit.mig = some m → s.pit.held = [] → m.m + 1 < rankBlocks → exec (.migrationBlockCopy [] false) s = .next { s with
      pit := { s.pit with mig := some { m with m := m.m + 1 }
                          ports := upd s.pit.ports 7 (fun q => { q with bytes := sat64 (q.bytes + 1920) })
                          chans := upd s.pit.chans (m.source / 2) (fun x => x) } }) ∧
    (∀ m i n, s.pit.mig = some m → s.pit.held = [] → m.source / 2 < s.pit.chans.length → i < 15 → 2 ≤ n → ∃ t,
      exec (.migrationBlockCopy [{ line := i, bytes := n }] false) s = .next t ∧ t = { s with pit := t.pit } ∧
        (lineAddr m.logical (15 * m.m + i) / 64) ∈ t.pit.damaged ∧
        (chanAt t.pit (m.source / 2)).ue = sat16 ((chanAt s.pit (m.source / 2)).ue + 1)) ∧
    (∀ m, s.pit.mig = some m → s.pit.held = [] → m.m + 1 = rankBlocks → exec (.migrationBlockCopy [] false) s = .next { s with
      pit := { s.pit with
        ports := upd s.pit.ports 7 (fun q => { q with bytes := sat64 (q.bytes + 1920) })
        chans := upd s.pit.chans (m.source / 2) (fun x => x)
        mig := none, cause := setBits s.pit.cause [1], rankMap := upd s.pit.rankMap m.logical (fun _ => m.target)
        rankState := upd (upd s.pit.rankState m.target (fun _ => .inService)) m.source (fun _ => .retired) } })) ∧
  (∀ (r : Req) (t : Nat) (s u : State),
    (Takes 0x0901 r t s u → exec (.pitStatus r t) s = .next (ended 0x0901 r t
      {
        result := fields [(24, leBytes 4 (pitStat u.pit)), (28, leBytes 4 (pitMigStat u.pit)),
          (32, leBytes 4 (pitMigPtr u.pit)), (36, leBytes 4 (pitScrubStat u.pit))]
        block := some ((upTo 512).flatMap (fun i => leBytes 4 (pitReg u.pit (4 * i)))) } u)) ∧
    (Takes 0x0902 r t s u → b8 r 24 < 64 → b8 r 24 < u.pit.rankState.length → rankSt u.pit (b8 r 24) = .spare →
      exec (.pitRetireRank r t) s = .next (ended 0x0902 r t { result := fields [(24, leBytes 1 4)] }
        { u with pit := { u.pit with cause := setBits u.pit.cause [3]
                                     rankState := upd u.pit.rankState (b8 r 24) (fun _ => .retired) } })) ∧
    (Takes 0x0902 r t s u → b8 r 24 < 64 → rankSt u.pit (b8 r 24) = .inService → u.pit.queue.contains (b8 r 24) = false →
      (lowestSpare u.pit).isSome = true → exec (.pitRetireRank r t) s = .next (ended 0x0902 r t
        { result := fields [(24, leBytes 1 1)] } { u with pit := { u.pit with queue := u.pit.queue ++ [b8 r 24] } })) ∧
    (Takes 0x0902 r t s u → (64 ≤ b8 r 24 ∨ rankSt u.pit (b8 r 24) = .retired ∨ rankSt u.pit (b8 r 24) = .absent ∨
      rankSt u.pit (b8 r 24) = .degraded) → exec (.pitRetireRank r t) s =
        .next (ended 0x0902 r t { status := stBadArg, detail := 2 } u)) ∧
    (Takes 0x0903 r t s u → 400 < b16 r 24 → exec (.pitRegulator r t) s =
        .next (ended 0x0903 r t { status := stBadArg, detail := 2 } u)) ∧
    (∀ v, Takes 0x0903 r t s u → b16 r 24 ≤ 400 → 3 ≤ b16 r 26 → b16 r 26 ≤ 40 → 1 ≤ b16 r 28 → b16 r 28 ≤ 40 →
      5 ≤ b16 r 30 → b16 r 30 ≤ 120 → 4 ≤ b16 r 32 → b16 r 32 ≤ 1024 → 4 ≤ b16 r 34 → b16 r 34 ≤ 1024 → 4 ≤ b16 r 36 →
      b16 r 36 ≤ 1024 → u.pit.ports.length = 8 →
      v = { u with pit := { u.pit with
        migRate := b16 r 30
        ports := upd (upd (upd u.pit.ports
            4 (fun q => { q with rate := b16 r 24, burst := b16 r 32, tokens := min q.tokens (10240 * b16 r 32) }))
            5 (fun q => { q with rate := b16 r 26, burst := b16 r 34, tokens := min q.tokens (10240 * b16 r 34) }))
            6 (fun q => { q with rate := b16 r 28, burst := b16 r 36, tokens := min q.tokens (10240 * b16 r 36) }) } } →
      (ratesOk v = true → exec (.pitRegulator r t) s =
        .next (ended 0x0903 r t {} { v with pit := releaseWaiting 4 v.pit })) ∧
      (ratesOk v = false → u.bun.applying = false → exec (.pitRegulator r t) s =
        .next (ended 0x0903 r t { status := stLimit, detail := 13 } u))) ∧
    (Takes 0x0904 r t s u → b8 r 24 < 2 → 1 ≤ b16 r 26 → b16 r 26 ≤ 168 → exec (.pitScrub r t) s =
      .next (ended 0x0904 r t {} { u with pit := { u.pit with
        scrubOn := decide (b8 r 24 = 1), scrubHours := b16 r 26 } })) ∧
    (dpRun s = true → exec .pitCounterClear s = .next { s with pit := { s.pit with
      ports := s.pit.ports.map (fun q => { q with bytes := 0, held := 0, lat := 0 }), scrubPasses := 0
      chans := s.pit.chans.map (fun x => { x with ce := 0, linkRetried := 0, linkCe := 0, cmdErr := 0, ue := 0 }) } }))

/-- R281, R282, R284, R294, R298, R299, R302, R305, R309, R310, R316: the events of the timing unit: a second boundary,
signals that fail and return, phases, lock, history records, the XO, and the counter clear. R311 to R313: PTP. A Sync
of the grandmaster gives t2 − t1 − c_s, which with the mean path delay is NET's phase; a Delay_Resp to the outstanding
request gives a path delay, the last 16 being kept; messages of others are ignored; the transparent clock adds its
residence time to an event message's correctionField, mends the UDP checksum, or leaves it 0, and computes the frame
check sequence afresh; other messages pass unchanged. -/
def Obligations.TimingSignals : Prop :=
  (∀ (s : State) (i : Nat) (t ns : Nat) (raw : Int),
    exec .ppsOutFall s = .next { s with tu := { s.tu with ppsOut := false } } ∧
    ((candAt s.tu i).state = .disabled → exec (.phaseMeasurement i raw ns) s = .next s) ∧
    (i < 2 → i < s.tu.cands.length → (candAt s.tu i).state = .qualified → (candAt s.tu i).signal = true →
      (candAt s.tu i).resolved = true → s.tu.selected ≠ some i → ∃ v, exec (.phaseMeasurement i raw ns) s = .next v ∧
        (candAt v.tu i).phi = nearTo (ambiguity i (candAt s.tu i).par) (candAt s.tu i).phi (raw - (candAt s.tu i).par.comp) ∧
        (∀ k, k ≠ i → candAt v.tu k = candAt s.tu k) ∧ v = { s with tu := v.tu }) ∧
    (∀ A c x : Int, 0 < A → (nearTo (some (A : Rat)) c x - x) % A = 0 ∧ 2 * (nearTo (some (A : Rat)) c x - c) ≤ A ∧
      - A < 2 * (nearTo (some (A : Rat)) c x - c)) ∧
    (i < 2 → s.tu.cands.length = 7 → (candAt s.tu i).state = .qualified → (candAt s.tu i).signal = true →
      s.tu.selected = none → (∀ k, k < 7 → k ≠ i → (candAt s.tu k).state ≠ .qualified) → ∃ v, exec (.signalFailure i 0) s = .next v ∧
        (candAt v.tu i).state = .failed ∧ (candAt v.tu i).signal = false ∧
        (candAt v.tu i).fails = sat32 ((candAt s.tu i).fails + 1) ∧ bit v.tu.cause 1 = true ∧ bit v.tu.cause 3 = true ∧
        v.tu.selected = none ∧ v = { s with tu := v.tu }) ∧
    (i < 2 → supplyOn s vioT = true → s.tu.cands.length = 7 → (candAt s.tu i).state = .failed →
      s.tu.selected = none → (∀ k, k < 7 → (candAt s.tu k).state ≠ .qualified) →
      ∃ v, exec (.signalRestore i) s = .next v ∧ (candAt v.tu i).state = .qualifying ∧ (candAt v.tu i).signal = true ∧
        (candAt v.tu i).timer = (candAt s.tu i).par.qualTime ∧ v = { s with tu := v.tu }) ∧
    (supplyOn s vioT = true → s.tu.cands.length = 7 → (candAt s.tu 2).signal = true → (candAt s.tu 2).misses = 0 →
      s.tu.selected = none → (∀ k, k < 7 → (candAt s.tu k).state ≠ .qualified) → exec (.ppsEdge 2 none) s = .next { s with
        tu := { s.tu with cands := upd s.tu.cands 2 (fun c => { c with misses := 1 }) } }) ∧
    ((s.tu.out = .acquire ∨ s.tu.out = .switching) → s.tu.u = (s.tu.g : Rat) → s.tu.lockTime * 1000000000 ≤ s.tu.lockNs →
      exec .lockDeclared s = .next { s with tu := { s.tu with out := .locked, cause := setBits s.tu.cause [0] } }) ∧
    (s.tu.out ≠ .acquire → s.tu.out ≠ .switching → exec .lockDeclared s = .next s) ∧
    (∀ mean temp, s.tu.xoLost = true → exec (.historyRecord mean temp) s = .next s) ∧
    (∀ mean temp, s.tu.xoLost = false → s.tu.out = .acquire → s.tu.valid = false → s.tu.loaded = false →
      s.tu.residual = none → exec (.historyRecord mean temp) s = .next { s with tu := { s.tu with
        hist := ({ sec := s.sys.sec, freq := mean, temp := temp, locked := false } :: s.tu.hist).take 10800 } }) ∧
    exec .tempStale s = .next { s with tu := { s.tu with tempStale := true, cause := setBits s.tu.cause [8] } } ∧
    (s.tu.xoLost = false → s.tu.valid = false → exec .xoLost s = .next { s with tu := { s.tu with
      xoLost := true, cause := setBits s.tu.cause [7] } }) ∧
    (supplyOn s vioT = true → s.tu.valid = false → historyValid { s.tu with xoLost := false } = false →
      exec .xoReturn s = .next { s with tu := { s.tu with xoLost := false } }) ∧
    (s.tu.out = .locked → exec (.phaseStepSlewEnd ns) s = .next s) ∧
    (s.tu.out = .freeRun → s.tu.departure ≠ 0 →
      ratAbs s.tu.departure ≤ (s.tu.slope : Rat) * ns * 65536 / 1000000000 → exec (.phaseStepSlewEnd ns) s = .next { s with
        tu := { s.tu with departure := 0, freq := 0 - modelTemp s.tu.model s.tu.temp / 1000000000000 } }) ∧
    exec .tuCounterClear s = .next { s with tu := { s.tu with
      switches := 0, holdoverS := 0, coarse := 0, steps := 0
      cands := s.tu.cands.map (fun c => { c with fails := 0, drifts := 0 })
      ptp := { s.tu.ptp with syncRx := 0, outliers := 0, tcFwd := 0, tcDrop := 0 } } }) ∧
  (∀ (s : State) (port sender seq ns : Nat) (two : Bool) (t1 t2 t3 t4 cs cr log : Int)
    (a : Announce) (f : List Byte) (p : Nat),
    (ptpTakes s.tu.ptp.cfg a.port a.domain a.majorSdo a.transport = false → exec (.ptpAnnounce a) s = .next s) ∧
    (ptpTakes s.tu.ptp.cfg a.port a.domain a.majorSdo a.transport = true → s.tu.ptp.masters = [] → s.tu.ptp.gm = none →
      s.tu.cands.length = 7 → (candAt s.tu 6).signal = false → (∀ k, k < 7 → (candAt s.tu k).state ≠ .qualified) →
      s.tu.selected = none → s.tu.ptp.utc = a.utc → ∃ v, exec (.ptpAnnounce a) s = .next v ∧ v.tu.ptp.masters = [a] ∧
        v.tu.ptp.gm = some a ∧ bit v.tu.ptp.cause 0 = true ∧ v = { s with tu := v.tu }) ∧
    (fromMaster s.tu port sender = false → exec (.ptpSync port sender two t1 t2 cs log ns) s = .next s) ∧
    (fromMaster s.tu port sender = true → s.tu.ptp.delays = [] → exec (.ptpSync port sender two t1 t2 cs log ns) s = .next
      { s with tu := { s.tu with ptp := { s.tu.ptp with lastMs := some (t2 - t1 - cs), twoStep := two, syncLog := log } } }) ∧
    (fromMaster s.tu port sender = true → s.tu.ptp.delays ≠ [] → s.tu.ptp.accepted = [] → (candAt s.tu 6).signal = false →
      ∃ v, exec (.ptpSync port sender two t1 t2 cs log ns) s = .next v ∧ v.tu.ptp.accepted =
          [ratRound (((t2 - t1 - cs : Int) : Rat) - pathDelay s.tu.ptp) - (candAt s.tu 6).par.comp] ∧
        v.tu.ptp.syncRx = sat32 (s.tu.ptp.syncRx + 1) ∧ v.tu.cands = s.tu.cands ∧ v = { s with tu := v.tu }) ∧
    (∀ m, s.tu.ptp.reqT3 = some t3 → s.tu.ptp.lastMs = some m → fromMaster s.tu port sender = true →
      exec (.ptpDelayResp port sender s.tu.ptp.reqSeq t4 cr log) s = .next { s with tu := { s.tu with ptp := { s.tu.ptp with
        delays := (((m + (t4 - t3 - cr) : Int) : Rat) / 2 :: s.tu.ptp.delays).take 16
        reqT3 := none, delayLog := log } } }) ∧
    (seq ≠ s.tu.ptp.reqSeq → exec (.ptpDelayResp port sender seq t4 cr log) s = .next s) ∧
    (s.tu.ptp.gm.isSome = true → exec (.ptpDelayReqSend t3) s = .next { s with tu := { s.tu with ptp := { s.tu.ptp with
      reqSeq := (s.tu.ptp.reqSeq + 1) % 65536, reqT3 := some t3 } } }) ∧
    (s.tu.ptp.gm = none → exec (.ptpDelayReqSend t3) s = .next s) ∧
    (s.tu.ptp.cfg.tcEnable = true → (ptpAt f).isSome = true → tcEvent f = true →
      exec (.ptpTcForward port f cr) s = .next { s with tu := { s.tu with ptp := { s.tu.ptp with
        forwarded := some (1 - port % 2, withTrailer (tcFrame cr f)), tcFwd := sat32 (s.tu.ptp.tcFwd + 1) } } }) ∧
    (s.tu.ptp.cfg.tcEnable = true → (ptpAt f).isSome = true → tcEvent f = false →
      exec (.ptpTcForward port f cr) s = .next { s with tu := { s.tu with ptp := { s.tu.ptp with
        forwarded := some (1 - port % 2, withTrailer f) } } }) ∧
    ((s.tu.ptp.cfg.tcEnable = false ∨ ptpAt f = none) → exec (.ptpTcForward port f cr) s = .next s) ∧
    (s.tu.ptp.cfg.tcEnable = false → exec .ptpTcDrop s = .next s) ∧
    (beAt f 12 2 = 0x88F7 → u8 f 14 % 16 ≤ 1 → tcFrame cr f =
      overlay f 22 (beBytes 8 (wrap 64 (signed 64 (beAt f 22 8) + cr)))) ∧
    (∀ c new, ptpAt f = some (p, some c) → u8 f p % 16 ≤ 1 →
      new = beBytes 8 (wrap 64 (signed 64 (beAt f (p + 8) 8) + cr)) →
      tcFrame cr f = overlay (overlay f (p + 8) new) c
        (beBytes 2 (newChecksum (beAt f c 2) (netWords ((f.drop (p + 8)).take 8)) (netWords new)))) ∧
    newChecksum 0 (netWords f) (netWords f) = 0 ∧
    (s.tu.ptp.cfg.tcEnable = true → exec .ptpTcDrop s = .next { s with tu := { s.tu with ptp := { s.tu.ptp with
      tcDrop := sat32 (s.tu.ptp.tcDrop + 1), cause := setBits s.tu.ptp.cause [4] } } }))

/-- R289, R290, R296: the selected candidate is the QUALIFIED one of best quality level, then lowest priority number,
then lowest number; it is replaced when it is no longer QUALIFIED, when reversion is on, or when its quality became
worse. A retarget takes U from the new candidate's phase, so that no output jumps, and counts a switch. R300, R305,
R310: a second boundary: array time moves to the next second, or to the second that a TIME_SET waits with, NS is 0,
PPS_OUT and the CLKOUTs that are on rise while VIN is in range and VIO_T present, and in HOLDOVER or FREE_RUN the
holdover second is counted. -/
def Obligations.TimingReference : Prop :=
  (∀ (u : Tu) (sec k : Nat),
    (bestCand u = none ↔ ∀ i, i < 7 → (candAt u i).state ≠ .qualified) ∧
    (bestCand u = some k → k < 7 ∧ (candAt u k).state = .qualified ∧ ∀ i, i < 7 → (candAt u i).state = .qualified →
      candQl u k < candQl u i ∨ (candQl u k = candQl u i ∧ ((candAt u k).par.priority < (candAt u i).par.priority ∨
        ((candAt u k).par.priority = (candAt u i).par.priority ∧ k ≤ i)))) ∧
    (u.selected = some k → (candAt u k).state = .qualified → bestCand u = some k → reselect sec u u = u) ∧
    (∀ j, u.selected = some k → (candAt u k).state = .qualified → bestCand u = some j → j ≠ k → u.revertive = false →
      reselect sec u u = u) ∧
    (∀ j, u.selected = some k → bestCand u = some j → j ≠ k → u.revertive = true → reselect sec u u = retarget j u) ∧
    ((retarget k u).selected = some k ∧ (retarget k u).u = ((candAt u k).phi : Rat) ∧
      (retarget k u).switches = sat32 (u.switches + 1) ∧ (retarget k u).freq = u.freq ∧ (retarget k u).integ = u.integ ∧
      (timeCand k = true → (retarget k u).g = u.userOff) ∧ (timeCand k = false → (retarget k u).g = (candAt u k).phi) ∧
      ((retarget k u).out = .acquire ↔ (u.out = .freeRun ∨ u.out = .acquire)) ∧
      ((retarget k u).out = .switching ↔ (u.out ≠ .freeRun ∧ u.out ≠ .acquire)))) ∧
  (∀ (s : State) (ns t : Nat), ∃ v, exec (.tuSecondEvaluation ns t) s = .next v ∧
    (s.tu.setSec = none → v.sys.sec = (s.sys.sec + 1) % 2 ^ 48 ∧ v.sys.ns = 0 ∧ v.tu.frac = 0) ∧
    v.tu.ppsOut = outputsDriven s ∧ v.tu.outHeld = false ∧
    v.tu.clkOut = [outputsDriven s && clkRises s.tu.clkA 0, outputsDriven s && clkRises s.tu.clkB 0] ∧
    (outputsDriven s = true ↔ supplyOn s vin = true ∧ supplyOn s vioT = true ∧ s.pwr.shutOff = false) ∧
    (∀ x, s.tu.setSec = some x → v.sys.sec = x ∧ v.sys.ns = 0 ∧ v.tu.setSec = none ∧
      bit v.tu.cause 6 = true))

/-- R283, R293, R297, R298, R300, R308, R315: the commands of the timing unit. -/
def Obligations.TimingCommands : Prop :=
  ∀ (r : Req) (t : Nat) (s u : State),
    (Takes 0x0A01 r t s u → b8 r 24 = 0 → b8 r 25 ≤ 1 → b8 r 26 ≤ 4 → b8 r 27 ≤ 4 → 1 ≤ b32 r 28 → b32 r 28 ≤ 500000 →
      r.arg = [] → u.tu.selected = none → (∀ k, k < 7 → (candAt u.tu k).state ≠ .qualified) →
      exec (.timeRefs r t) s = .next (ended 0x0A01 r t {} { u with tu := { u.tu with
        revertive := decide (b8 r 25 = 1), clkA := b8 r 26, clkB := b8 r 27, ppsWidth := b32 r 28 } })) ∧
    (Takes 0x0A02 r t s u → b8 r 24 ≤ 20 → b8 r 25 ≤ 5 → b8 r 26 ≤ 20 → b8 r 27 ≤ 20 → b8 r 28 ≤ 20 → b8 r 29 ≤ 5 →
      b8 r 30 ≤ 20 → b8 r 31 ≤ 20 → b8 r 32 = 255 → b8 r 33 = 0 → 1 ≤ b16 r 34 → b16 r 34 ≤ 10000 → 1 ≤ b32 r 36 →
      b32 r 36 ≤ 1000000 → 1 ≤ b32 r 40 → b32 r 40 ≤ 3600 → 1000 ≤ b32 r 44 → b32 r 44 ≤ 1000000000 →
      exec (.timeLoop r t) s = .next (ended 0x0A02 r t {} { u with tu := { u.tu with
        service := [b8 r 24, b8 r 25, b8 r 26, b8 r 27], acquire := [b8 r 28, b8 r 29, b8 r 30, b8 r 31], override := none
        slope := b16 r 34, lockThr := b32 r 36, lockTime := b32 r 40, jumpThr := b32 r 44 } })) ∧
    (∀ x, Takes 0x0A03 r t s u → b8 r 28 = 0 → x = signed 32 (b32 r 24) → (u.tu.userOff + x).natAbs ≤ secUnits →
      u.tu.out = .locked → exec (.timePhaseStep r t) s = .next (ended 0x0A03 r t
        { result := fields [(24, leBytesI 8 (u.tu.userOff + x))] } { u with tu := { u.tu with
          userOff := u.tu.userOff + x, steps := sat32 (u.tu.steps + 1), g := u.tu.g + x } })) ∧
    (Takes 0x0A03 r t s u → b8 r 28 = 0 → secUnits < (u.tu.userOff + signed 32 (b32 r 24)).natAbs →
      exec (.timePhaseStep r t) s = .next (ended 0x0A03 r t { status := stLimit } u)) ∧
    (Takes 0x0A04 r t s u → b8 r 24 = 0 → u.tu.selected ≠ some 6 → exec (.timeSet r t) s =
      .next (staysOpen 0x0A04 r t .staged 0 [] { u with tu := { u.tu with setSec := some (b48 r 32) } })) ∧
    (Takes 0x0A04 r t s u → b8 r 24 = 1 → b32 r 38 ≤ 999999999 → u.tu.selected = none → u.hop.running = false →
      exec (.timeSet r t) s = .next (ended 0x0A04 r t {} (setTime (b48 r 32) (b32 r 38) (b16 r 42) u)) ∧
      (setTime (b48 r 32) (b32 r 38) (b16 r 42) u).sys.sec = b48 r 32 ∧
      (setTime (b48 r 32) (b32 r 38) (b16 r 42) u).sys.ns = b32 r 38 ∧
      (setTime (b48 r 32) (b32 r 38) (b16 r 42) u).tu.frac = b16 r 42) ∧
    (Takes 0x0A04 r t s u → b8 r 24 = 0 → u.tu.selected = some 6 → exec (.timeSet r t) s =
      .next (ended 0x0A04 r t { status := stNotInState } u)) ∧
    (Takes 0x0A05 r t s u → ∃ reply, exec (.timeStatus r t) s = .next (ended 0x0A05 r t reply u) ∧ reply.status = stOk ∧
      reply.block = some ((upTo 140).flatMap (fun i => leBytes 4 (tuReg u (4 * i)))) ∧
      (reply.result.drop 4).take 6 = leBytes 6 u.sys.sec) ∧
    (Takes 0x0A06 r t s u → b8 r 24 = u.tu.ptp.cfg.domain → b8 r 24 ≤ 127 → b8 r 25 = u.tu.ptp.cfg.majorSdo → b8 r 25 ≤ 15 →
      b8 r 26 = u.tu.ptp.cfg.ports → b8 r 26 < 4 → b8 r 26 ≠ 0 → b8 r 27 < 4 → b8 r 27 ≠ 0 → 2 ≤ b8 r 28 → b8 r 28 ≤ 10 →
      b8 r 29 ≤ 1 → b8 r 30 ≤ 1 → 100 ≤ b32 r 32 → b32 r 32 ≤ 1000000 → u.tu.ptp.masters = [] → u.tu.ptp.gm = none →
      u.tu.selected = none → (∀ k, k < 7 → (candAt u.tu k).state ≠ .qualified) →
      exec (.ptpConfig r t) s = .next (ended 0x0A06 r t {} { u with tu := { u.tu with ptp := { u.tu.ptp with
        cfg := { domain := b8 r 24, majorSdo := b8 r 25, ports := b8 r 26, transports := b8 r 27
                 announceTimeout := b8 r 28, qlMode := b8 r 29, tcEnable := decide (b8 r 30 = 1), netWin := b32 r 32 } } } })) ∧
    (Takes 0x0A07 r t s u → b8 r 24 = 0 → exec (.holdoverModel r t) s = .next (ended 0x0A07 r t
      { result := holdReply u.tu 0 (b2n u.tu.valid) } u)) ∧
    (∀ v, Takes 0x0A07 r t s u → b8 r 24 = 3 → 1 ≤ b8 r 56 → b8 r 56 ≤ 48 → b8 r 57 ≤ 32 → 10 ≤ b16 r 58 → b16 r 58 ≤ 2880 →
      1 ≤ b32 r 60 → b32 r 60 ≤ 100000 → u.tu.out = .locked → v = recheck { u.tu with
        holdLearn := b8 r 56, tempInput := b8 r 57, holdMin := b16 r 58, holdRes := b32 r 60 } →
      exec (.holdoverModel r t) s = .next (ended 0x0A07 r t { result := holdReply v 3 (b2n v.valid) } { u with tu := v }))

/-- R319 to R324, R326 to R328, R336: shifts. A trigger relinquishes the shift of the core on it: with the other core
READY that one comes in, booting from its ROM, and no core is on shift meanwhile; with no core left the device is DOWN;
a PLANNED relinquish waits for every command's commit point. A journal entry whose CRC is wrong counts as absent. Table
14.3, Table 14.4: the incoming core takes the shift, or fails; a repair pass ends READY, with the shift number
recorded, or FAULTY. A persistent record is appended to the current sector of its area. -/
def Obligations.ShiftChanges : Prop :=
  ∀ (s : State) (c reason ms agent v t : Nat) (bad : List LogFault),
    (c < 2 → s.shift.onShift = c → s.shift.core.length = 2 → coreAt s c = .onShift → coreAt s (1 - c) = .ready →
      reason ≠ 1 → relinquish reason s = { s with
        shift := { s.shift with
          core := upd (upd s.shift.core c (fun _ => .relinquished)) (1 - c) (fun _ => .booting)
          relinq := upd s.shift.relinq c (fun n => min 15 (n + 1)), lastReason := reason
          coreMem := upd s.shift.coreMem (1 - c) (fun _ => [])
          cause := setBits s.shift.cause [0], onShift := 2, incoming := some (1 - c) }
        hst := { s.hst with jobs := [], expRunning := false }
        pwr := { s.pwr with remap := upd s.pwr.remap (1 - c) (fun _ => false) } }) ∧
    (c < 2 → s.shift.onShift = c → s.shift.core.length = 2 → coreAt s c = .onShift → coreAt s (1 - c) = .faulty →
      (relinquish 1 s).shift.onShift = 2 ∧ (relinquish 1 s).shift.incoming = none ∧
      coreAt (relinquish 1 s) c = .repair ∧ (relinquish 1 s).shift.lastReason = 1 ∧
      bit (relinquish 1 s).shift.cause 4 = true) ∧
    (s.shift.onShift < 2 → ms < s.shift.wdtLeft → exec (.watchdogExpiry ms) s = .next { s with
      shift := { s.shift with wdtLeft := s.shift.wdtLeft - ms } }) ∧
    (s.shift.onShift < 2 → s.shift.wdtLeft ≤ ms → exec (.watchdogExpiry ms) s = .next (withBell (relinquish 1) s)) ∧
    (s.shift.onShift < 2 → agent = s.shift.onShift + 1 → exec (.shiftWdtKick agent) s = .next { s with
      shift := { s.shift with wdtLeft := s.shift.wdtCfg } }) ∧
    (agent ≠ s.shift.onShift + 1 → exec (.shiftWdtKick agent) s = .next s) ∧
    (s.shift.onShift < 2 → agent = s.shift.onShift + 1 → v % 16 = 3 →
      exec (.shiftRelinquish agent v t) s = .next (withBell (relinquish 3) s)) ∧
    (s.shift.onShift < 2 → agent = s.shift.onShift + 1 → v % 16 = 6 → exec (.shiftRelinquish agent v t) s = .next (withBell
      (fun x => if allCommitted x = true then relinquish 6 (commitOpen (isOp 0x0D02) t x) else x) s)) ∧
    (s.shift.onShift < 2 → agent = s.shift.onShift + 1 → (v % 16 = 0 ∨ 7 < v % 16) →
      exec (.shiftRelinquish agent v t) s = .next (withBell discardInput s)) ∧
    (allCommitted s = true ↔ ∀ o ∈ s.cages.openCmds, isOp 0x0D02 o = true ∨ o.phase = .committed) ∧
    (agent ≠ s.shift.onShift + 1 → exec (.shiftRelinquish agent v t) s = .next (withBell (fun x => x) s)) ∧
    (s.shift.onShift < 2 → exec .coreMemUe s = .next (withBell (relinquish 2) s) ∧
      exec .busHang s = .next (withBell (relinquish 7) s) ∧ exec (.selfTest false) s = .next (withBell (relinquish 4) s)) ∧
    exec (.selfTest true) s = .next s ∧
    (s.shift.incoming = some c → exec .takeoverFailed s = .next (withBell (takeoverFail c) s)) ∧
    (s.shift.incoming = some c → exec (.takeoverComplete t bad) s = .next (withBell (takeOver c t bad) s)) ∧
    (∀ o x, bad = [.journal o.req.client o.req.tag x] → s.cages.openCmds = [o] → recordBad x (journalEntry o) = true →
      (dropJournal bad s).cages.openCmds = [] ∧ (dropJournal bad s).shift.logBad = true) ∧
    dropJournal [] s = s ∧
    (s.shift.incoming = none → exec .takeoverFailed s = .next s ∧ exec (.takeoverComplete t bad) s = .next s) ∧
    (c < 2 → s.shift.core.length = 2 → coreAt s (1 - c) = .relinquished → (takeShift c s).shift.onShift = c ∧
      (takeShift c s).shift.incoming = none ∧ coreAt (takeShift c s) c = .onShift ∧
      coreAt (takeShift c s) (1 - c) = .repair ∧ (takeShift c s).shift.count = sat32 (s.shift.count + 1) ∧
      (takeShift c s).shift.shiftNo = s.shift.shiftNo + 1 ∧
      (takeShift c s).cages = s.cages ∧ (takeShift c s).lanes = s.lanes ∧ (takeShift c s).hop = s.hop) ∧
    (c < 2 → s.shift.core.length = 2 → coreAt s c = .repair → s.shift.onShift < 2 → s.shift.relinq.getD c 0 < 3 →
      repairEnd c true s = { s with shift := { s.shift with
        core := upd s.shift.core c (fun _ => .ready), coreLog := upd s.shift.coreLog c (fun _ => s.shift.shiftNo) } } ∧
      exec (.repairPassEnd c true) s = .next (withBell (repairEnd c true) s)) ∧
    (c < 2 → s.shift.onShift < 2 → repairEnd c false s = { s with shift := { s.shift with
      core := upd s.shift.core c (fun _ => .faulty), cause := setBits s.shift.cause [2] } }) ∧
    (∀ k, k < 15 → s.shift.onShift < 2 → supplyOn s vioM = true → s.hst.seq.getD k 0 ≠ 0 →
      s.shift.seqRec.getD k none ≠ some (s.hst.seq.getD k 0 / 2 ^ 32) → exec (.persistRecordWrite k) s = .next { s with
        shift := { s.shift with
          seqRec := upd s.shift.seqRec k (fun _ => some (s.hst.seq.getD k 0 / 2 ^ 32))
          flash := appendRecord k (s.hst.seq.getD k 0 / 2 ^ 32) s.shift.flash } }) ∧
    (∀ (k n : Nat) (f : Flash), (areaOk f = false → appendRecord k n f = f ∧ persisted f k = none) ∧
      (areaOk f = true → (f.sectors.getD f.sector []).length < sectorSize f / 32 → appendRecord k n f =
        { f with sectors := upd f.sectors f.sector (fun l => l ++ [persistRecord (nextCount f) k n]) }) ∧
      (persistRecord (nextCount f) k n).length = 32) ∧
    (2 ≤ s.shift.onShift → exec (.persistRecordWrite v) s = .next s)

/-- R331, R438, Tables 14.6, 14.7: resets. Every reset line and request leaves the device held, no command running and
every register of DP, IO and CTL at its reset value (a DOWN device takes RESET_REQ from the host alone), while array
time, the stream numbers, the flash and the boot ledger stay; a cold reset takes those too, but for the flash. -/
def Obligations.Resets : Prop :=
  ∀ (s : State) (v cause agent : Nat),
    (s.shift.held = .none → supplyOn s vioM = true → exec .hrstNAssert s = .next (hardReset 1 s)) ∧
    (s.shift.held ≠ .none → exec .hrstNAssert s = .next s) ∧
    exec .porstNAssert s = .next (coldReset s) ∧
    (s.shift.held = .none → v % 256 = 0xA5 → agentReaches s agent = true → (agent = 0 ∨ s.shift.onShift ≠ 3) →
      exec (.resetReq agent v) s = .next (hardReset 3 s)) ∧
    (agentReaches s 0 = true) ∧
    ((v % 256 ≠ 0xA5 ∨ agentReaches s agent = false ∨ (agent ≠ 0 ∧ s.shift.onShift = 3)) →
      exec (.resetReq agent v) s = .next s) ∧
    exec .vauxLoss s = .next (coldReset (loseSupply vaux s)) ∧
    ((hardReset cause s).shift.held = .hard ∧ (hardReset cause s).shift.resetCause = cause ∧
      (hardReset cause s).shift.hardResets = min 65535 (s.shift.hardResets + 1) ∧
      (hardReset cause s).hop = {} ∧ (hardReset cause s).aba = {} ∧ (hardReset cause s).beams = {} ∧
      (hardReset cause s).tal = {} ∧ (hardReset cause s).assay = {} ∧ (hardReset cause s).ayr = List.replicate 4 {} ∧
      (hardReset cause s).con = {} ∧ (hardReset cause s).sys.dp = .off ∧ (hardReset cause s).sys.sram = [] ∧
      (hardReset cause s).pit.mem = [] ∧ (hardReset cause s).bun.active = none ∧
      (hardReset cause s).cages.openCmds = [] ∧ (hardReset cause s).cages.fetched = []) ∧
    ((hardReset cause s).sys.sec = s.sys.sec ∧ (hardReset cause s).sys.ns = s.sys.ns ∧
      (hardReset cause s).hst.seq = s.hst.seq ∧ (hardReset cause s).bun.slots = s.bun.slots ∧
      (hardReset cause s).shift.flash = s.shift.flash ∧ (hardReset cause s).shift.lastKind = cause ∧
      (hardReset cause s).trig = {} ∧ (hardReset cause s).hst.lastSent = s.hst.lastSent ∧
      (hardReset cause s).pwr.sleepHold = s.pwr.sleepHold ∧ (hardReset cause s).lanes.records = s.lanes.records ∧
      (hardReset cause s).pit.rankMap = s.pit.rankMap ∧ (hardReset cause s).pit.rankState = s.pit.rankState ∧
      (hardReset cause s).sys.faultMask = s.sys.faultMask ∧ (hardReset cause s).tu = s.tu ∧
      (hardReset cause s).mon = s.mon ∧ (hardReset cause s).pending = s.pending) ∧
    ((coldReset s).shift.held = .cold ∧ (coldReset s).shift.cold = true ∧ (coldReset s).sys = {} ∧ (coldReset s).tu = {} ∧
      (coldReset s).mon = {} ∧ (coldReset s).hst = {} ∧ (coldReset s).lanes = {} ∧ (coldReset s).bun.slots = s.bun.slots ∧
      (coldReset s).shift.flash = s.shift.flash ∧ (coldReset s).trig = {} ∧ (coldReset s).pending = s.pending)

/-- R332 to R335, R339, Table 14.7: a released device boots from S0 on one core; each stage, ended, starts the next or
the one that its failure leads to, and leaves its result; S7 puts the core on shift and opens the cages; the return to
Run, which tests the frames, closes the records found open, brings the lanes up, and serves the bundle or holds it. -/
def Obligations.BootStages : Prop :=
  ∀ (s : State) (dur t now pass : Nat) (c : Nat) (area : Bool) (bad : List RegionRec),
    (s.shift.held ≠ .none → supplyOn s vin = true → s.pwr.shutOff = false → ∃ v, exec .resetRelease s = .next v ∧
      v.shift.held = .none ∧ v.shift.stage = 0 ∧ v.shift.done = false ∧ v.shift.dev = .booting ∧ v.shift.onShift = 2 ∧
      v.shift.boots = sat32 (s.shift.boots + 1)) ∧
    (s.shift.held = .none → exec .resetRelease s = .next s) ∧
    (bootingCore s = some c → s.shift.stage = 0 → exec (.bootS0 true dur) s =
      .next (withBell (fun x => afterS0 (timeNow x) (endStage 0 1 dur x)) s) ∧
      exec (.bootS0 false dur) s = .next (withBell (fun x => s0Failed c (endStage 0 3 dur x)) s)) ∧
    (atStage 1 s = true → exec (.bootS1 true dur) s = .next (withBell (fun x =>
        enterStage 2 (endStage 1 1 dur (if bit x.shift.altered 1 = true then loseXo x else x))) s)) ∧
    (atStage 1 s = true → bit s.shift.altered 1 = false → ∃ v, exec (.bootS1 false dur) s = .next v ∧
      v.shift.dev = .halted ∧ v.shift.results = upd s.shift.results 1 (fun _ => 3)) ∧
    (atStage 2 s = true → ∃ v, exec (.bootS2 [] 0 dur) s = .next v ∧ v.pit.mem = [] ∧ v.pit.state = .run ∧ v.pit.damaged = [] ∧
      (v.shift.stage = 3 ∨ (v.shift.stage = 7 ∧ v.shift.bootTo = .noPit))) ∧
    (∀ fails k, atStage 2 s = true → k < 32 → k < s.pit.chans.length → ∃ v, exec (.bootS2 fails 0 dur) s = .next v ∧
      (chanAt v.pit k).trained = !(fails.contains (2 * k) && fails.contains (2 * k + 1))) ∧
    (atStage 3 s = true → exec (.bootS3 false area dur) s = .next (withBell (fun x =>
      skipTo .noBundle (endStage 3 3 dur (readRecords (area && supplyOn x vioM) x))) s)) ∧
    (atStage 3 s = true → firmwareOk s.shift.flash = false → exec (.bootS3 true area dur) s = .next (withBell (fun x =>
      skipTo .noBundle (endStage 3 3 dur (readRecords (area && supplyOn x vioM) x))) s)) ∧
    (let slot := (if bit s.shift.altered 3 = true then 1 - s.shift.slot % 2 else s.shift.slot % 2)
      let raw := s.bun.slots.getD slot []
      ∀ b, slotBundle s = some b ↔
        (slotMatches s.shift.flash slot raw = true ∧ headerOk raw (raw.length - 64) = true ∧ bundleOf raw = .ok b)) ∧
    (∀ f k image, imageMatches f k image = true ↔ f.magic = 0x4F5A4644 ∧ f.version = 1 ∧ image.length = f.lens.getD k 0 ∧
      digest128 image = f.digests.getD k []) ∧
    (atStage 4 s = true → exec (.bootS4 false 0 dur t) s = .next (withBell (fun x =>
      skipTo .noData (endStage 4 3 dur x)) s)) ∧
    (atStage 5 s = true → lanesSettled s = false → exec (.bootS5 dur) s = .next s) ∧
    (atStage 5 s = true → lanesSettled s = true → s.lanes.lane.all (fun l => !l.rxEnabled) = true → s.bun.coming = none →
      exec (.bootS5 dur) s = .next (withBell (fun x => enterStage 6 (endStage 5 1 dur { x with shift := { x.shift with s5 := 1 } })) s)) ∧
    (atStage 6 s = true → s.tu.out = .locked → exec (.bootS6 false dur) s = .next (withBell (fun x =>
      enterStage 7 (endStage 6 1 dur x)) s)) ∧
    (atStage 6 s = true → s.tu.out ≠ .locked → exec (.bootS6 true dur) s = .next (withBell (fun x =>
      enterStage 7 (endStage 6 2 dur x)) s)) ∧
    (bootingCore s = some c → c < 2 → s.shift.stage = 7 → s.shift.bootTo = .noBundle → s.shift.core.length = 2 →
      ∃ v, exec (.bootS7 now dur) s = .next v ∧ v.shift.done = true ∧ v.shift.onShift = c ∧ v.shift.dev = .noBundle ∧
        v.bun.coming = none ∧ coreAt v c = .onShift ∧ v.shift.shiftNo = s.shift.shiftNo + 1 ∧
        (coreAt s (1 - c) = .relinquished → coreAt v (1 - c) = .repair)) ∧
    (∀ k, k < s.shift.stages.length → (stageRec (enterStage k s) k).result = 3 ∧
      (stageRec (enterStage k s) k).failures = sat32 ((stageRec s k).failures + 1) ∧
      (stageRec (endStage k 1 dur (enterStage k s)) k).result = 1) ∧
    ((coreAt s (1 - c) = .off ∨ coreAt s (1 - c) = .ready) → c < 2 → s.shift.core.length = 2 → s.shift.bootResume = none →
      (bootTrigger c 4 s).shift.stage = 0 ∧ (bootTrigger c 4 s).shift.bootResume = some s.shift.stage ∧
      coreAt (bootTrigger c 4 s) (1 - c) = .booting) ∧
    (bit s.shift.ran 7 = false → retryNow s 7 = false) ∧
    (∀ k, bootingCore s = none → k < 8 → atStage k s = false ∧ exec (.bootS7 now dur) s = .next s) ∧
    ((enterStage 3 s).shift.stage = 3 ∧ bit (enterStage 3 s).shift.ran 3 = true ∧ (endStage 3 2 dur s).shift.results =
      upd s.shift.results 3 (fun _ => 2) ∧ bit (endStage 3 3 dur s).shift.cause 7 = true) ∧
    (s.pwr.returning = none → exec (.dpReturnComplete pass bad now) s = .next s) ∧
    (∀ k, s.pwr.returning = some k → s.pwr.retStep = 0 → s.tal.sweep.isSome = true →
      exec (.dpReturnComplete pass bad now) s = .next (modPwr (fun p => { p with retStep := 1 }) (mapAll pass true s))) ∧
    (∀ k, s.pwr.returning = some k → s.pwr.retStep = 1 → s.tal.sweep.isSome = true →
      exec (.dpReturnComplete pass bad now) s = .next s) ∧
    (∀ k, s.pwr.returning = some k → s.pwr.retStep = 2 → lanesSettled s = false →
      exec (.dpReturnComplete pass bad now) s = .next s) ∧
    (∀ k, s.pwr.returning = some k → s.pwr.retStep = 2 → lanesSettled s = true →
      ∃ v, exec (.dpReturnComplete pass bad now) s = .next v ∧ v.pwr.returning = none ∧ bit v.pwr.cause 2 = true) ∧
    (∀ x, s.bun.coming = none → s.bun.active = some x → returnAdmits x (setCount x) s = false →
      (finishReturn now s).bun.active = none ∧ (finishReturn now s).shift.dev = .noData)

/-- R322, R338, R339, R369, 16 Table 16.9: SHIFT_STATUS, SHIFT_HANDOVER, LEDGER_READ, LEDGER_CLEAR, QUIESCE, RESUME and
DEV_RESET, and the end of DP's way out of Run. -/
def Obligations.ShiftCommands : Prop :=
  ∀ (r : Req) (t : Nat) (s u : State),
    (Takes 0x0D01 r t s u → exec (.shiftStatus r t) s = .next (ended 0x0D01 r t
      { result := fields [(24, leBytes 4 (shiftStat u.shift)), (28, leBytes 4 u.shift.count),
          (32, leBytes 4 (resetCauseReg u.shift)), (36, leBytes 4 (bootStat u.shift))] } u)) ∧
    (Takes 0x0D02 r t s u → coreAt u (1 - u.shift.onShift) = .ready →
      exec (.shiftHandover r t) s = .next (staysOpen 0x0D02 r t .accepted 0 [] u)) ∧
    (Takes 0x0D02 r t s u → coreAt u (1 - u.shift.onShift) ≠ .ready →
      exec (.shiftHandover r t) s = .next (ended 0x0D02 r t { status := stNotInState } u)) ∧
    (Takes 0x0D03 r t s u → b16 r 26 % 4 = 0 → b16 r 24 + b16 r 26 ≤ 16384 → exec (.ledgerRead r t) s =
      .next (ended 0x0D03 r t { block := some (((ledgerBytes u).drop (b16 r 24)).take (b16 r 26)) } u)) ∧
    (Takes 0x0D04 r t s u → b32 r 24 = 0x434C5231 → exec (.ledgerClear r t) s = .next (ended 0x0D04 r t {}
      { u with lanes := { u.lanes with records := List.replicate 64 {} }, sys := { u.sys with faultMask := 0 }
               shift := { u.shift with stages := List.replicate 8 {}, s5 := 0, trained := List.replicate 32 false } })) ∧
    (Takes 0x0D04 r t s u → b32 r 24 ≠ 0x434C5231 → exec (.ledgerClear r t) s =
      .next (ended 0x0D04 r t { status := stBadArg, detail := 2 } u)) ∧
    (Takes 0x0D05 r t s u → b8 r 24 ≤ 1 → dpRun u = true → u.pwr.leaving = none → u.pwr.returning = none →
      exec (.quiesce r t) s = .next (staysOpen 0x0D05 r t .staged 0 [] { u with
        hst := { u.hst with flushing := true }
        pwr := { u.pwr with leaving := some .quiesce, force := decide (b8 r 24 = 1) } })) ∧
    (Takes 0x0D06 r t s u → dpRun u = true → u.aba.state = .drained → u.pwr.leaving = none → u.pwr.returning = none →
      exec (.resume r t) s = .next (ended 0x0D06 r t { result := fields [(24, leBytes 1 u.shift.dev.code)] }
        { u with aba := { u.aba with resumePending := true } })) ∧
    (Takes 0x0D06 r t s u → u.sys.dp = .quiesce → tooHot u = false → ∃ v, exec (.resume r t) s =
      .next (staysOpen 0x0D06 r t .committed 0 [] v) ∧ v.sys.dp = .run ∧ v.shift.resetCause = 5 ∧ v.shift.lastKind = 5 ∧
      v.pwr.returning = some .quiesce ∧ v.pwr.retStep = 0 ∧ v.pit.state = .run) ∧
    (Takes 0x0103 r t s u → b8 r 24 = 0 → b32 r 28 = u.shift.boots → exec (.devReset r t) s = .next (resetNow
      (ended 0x0103 r t {} { u with shift := { u.shift with resetDue := true } }))) ∧
    (Takes 0x0103 r t s u → b8 r 24 = 1 → b32 r 28 = u.shift.boots → dpRun u = true → u.pwr.leaving = none →
      u.pwr.returning = none → tooHot u = false → u.shift.resetDue = false → exec (.devReset r t) s =
        .next (staysOpen 0x0103 r t .staged 0 [] { u with hst := { u.hst with flushing := true }
                                                          pwr := { u.pwr with leaving := some .restart, force := false } })) ∧
    (s.pwr.leaving = none → exec (.dpQuiesced t) s = .next s) ∧
    (s.pwr.leaving = some .quiesce → s.hst.flushing = false → s.aba.state ≠ .draining → promotionsDone s = true →
      pitIdle s.pit = true → ∃ v, exec (.dpQuiesced t) s = .next v ∧ v.sys.dp = .quiesce ∧
        v.pwr.leaving = none ∧ bit v.pwr.cause 1 = true ∧ v.hop = {} ∧ v.pit.state = .selfRefresh ∧
        (s.tal.jobs = [] → v.pit.mem = s.pit.mem)) ∧
    (∀ k, s.pwr.leaving = some k → (s.hst.flushing = true ∨ s.aba.state = .draining ∨ promotionsDone s = false ∨
      pitIdle s.pit = false) → exec (.dpQuiesced t) s = .next s) ∧
    (s.pwr.leaving = some .restart → s.hst.flushing = false → s.aba.state ≠ .draining → promotionsDone s = true →
      pitIdle s.pit = true → ∃ v, exec (.dpQuiesced t) s = .next v ∧ v.sys.dp = .run ∧ v.pwr.returning = some .restart ∧
        v.shift.resetCause = 4 ∧ v.shift.lastKind = 4)

/-- R346, R349 to R352, R355, R344: the Bell. A line that rises makes its source pending; a claim answers the preferred
source and moves it from pending to active, a completion ends it, a claim or completion by an agent that does not own
the target is an error; ones written to BELL_PEND clear, ones written to BELL_SWSET set; MODE changes only while no
source is enabled. R348, R349: a source is deliverable to a target exactly when it is pending, enabled and routed to a
target that is enabled, its priority value is at most the target's threshold, and its tier is lower than that of every
source active there; the preferred source is a deliverable one of the lowest priority value, and of those the lowest
number. -/
def Obligations.BellSources : Prop :=
  (∀ (s : State) (agent t n w v core : Nat),
    (bellSync s = { s with bell := (bellSync s).bell, cages := (bellSync s).cages } ∧
      (bellSync s).bell.lines = sourceLines s ∧
      ∀ i, bit (bellSync s).bell.pend i = (bit s.bell.pend i || (bit (sourceLines s) i && !bit s.bell.lines i))) ∧
    (agentReaches s agent = false → exec (.bellClaim agent t) s = .next (answerBus agent 0 true s) ∧
      exec (.bellComplete agent t n) s = .next (answerBus agent 0 true s)) ∧
    (agentReaches s agent = true → exec (.bellClaim agent t) s =
      .next (answerBus agent (claim agent t s).1 false (claim agent t s).2)) ∧
    (ownsTarget (bellSync s) agent t = false → claim agent t s = (0x7FF, { bellSync s with
      bell := { (bellSync s).bell with agentErr := true } })) ∧
    (ownsTarget (bellSync s) agent t = true → deliverable (bellSync s).bell t = [] → claim agent t s = (0x7FF, bellSync s)) ∧
    (ownsTarget (bellSync s) agent t = true → t < s.bell.active.length →
      preferred (bellSync s).bell (deliverable (bellSync s).bell t) = some n → (claim agent t s).1 = n ∧ ∃ u,
      u = (claim agent t s).2 ∧ u = { s with bell := u.bell, cages := u.cages } ∧
      (∀ i, bit u.bell.pend i = (bit (bellSync s).bell.pend i && decide (i ≠ n))) ∧
      u.bell.active.getD t [] = n :: s.bell.active.getD t [] ∧
      ∀ k, k ≠ t → u.bell.active.getD k [] = s.bell.active.getD k []) ∧
    (agentReaches s agent = true → ownsTarget (bellSync s) agent t = true → n ∈ s.bell.active.getD t [] → ∃ u,
      exec (.bellComplete agent t n) s = .next (answerBus agent 0 false u) ∧
      u = { s with bell := u.bell, cages := u.cages } ∧ u.bell.pend = (bellSync s).bell.pend ∧
      u.bell.active.getD t [] = (s.bell.active.getD t []).erase n ∧
      ∀ k, k ≠ t → u.bell.active.getD k [] = s.bell.active.getD k []) ∧
    (agentReaches s agent = true → (ownsTarget (bellSync s) agent t = false ∨ n ∉ s.bell.active.getD t []) →
      exec (.bellComplete agent t n) s = .next (answerBus agent 0 false { bellSync s with
        bell := { (bellSync s).bell with agentErr := true } })) ∧
    (w < 32 → ∃ u, exec (.bellPendClear w v) s = .next u ∧ u = { s with bell := u.bell, cages := u.cages } ∧
      u.bell.active = s.bell.active ∧ u.bell.en = s.bell.en ∧
      ∀ i, bit u.bell.pend i = (bit (bellSync s).bell.pend i && !(decide (i / 32 = w) && bit v (i % 32)))) ∧
    (29 ≤ w → w ≤ 31 → ∃ u, exec (.bellSwset w v) s = .next u ∧ u = { s with bell := u.bell, cages := u.cages } ∧
      u.bell.active = s.bell.active ∧ u.bell.en = s.bell.en ∧
      ∀ i, bit u.bell.pend i = (bit (bellSync s).bell.pend i || (decide (i / 32 = w) && bit v (i % 32)))) ∧
    (bit v 0 ≠ s.bell.claimMode → s.bell.en ≠ 0 → exec (.bellModeWrite v) s = .next { bellSync s with
      bell := { (bellSync s).bell with modeErr := true } }) ∧
    ((bit v 0 = s.bell.claimMode ∨ s.bell.en = 0) → ∃ u, exec (.bellModeWrite v) s = .next u ∧
      u = { s with bell := u.bell, cages := u.cages } ∧ u.bell.claimMode = bit v 0 ∧ u.bell.tierBits = bits v 8 4 ∧
      u.bell.pend = (bellSync s).bell.pend ∧ u.bell.active = s.bell.active) ∧
    (agentReaches s (core + 1) = true → exec (.coreRemapWrite core v) s = .next (answerBus (core + 1) 0 false { s with
      pwr := { s.pwr with remap := upd s.pwr.remap core (fun _ => bit v 0) } })) ∧
    (agentReaches s (core + 1) = false → exec (.coreRemapWrite core v) s = .next (answerBus (core + 1) 0 true s)) ∧
    answerBus agent v true s = { s with sys := { s.sys with
      reply := { agent := agent, value := v, error := true } } }) ∧
  (∀ (b : Bell) (t n : Nat),
    (n ∈ deliverable b t ↔ (n < 1024 ∧ bit b.pend n = true ∧ bit b.en n = true ∧ targetOn b t = true ∧
      routed b n t = true ∧ prioOf b n ≤ b.thresh.getD t 0 ∧
      ∀ m ∈ b.active.getD t [], tierOf b (prioOf b n) < tierOf b (prioOf b m))) ∧
    (preferred b (deliverable b t) = some n → n ∈ deliverable b t ∧ ∀ m ∈ deliverable b t,
      prioOf b n < prioOf b m ∨ (prioOf b n = prioOf b m ∧ n ≤ m)) ∧
    (preferred b (deliverable b t) = none ↔ deliverable b t = []))

/-- R356 to R365, R370, Tables 15.5 and 15.7: the Winder. START, disable and event bits; MOVE, LOOP, WAIT and SIGNAL at
a channel's PC, which park the channel where they touch DP out of Run and stop it in ERROR where they are illegal; the
bursts of a MOVE; and the end of a wait. R360, R362, R363: a LOOP runs COUNT times in all and steps the adjustments
each time it branches; within another LOOP's activity it is illegal. A SIGNAL stores its stamp, sets its cause and a
channel's event bit, and LAST ends the channel. A stop leaves the channel in ERROR with its code. -/
def Obligations.WinderChannel : Prop :=
  (∀ (s : State) (c v ns t : Nat) (m : WndMove) (host : List Byte) (ok : Bool),
    (s.pwr.ctlSleep = true → exec (.winderStart c v) s = exec (.winderStart c v) (wakeCtl s) ∧
      exec (.winderDisable c v) s = exec (.winderDisable c v) (wakeCtl s) ∧
      exec (.winderEventSet c v) s = exec (.winderEventSet c v) (wakeCtl s)) ∧
    (s.pwr.ctlSleep = false → c < 16 → s.wnd.chan.length = 16 → bit v 0 = true → bit v 1 = true →
      ((wchAt s c).state = .idle ∨ (wchAt s c).state = .done ∨ (wchAt s c).state = .error) →
      exec (.winderStart c v) s = .next { s with wnd := { s.wnd with chan := upd s.wnd.chan c (fun ch => { ch with
        en := true, prio := bits v 2 2, state := .running, pc := 0, loop := 0, loopAt := none, srcAdj := 0, dstAdj := 0
        pack := [], bytes := 0, err := 0, move := none, met := false }) } }) ∧
    (s.pwr.ctlSleep = false → c < 16 → s.wnd.chan.length = 16 → bit v 0 = true → bit v 1 = true → wndActive (wchAt s c) = true →
      exec (.winderStart c v) s = .next { s with wnd := { s.wnd with chan := upd s.wnd.chan c (fun ch => { ch with
        en := true, prio := bits v 2 2 }) } }) ∧
    (s.pwr.ctlSleep = false → c < 16 → s.wnd.chan.length = 16 → bit v 0 = false → wndActive (wchAt s c) = true → ∃ u,
      exec (.winderDisable c v) s = .next u ∧ u = { s with wnd := u.wnd, freeCount := s.freeCount + 4 } ∧
      (wchAt u c).state = .idle ∧ (wchAt u c).err = 6 ∧ (wchAt u c).en = false ∧ (wchAt u c).move = none ∧
      ∀ k, k ≠ c → wchAt u k = wchAt s k) ∧
    (s.pwr.ctlSleep = false → c < 16 → s.wnd.chan.length = 16 → bit v 0 = false → wndActive (wchAt s c) = false →
      exec (.winderDisable c v) s = .next { s with wnd := { s.wnd with chan := upd s.wnd.chan c (fun ch => { ch with
        en := false, prio := bits v 2 2 }) } }) ∧
    (s.pwr.ctlSleep = false → exec (.winderEventSet c v) s = .next { s with
      wnd := { s.wnd with chan := upd s.wnd.chan c (fun ch => { ch with event := ch.event ||| (v % 65536) }) } }) ∧
    (∀ i, AtWord c i s → (instrTouches (wchAt s c) i = false ∨ dpReady s = true) →
      (∀ x, i = .move x → exec (.move c) s = .next (withBell (startMove c (wchAt s c) x) s)) ∧
      (∀ target count ss ds, i = .loop target count ss ds →
        exec (.winderLoop c) s = .next (withBell (runLoop c (wchAt s c) target count ss ds) s)) ∧
      (isWait i = true → exec (.winderWait c) s = .next (withBell (fun x => { x with
        wnd := { x.wnd with chan := upd x.wnd.chan c (fun ch => { ch with state := .waiting, met := false }) } }) s)) ∧
      (∀ last irq event target b stamp, i = .signal last irq event target b stamp →
        exec (.signal c) s = .next (withBell (runSignal c last irq event target b stamp) s))) ∧
    (∀ e, (e = .move c ∨ e = .winderLoop c ∨ e = .winderWait c ∨ e = .signal c) →
      (AtWord c .illegal s → exec e s = .next (withBell (wndIllegal c) s)) ∧
      (∀ i, AtWord c i s → i ≠ .illegal → instrTouches (wchAt s c) i = true → dpReady s = false →
        exec e s = .next (withBell (wndPark c) s)) ∧
      (c < 16 → s.pwr.ctlSleep = false → (wchAt s c).state = .running → (wchAt s c).move = none →
        wndFetch s (wchAt s c) = none → exec e s = .next (withBell (wndErrorAt c 2 (2 ^ 40 + wndFetchAt (wchAt s c))) s)) ∧
      ((wchAt s c).state ≠ .running → exec e s = .next (withBell (fun x => x) s))) ∧
    (moveLegal (wchAt s c) m = false → startMove c (wchAt s c) m s = wndIllegal c s) ∧
    (moveLegal (wchAt s c) m = true → inSpace m.src (effOffset m.src (wchAt s c).srcAdj) m.srcW = true →
      inSpace m.dst (effOffset m.dst (wchAt s c).dstAdj) m.dstW = true → startMove c (wchAt s c) m s = { s with
        wnd := { s.wnd with chan := upd s.wnd.chan c (fun ch => { ch with move := some (0, 0), pack := [] }) } }) ∧
    (moveLegal (wchAt s c) m = true → inSpace m.src (effOffset m.src (wchAt s c).srcAdj) m.srcW = false →
      startMove c (wchAt s c) m s = outOfSpace c m.src (effOffset m.src (wchAt s c).srcAdj) s) ∧
    (wndSpace m.src = 0 → bit (outOfSpace c m.src ns s).pit.cause 5 = true) ∧
    (readSpan (wchAt s c) m).2 + (wchAt s c).pack.length ≤ max 32 (wchAt s c).pack.length ∧
    (s.pwr.ctlSleep = false → exec (.winderBurst host ok t) s = .next (withBell (burst host ok t) s) ∧
      (nextChannel s = none → burst host ok t s = s)) ∧
    (s.pwr.ctlSleep = true → exec (.winderBurst host ok t) s = .next s) ∧
    (∀ o mask value, waitOf s c = some (.waitPoll o mask value) → o < 0x4000000 → (dpOffset o = false ∨ dpReady s = true) →
      exec (.winderPoll c) s = .next (withBell (poll c) s) ∧ poll c s = modWch c (fun ch => { ch with
        met := decide ((busRead 3 o s).1 &&& mask = value) }) (busRead 3 o s).2) ∧
    (∀ o mask value, waitOf s c = some (.waitPoll o mask value) → o < 0x4000000 → dpOffset o = true → dpReady s = false →
      poll c s = wndPark c s) ∧
    (∀ d, waitOf s c = some (.waitDelay d) → d ≤ ns → exec (.winderWaitEnd c ns) s = .next { s with
      wnd := { s.wnd with chan := upd s.wnd.chan c (fun ch => { ch with
        state := .running, met := false, pc := (ch.pc + 1) % 65536 }) } }) ∧
    (∀ d, waitOf s c = some (.waitDelay d) → ns < d → exec (.winderWaitEnd c ns) s = .next s) ∧
    (∀ k, waitOf s c = some (.waitEvent k) → bit (wchAt s c).event k = true → exec (.winderWaitEnd c ns) s = .next { s with
      wnd := { s.wnd with chan := upd s.wnd.chan c (fun ch => { ch with
        event := ch.event ^^^ 2 ^ k, state := .running, met := false, pc := (ch.pc + 1) % 65536 }) } }) ∧
    (∀ k, waitOf s c = some (.waitEvent k) → bit (wchAt s c).event k = false → exec (.winderWaitEnd c ns) s = .next s)) ∧
  (∀ (s : State) (c target count : Nat) (ss ds : Int) (last irq event : Bool) (e b stamp code : Nat),
    c < 16 → s.wnd.chan.length = 16 →
    ((wchAt s c).loopAt = none → 1 < count → runLoop c (wchAt s c) target count ss ds s = { s with
      wnd := { s.wnd with chan := upd s.wnd.chan c (fun ch => { ch with
        loop := count - 2, loopAt := some ch.pc, srcAdj := ch.srcAdj + ss, dstAdj := ch.dstAdj + ds, pc := target }) } }) ∧
    ((wchAt s c).loopAt = some (wchAt s c).pc → 0 < (wchAt s c).loop → runLoop c (wchAt s c) target count ss ds s = { s with
      wnd := { s.wnd with chan := upd s.wnd.chan c (fun ch => { ch with
        loop := (wchAt s c).loop - 1, loopAt := some ch.pc, srcAdj := ch.srcAdj + ss, dstAdj := ch.dstAdj + ds
        pc := target }) } }) ∧
    (((wchAt s c).loopAt = some (wchAt s c).pc ∧ (wchAt s c).loop = 0 ∨ (wchAt s c).loopAt = none ∧ count ≤ 1) → runLoop c (wchAt s c) target count ss ds s = { s with
      wnd := { s.wnd with chan := upd s.wnd.chan c (fun ch => { ch with
        loop := 0, loopAt := none, srcAdj := 0, dstAdj := 0, pc := (ch.pc + 1) % 65536 }) } }) ∧
    ((wchAt s c).loopAt ≠ none → (wchAt s c).loopAt ≠ some (wchAt s c).pc →
      runLoop c (wchAt s c) target count ss ds s = wndIllegal c s) ∧
    ((wchAt (runSignal c last irq event e b stamp s) c).signal = stamp ∧
      (irq = true → bit (wchAt (runSignal c last irq event e b stamp s) c).cause 0 = true) ∧
      (last = true → (wchAt (runSignal c last irq event e b stamp s) c).state = .done ∧
        bit (wchAt (runSignal c last irq event e b stamp s) c).cause 1 = true) ∧
      (last = false → (wchAt (runSignal c last irq event e b stamp s) c).pc = ((wchAt s c).pc + 1) % 65536 ∧
        (wchAt (runSignal c last irq event e b stamp s) c).state = (wchAt s c).state) ∧
      (event = true → e < 16 → b < 16 → bit (wchAt (runSignal c last irq event e b stamp s) e).event b = true) ∧
      (∀ k, k ≠ c → (event = false ∨ k ≠ e) → wchAt (runSignal c last irq event e b stamp s) k = wchAt s k)) ∧
    ((wchAt (wndError c code s) c).state = .error ∧ (wchAt (wndError c code s) c).err = code ∧
      bit (wchAt (wndError c code s) c).cause 2 = true ∧ (wchAt (wndError c code s) c).pc = (wchAt s c).pc ∧
      ∀ k, k ≠ c → wchAt (wndError c code s) k = wchAt s k) ∧
    ((wchAt (wndPark c s) c).state = .parked ∧ bit (wchAt (wndPark c s) c).cause 3 = true ∧
      bit (wndPark c s).pwr.cause 3 = true ∧ (wchAt (wndPark c s) c).pc = (wchAt s c).pc))

/-- R367, R368, R373, 01 R21, 19 R436, R437, R445: CTL sleep and its wake, the wake timer, pins, supplies, temperature.
-/
def Obligations.PowerEvents : Prop :=
  ∀ (s : State) (agent v ticks n k inPkt : Nat) (rising hot : Bool) (tj : Int)
    (l : List Int),
    (isOnShift s agent = true → v % 256 = 0x5A → maySleep s = true → exec (.pwrSleepReq agent v) s = .next { s with
      pwr := { s.pwr with ctlSleep := true, sleepHold := false } }) ∧
    (isOnShift s agent = true → v % 256 = 0x5A → maySleep s = false → exec (.pwrSleepReq agent v) s = .next { s with
      pwr := { s.pwr with sleepHold := true } }) ∧
    ((isOnShift s agent = false ∨ v % 256 ≠ 0x5A) → exec (.pwrSleepReq agent v) s = .next s) ∧
    (s.pwr.sleepHold = true → maySleep s = true → exec .ctlSleepEntry s = .next { s with
      pwr := { s.pwr with ctlSleep := true, sleepHold := false } }) ∧
    ((s.pwr.sleepHold = false ∨ maySleep s = false) → exec .ctlSleepEntry s = .next s) ∧
    ((coreAsked s = true ∨ doorbellLatched s = true) → exec .ctlWake s = .next (wakeCtl s)) ∧
    (coreAsked s = false → doorbellLatched s = false → exec .ctlWake s = .next s) ∧
    (s.pwr.ctlSleep = false → s.pwr.sleepHold = true → wakeCtl s = { s with
      pwr := { s.pwr with sleepHold := false, cause := setBits s.pwr.cause [0] } }) ∧
    (s.pwr.ctlSleep = true → (wakeCtl s).pwr = { s.pwr with ctlSleep := false } ∧
      wakeCtl s = { s with pwr := (wakeCtl s).pwr, cages := (wakeCtl s).cages }) ∧
    exec (.pwrTimerWrite v) s = .next { s with pwr := { s.pwr with timer := v % 2 ^ 24 } } ∧
    (s.pwr.timer = 0 → exec (.pwrTimerExpiry ticks) s = .next s) ∧
    (ticks < s.pwr.timer → exec (.pwrTimerExpiry ticks) s = .next { s with
      pwr := { s.pwr with timer := (s.pwr.timer - ticks) % 2 ^ 24 } }) ∧
    (s.pwr.timer ≠ 0 → s.pwr.timer ≤ ticks → exec (.pwrTimerExpiry ticks) s = .next (withBell (fun x => wakeCtl { x with
      pwr := { x.pwr with timer := 0, cause := setBits x.pwr.cause [8] } }) s)) ∧
    (n < 18 → supplyOn s vioG = true → exec (.gpioEdge n rising) s = .next (withBell (movePins (fun p => { p with
      gpioIn := (p.gpioIn ^^^ (p.gpioIn &&& 2 ^ n)) ||| (if rising then 2 ^ n else 0) })) s)) ∧
    (n < 18 → (16 ≤ n ∨ bit s.pwr.dir n = false) → supplyOn s vioG = true → bit s.pwr.gpioIn n = !rising →
      bit s.pwr.edge n = !rising → bit (movePins (fun p => { p with
        gpioIn := (p.gpioIn ^^^ (p.gpioIn &&& 2 ^ n)) ||| (if rising then 2 ^ n else 0) }) s).pwr.seen n = true) ∧
    (supplyOn s vioG = false → exec (.gpioEdge n rising) s = .next s) ∧
    (k < 6 → s.pwr.supply.length = 6 → supplyOn s k = true → loseSupply k s = { s with
      pwr := { s.pwr with cause := setBits s.pwr.cause [7], supply := upd s.pwr.supply k (fun _ => false) } }) ∧
    exec .vinLoss s = .next (powerOff (withBell (loseSupply vin) s)) ∧
    (s.shift.held ≠ .cold → (powerOff s).shift.held = .hard ∧ (powerOff s).shift.hardResets = s.shift.hardResets ∧
      (powerOff s).shift.resetCause = s.shift.resetCause ∧ (powerOff s).sys.dp = .off) ∧
    (supplyOn s vin = true → exec .vinReturn s = .next s) ∧
    (supplyOn s vin = false → s.pwr.shutOff = true → exec .vinReturn s = .next { s with
      pwr := { s.pwr with supply := upd s.pwr.supply vin (fun _ => true) } }) ∧
    (supplyOn s vin = false → s.pwr.shutOff = false → s.shift.held = .hard → exec .vinReturn s =
      .next (hardReset 1 { s with pwr := { s.pwr with supply := upd s.pwr.supply vin (fun _ => true) } })) ∧
    exec (.vlaneLoss inPkt) s = .next (withBell (fun x => loseLanes inPkt (loseSupply vlane x)) s) ∧
    exec .vlaneReturn s = .next { s with pwr := { s.pwr with supply := upd s.pwr.supply vlane (fun _ => true) } } ∧
    (k < 2 → exec (.vioLoss k) s = .next (withBell (loseSupply (vioM + k)) s)) ∧
    exec (.vioLoss 2) s = .next (withBell (fun x => losePins (loseSupply vioT x)) s) ∧
    (k ≤ 2 → exec (.vioReturn k) s = .next { s with
      pwr := { s.pwr with supply := upd s.pwr.supply (vioM + k) (fun _ => true) } }) ∧
    (supplyOn s vaux = false → exec (.thermalSample l hot) s = .next s) ∧
    (l ≠ [] → hottest l ∈ l ∧ ∀ x ∈ l, x ≤ hottest l) ∧
    (supplyOn s vaux = true → s.pwr.shutOff = false → 90 ≤ hottest l → hottest l < 95 → exec (.thermalSample l false) s =
      .next (withBell (fun x => { x with pwr := { x.pwr with tj := hottest l, sensors := l } }) s)) ∧
    (supplyOn s vaux = true → s.pwr.shutOff = false → 110 ≤ hottest l → hottest l < 125 → exec (.thermalSample l hot) s =
      .next (withBell (fun x => thermalTrip (warmth (hottest l)
        { x with pwr := { x.pwr with tj := hottest l, sensors := l } })) s)) ∧
    (supplyOn s vaux = true → s.pwr.shutOff = false → hottest l < 125 → exec (.thermalSample l true) s =
      .next (withBell (fun x => thermalTrip (warmth (hottest l)
        { x with pwr := { x.pwr with tj := hottest l, sensors := l } })) s)) ∧
    (95 ≤ tj → s.pwr.warm = false → warmth tj s = { s with
      pwr := { s.pwr with warm := true, cause := setBits s.pwr.cause [5] } }) ∧
    (125 ≤ tj → s.pwr.shutOff = false → shutOff tj s = powerOff { s with pwr := { s.pwr with shutOff := true } }) ∧
    (dpRun s = true → s.pwr.returning = none → s.pwr.leaving = none → bit (thermalTrip s).pwr.cause 6 = true ∧
      (thermalTrip s).pwr.leaving = some .trip ∧ (thermalTrip s).pwr.force = true)

/-- R4, R5, R9, 14 R319, R341, 15 R344, R345, Tables 15.1 and 15.2: register accesses. A write by an agent that the bus
matrix lets through reaches its register, and a core that it keeps out gets a bus error; a Suhel core also reaches its
own SRAM, CORE_APERTURE, shared SRAM and, through its aperture, pit memory. An access of a forbidden width or alignment
reads 0 or is discarded and changes nothing but DEV_ACCESS_ERR, which keeps the first; a host write to shared SRAM from
0x3F_0000 is discarded and counted; the read of the lowest word of a wide quantity latches the others, and the write of
the highest commits it. -/
def Obligations.RegisterAccess : Prop :=
  ∀ (s : State) (agent o kind v t core x : Nat) (a : RegAddr),
    (released s = true → exec (.registerWrite agent a v t) s = .next (withBell (regWrite agent a v t) s)) ∧
    (released s = false → exec (.registerWrite agent a v t) s = .next s) ∧
    regWrite agent (.bar0 o) v t s = answerBus agent 0 (busError s agent (o % 2 ^ 26))
      (busWrite agent (o % 2 ^ 26) (v % 2 ^ 32) t s) ∧
    (agent = 0 ∨ 3 ≤ agent → regWrite agent (.suhel x) v t s = s) ∧
    (core < 2 → agentReaches s (core + 1) = true →
      regWrite (core + 1) (.suhel 0x300004) v t s = answerBus (core + 1) 0 false { s with
        pwr := { s.pwr with aperture := upd s.pwr.aperture core (fun _ => v % 2 ^ 32 % 64) } } ∧
      regWrite (core + 1) (.suhel 0x300000) v t s = answerBus (core + 1) 0 false { s with
        pwr := { s.pwr with remap := upd s.pwr.remap core (fun _ => bit (v % 2 ^ 32) 0) } } ∧
      (x < 0x4000000 → regWrite (core + 1) (.suhel (0x40000000 + x)) v t s = regWrite (core + 1) (.bar0 x) v t s) ∧
      (x < 0x400000 → regWrite (core + 1) (.suhel (0x10000000 + x)) v t s = answerBus (core + 1) 0 false { s with
        sys := { s.sys with sram := memWrite s.sys.sram x (leBytes 4 (v % 2 ^ 32)) } }) ∧
      (x < 0x40000000 → dpRun s = true → addressOk (2 ^ 30 * s.pwr.aperture.getD core 0 + x) 4 = true →
        regWrite (core + 1) (.suhel (0x80000000 + x)) v t s = answerBus (core + 1) 0 false (servePort 5 4
          (pitWrite (2 ^ 30 * s.pwr.aperture.getD core 0 + x) (leBytes 4 (v % 2 ^ 32)) s))) ∧
      (x < 0x40000000 → dpRun s = false → regWrite (core + 1) (.suhel (0x80000000 + x)) v t s =
        answerBus (core + 1) 0 true s)) ∧
    (core < 2 → x < 0x20000 → (agentReaches s (core + 1) = true ∨ coreAt s core = .repair) →
      regWrite (core + 1) (.suhel (0x200000 + x)) v t s = answerBus (core + 1) 0 false { s with shift := { s.shift with
        coreMem := upd s.shift.coreMem core (fun m => memWrite m x (leBytes 4 (v % 2 ^ 32))) } }) ∧
    (core < 2 → agentReaches s (core + 1) = false → x < 0x400000 →
      regWrite (core + 1) (.suhel (0x10000000 + x)) v t s = answerBus (core + 1) 0 true s ∧
      busError s (core + 1) x = true) ∧
    (s.pwr.ctlSleep = false → 0x13F0000 ≤ o → o < 0x1400000 → o % 4 = 0 → busWrite 0 o v t s = { s with
      sys := { s.sys with discarded := s.sys.discarded + 1 } }) ∧
    (agentReaches s agent = false → busWrite agent o v t s = s ∧ busRead agent o s = (0, s)) ∧
    (agent ≠ 0 → agentReaches s agent = true → o % 4 ≠ 0 → busWrite agent o v t s = accessErr 2 agent o s ∧
      busRead agent o s = (0, accessErr 2 agent o s)) ∧
    (agent ≠ 0 → agentReaches s agent = true → o % 4 = 0 → 0x1000 ≤ o → o < 0x5000 →
      busWrite agent o v t s = accessErr 3 agent o s) ∧
    (agent ≠ 0 → agentReaches s agent = true → o % 4 = 0 → 0x1000000 ≤ o → o < 0x1400000 → v < 2 ^ 32 →
      Memory.wf s.sys.sram = true → busWrite agent o v t s = { s with
        sys := { s.sys with sram := memWrite s.sys.sram (o - 0x1000000) (leBytes 4 v) } } ∧
      (busRead agent o (busWrite agent o v t s)).1 = v) ∧
    (released s = true → kind < 3 → o < 0x1000000 → agentReaches s agent = true →
      exec (.illegalRegisterAccess agent o kind) s = .next (answerBus agent 0 false (withBell (accessErr kind agent o) s))) ∧
    (released s = true → kind < 3 → o < 0x1000000 → agentReaches s agent = false →
      exec (.illegalRegisterAccess agent o kind) s = .next (answerBus agent 0 true s)) ∧
    ((released s = false ∨ 3 ≤ kind ∨ 0x1000000 ≤ o) →
      exec (.illegalRegisterAccess agent o kind) s = .next s) ∧
    (s.shift.accErr = false → accessErr kind agent o s = { s with shift := { s.shift with
      accErr := true, accKind := kind, accAgent := agent, accOff := o % 2 ^ 26, cause := setBits s.shift.cause [5] } }) ∧
    (s.shift.accErr = true → accessErr kind agent o s = { s with
      shift := { s.shift with cause := setBits s.shift.cause [5] } }) ∧
    (released s = true → o % 4 = 0 → 0 < wideWords o → agentReaches s agent = true → (agent ≠ 0 ∨ s.pwr.ctlSleep = false) →
      exec (.wideQuantityLowRead agent o) s = .next (answerBus agent (regRead s o) (busError s agent o) (latchWide o s))) ∧
    (released s = true → o % 4 = 0 → 0 < wideWords o → agentReaches s agent = false →
      exec (.wideQuantityLowRead agent o) s = .next (answerBus agent 0 true s)) ∧
    ((released s = false ∨ o % 4 ≠ 0 ∨ wideWords o = 0) → exec (.wideQuantityLowRead agent o) s = .next s) ∧
    (0 < wideWords o → (dpOffset o = false ∨ dpRun s = true) →
      latchWide o s = { s with shift := { s.shift with snaps := (latchWide o s).shift.snaps } } ∧
      ∀ (k : Nat) (u : State), 0 < k → k < wideWords o → u.shift.snaps = (latchWide o s).shift.snaps →
        regRead u (o + 4 * k) = regNow s (o + 4 * k)) ∧
    (released s = true → wideHighRw o = true →
      exec (.wideQuantityHighWrite agent o v t) s = .next (withBell (fun u =>
        answerBus agent 0 (busError u agent o) (busWrite agent o (v % 2 ^ 32) t u)) s)) ∧
    ((released s = false ∨ wideHighRw o = false) → exec (.wideQuantityHighWrite agent o v t) s = .next s)

/-- R377, R378, R385, R386, R389, R393, R396: the rings of cages 0 to 3. ENABLE starts both rings empty; a doorbell
brings in requests, is discarded and counted when its index lies outside the ring, or leaves the ring stalled after a
failed fetch; a completion goes to its ring with its phase bit, or to the overflow store; the moderation timer signals;
firmware takes the first request that need not wait. -/
def Obligations.CageRings : Prop :=
  ∀ (s : State) (n v tail head client t : Nat) (entries : List Req) (ok : Bool) (e : Completion) (r : Req) (rest : List Req),
    (n < 8 → bit v 0 = true → exec (.cageEnable n v) s = .next (withBell (cageCtrlWrite n v) s)) ∧
    (n < 8 → bit v 0 = false → exec (.cageDisable n v) s = .next (withBell (cageCtrlWrite n v) s)) ∧
    (n < 8 → bit v 0 = false → exec (.cageEnable n v) s = .next s) ∧
    (n < 8 → bit v 0 = true → exec (.cageDisable n v) s = .next s) ∧
    (8 ≤ n → exec (.cageEnable n v) s = .next s ∧ exec (.cageDisable n v) s = .next s) ∧
    (n < s.cages.cage.length → bit v 0 = true → (cageAt s n).enable = false → (cageAt s n).overflow = [] →
      cageCtrlWrite n v s = { s with
        sys := { s.sys with
          discarded := s.sys.discarded + b2n (!(inRange 4 12 (bits v 8 4) && inRange 4 12 (bits v 12 4))) }
        cages := { s.cages with cage := upd s.cages.cage n (fun c => { c with
        reqLog2 := ringLog2 (bits v 8 4) c.reqLog2, cplLog2 := ringLog2 (bits v 12 4) c.cplLog2, enable := true
        takenReqBase := c.reqBase, takenCplBase := c.cplBase, takenReqLog2 := ringLog2 (bits v 8 4) c.reqLog2
        takenCplLog2 := ringLog2 (bits v 12 4) c.cplLog2, reqTail := 0, reqHead := 0, cplHead := 0, cplTail := 0
        pass := true, ring := [], inRing := [], stalled := false }) } }) ∧
    (n < s.cages.cage.length → bit v 0 = false → cageCtrlWrite n v s = { s with
      sys := { s.sys with
        discarded := s.sys.discarded + b2n (!(inRange 4 12 (bits v 8 4) && inRange 4 12 (bits v 12 4))) }
      cages := { s.cages with cage := upd s.cages.cage n (fun c => { c with
        reqLog2 := ringLog2 (bits v 8 4) c.reqLog2, cplLog2 := ringLog2 (bits v 12 4) c.cplLog2, enable := false }) } }) ∧
    (n < 4 → exec (.cageDoorbell n tail entries ok) s = .next (withBell (doorbell n tail entries ok) s)) ∧
    (2 ^ (cageAt s n).takenReqLog2 ≤ tail → doorbell n tail entries ok s = { s with
      sys := { s.sys with discarded := s.sys.discarded + 1 } }) ∧
    (4 ≤ n → exec (.cageDoorbell n tail entries ok) s = .next s ∧ exec (.cageCplHeadWrite n head) s = .next s) ∧
    (tail < 2 ^ (cageAt s n).takenReqLog2 → (cageAt s n).enable = false → doorbell n tail entries ok s = { s with
      cages := { s.cages with cage := upd s.cages.cage n (fun c => { c with reqTail := tail }) } }) ∧
    (tail < 2 ^ (cageAt s n).takenReqLog2 → n < s.cages.cage.length → (cageAt s n).enable = true →
      (ok = false ∨ canSend s = false) →
      (cageAt (doorbell n tail entries ok s) n).stalled = true ∧ (cageAt (doorbell n tail entries ok s) n).reqTail = tail ∧
      bit (cageAt (doorbell n tail entries ok s) n).cause 3 = true ∧
      (doorbell n tail entries ok s).cages.fetched = s.cages.fetched) ∧
    (tail < 2 ^ (cageAt s n).takenReqLog2 → n < 4 → s.cages.cage.length = 8 → (cageAt s n).enable = true → canSend s = true →
      cagesOpen s = true → hasRoom s n = true → (cageAt s n).inRing = [] → (cageAt s n).reqTail < 2 ^ (cageAt s n).takenReqLog2 →
      (tail + 2 ^ (cageAt s n).takenReqLog2 - (cageAt s n).reqTail) % 2 ^ (cageAt s n).takenReqLog2 = 1 →
      (doorbell n tail [r] true s).cages.fetched = s.cages.fetched ++ [{ r with cage := n }] ∧
      (cageAt (doorbell n tail [r] true s) n).inRing = [] ∧
      (cageAt (doorbell n tail [r] true s) n).reqHead = ((cageAt s n).reqHead + 1) % 2 ^ (cageAt s n).takenReqLog2) ∧
    (n < 4 → exec (.cageCplHeadWrite n head) s = .next (withBell (cplHeadWrite n head) s)) ∧
    (head < 2 ^ (cageAt s n).takenCplLog2 → n < s.cages.cage.length → (cageAt s n).overflow = [] → (cageAt s n).inRing = [] →
      cplHeadWrite n head s = { s with cages := { s.cages with
        cage := upd s.cages.cage n (fun c => { c with cplHead := head }) } }) ∧
    (2 ^ (cageAt s n).takenCplLog2 ≤ head → cplHeadWrite n head s = { s with sys := { s.sys with discarded := s.sys.discarded + 1 } }) ∧
    (firmwareUp s = true → exec (.completionPost client) s = .next (resetIfWritten (withBell (postNext client) s))) ∧
    (firmwareUp s = false → exec (.completionPost client) s = .next s) ∧
    (s.shift.resetDue = false → resetIfWritten s = s) ∧
    ((s.cages.ready.find? (fun c => decide (c.client = client) && mayPost s c)) = some e → postNext client s =
      fetchAll (postTo e { s with cages := { s.cages with ready := s.cages.ready.erase e } })) ∧
    (e.cage ≤ 3 → s.cages.cage.length = 8 → (cageAt s e.cage).overflow = [] → canWrite s e.cage = true →
      (cageAt (postTo e s) e.cage).ring = (cageAt s e.cage).ring.filter (fun x => decide (x.1 ≠ (cageAt s e.cage).cplTail)) ++
        [((cageAt s e.cage).cplTail, { e with phase := (cageAt s e.cage).pass })] ∧
      (cageAt (postTo e s) e.cage).cplTail = ((cageAt s e.cage).cplTail + 1) % 2 ^ (cageAt s e.cage).takenCplLog2 ∧
      (cageAt (postTo e s) e.cage).overflow = []) ∧
    (e.cage ≤ 3 → s.cages.cage.length = 8 → canWrite s e.cage = false →
      (cageAt (postTo e s) e.cage).ring = (cageAt s e.cage).ring ∧ (cageAt (postTo e s) e.cage).overflow =
        (cageAt s e.cage).overflow ++ [{ e with overflow := true }] ∧ bit (cageAt (postTo e s) e.cage).cause 1 = true) ∧
    (n < 4 → (cageAt s n).timerOn = true → exec (.moderationTimer n) s = .next (withBell (modCage n signalCpl) s)) ∧
    ((cageAt s n).timerOn = false → exec (.moderationTimer n) s = .next s) ∧
    (cagesOpen s = true → exec (.requestAccept t) s = .next (resetNow (withBell (takeRequest t) s))) ∧
    (cagesOpen s = false → exec (.requestAccept t) s = .next s) ∧
    (s.cages.fetched = [] → takeRequest t s = s) ∧
    (s.cages.fetched = r :: rest → mayTake s 0 = true → takeRequest t s = runNow r.opcode (meaningOf r.opcode) r t { s with
      cages := { s.cages with fetched := rest } })

/-- R380 to R382, R395, R396, 19 R438: datagrams and their parts, the SMBus cage, the host's sleep and the link,
PERST_N, and the management ports. -/
def Obligations.OtherCages : Prop :=
  ∀ (s : State) (r : Req) (a : Assembly) (b : Bool) (n client tag t port : Nat) (frame out bytes : List Byte)
    (pec : Byte),
    ((cagesUp s = false ∨ datagramReq s port frame = none) → exec (.udpRequest port frame t) s = .next s) ∧
    (cagesUp s = true → datagramReq s port frame = some r → exec (.udpRequest port frame t) s = .next (takeDatagram r t s) ∧
      (r.cage = 4 ∨ r.cage = 5)) ∧
    (∀ src sport dport, udpDatagram (ipv4 s) frame = some (src, sport, dport, bytes) → 64 ≤ bytes.length →
      (dport = 20314 → ∃ q, datagramReq s port frame = some q ∧ q.cage = 4 ∧ q.arg = bytes.drop 64 ∧
        q.origin = (port % 2, src, sport) ∧ q.tag = u16 (bytes.take 64) 2 ∧ q.badLen = decide (u32 bytes 16 ≠ bytes.length - 64)) ∧
      (dport = 20315 → ∃ q, datagramReq s port frame = some q ∧ q.cage = 5) ∧
      (dport ≠ 20314 → dport ≠ 20315 → datagramReq s port frame = none)) ∧
    (r.arg.length ≤ 1408 → r.part = false → assemblyOf (cageAt s r.cage) r = none → takeDatagram r t s = arrive r t s) ∧
    (r.arg.length ≤ 1408 → r.part = true → assemblyOf (cageAt s r.cage) r = none → r.argAddr ≠ 0 →
      takeDatagram r t s = partOutOfOrder r t s) ∧
    (r.arg.length ≤ 1408 → r.part = true → assemblyOf (cageAt s r.cage) r = none → r.argAddr = 0 →
      takeDatagram r t s = holdPart r [] t s) ∧
    (r.arg.length ≤ 1408 → r.part = true → assemblyOf (cageAt s r.cage) r = some a → takeDatagram r t s =
      if r.argAddr = a.bytes.length then holdPart r a.bytes t s else partOutOfOrder r t s) ∧
    (r.arg.length ≤ 1408 → r.part = false → assemblyOf (cageAt s r.cage) r = some a → takeDatagram r t s =
      if r.argAddr = a.bytes.length then
        arrive { r with arg := a.bytes ++ r.arg } t (dropAssembly r.cage r.client r.tag s)
      else partOutOfOrder r t s) ∧
    (hasRoom s r.cage = true → arrive r t s = { s with cages := { s.cages with
      fetched := s.cages.fetched ++ [r], cage := upd s.cages.cage r.cage (fun c => { c with busy := false }) } }) ∧
    (hasRoom s r.cage = false → r.cage ≠ 6 → arrive r t s =
      answerOnly r t { status := stBusy, detail := 14 } stBusy (setBusy r.cage s)) ∧
    exec (.partAssemblyTimeout n client tag) s = .next { s with cages := { s.cages with
      cage := upd s.cages.cage n (fun c => { c with
        assembly := c.assembly.filter (fun x => !(decide (x.client = client) && decide (x.tag = tag))) }) } } ∧
    (cagesUp s = true → supplyOn s vioM = true → 64 ≤ bytes.length →
      exec (.smbusBlockWrite bytes none t) s = .next (withBell (arrive (smbusReq bytes) t) s) ∧
      (pec.toNat = smbusPec bytes →
        exec (.smbusBlockWrite bytes (some pec) t) s = .next (withBell (arrive (smbusReq bytes) t) s))) ∧
    ((cagesUp s = false ∨ supplyOn s vioM = false ∨ bytes.length < 64) →
      exec (.smbusBlockWrite bytes none t) s = .next s ∧ exec (.smbusBlockWrite bytes (some pec) t) s = .next s) ∧
    (pec.toNat ≠ smbusPec bytes → exec (.smbusBlockWrite bytes (some pec) t) s = .next s) ∧
    ((smbusReq bytes).cage = 6 ∧ (smbusReq bytes).arg = bytes.drop 64 ∧
      ((smbusReq bytes).badLen = false → (smbusReq bytes).arg.length ≤ 128)) ∧
    (cagesUp s = true → supplyOn s vioM = true → exec .smbusBlockRead s = .next { s with cages := { s.cages with
      cage := upd s.cages.cage 6 (fun c => { c with lastOut := c.unread.head?, unread := c.unread.drop 1 }) } }) ∧
    ((cagesUp s = false ∨ supplyOn s vioM = false) → exec .smbusBlockRead s = .next s) ∧
    exec .smbusStatusRead s = .next s ∧
    (s.cages.linkUp = true → exec (.d3hotEntry b) s = .next { s with
      cages := { s.cages with d3hot := true, pmeEn := b, pmPme := false } }) ∧
    (s.cages.linkUp = false → exec (.d3hotEntry b) s = .next s ∧ exec (.d0Return b) s = .next s) ∧
    (s.cages.linkUp = true → exec (.d0Return b) s = .next (withBell (fun x => hostBack { x with
      cages := { x.cages with d3hot := false, busMaster := b } }) s)) ∧
    exec .pcieLinkDown s = .next { s with cages := { s.cages with linkUp := false } } ∧
    (s.cages.endpointUp = true → exec (.pcieLinkUp b) s = .next (withBell (fun x => hostBack { x with
      cages := { x.cages with linkUp := true, busMaster := b } }) s)) ∧
    (s.cages.endpointUp = false → exec (.pcieLinkUp b) s = .next s) ∧
    (canSend s = false → hostBack s = s) ∧
    exec .perstNAssert s = .next { s with
      shift := { s.shift with perst := true }
      cages := { s.cages with endpointUp := false, linkUp := false, busMaster := false, d3hot := false, pmeEn := false
                              pmeStatus := false, pmPme := false } } ∧
    exec .perstNRelease s = .next { s with
      shift := { s.shift with perst := false }, cages := { s.cages with endpointUp := released s } } ∧
    (released s = false → exec (.managementFrame port frame) s = .next s) ∧
    (released s = true → port < 2 → arpReply (Config.mac port % 2 ^ 48) (ipv4 s) frame = some out →
      exec (.managementFrame port frame) s = .next { s with cages := { s.cages with mgmtOut := some (port, out) } }) ∧
    (released s = true → port < 2 → arpReply (Config.mac port % 2 ^ 48) (ipv4 s) frame = none →
      echoReply (Config.mac port % 2 ^ 48) (ipv4 s) frame = none → beAt frame 0 6 ≠ Config.mac port % 2 ^ 48 →
      exec (.managementFrame port frame) s = .next { s with cages := { s.cages with mgmtOut := some (1 - port, frame) } })

/-- 16 Tables 16.9, 16.10, R391, R392: DEV_INFO, DEV_STATUS, ECHO, CONFIG_DIGEST, ARRAY_LAYOUT, FRAME_BUDGET and ABORT.
16 R401, R402, Table 16.9: BUNDLE_LOAD collects segments and hands the whole to the Expander; BUNDLE_ACTIVATE refuses
what R402 refuses, registers a changeover for its spectrum and notifies every source, or takes DP out of Run for a
restart. -/
def Obligations.DeviceAndBundles : Prop :=
  (∀ (r : Req) (t : Nat) (s u : State),
    (Takes 0x0101 r t s u → exec (.devInfo r t) s = .next (ended 0x0101 r t
      { result := fields [(24, leBytes 4 (shiftReg u.shift 0x000)), (28, leBytes 4 idRev), (32, leBytes 6 Config.idLot),
          (38, leBytes 1 (Config.idWafer % 32)), (39, leBytes 1 Config.idDieX), (40, leBytes 1 Config.idDieY),
          (44, leBytes 4 Config.firmwareVersion), (48, leBytes 16 Config.firmwareDigest)]
        block := some (padTo 36 (u.shift.idMap.map (BitVec.ofNat 8)) ++ leBytes 4 (ipv4 u)) } u)) ∧
    (Takes 0x0102 r t s u → exec (.devStatus r t) s = .next (ended 0x0102 r t
      { result := fields [(24, leBytes 4 (regNow u 0x100)), (28, leBytes 4 (regNow u 0x124)), (32, leBytes 4 (regNow u 0x5000)),
          (36, leBytes 4 (regNow u 0x40000)), (40, leBytes 4 (regNow u 0x54400)), (44, leBytes 4 (regNow u 0x54800)),
          (48, leBytes 4 (regNow u 0x80000)), (52, leBytes 4 (regNow u 0x70000)), (56, leBytes 4 (regNow u 0x54810)),
          (60, leBytes 2 (epochNow u)), (62, leBytes 1 (b2n u.sys.suspect + 2 * b2n u.bun.changeover.isSome +
            4 * b2n (!u.shift.persistOk)))] } u)) ∧
    (Takes 0x0105 r t s u → exec (.echo r t) s = .next (ended 0x0105 r t { result := r.body, block := some r.arg } u)) ∧
    (Takes 0x0203 r t s u → ∃ a, exec (.configDigest r t) s = .next (ended 0x0203 r t { result := a } u) ∧
      (∀ b, u.bun.active = some b → b.digest.length = 16 → a.take 16 = b.digest ∧ u16 a 16 = b.epoch % 65536) ∧
      (∀ b, u.bun.staged = some b → b.digest.length = 16 → (a.drop 18).take 16 = b.digest ∧ u16 a 34 = b.epoch % 65536)) ∧
    (∀ b, Takes 0x0404 r t s u → u.bun.active = some b → exec (.arrayLayout r t) s = .next (ended 0x0404 r t
      { result := fields [(24, leBytes 1 b.mode.code), (25, leBytes 1 (activeGroups b).length), (26, leBytes 2 b.channels),
          (28, leBytes 2 (inputsOf b)), (30, leBytes 2 b.intake), (32, leBytes 4 b.groups), (36, leBytes 8 b.specPeriod),
          (44, leBytes 6 b.t0Sec), (50, leBytes 4 b.t0Ns), (54, leBytes 2 b.t0Frac), (56, leBytes 2 b.source),
          (60, leBytes 4 (if b.mode = .x4 then b.pGroups else 0))] } u)) ∧
    (Takes 0x0404 r t s u → u.bun.active = none →
      exec (.arrayLayout r t) s = .next (ended 0x0404 r t { status := stNotInState } u)) ∧
    (Takes 0x0405 r t s u → b8 r 24 < 2 → 1 ≤ b8 r 25 → b8 r 25 ≤ 32 → b8 r 27 ≤ 16 → 1 ≤ b32 r 28 → b32 r 28 ≤ 62500000 →
      1 ≤ b16 r 32 → b16 r 32 ≤ 4096 → exec (.frameBudget r t) s = .next (ended 0x0405 r t
        { result := budgetReply (b8 r 25 * (b8 r 25 + 1) / 2) (b8 r 25) (b8 r 26) (b8 r 27) (128 * (80000000000 / b32 r 28))
            (b16 r 32) (frameCount u) } u)) ∧
    (Takes 0x0405 r t s u → b8 r 24 = 2 → 1 ≤ b8 r 25 → b8 r 25 ≤ 32 → b8 r 27 ≤ 16 → 1 ≤ b32 r 28 → b32 r 28 ≤ 62500000 →
      1 ≤ b16 r 32 → b16 r 32 ≤ 4096 → b8 r 34 + b8 r 35 = b8 r 25 → exec (.frameBudget r t) s = .next (ended 0x0405 r t
        { result := budgetReply (b8 r 34 * b8 r 35) (b8 r 25) (b8 r 26) (b8 r 27) (128 * (80000000000 / b32 r 28))
            (b16 r 32) (frameCount u) } u)) ∧
    (∀ b, Takes 0x0405 r t s u → b8 r 24 = 3 → u.bun.active = some b → exec (.frameBudget r t) s = .next (ended 0x0405 r t
      { result := budgetReply (pairsOf b).length (activeGroups b).length (setsNow u)
          ((u.beams.prompt.map (·.channels.length)).getD 0) (kPrime b) b.channels (frameCount u) } u)) ∧
    (Takes 0x0405 r t s u → (3 < b8 r 24 ∨ (b8 r 24 < 3 ∧ 32 < b8 r 25)) →
      exec (.frameBudget r t) s = .next (ended 0x0405 r t { status := stBadArg, detail := 2 } u)) ∧
    (∀ o, Takes 0x0104 r t s u →
      u.cages.openCmds.find? (fun x => x.req.client == r.client && x.req.tag == b16 r 24) = some o → o.phase ≠ .committed →
      exec (.abort r t) s = .next (ended 0x0104 r t { result := fields [(24, leBytes 1 stAborted)] }
        (endAborted o.req (jobSide o u) t { undo o u with cages := { (undo o u).cages with
          openCmds := (undo o u).cages.openCmds.filter (fun x => !(x.req.client == r.client && x.req.tag == b16 r 24)) } }))) ∧
    (∀ o, Takes 0x0104 r t s u →
      u.cages.openCmds.find? (fun x => x.req.client == r.client && x.req.tag == b16 r 24) = some o → o.phase = .committed →
      exec (.abort r t) s = .next (ended 0x0104 r t { status := stAlready, result := fields [(24, leBytes 1 stOk)] } u)) ∧
    (Takes 0x0104 r t s u →
      u.cages.openCmds.find? (fun x => x.req.client == r.client && x.req.tag == b16 r 24) = none →
      ((placeOf u r.client).getD {}).entries.find? (fun e => e.tag == b16 r 24) = none →
      u.cages.fetched.find? (isTarget r.client (b16 r 24)) = none →
      exec (.abort r t) s = .next (ended 0x0104 r t { status := stBadArg, detail := 6 } u)) ∧
    (∀ e c, Takes 0x0104 r t s u →
      u.cages.openCmds.find? (fun x => x.req.client == r.client && x.req.tag == b16 r 24) = none →
      ((placeOf u r.client).getD {}).entries.find? (fun e => e.tag == b16 r 24) = some e → e.done = some c →
      c.opcode ≠ 0x0104 → exec (.abort r t) s = .next (ended 0x0104 r t
        { status := stAlready, result := fields [(24, leBytes 1 c.status)] } u))) ∧
  (∀ (r : Req) (t : Nat) (s u : State) (b old : Bundle),
    (Takes 0x0201 r t s u → stagingUp u = true → b8 r 28 = 1 → b8 r 29 = 0 → b32 r 24 = 0 →
      exec (.bundleLoad r t) s = .next (ended 0x0201 r t { result := fields [(24, leBytes 4 r.arg.length)] }
        { u with bun := { u.bun with staging := r.arg, staged := none } })) ∧
    (Takes 0x0201 r t s u → stagingUp u = true → b8 r 28 = 0 → b8 r 29 = 0 → b32 r 24 = u.bun.staging.length →
      exec (.bundleLoad r t) s = .next (ended 0x0201 r t
        { result := fields [(24, leBytes 4 (u.bun.staging ++ r.arg).length)] }
        { u with bun := { u.bun with staging := u.bun.staging ++ r.arg } })) ∧
    (Takes 0x0201 r t s u → stagingUp u = true → b8 r 28 = 2 → b8 r 29 = 0 → b32 r 24 = u.bun.staging.length →
      headerOk (u.bun.staging ++ r.arg) ((u.bun.staging ++ r.arg).length - 64) = true → u.hst.jobs.length < 9 →
      exec (.bundleLoad r t) s = .next (staysOpen 0x0201 r t .accepted 0 [] { u with hst := { u.hst with jobs := u.hst.jobs ++
        [{ client := r.client, tag := r.tag, use := 0, input := u.bun.staging ++ r.arg
           limit := headerBytes (u.bun.staging ++ r.arg), expect := headerBytes (u.bun.staging ++ r.arg) }] } })) ∧
    (Takes 0x0201 r t s u → stagingUp u = false →
      exec (.bundleLoad r t) s = .next (ended 0x0201 r t { status := stNotInState, detail := 12 } u)) ∧
    (Takes 0x0201 r t s u → stagingUp u = true → b8 r 28 < 4 → b8 r 29 = 0 →
      b32 r 24 ≠ (if bit (b8 r 28) 0 then 0 else u.bun.staging.length) →
      exec (.bundleLoad r t) s = .next (ended 0x0201 r t { status := stBadArg, detail := 15 } u)) ∧
    (Takes 0x0202 r t s u → b8 r 32 ≤ 1 → b8 r 33 ≤ 1 → b8 r 34 ≤ 1 → dpRun u = true → u.bun.staged = none →
      exec (.bundleActivate r t) s = .next (ended 0x0202 r t
        { status := stNotInState, result := fields [(36, leBytes 2 0xFFFF)] } u)) ∧
    (Takes 0x0202 r t s u → b8 r 32 ≤ 1 → b8 r 33 ≤ 1 → b8 r 34 ≤ 1 → dpRun u = true → u.bun.staged = some b →
      u.bun.changeover = none → u.pwr.leaving = none → u.pwr.returning = none → (r.body.drop 16).take 16 ≠ b.digest →
      exec (.bundleActivate r t) s = .next (ended 0x0202 r t
        { status := stDigest, result := fields [(36, leBytes 2 0xFFFF)] } u)) ∧
    (Takes 0x0202 r t s u → b8 r 32 = 0 → b8 r 33 ≤ 1 → b8 r 34 ≤ 1 → dpRun u = true → u.bun.staged = some b →
      u.bun.changeover = none → u.pwr.leaving = none → u.pwr.returning = none → (r.body.drop 16).take 16 = b.digest →
      u.bun.active = some old → u.hop.running = true →
      (b.epoch = old.epoch → exec (.bundleActivate r t) s = .next (ended 0x0202 r t
        { status := stEpoch, result := fields [(36, leBytes 2 0xFFFF)] } u)) ∧
      (b.epoch ≠ old.epoch → (b64 r 24 % 8192 ≠ 0 ∨ b64 r 24 < fillingSpectrum u + 16384) →
        exec (.bundleActivate r t) s = .next (ended 0x0202 r t
          { status := stBadArg, detail := 2, result := fields [(36, leBytes 2 0xFFFF)] } u)) ∧
      (∀ c, b.epoch ≠ old.epoch → b64 r 24 % 8192 = 0 → fillingSpectrum u + 16384 ≤ b64 r 24 → sameShape old b = true →
        beaconLanesOk b u = true → tryChangeover b (b64 r 24 / 8192) t u = .ok c → wholeOk b u c = true →
        wholeOk.framesFit old ((u.aba.sched.map (·.sets)).getD 0) u = true → ∃ v, exec (.bundleActivate r t) s =
          .next (ended 0x0202 r t { result := activateReply b.epoch old.epoch (b64 r 24) } v) ∧
          v.bun.changeover = some (b64 r 24, b) ∧ v.bun.staged = none ∧ v.bun.active = some old)) ∧
    (Takes 0x0202 r t s u → b8 r 32 = 1 → b8 r 33 ≤ 1 → b8 r 34 ≤ 1 → dpRun u = false → u.shift.dev = .noBundle →
      u.sys.dp = .off → u.bun.staged = some b → u.bun.changeover = none → u.pwr.leaving = none → u.pwr.returning = none →
      (r.body.drop 16).take 16 = b.digest → tooHot u = false → beaconLanesOk b u = true →
      (∀ c, tryImages b 0 t b.images { freshConfig b { u with
          hop := {}, aba := { phys := u.aba.phys }, sys := { u.sys with dp := .run } } with
            bun := { (freshConfig b { u with hop := {}, aba := { phys := u.aba.phys }, sys := { u.sys with dp := .run } }).bun with
              applying := true } } = .ok c → wholeOk b u c = false →
        exec (.bundleActivate r t) s = .next (ended 0x0202 r t
          { status := stLimit, detail := 13, result := fields [(36, leBytes 2 0xFFFF)] } u))) ∧
    (∀ c, Takes 0x0202 r t s u → b8 r 32 = 1 → b8 r 33 ≤ 1 → b8 r 34 ≤ 1 → dpRun u = true → u.bun.staged = some b →
      u.bun.changeover = none → u.pwr.leaving = none → u.pwr.returning = none → (r.body.drop 16).take 16 = b.digest →
      tooHot u = false → beaconLanesOk b u = true → tryImages b 0 t b.images { freshConfig b { u with
        hop := {}, aba := { phys := u.aba.phys }, sys := { u.sys with dp := .run } } with
          bun := { (freshConfig b { u with hop := {}, aba := { phys := u.aba.phys }, sys := { u.sys with dp := .run } }).bun with
            applying := true } } = .ok c → wholeOk b u c = true →
      exec (.bundleActivate r t) s = .next (staysOpen 0x0202 r t .staged 0 []
        (leaveRun .activate false { u with bun := { u.bun with coming := some b } }))))

/-- R407, R409 to R412, R418: the monitor's table sequencer. A table that waits takes effect once no conversion is
under way; an entry starts on every converter of its mask; a conversion's end stores the calibrated result, counts the
entry down, sets the window's cause, and enters the FIFO, which loses results when full. R408, R412 to R416, 16 Table
16.13: MON_SEQUENCE, MON_CALIBRATE, MON_READ and MON_URGENT, and the start of urgent work. -/
def Obligations.Monitor : Prop :=
  (∀ (s : State) (m raw t v : Nat) (x : Int) (e : List Byte) (es : List (List Byte)) (run ovr : Bool),
    (s.mon.staged = none → exec (.monSequenceCommit t) s = .next s) ∧
    (s.mon.staged = some (es, run) → s.mon.phase = .converting → exec (.monSequenceCommit t) s = .next s) ∧
    (s.mon.staged = some (es, run) → s.mon.phase ≠ .converting → exec (.monSequenceCommit t) s = .next
      (finishOpen (fun o => isOp 0x0B01 o && decide (o.phase = .staged)) (fun _ => {}) t { s with
        mon := { s.mon with table := es, entry := 0, staged := none, phase := if run then .ready else .stopped } })) ∧
    (s.mon.phase = .ready → s.mon.staged = none → s.mon.conv.length = 4 → (∀ k, k < 4 →
      bit (entMask (s.mon.table.getD s.mon.entry [])) k = true → freeOfUrgent s k = true) → ∃ u,
      exec .sequencerEntryStart s = .next u ∧ u = { s with mon := u.mon } ∧ u.mon.phase = .converting ∧
      u.mon.entry = s.mon.entry ∧ u.mon.passes = s.mon.passes ∧
      ∀ k, k < 4 → (bit (entMask (s.mon.table.getD s.mon.entry [])) k = true → (convAt u k).state = .table ∧
        (convAt u k).left = entRepeat (s.mon.table.getD s.mon.entry []) ∧ (convAt u k).shifted = false) ∧
        (bit (entMask (s.mon.table.getD s.mon.entry [])) k = false → convAt u k = convAt s k)) ∧
    (s.mon.phase = .delay → s.mon.staged = none → (∀ k, k < 4 → freeOfUrgent s k = true) → ∃ u,
      exec .sequencerEntryStart s = .next u ∧ u.mon.phase = .converting ∧
      u.mon.entry = (s.mon.entry + 1) % max 1 s.mon.table.length ∧
      (u.mon.entry = 0 → u.mon.passes = sat32 (s.mon.passes + 1) ∧ bit u.mon.cause 16 = true)) ∧
    (s.mon.phase ≠ .ready → s.mon.phase ≠ .delay → exec .sequencerEntryStart s = .next s) ∧
    (((convAt s m).state = .idle ∨ (convAt s m).state = .paused) → exec (.conversionEnd m raw t) s = .next s) ∧
    (raw < 2 ^ 24 → (convAt s m).state = .table → exec (.conversionEnd m raw t) s = .next (endTable m (signed 24 raw) t s)) ∧
    (raw < 2 ^ 24 → (convAt s m).state = .urgent →
      exec (.conversionEnd m raw t) s = .next (endUrgent m (signed 24 raw) t s)) ∧
    (m < 4 → s.mon.conv.length = 4 →
      (convAt (endTable m x t s) m).res = (resultOf m (entInput (curEntry s)) (entGain (curEntry s)) (convAt s m) x).1 ∧
      (convAt (endTable m x t s) m).left = (convAt s m).left - 1 ∧ (convAt (endTable m x t s) m).resStamp = some (fullTime s t) ∧
      (convAt (endTable m x t s) m).resEntry = s.mon.entry ∧ (∀ k, k ≠ m → convAt (endTable m x t s) k = convAt s k) ∧
      endTable m x t s = { s with mon := (endTable m x t s).mon }) ∧
    (∀ (c : Conv) (r : Int) (g : Nat), v < 8 → -8388608 ≤ divHalfEven ((inputReferred r g - c.off) * c.gain) (2 ^ 32) →
      divHalfEven ((inputReferred r g - c.off) * c.gain) (2 ^ 32) ≤ 8388607 →
      (resultOf m v g c r).1 = divHalfEven ((inputReferred r g - c.off) * c.gain) (2 ^ 32)) ∧
    (bit (entDest e) 3 = true → (x < s.mon.winLo.getD (entDest e % 8) 0 ∨ s.mon.winHi.getD (entDest e % 8) 0 < x) →
      winCheck e x s = { s with mon := { s.mon with cause := setBits s.mon.cause [entDest e % 8] } }) ∧
    (s.mon.winLo.getD (entDest e % 8) 0 ≤ x → x ≤ s.mon.winHi.getD (entDest e % 8) 0 → winCheck e x s = s) ∧
    (m < 4 → s.mon.conv.length = 4 → bit (entDest e) 4 = true → 256 ≤ (convAt s m).fifo.length →
      (convAt (pushFifo m e x ovr t s) m).fifo = (convAt s m).fifo ∧
      (convAt (pushFifo m e x ovr t s) m).lost = min 0xFFFF ((convAt s m).lost + 1) ∧
      bit (pushFifo m e x ovr t s).mon.cause (8 + m) = true) ∧
    (m < 4 → s.mon.conv.length = 4 → bit (entDest e) 4 = true → (convAt s m).fifo.length < 256 →
      (convAt (pushFifo m e x ovr t s) m).fifo = (convAt s m).fifo ++
        [fifoWords s.mon.entry ovr (convAt s m).shifted (convAt s m).lostNext x t] ∧
      (convAt (pushFifo m e x ovr t s) m).lost = (convAt s m).lost ∧
      ((convAt s m).fifo.length = 127 → bit (pushFifo m e x ovr t s).mon.cause (12 + m) = true)) ∧
    ((convAt s m).fifo = [] → exec (.monFifoRead m) s = .next s ∧ (monFifoRead m s).1 = 0 ∧
      (convAt (monFifoRead m s).2 m).hi = (convAt s m).hi) ∧
    (∀ w rest, (convAt s m).fifo = w :: rest → (monFifoRead m s).1 = w.1 ∧ exec (.monFifoRead m) s = .next { s with
      mon := { s.mon with conv := upd s.mon.conv m (fun c => { c with fifo := rest, hi := w.2 }) } }) ∧
    exec .monCounterClear s = .next { s with mon := { s.mon with
      passes := 0, redo := 0, urgCnt := 0, urgLost := 0, conv := s.mon.conv.map (fun c => { c with lost := 0 }) } }) ∧
  (∀ (r : Req) (t m : Nat) (s u : State) (es : List (List Byte)) (q : UrgReq) (rest : List UrgReq),
    (Takes 0x0B01 r t s u → 1 ≤ b8 r 24 → b8 r 24 ≤ 64 → r.arg.length = 16 * b8 r 24 → b8 r 25 ≤ 1 →
      es = (upTo (b8 r 24)).map (fun i => (r.arg.drop (16 * i)).take 16) → es.all entReserved = true → es.all entOk = true →
      (u.mon.phase ≠ .converting → exec (.monSequence r t) s = .next (ended 0x0B01 r t {} { u with
        mon := { u.mon with table := es, entry := 0, staged := none
                            phase := if b8 r 25 = 1 then .ready else .stopped } })) ∧
      (u.mon.phase = .converting → exec (.monSequence r t) s = .next (staysOpen 0x0B01 r t .staged 0 [] { u with
        mon := { u.mon with staged := some (es, decide (b8 r 25 = 1)) } }))) ∧
    (Takes 0x0B01 r t s u → (b8 r 24 = 0 ∨ 64 < b8 r 24) →
      exec (.monSequence r t) s = .next (ended 0x0B01 r t { status := stBadArg, detail := 2 } u)) ∧
    (Takes 0x0B02 r t s u → b8 r 24 ≤ 3 → b8 r 25 ≤ 7 → b8 r 26 = 0 → measuring u (b8 r 24) = false →
      (convAt u (b8 r 24)).queue.length < 4 → exec (.monCalibrate r t) s = .next (staysOpen 0x0B02 r t .staged (b8 r 24) [] { u with
        mon := { u.mon with conv := upd u.mon.conv (b8 r 24) (fun c => { c with queue := c.queue ++
          [{ source := .calibrate none (r.client * 65536 + r.tag), input := b8 r 25, rate := 2, finish := true
             left := 16 }] }) } })) ∧
    (∀ u0 u1, Takes 0x0B02 r t s u → b8 r 24 ≤ 3 → b8 r 25 ≤ 7 → b8 r 26 = 2 →
      (calAt u (b8 r 24) (b8 r 25)).u0 = some u0 → (calAt u (b8 r 24) (b8 r 25)).u1 = some u1 →
      ((u1 - u0).natAbs < 2 ^ 16 → exec (.monCalibrate r t) s =
        .next (ended 0x0B02 r t { status := stBadArg, detail := 2 } u)) ∧
      (∀ g, (2 : Int) ^ 16 ≤ u1 - u0 → g = divHalfEven ((calAt u (b8 r 24) (b8 r 25)).full * 2 ^ 32) (u1 - u0).natAbs →
        -(2 ^ 31) ≤ g → g < 2 ^ 31 → exec (.monCalibrate r t) s = .next (ended 0x0B02 r t
          { result := fields [(24, leBytesI 4 u0), (28, leBytesI 4 g)] } { u with mon := { u.mon with
            cal := upd u.mon.cal (8 * b8 r 24 + b8 r 25) (fun c => { c with off := u0, gain := g, u0 := none, u1 := none }) } }))) ∧
    (Takes 0x0B03 r t s u → ∃ a, exec (.monRead r t) s = .next (ended 0x0B03 r t { result := a } u) ∧ a.length = 40 ∧
      ∀ k, k < 4 → (a.drop (8 * k)).take 8 =
        leBytesI 4 (convAt u k).res ++ leBytes 2 (convAt u k).resEntry ++ leBytes 2 (resAge (convAt u k) (fullTime u t))) ∧
    (Takes 0x0B04 r t s u → b8 r 24 ≤ 3 → b8 r 25 ≤ 11 → b8 r 26 ≤ 9 → b8 r 27 ≤ 1 → (convAt u (b8 r 24)).queue.length < 4 →
      exec (.monUrgent r t) s = .next (staysOpen 0x0B04 r t .staged (b8 r 24) [] { u with
        mon := { u.mon with conv := upd u.mon.conv (b8 r 24) (fun c => { c with queue := c.queue ++
          [{ source := .command r.client r.tag, input := b8 r 25, rate := b8 r 26
             finish := decide (b8 r 27 = 1) }] }) } })) ∧
    (Takes 0x0B04 r t s u → b8 r 24 ≤ 3 → b8 r 25 ≤ 11 → b8 r 26 ≤ 9 → b8 r 27 ≤ 1 → 4 ≤ (convAt u (b8 r 24)).queue.length →
      exec (.monUrgent r t) s = .next (ended 0x0B04 r t { status := stBusy } u)) ∧
    ((convAt s m).queue = [] → exec (.urgentConversionStart m t) s = .next s) ∧
    (m < 4 → s.mon.conv.length = 4 → (convAt s m).serving = none → (convAt s m).queue = q :: rest →
      ((convAt s m).state ≠ .table ∨ finishFirst s m q = false) → ∃ v, v = { s with mon := v.mon } ∧
      (convAt v m).state = .urgent ∧ (convAt v m).serving = some q ∧ (convAt v m).queue = rest ∧
      (convAt v m).left = (convAt s m).left ∧
      v.mon.redo = sat32 (s.mon.redo + b2n (decide ((convAt s m).state = .table))) ∧
      (∀ k, k ≠ m → convAt v k = convAt s k) ∧
      ((∀ cl tag, q.source ≠ .command cl tag) → exec (.urgentConversionStart m t) s = .next v) ∧
      (∀ cl tag, q.source = .command cl tag → exec (.urgentConversionStart m t) s = .next
        (commitOpen (fun o => isOp 0x0B04 o && asksFor cl tag o && decide (o.phase = .staged)) t v))) ∧
    ((convAt s m).state = .table → (convAt s m).queue = q :: rest → finishFirst s m q = true →
      exec (.urgentConversionStart m t) s = .next s))

/-- R423 to R425, R427, R430, R431, R433, 16 Table 16.14: the constellation: joining, the state and the policy, and the
events and registers of the beacon unit. R425 to R428, R430: a beacon. It is taken only from a joined peer of the same
constellation number; its time measurement is half of (t2 − t1) − (t4 − t3) less the asymmetry, in units of 2^-17 ns; a
kind of disagreement is entered after three comparisons that differ and left after three that agree; outputs are
time-suspect while more than half of the peers heard are in time disagreement. -/
def Obligations.Constellation : Prop :=
  (∀ (r : Req) (t n now : Nat) (s u : State) (cfg : ConstCfg) (l : List Nat),
    (Takes 0x0C01 r t s u → conCfg u = some cfg → dpRun u = true → 1 ≤ b8 r 26 → b8 r 26 ≤ 64 →
      r.arg.length = 4 * cdiv (2 * b8 r 26) 4 → l = (upTo (b8 r 26)).map (fun i => u16 r.arg (2 * i)) →
      ((∀ x ∈ l, x ∈ cfg.members ∧ x ≠ ownSource u) → l.Nodup → exec (.constJoin r t) s =
        .next (staysOpen 0x0C01 r t .staged 0 (fields [(24, leBytes 1 (b8 r 26))])
          { u with con := { u.con with staged := some (b16 r 24, l) } })) ∧
      ((∃ x ∈ l, x ∉ cfg.members ∨ x = ownSource u) → exec (.constJoin r t) s =
        .next (ended 0x0C01 r t { status := stBadArg, detail := 2 } u))) ∧
    (Takes 0x0C01 r t s u → conCfg u = none → 1 ≤ b8 r 26 → b8 r 26 ≤ 64 → r.arg.length = 4 * cdiv (2 * b8 r 26) 4 →
      exec (.constJoin r t) s = .next (ended 0x0C01 r t { status := stNotInState } u)) ∧
    (Takes 0x0C02 r t s u → ∃ a, exec (.constState r t) s = .next (ended 0x0C02 r t
      { result := a, block := some (u.con.peers.flatMap (peerRecord (fullTime u t))) } u) ∧
      u8 a 0 = b2n u.con.joined + 2 * b2n (u.con.joined && u.con.peers.all (fun p => decide (p.state = 1))) ∧
      u8 a 1 = u.con.peers.length % 256 ∧ u16 a 2 = disagreeing u % 65536) ∧
    (Takes 0x0C03 r t s u → b8 r 24 ≤ 1 → 20 ≤ b32 r 28 → b32 r 28 ≤ 1000000 → ((peerOf u (b16 r 26)).isSome = true ∨ ownId u = some (b16 r 26)) →
      exec (.constPolicy r t) s = .next (ended 0x0C03 r t {} (judgeLeader { u with
        con := { u.con with hold := decide (b8 r 24 = 1), leader := some (b16 r 26), bound := b32 r 28 } }))) ∧
    (Takes 0x0C03 r t s u → (1 < b8 r 24 ∨ b32 r 28 < 20 ∨ 1000000 < b32 r 28) →
      exec (.constPolicy r t) s = .next (ended 0x0C03 r t { status := stBadArg, detail := 2 } u)) ∧
    (∀ p, peerOf s n = some p → dpRun s = true → s.con.joined = true → p.state ≠ 3 →
      max (p.lastAt.getD 0) p.since + 3000000000 * 65536 ≤ now →
      exec (.peerSilent n now) s = .next (judgeLeader (judgeSuspect (conCause [2]
        (setPeer { p with state := 3, differ := [0, 0, 0, 0], agree := [0, 0, 0, 0] } s))))) ∧
    (∀ p, peerOf s n = some p → now < max (p.lastAt.getD 0) p.since + 3000000000 * 65536 →
      exec (.peerSilent n now) s = .next s) ∧
    (peerOf s n = none → exec (.peerSilent n now) s = .next s) ∧
    (s.con.due = false → exec (.constRealign t) s = .next s) ∧
    (s.con.due = true → dpRun s = true → s.shift.onShift < 2 → s.con.joined = true → hostStops s = true →
      exec (.constRealign t) s = .next { s with con := { s.con with due := false, again := true } }) ∧
    (s.con.due = true → dpRun s = true → s.shift.onShift < 2 → s.con.joined = true → hostStops s = false → s.con.hold = true →
      exec (.constRealign t) s = .next { s with
        con := { s.con with due := false, holding := true }, tal := { s.tal with ended := true, next := none } }) ∧
    (∀ p b, s.con.due = true → dpRun s = true → s.shift.onShift < 2 → s.con.joined = true → hostStops s = false →
      s.con.hold = false → s.con.leader.bind (peerOf s) = some p → s.bun.active = some b →
      exec (.constRealign t) s = .next (realign b p t { s with con := { s.con with due := false } })) ∧
    ((s.con.newly = 0 ∨ 2 ≤ s.shift.onShift) → exec .constAlarmPoll s = .next s) ∧
    (s.con.newly ≠ 0 → s.shift.onShift < 2 → conCfg s = some cfg → exec .constAlarmPoll s = .next
      (swSet (cfg.alarmSource / 32) (2 ^ (cfg.alarmSource % 32)) { s with con := { s.con with newly := 0 } })) ∧
    (dpRun s = true → exec (.constPeerSelWrite n) s = .next { s with con := { s.con with peerSel := n % 64 } } ∧
      exec .constCounterClear s = .next { s with
        con := { s.con with tx := 0, rx := 0, foreign := 0, suspectS := 0, realign := 0 } }) ∧
    (dpRun s = false → exec (.constPeerSelWrite n) s = .next s ∧ exec .constCounterClear s = .next s)) ∧
  (∀ (s u : State) (lane ingress k : Nat) (b : List Byte) (p : Peer) (d : Bool),
    (takeDelivered lane 4 s = none → exec (.beaconReceived lane ingress) s = .next s) ∧
    (takeDelivered lane 4 s = some (b, u) → peerOf u (hSource b) = none → exec (.beaconReceived lane ingress) s =
      .next { u with con := { u.con with foreign := sat32 (u.con.foreign + 1) } }) ∧
    (takeDelivered lane 4 s = some (b, u) → peerOf u (hSource b) = some p → u16 (hPayload b) 6 ≠ u.con.number →
      exec (.beaconReceived lane ingress) s = .next { u with con := { u.con with foreign := sat32 (u.con.foreign + 1) } }) ∧
    (takeDelivered lane 4 s = some (b, u) → peerOf u (hSource b) = some p → u.con.joined = true →
      u16 (hPayload b) 6 = u.con.number → (ownId u = some (hDest b) ∨ hDest b = 0xFFF) →
      exec (.beaconReceived lane ingress) s =
        .next (takeBeacon p (hEpoch b) (hPayload b) (decide (hDest b ≠ 0xFFF)) ingress u)) ∧
    (k < 4 → p.kinds.length = 4 → p.differ.length = 4 → p.agree.length = 4 →
      (judgeKind k true p).differ.getD k 0 = min (p.differ.getD k 0 + 1) 3 ∧ (judgeKind k true p).agree.getD k 0 = 0 ∧
      (judgeKind k true p).kinds.getD k false = (p.kinds.getD k false || decide (2 ≤ p.differ.getD k 0)) ∧
      (judgeKind k false p).agree.getD k 0 = min (p.agree.getD k 0 + 1) 3 ∧ (judgeKind k false p).differ.getD k 0 = 0 ∧
      (judgeKind k false p).kinds.getD k false = (p.kinds.getD k false && decide (p.agree.getD k 0 < 2)) ∧
      (∀ j, j ≠ k → (judgeKind k d p).kinds.getD j false = p.kinds.getD j false ∧
        (judgeKind k d p).differ.getD j 0 = p.differ.getD j 0 ∧ (judgeKind k d p).agree.getD j 0 = p.agree.getD j 0)) ∧
    ((judgeSuspect s).sys.suspect = decide ((heard s).length < 2 * ((heard s).filter (fun x => x.kinds.getD 0 false)).length) ∧
      judgeSuspect s = { s with sys := { s.sys with suspect := (judgeSuspect s).sys.suspect }, con := (judgeSuspect s).con } ∧
      (judgeSuspect s).con.peers = s.con.peers) ∧
    (∀ (t1 rx : Nat), (nearestRx t1 rx - rx) % 2 ^ 48 = 0 ∧ 2 * (nearestRx t1 rx - t1) < 2 ^ 48 ∧
      -(2 ^ 48) ≤ 2 * (nearestRx t1 rx - t1)) ∧
    (∀ (body : List Byte) (asym : Int) (t1 : Nat) (t2 t3 : Int), p.sent.find? (fun x => x.1 == u16 body 56) = some (u16 body 56, t1) →
      t2 = nearestRx t1 (u48 body 58) →
      t3 = ((u48 body 44 * 1000000000 + u32 body 50) * 65536 + u16 body 54 : Nat) →
      (t3 - ingress).natAbs < 1000000000 * 65536 → measureTime p body asym ingress =
        some ((t2 - t1) - (ingress - t3) - asym * 65536, (t2 - t1) + (ingress - t3), false)))

/-- The block takes the command or event at the front of its queue, and runs it with the queue's rest; with an empty queue
it idles. The queue is the model's own (logs 1 and 2). -/
def Obligations.StepRunsFront : Prop :=
  ∀ (s : State) (c : Instr) (q : List Instr),
    (s.pending = c :: q → step s = exec c { s with pending := q }) ∧
    step { s with pending := c :: q } = exec c { s with pending := q } ∧
    (s.pending = [] → step s = .next s)

/-- Every command and event that waits is well formed after a step if it was before, for a step takes the front of the
queue and adds nothing to it, whatever command it is. -/
def Obligations.QueueInvariant : Prop :=
  ∀ s u : State, step s = .next u → u.pending = s.pending.tail ∧ (s.pending.all Instr.wf = true → u.pending.all Instr.wf = true)

/-- Every memory keeps its canonical form over every step: shared SRAM, pit memory, the core-local SRAMs, and each
Assayer's data and program memories list no address twice, none out of order, and none that holds what an unlisted
address reads as. -/
def Obligations.MemoryInvariant : Prop :=
  ∀ s u : State, MemOk s → step s = .next u → MemOk u

/-- 00 R8, 14 R331, R332, R319, 15 Tables 15.3, 15.8, 16 Table 16.7, 02 R33, 09 Table 9.14, 12 R254, 13 R289: what a cold
reset leaves. No core is on shift and the device is BOOTING; DP is off; memories, queues, cages, lanes, bundles and
channels are empty, disabled or idle; every source of the Bell is disabled at priority 0x80 and every threshold 255.
The memories of the reset state have the canonical form that every step keeps, and no command waits. -/
def Obligations.ResetState : Prop :=
  (let s := State.reset
  (s.shift.onShift = 2 ∧ s.shift.dev = .booting ∧ s.shift.stage = 0 ∧ s.shift.done = false ∧ s.shift.cold = true ∧
    s.shift.wdtCfg = 100 ∧ s.shift.held = .cold) ∧
  (s.sys.dp = .off ∧ s.sys.suspect = false ∧ s.sys.faultMask = 0 ∧ s.sys.sec = 0 ∧ s.sys.ns = 0) ∧
  (∀ n, n < 64 → (laneAt s n).rxEnabled = false ∧ (laneAt s n).txUp = false) ∧
  (∀ n, n < 8 → (cageAt s n).enable = false ∧ (cageAt s n).cause = 0 ∧ (cageAt s n).irqEn = 0) ∧
  (s.cages.openCmds = [] ∧ s.cages.fetched = [] ∧ s.cages.ready = [] ∧ s.cages.places = []) ∧
  (∀ k, k < 4 → (ayrAt s k).state = .empty) ∧
  (s.bell.en = 0 ∧ s.bell.pend = 0 ∧ (∀ n, n < 1024 → prioOf s.bell n = 0x80) ∧ ∀ t, t < 34 → s.bell.thresh.getD t 0 = 255) ∧
  (∀ c, c < 16 → (wchAt s c).en = false ∧ (wchAt s c).state = .idle ∧ (wchAt s c).pc = 0) ∧
  (s.bun.active = none ∧ s.bun.staged = none ∧ s.bun.changeover = none) ∧
  (s.tu.out = .freeRun ∧ s.tu.selected = none) ∧ s.pwr.remap = [false, false] ∧ s.pwr.timer = 0 ∧ s.hop.running = false) ∧
  (MemOk State.reset ∧ State.reset.pending.all Instr.wf = true ∧ State.reset.pending = [])

/-- R383 to R388, Table 16.5: how a request of any command is received. Without room a ring cage says BUSY and keeps
it; it waits while no firmware takes requests or an earlier command of its group is under way; with no place free it is
BUSY; a repeat is answered REPLAYED with the stored completion, another request with a known tag CONFLICT, one in
progress BUSY, none of them executing anything; a request forwarded to 0xFFF is refused (R48); and an entry that fails
a check ends with that check's STATUS and DETAIL. Table 16.5, R387: what a tag says of its request. In a client's
window, a tag up to 32,767 ahead of the newest is new, one 64 or more behind it is stale, and one within the window is
told apart by its digest and by what is stored with it. -/
def Obligations.RequestHandling : Prop :=
  (∀ (op : Nat) (f : Req → Nat → State → Out) (r q : Req) (t : Nat) (s u : State) (spec : CmdSpec),
    q = withArg s { r with opcode := op } →
    (hasRoom s r.cage = false → r.cage ≤ 3 → runCommand op f r t s = setBusy r.cage (modCage r.cage (fun c => { c with
      inRing := c.inRing ++ [{ r with opcode := op }] }) s)) ∧
    (hasRoom s r.cage = true → (cagesOpen s = false ∨ (mustWait s.cages.fetched op s = true ∧ r.forward = false)) →
      runCommand op f r t s = { s with cages := { s.cages with fetched := s.cages.fetched ++ [{ r with opcode := op }] } }) ∧
    (hasRoom s r.cage = true → cagesOpen s = true → (mustWait s.cages.fetched op s = false ∨ r.forward = true) →
      runCommand op f r t s = runNow op f r t s) ∧
    (q.opcode = op ∧ q.tag = r.tag ∧ q.client = r.client ∧ q.body = r.body ∧ (3 < r.cage ∨ r.host = true → q.arg = r.arg) ∧
      (r.cage ≤ 3 → r.host = false → hostArea r.argAddr r.arg.length = true →
        q.arg = memRead s.sys.sram r.argAddr r.arg.length)) ∧
    (r.forward = true → r.cage ≤ 5 → r.dest ≠ 0xFFF → runNow op f r t s = forwardReq q (accepted q s)) ∧
    (r.forward = true → r.cage ≤ 5 → r.dest = 0xFFF →
      runNow op f r t s = answerOnly q t { status := stBadArg, detail := 2 } stBadArg (accepted q s)) ∧
    (∀ stale, r.forward = false → takePlace r.client t (accepted q s) = some u →
      classify ((placeOf u r.client).getD {}) r.tag (reqDigest q) = .conflict none stale →
      runNow op f r t s = modCage r.cage (fun g => { g with conflict := sat32 (g.conflict + 1) }) (freeNext
        (answerOnly q t { status := stConflict, detail := if stale then 8 else 0 } (freeStatus u) u)) ∧ freeStatus u < 15) ∧
    (r.forward = false → takePlace r.client t (accepted q s) = none →
      runNow op f r t s = answerOnly q t { status := stBusy, detail := 9 } stBusy (accepted q s)) ∧
    (r.forward = false → takePlace r.client t (accepted q s) = some u →
      classify ((placeOf u r.client).getD {}) r.tag (reqDigest q) = .inProgress →
      runNow op f r t s = answerOnly q t { status := stBusy, detail := 7 } stBusy u) ∧
    (∀ o stale, r.forward = false → takePlace r.client t (accepted q s) = some u →
      classify ((placeOf u r.client).getD {}) r.tag (reqDigest q) = .conflict (some o) stale →
      runNow op f r t s = modCage r.cage (fun g => { g with conflict := sat32 (g.conflict + 1) })
        (answerOnly q t { status := stConflict, detail := if stale then 8 else 0 } o u)) ∧
    (∀ c, r.forward = false → takePlace r.client t (accepted q s) = some u →
      classify ((placeOf u r.client).getD {}) r.tag (reqDigest q) = .repeatOf c → ∃ v, runNow op f r t s = v ∧
      v = { u with cages := v.cages } ∧ v.cages.openCmds = u.cages.openCmds ∧ v.cages.ready = u.cages.ready ++
        [{ c with cage := r.cage, peer := r.peer, origin := r.origin, status := stReplayed, orig := c.status
                  resultBlock := false, block := [], phase := false, overflow := false, order := u.cages.commits + 1 }]) ∧
    (∀ st d, r.forward = false → takePlace r.client t (accepted q s) = some u → cmdSpec op = some spec →
      classify ((placeOf u r.client).getD {}) r.tag (reqDigest q) = .new →
      entryCheck spec q (enterTag r.client r.tag (reqDigest q) (!atAcceptance spec q) u) = some (st, d) →
      runNow op f r t s = ended op q t { status := st, detail := d }
        (enterTag r.client r.tag (reqDigest q) (!atAcceptance spec q) u)) ∧
    (r.forward = false → takePlace r.client t (accepted q s) = some u → cmdSpec op = none →
      classify ((placeOf u r.client).getD {}) r.tag (reqDigest q) = .new → runNow op f r t s = ended op q t
        { status := stUnknown } (enterTag r.client r.tag (reqDigest q) (!atAcceptance { op := op } q) u))) ∧
  (∀ (p : ClientPlace) (tag digest d : Nat) (e : CacheEntry) (c : Completion),
    tag < 65536 → p.newest < 65536 → e ∈ p.entries →
    (1 ≤ d → d ≤ 32767 → tag = (p.newest + d) % 65536 → classify p tag digest = .new) ∧
    (64 ≤ d → d ≤ 32768 → tag = (p.newest + 65536 - d) % 65536 → classify p tag digest = .conflict none true) ∧
    (d < 64 → tag = (p.newest + 65536 - d) % 65536 → p.entries.find? (fun x => x.tag == tag) = some e →
      (e.digest ≠ digest → classify p tag digest = .conflict (e.done.map (·.status)) false) ∧
      (e.digest = digest → e.stored = true → e.done = some c → classify p tag digest = .repeatOf c) ∧
      (e.digest = digest → e.stored = true → e.done = none → classify p tag digest = .inProgress) ∧
      (e.digest = digest → e.stored = false → classify p tag digest = .new)))

/-- Tables 16.1 and 16.2: a request entry of 64 bytes reads back as the request it was written from, in every field,
and a completion of 64 bytes shows its fields at the places of Table 16.2. R388, R389, R379: what ending a command
does. Its completion, with its STATUS, DETAIL and result, joins those that wait to be posted, after those of every
command that committed before; the block goes over its argument, in shared SRAM or in host memory, when RES_MAX allows
one; nothing else but the reply cache changes. -/
def Obligations.CompletionFormed : Prop :=
  ((∀ (r : Req) (e : List Byte), r.wf = true → r.reachable = true → r.badLen = false → r.peer = 0 → r.origin = (0, 0, 0) →
    e = reqBytes r →
    e.length = 64 ∧ reqOfBytes r.cage e r.arg = r ∧ u32 e 16 = r.arg.length) ∧
  (∀ (c : Completion) (e : List Byte), c.opcode < 2 ^ 16 → c.tag < 2 ^ 16 → c.client < 2 ^ 16 → c.status < 256 → c.orig < 256 →
    c.detail < 256 → c.sideEffects < 2 ^ 16 → c.resLen < 2 ^ 32 → c.commitTime < 2 ^ 64 → c.result.length = 40 →
    e = cplBytes c → e.length = 64 ∧ u16 e 0 = c.opcode ∧ u16 e 2 = c.tag ∧ u16 e 4 = c.client ∧ u8 e 6 = c.status ∧
      bit (u8 e 7) 0 = c.phase ∧ bit (u8 e 7) 1 = c.overflow ∧ bit (u8 e 7) 2 = c.resultBlock ∧
      bit (u8 e 7) 3 = c.forwarded ∧ u8 e 8 = c.orig ∧ u8 e 9 = c.detail ∧ u16 e 10 = c.sideEffects ∧ u32 e 12 = c.resLen ∧
      u64 e 16 = c.commitTime ∧ e.drop 24 = c.result)) ∧
  (∀ (op t : Nat) (r : Req) (a : Reply) (u v : State), v = ended op r t a u →
    v = { u with cages := v.cages, sys := { u.sys with sram := v.sys.sram } } ∧
    v.cages.commits = u.cages.commits + 1 ∧ v.cages.openCmds = u.cages.openCmds ∧ v.cages.cage = u.cages.cage ∧
    v.cages.fetched = u.cages.fetched ∧
    (∃ c, v.cages.ready = u.cages.ready ++ [c] ∧ c.opcode = op ∧ c.tag = r.tag ∧ c.client = r.client ∧ c.cage = r.cage ∧
      c.status = a.status ∧ c.detail = a.detail ∧ c.sideEffects = a.side ∧ c.commitTime = t ∧
      c.result = padTo 40 a.result ∧ c.block = (a.block.getD []).take r.resMax ∧ c.order = u.cages.commits + 1) ∧
    ((3 < r.cage ∨ r.host = true ∨ a.block = none ∨ r.resMax = 0) → v.sys.sram = u.sys.sram) ∧
    (∀ b, r.cage ≤ 3 → r.host = false → a.block = some b → 0 < r.resMax →
      v.sys.sram = memWrite u.sys.sram r.argAddr (b.take r.resMax)) ∧
    (∀ b, r.cage ≤ 3 → r.host = true → a.block = some b → 0 < r.resMax →
      v.cages.hostBlock = some (r.argAddr, b.take r.resMax)))

end
end

