-- ==== Sys2Proof/Laws/Mem.lean ====
section
/-! SUPPORT. Addressed memories: every operation keeps the canonical form, a read after a write gives what was written, and
other addresses read as before. -/

namespace Sys2Proof.Machine

variable {α : Type} [DecidableEq α]

theorem memWfFrom_mono {d : α} {lo lo' : Nat} {m : List (Nat × α)} (h : lo' ≤ lo) (w : memWfFrom d lo m = true) :
    memWfFrom d lo' m = true := by
  cases m with
  | nil => rfl
  | cons p r =>
    obtain ⟨a, v⟩ := p
    simp only [memWfFrom, Bool.and_eq_true, decide_eq_true_eq] at w ⊢
    exact ⟨⟨by omega, w.1.2⟩, w.2⟩

/-- A set keeps the canonical form. -/
theorem memSet_wfFrom {d : α} (m : List (Nat × α)) (lo a : Nat) (v : α) (ha : lo ≤ a) (w : memWfFrom d lo m = true) :
    memWfFrom d lo (memSet d m a v) = true := by
  induction m generalizing lo with
  | nil =>
    unfold memSet
    split
    · rfl
    · simp [memWfFrom, *]
  | cons p r ih =>
    obtain ⟨b, x⟩ := p
    simp only [memWfFrom, Bool.and_eq_true, decide_eq_true_eq] at w
    unfold memSet
    split
    · split
      · simp [memWfFrom, *]
      · rename_i hlt hv
        simp only [memWfFrom, Bool.and_eq_true, decide_eq_true_eq]
        exact ⟨⟨ha, hv⟩, ⟨by omega, w.1.2⟩, w.2⟩
    · split
      · rename_i _ he
        subst he
        split
        · exact memWfFrom_mono (by omega) w.2
        · simp [memWfFrom, *]
      · rename_i hlt hne
        simp only [memWfFrom, Bool.and_eq_true, decide_eq_true_eq]
        exact ⟨w.1, ih (b + 1) (by omega) w.2⟩

theorem memSet_wf (m : List Host.Cell) (a : Nat) (v : Byte) (w : Memory.wf m = true) : Memory.wf (memSet 0 m a v) = true :=
  memSet_wfFrom m 0 a v (Nat.zero_le _) w

/-- Every store keeps the canonical form. -/
theorem memWrite_wf (m : List Host.Cell) (a : Nat) (l : List Byte) (w : Memory.wf m = true) :
    Memory.wf (memWrite m a l) = true := by
  induction l generalizing m a with
  | nil => exact w
  | cons b r ih => exact ih _ _ (memSet_wf m a b w)

theorem memGet_low {d : α} {m : List (Nat × α)} {lo a : Nat} (w : memWfFrom d lo m = true) (h : a < lo) : memGet d m a = d := by
  cases m with
  | nil => rfl
  | cons p r =>
    obtain ⟨b, x⟩ := p
    simp only [memWfFrom, Bool.and_eq_true, decide_eq_true_eq] at w
    unfold memGet
    rw [if_neg (by omega), if_pos (by omega)]

/-- What was set is read back. -/
theorem memGet_memSet_same {d : α} (m : List (Nat × α)) (lo a : Nat) (v : α) (w : memWfFrom d lo m = true) :
    memGet d (memSet d m a v) a = v := by
  induction m generalizing lo with
  | nil =>
    unfold memSet
    split
    · rename_i h; rw [h]; rfl
    · simp [memGet]
  | cons p r ih =>
    obtain ⟨b, x⟩ := p
    simp only [memWfFrom, Bool.and_eq_true, decide_eq_true_eq] at w
    unfold memSet
    split
    · split
      · rename_i hlt hv
        subst hv
        unfold memGet
        rw [if_neg (by omega), if_pos hlt]
      · simp [memGet]
    · split
      · rename_i _ he
        subst he
        split
        · rename_i hv
          subst hv
          exact memGet_low w.2 (by omega)
        · simp [memGet]
      · unfold memGet
        rw [if_neg (by omega), if_neg (by omega)]
        exact ih _ w.2

/-- Another address reads as before. -/
theorem memGet_memSet_other {d : α} (m : List (Nat × α)) (lo a c : Nat) (v : α) (w : memWfFrom d lo m = true) (h : c ≠ a) :
    memGet d (memSet d m a v) c = memGet d m c := by
  induction m generalizing lo with
  | nil =>
    unfold memSet
    split
    · rfl
    · unfold memGet
      rw [if_neg (by omega)]
      split <;> rfl
  | cons p r ih =>
    obtain ⟨b, x⟩ := p
    simp only [memWfFrom, Bool.and_eq_true, decide_eq_true_eq] at w
    unfold memSet
    split
    · rename_i hlt
      split
      · rfl
      · conv_lhs => unfold memGet
        rw [if_neg (by omega)]
        split
        · rename_i hc
          unfold memGet
          rw [if_neg (by omega), if_pos (by omega)]
        · rfl
    · split
      · rename_i _ he
        subst he
        split
        · conv_rhs => unfold memGet
          rw [if_neg (by omega)]
          split
          · exact memGet_low w.2 (by omega)
          · rfl
        · have hc : ¬ a = c := fun e => h e.symm
          simp only [memGet, if_neg hc]
      · unfold memGet
        rw [ih _ w.2]

/-- A byte inside a store reads as what was stored. -/
theorem memByte_memWrite_in (m : List Host.Cell) (a : Nat) (l : List Byte) (i : Nat) (w : Memory.wf m = true) (h : i < l.length) :
    memByte (memWrite m a l) (a + i) = l.getD i 0 := by
  induction l generalizing m a i with
  | nil => simp at h
  | cons b r ih =>
    cases i with
    | zero =>
      have out : ∀ (r : List Byte) (m : List Host.Cell) (c k : Nat), Memory.wf m = true → k < c →
          memByte (memWrite m c r) k = memByte m k := by
        intro r
        induction r with
        | nil => intros; rfl
        | cons x t iht =>
          intro m c k wm hk
          unfold memWrite
          rw [iht _ _ _ (memSet_wf _ _ _ wm) (by omega)]
          exact memGet_memSet_other m 0 c k x wm (by omega)
      unfold memWrite
      rw [Nat.add_zero, out r _ _ _ (memSet_wf _ _ _ w) (by omega)]
      exact memGet_memSet_same m 0 a b w
    | succ i =>
      unfold memWrite
      have := ih (memSet 0 m a b) (a + 1) i (memSet_wf _ _ _ w) (by simpa using h)
      rw [show a + (i + 1) = a + 1 + i by omega, this]
      rfl

/-- A byte outside a store reads as before. -/
theorem memByte_memWrite_out (m : List Host.Cell) (a : Nat) (l : List Byte) (k : Nat) (w : Memory.wf m = true)
    (h : k < a ∨ a + l.length ≤ k) : memByte (memWrite m a l) k = memByte m k := by
  induction l generalizing m a with
  | nil => rfl
  | cons b r ih =>
    unfold memWrite
    simp only [List.length_cons] at h
    rw [ih _ _ (memSet_wf _ _ _ w) (by omega)]
    exact memGet_memSet_other m 0 a k b w (by omega)

end Sys2Proof.Machine
end

