-- ==== Sys2Proof/Laws/State.lean ====
section
/-! SUPPORT. What each update of the state shows in each field, by definition. -/

namespace Sys2Proof.Machine

@[simp] theorem modHop_pending (f : Hopper → Hopper) (s : State) : (modHop f s).pending = s.pending := rfl
@[simp] theorem modHop_freeCount (f : Hopper → Hopper) (s : State) : (modHop f s).freeCount = s.freeCount := rfl
@[simp] theorem modHop_lanes (f : Hopper → Hopper) (s : State) : (modHop f s).lanes = s.lanes := rfl
@[simp] theorem modHop_seam (f : Hopper → Hopper) (s : State) : (modHop f s).seam = s.seam := rfl
@[simp] theorem modHop_hop (f : Hopper → Hopper) (s : State) : (modHop f s).hop = f s.hop := rfl
@[simp] theorem modHop_aba (f : Hopper → Hopper) (s : State) : (modHop f s).aba = s.aba := rfl
@[simp] theorem modHop_tal (f : Hopper → Hopper) (s : State) : (modHop f s).tal = s.tal := rfl
@[simp] theorem modHop_beams (f : Hopper → Hopper) (s : State) : (modHop f s).beams = s.beams := rfl
@[simp] theorem modHop_assay (f : Hopper → Hopper) (s : State) : (modHop f s).assay = s.assay := rfl
@[simp] theorem modHop_ayr (f : Hopper → Hopper) (s : State) : (modHop f s).ayr = s.ayr := rfl
@[simp] theorem modHop_trig (f : Hopper → Hopper) (s : State) : (modHop f s).trig = s.trig := rfl
@[simp] theorem modHop_hst (f : Hopper → Hopper) (s : State) : (modHop f s).hst = s.hst := rfl
@[simp] theorem modHop_pit (f : Hopper → Hopper) (s : State) : (modHop f s).pit = s.pit := rfl
@[simp] theorem modHop_tu (f : Hopper → Hopper) (s : State) : (modHop f s).tu = s.tu := rfl
@[simp] theorem modHop_cages (f : Hopper → Hopper) (s : State) : (modHop f s).cages = s.cages := rfl
@[simp] theorem modHop_bell (f : Hopper → Hopper) (s : State) : (modHop f s).bell = s.bell := rfl
@[simp] theorem modHop_wnd (f : Hopper → Hopper) (s : State) : (modHop f s).wnd = s.wnd := rfl
@[simp] theorem modHop_pwr (f : Hopper → Hopper) (s : State) : (modHop f s).pwr = s.pwr := rfl
@[simp] theorem modHop_shift (f : Hopper → Hopper) (s : State) : (modHop f s).shift = s.shift := rfl
@[simp] theorem modHop_mon (f : Hopper → Hopper) (s : State) : (modHop f s).mon = s.mon := rfl
@[simp] theorem modHop_con (f : Hopper → Hopper) (s : State) : (modHop f s).con = s.con := rfl
@[simp] theorem modHop_bun (f : Hopper → Hopper) (s : State) : (modHop f s).bun = s.bun := rfl
@[simp] theorem modHop_sys (f : Hopper → Hopper) (s : State) : (modHop f s).sys = s.sys := rfl

@[simp] theorem modAba_pending (f : Abacus → Abacus) (s : State) : (modAba f s).pending = s.pending := rfl
@[simp] theorem modAba_freeCount (f : Abacus → Abacus) (s : State) : (modAba f s).freeCount = s.freeCount := rfl
@[simp] theorem modAba_lanes (f : Abacus → Abacus) (s : State) : (modAba f s).lanes = s.lanes := rfl
@[simp] theorem modAba_seam (f : Abacus → Abacus) (s : State) : (modAba f s).seam = s.seam := rfl
@[simp] theorem modAba_hop (f : Abacus → Abacus) (s : State) : (modAba f s).hop = s.hop := rfl
@[simp] theorem modAba_aba (f : Abacus → Abacus) (s : State) : (modAba f s).aba = f s.aba := rfl
@[simp] theorem modAba_tal (f : Abacus → Abacus) (s : State) : (modAba f s).tal = s.tal := rfl
@[simp] theorem modAba_beams (f : Abacus → Abacus) (s : State) : (modAba f s).beams = s.beams := rfl
@[simp] theorem modAba_assay (f : Abacus → Abacus) (s : State) : (modAba f s).assay = s.assay := rfl
@[simp] theorem modAba_ayr (f : Abacus → Abacus) (s : State) : (modAba f s).ayr = s.ayr := rfl
@[simp] theorem modAba_trig (f : Abacus → Abacus) (s : State) : (modAba f s).trig = s.trig := rfl
@[simp] theorem modAba_hst (f : Abacus → Abacus) (s : State) : (modAba f s).hst = s.hst := rfl
@[simp] theorem modAba_pit (f : Abacus → Abacus) (s : State) : (modAba f s).pit = s.pit := rfl
@[simp] theorem modAba_tu (f : Abacus → Abacus) (s : State) : (modAba f s).tu = s.tu := rfl
@[simp] theorem modAba_cages (f : Abacus → Abacus) (s : State) : (modAba f s).cages = s.cages := rfl
@[simp] theorem modAba_bell (f : Abacus → Abacus) (s : State) : (modAba f s).bell = s.bell := rfl
@[simp] theorem modAba_wnd (f : Abacus → Abacus) (s : State) : (modAba f s).wnd = s.wnd := rfl
@[simp] theorem modAba_pwr (f : Abacus → Abacus) (s : State) : (modAba f s).pwr = s.pwr := rfl
@[simp] theorem modAba_shift (f : Abacus → Abacus) (s : State) : (modAba f s).shift = s.shift := rfl
@[simp] theorem modAba_mon (f : Abacus → Abacus) (s : State) : (modAba f s).mon = s.mon := rfl
@[simp] theorem modAba_con (f : Abacus → Abacus) (s : State) : (modAba f s).con = s.con := rfl
@[simp] theorem modAba_bun (f : Abacus → Abacus) (s : State) : (modAba f s).bun = s.bun := rfl
@[simp] theorem modAba_sys (f : Abacus → Abacus) (s : State) : (modAba f s).sys = s.sys := rfl

@[simp] theorem modTal_pending (f : Tally → Tally) (s : State) : (modTal f s).pending = s.pending := rfl
@[simp] theorem modTal_freeCount (f : Tally → Tally) (s : State) : (modTal f s).freeCount = s.freeCount := rfl
@[simp] theorem modTal_lanes (f : Tally → Tally) (s : State) : (modTal f s).lanes = s.lanes := rfl
@[simp] theorem modTal_seam (f : Tally → Tally) (s : State) : (modTal f s).seam = s.seam := rfl
@[simp] theorem modTal_hop (f : Tally → Tally) (s : State) : (modTal f s).hop = s.hop := rfl
@[simp] theorem modTal_aba (f : Tally → Tally) (s : State) : (modTal f s).aba = s.aba := rfl
@[simp] theorem modTal_tal (f : Tally → Tally) (s : State) : (modTal f s).tal = f s.tal := rfl
@[simp] theorem modTal_beams (f : Tally → Tally) (s : State) : (modTal f s).beams = s.beams := rfl
@[simp] theorem modTal_assay (f : Tally → Tally) (s : State) : (modTal f s).assay = s.assay := rfl
@[simp] theorem modTal_ayr (f : Tally → Tally) (s : State) : (modTal f s).ayr = s.ayr := rfl
@[simp] theorem modTal_trig (f : Tally → Tally) (s : State) : (modTal f s).trig = s.trig := rfl
@[simp] theorem modTal_hst (f : Tally → Tally) (s : State) : (modTal f s).hst = s.hst := rfl
@[simp] theorem modTal_pit (f : Tally → Tally) (s : State) : (modTal f s).pit = s.pit := rfl
@[simp] theorem modTal_tu (f : Tally → Tally) (s : State) : (modTal f s).tu = s.tu := rfl
@[simp] theorem modTal_cages (f : Tally → Tally) (s : State) : (modTal f s).cages = s.cages := rfl
@[simp] theorem modTal_bell (f : Tally → Tally) (s : State) : (modTal f s).bell = s.bell := rfl
@[simp] theorem modTal_wnd (f : Tally → Tally) (s : State) : (modTal f s).wnd = s.wnd := rfl
@[simp] theorem modTal_pwr (f : Tally → Tally) (s : State) : (modTal f s).pwr = s.pwr := rfl
@[simp] theorem modTal_shift (f : Tally → Tally) (s : State) : (modTal f s).shift = s.shift := rfl
@[simp] theorem modTal_mon (f : Tally → Tally) (s : State) : (modTal f s).mon = s.mon := rfl
@[simp] theorem modTal_con (f : Tally → Tally) (s : State) : (modTal f s).con = s.con := rfl
@[simp] theorem modTal_bun (f : Tally → Tally) (s : State) : (modTal f s).bun = s.bun := rfl
@[simp] theorem modTal_sys (f : Tally → Tally) (s : State) : (modTal f s).sys = s.sys := rfl

@[simp] theorem modBeams_pending (f : Beams → Beams) (s : State) : (modBeams f s).pending = s.pending := rfl
@[simp] theorem modBeams_freeCount (f : Beams → Beams) (s : State) : (modBeams f s).freeCount = s.freeCount := rfl
@[simp] theorem modBeams_lanes (f : Beams → Beams) (s : State) : (modBeams f s).lanes = s.lanes := rfl
@[simp] theorem modBeams_seam (f : Beams → Beams) (s : State) : (modBeams f s).seam = s.seam := rfl
@[simp] theorem modBeams_hop (f : Beams → Beams) (s : State) : (modBeams f s).hop = s.hop := rfl
@[simp] theorem modBeams_aba (f : Beams → Beams) (s : State) : (modBeams f s).aba = s.aba := rfl
@[simp] theorem modBeams_tal (f : Beams → Beams) (s : State) : (modBeams f s).tal = s.tal := rfl
@[simp] theorem modBeams_beams (f : Beams → Beams) (s : State) : (modBeams f s).beams = f s.beams := rfl
@[simp] theorem modBeams_assay (f : Beams → Beams) (s : State) : (modBeams f s).assay = s.assay := rfl
@[simp] theorem modBeams_ayr (f : Beams → Beams) (s : State) : (modBeams f s).ayr = s.ayr := rfl
@[simp] theorem modBeams_trig (f : Beams → Beams) (s : State) : (modBeams f s).trig = s.trig := rfl
@[simp] theorem modBeams_hst (f : Beams → Beams) (s : State) : (modBeams f s).hst = s.hst := rfl
@[simp] theorem modBeams_pit (f : Beams → Beams) (s : State) : (modBeams f s).pit = s.pit := rfl
@[simp] theorem modBeams_tu (f : Beams → Beams) (s : State) : (modBeams f s).tu = s.tu := rfl
@[simp] theorem modBeams_cages (f : Beams → Beams) (s : State) : (modBeams f s).cages = s.cages := rfl
@[simp] theorem modBeams_bell (f : Beams → Beams) (s : State) : (modBeams f s).bell = s.bell := rfl
@[simp] theorem modBeams_wnd (f : Beams → Beams) (s : State) : (modBeams f s).wnd = s.wnd := rfl
@[simp] theorem modBeams_pwr (f : Beams → Beams) (s : State) : (modBeams f s).pwr = s.pwr := rfl
@[simp] theorem modBeams_shift (f : Beams → Beams) (s : State) : (modBeams f s).shift = s.shift := rfl
@[simp] theorem modBeams_mon (f : Beams → Beams) (s : State) : (modBeams f s).mon = s.mon := rfl
@[simp] theorem modBeams_con (f : Beams → Beams) (s : State) : (modBeams f s).con = s.con := rfl
@[simp] theorem modBeams_bun (f : Beams → Beams) (s : State) : (modBeams f s).bun = s.bun := rfl
@[simp] theorem modBeams_sys (f : Beams → Beams) (s : State) : (modBeams f s).sys = s.sys := rfl

@[simp] theorem modAssay_pending (f : Assay → Assay) (s : State) : (modAssay f s).pending = s.pending := rfl
@[simp] theorem modAssay_freeCount (f : Assay → Assay) (s : State) : (modAssay f s).freeCount = s.freeCount := rfl
@[simp] theorem modAssay_lanes (f : Assay → Assay) (s : State) : (modAssay f s).lanes = s.lanes := rfl
@[simp] theorem modAssay_seam (f : Assay → Assay) (s : State) : (modAssay f s).seam = s.seam := rfl
@[simp] theorem modAssay_hop (f : Assay → Assay) (s : State) : (modAssay f s).hop = s.hop := rfl
@[simp] theorem modAssay_aba (f : Assay → Assay) (s : State) : (modAssay f s).aba = s.aba := rfl
@[simp] theorem modAssay_tal (f : Assay → Assay) (s : State) : (modAssay f s).tal = s.tal := rfl
@[simp] theorem modAssay_beams (f : Assay → Assay) (s : State) : (modAssay f s).beams = s.beams := rfl
@[simp] theorem modAssay_assay (f : Assay → Assay) (s : State) : (modAssay f s).assay = f s.assay := rfl
@[simp] theorem modAssay_ayr (f : Assay → Assay) (s : State) : (modAssay f s).ayr = s.ayr := rfl
@[simp] theorem modAssay_trig (f : Assay → Assay) (s : State) : (modAssay f s).trig = s.trig := rfl
@[simp] theorem modAssay_hst (f : Assay → Assay) (s : State) : (modAssay f s).hst = s.hst := rfl
@[simp] theorem modAssay_pit (f : Assay → Assay) (s : State) : (modAssay f s).pit = s.pit := rfl
@[simp] theorem modAssay_tu (f : Assay → Assay) (s : State) : (modAssay f s).tu = s.tu := rfl
@[simp] theorem modAssay_cages (f : Assay → Assay) (s : State) : (modAssay f s).cages = s.cages := rfl
@[simp] theorem modAssay_bell (f : Assay → Assay) (s : State) : (modAssay f s).bell = s.bell := rfl
@[simp] theorem modAssay_wnd (f : Assay → Assay) (s : State) : (modAssay f s).wnd = s.wnd := rfl
@[simp] theorem modAssay_pwr (f : Assay → Assay) (s : State) : (modAssay f s).pwr = s.pwr := rfl
@[simp] theorem modAssay_shift (f : Assay → Assay) (s : State) : (modAssay f s).shift = s.shift := rfl
@[simp] theorem modAssay_mon (f : Assay → Assay) (s : State) : (modAssay f s).mon = s.mon := rfl
@[simp] theorem modAssay_con (f : Assay → Assay) (s : State) : (modAssay f s).con = s.con := rfl
@[simp] theorem modAssay_bun (f : Assay → Assay) (s : State) : (modAssay f s).bun = s.bun := rfl
@[simp] theorem modAssay_sys (f : Assay → Assay) (s : State) : (modAssay f s).sys = s.sys := rfl

@[simp] theorem modTrig_pending (f : Trig → Trig) (s : State) : (modTrig f s).pending = s.pending := rfl
@[simp] theorem modTrig_freeCount (f : Trig → Trig) (s : State) : (modTrig f s).freeCount = s.freeCount := rfl
@[simp] theorem modTrig_lanes (f : Trig → Trig) (s : State) : (modTrig f s).lanes = s.lanes := rfl
@[simp] theorem modTrig_seam (f : Trig → Trig) (s : State) : (modTrig f s).seam = s.seam := rfl
@[simp] theorem modTrig_hop (f : Trig → Trig) (s : State) : (modTrig f s).hop = s.hop := rfl
@[simp] theorem modTrig_aba (f : Trig → Trig) (s : State) : (modTrig f s).aba = s.aba := rfl
@[simp] theorem modTrig_tal (f : Trig → Trig) (s : State) : (modTrig f s).tal = s.tal := rfl
@[simp] theorem modTrig_beams (f : Trig → Trig) (s : State) : (modTrig f s).beams = s.beams := rfl
@[simp] theorem modTrig_assay (f : Trig → Trig) (s : State) : (modTrig f s).assay = s.assay := rfl
@[simp] theorem modTrig_ayr (f : Trig → Trig) (s : State) : (modTrig f s).ayr = s.ayr := rfl
@[simp] theorem modTrig_trig (f : Trig → Trig) (s : State) : (modTrig f s).trig = f s.trig := rfl
@[simp] theorem modTrig_hst (f : Trig → Trig) (s : State) : (modTrig f s).hst = s.hst := rfl
@[simp] theorem modTrig_pit (f : Trig → Trig) (s : State) : (modTrig f s).pit = s.pit := rfl
@[simp] theorem modTrig_tu (f : Trig → Trig) (s : State) : (modTrig f s).tu = s.tu := rfl
@[simp] theorem modTrig_cages (f : Trig → Trig) (s : State) : (modTrig f s).cages = s.cages := rfl
@[simp] theorem modTrig_bell (f : Trig → Trig) (s : State) : (modTrig f s).bell = s.bell := rfl
@[simp] theorem modTrig_wnd (f : Trig → Trig) (s : State) : (modTrig f s).wnd = s.wnd := rfl
@[simp] theorem modTrig_pwr (f : Trig → Trig) (s : State) : (modTrig f s).pwr = s.pwr := rfl
@[simp] theorem modTrig_shift (f : Trig → Trig) (s : State) : (modTrig f s).shift = s.shift := rfl
@[simp] theorem modTrig_mon (f : Trig → Trig) (s : State) : (modTrig f s).mon = s.mon := rfl
@[simp] theorem modTrig_con (f : Trig → Trig) (s : State) : (modTrig f s).con = s.con := rfl
@[simp] theorem modTrig_bun (f : Trig → Trig) (s : State) : (modTrig f s).bun = s.bun := rfl
@[simp] theorem modTrig_sys (f : Trig → Trig) (s : State) : (modTrig f s).sys = s.sys := rfl

@[simp] theorem modHst_pending (f : Hoist → Hoist) (s : State) : (modHst f s).pending = s.pending := rfl
@[simp] theorem modHst_freeCount (f : Hoist → Hoist) (s : State) : (modHst f s).freeCount = s.freeCount := rfl
@[simp] theorem modHst_lanes (f : Hoist → Hoist) (s : State) : (modHst f s).lanes = s.lanes := rfl
@[simp] theorem modHst_seam (f : Hoist → Hoist) (s : State) : (modHst f s).seam = s.seam := rfl
@[simp] theorem modHst_hop (f : Hoist → Hoist) (s : State) : (modHst f s).hop = s.hop := rfl
@[simp] theorem modHst_aba (f : Hoist → Hoist) (s : State) : (modHst f s).aba = s.aba := rfl
@[simp] theorem modHst_tal (f : Hoist → Hoist) (s : State) : (modHst f s).tal = s.tal := rfl
@[simp] theorem modHst_beams (f : Hoist → Hoist) (s : State) : (modHst f s).beams = s.beams := rfl
@[simp] theorem modHst_assay (f : Hoist → Hoist) (s : State) : (modHst f s).assay = s.assay := rfl
@[simp] theorem modHst_ayr (f : Hoist → Hoist) (s : State) : (modHst f s).ayr = s.ayr := rfl
@[simp] theorem modHst_trig (f : Hoist → Hoist) (s : State) : (modHst f s).trig = s.trig := rfl
@[simp] theorem modHst_hst (f : Hoist → Hoist) (s : State) : (modHst f s).hst = f s.hst := rfl
@[simp] theorem modHst_pit (f : Hoist → Hoist) (s : State) : (modHst f s).pit = s.pit := rfl
@[simp] theorem modHst_tu (f : Hoist → Hoist) (s : State) : (modHst f s).tu = s.tu := rfl
@[simp] theorem modHst_cages (f : Hoist → Hoist) (s : State) : (modHst f s).cages = s.cages := rfl
@[simp] theorem modHst_bell (f : Hoist → Hoist) (s : State) : (modHst f s).bell = s.bell := rfl
@[simp] theorem modHst_wnd (f : Hoist → Hoist) (s : State) : (modHst f s).wnd = s.wnd := rfl
@[simp] theorem modHst_pwr (f : Hoist → Hoist) (s : State) : (modHst f s).pwr = s.pwr := rfl
@[simp] theorem modHst_shift (f : Hoist → Hoist) (s : State) : (modHst f s).shift = s.shift := rfl
@[simp] theorem modHst_mon (f : Hoist → Hoist) (s : State) : (modHst f s).mon = s.mon := rfl
@[simp] theorem modHst_con (f : Hoist → Hoist) (s : State) : (modHst f s).con = s.con := rfl
@[simp] theorem modHst_bun (f : Hoist → Hoist) (s : State) : (modHst f s).bun = s.bun := rfl
@[simp] theorem modHst_sys (f : Hoist → Hoist) (s : State) : (modHst f s).sys = s.sys := rfl

@[simp] theorem modTu_pending (f : Tu → Tu) (s : State) : (modTu f s).pending = s.pending := rfl
@[simp] theorem modTu_freeCount (f : Tu → Tu) (s : State) : (modTu f s).freeCount = s.freeCount := rfl
@[simp] theorem modTu_lanes (f : Tu → Tu) (s : State) : (modTu f s).lanes = s.lanes := rfl
@[simp] theorem modTu_seam (f : Tu → Tu) (s : State) : (modTu f s).seam = s.seam := rfl
@[simp] theorem modTu_hop (f : Tu → Tu) (s : State) : (modTu f s).hop = s.hop := rfl
@[simp] theorem modTu_aba (f : Tu → Tu) (s : State) : (modTu f s).aba = s.aba := rfl
@[simp] theorem modTu_tal (f : Tu → Tu) (s : State) : (modTu f s).tal = s.tal := rfl
@[simp] theorem modTu_beams (f : Tu → Tu) (s : State) : (modTu f s).beams = s.beams := rfl
@[simp] theorem modTu_assay (f : Tu → Tu) (s : State) : (modTu f s).assay = s.assay := rfl
@[simp] theorem modTu_ayr (f : Tu → Tu) (s : State) : (modTu f s).ayr = s.ayr := rfl
@[simp] theorem modTu_trig (f : Tu → Tu) (s : State) : (modTu f s).trig = s.trig := rfl
@[simp] theorem modTu_hst (f : Tu → Tu) (s : State) : (modTu f s).hst = s.hst := rfl
@[simp] theorem modTu_pit (f : Tu → Tu) (s : State) : (modTu f s).pit = s.pit := rfl
@[simp] theorem modTu_tu (f : Tu → Tu) (s : State) : (modTu f s).tu = f s.tu := rfl
@[simp] theorem modTu_cages (f : Tu → Tu) (s : State) : (modTu f s).cages = s.cages := rfl
@[simp] theorem modTu_bell (f : Tu → Tu) (s : State) : (modTu f s).bell = s.bell := rfl
@[simp] theorem modTu_wnd (f : Tu → Tu) (s : State) : (modTu f s).wnd = s.wnd := rfl
@[simp] theorem modTu_pwr (f : Tu → Tu) (s : State) : (modTu f s).pwr = s.pwr := rfl
@[simp] theorem modTu_shift (f : Tu → Tu) (s : State) : (modTu f s).shift = s.shift := rfl
@[simp] theorem modTu_mon (f : Tu → Tu) (s : State) : (modTu f s).mon = s.mon := rfl
@[simp] theorem modTu_con (f : Tu → Tu) (s : State) : (modTu f s).con = s.con := rfl
@[simp] theorem modTu_bun (f : Tu → Tu) (s : State) : (modTu f s).bun = s.bun := rfl
@[simp] theorem modTu_sys (f : Tu → Tu) (s : State) : (modTu f s).sys = s.sys := rfl

@[simp] theorem modBell_pending (f : Bell → Bell) (s : State) : (modBell f s).pending = s.pending := rfl
@[simp] theorem modBell_freeCount (f : Bell → Bell) (s : State) : (modBell f s).freeCount = s.freeCount := rfl
@[simp] theorem modBell_lanes (f : Bell → Bell) (s : State) : (modBell f s).lanes = s.lanes := rfl
@[simp] theorem modBell_seam (f : Bell → Bell) (s : State) : (modBell f s).seam = s.seam := rfl
@[simp] theorem modBell_hop (f : Bell → Bell) (s : State) : (modBell f s).hop = s.hop := rfl
@[simp] theorem modBell_aba (f : Bell → Bell) (s : State) : (modBell f s).aba = s.aba := rfl
@[simp] theorem modBell_tal (f : Bell → Bell) (s : State) : (modBell f s).tal = s.tal := rfl
@[simp] theorem modBell_beams (f : Bell → Bell) (s : State) : (modBell f s).beams = s.beams := rfl
@[simp] theorem modBell_assay (f : Bell → Bell) (s : State) : (modBell f s).assay = s.assay := rfl
@[simp] theorem modBell_ayr (f : Bell → Bell) (s : State) : (modBell f s).ayr = s.ayr := rfl
@[simp] theorem modBell_trig (f : Bell → Bell) (s : State) : (modBell f s).trig = s.trig := rfl
@[simp] theorem modBell_hst (f : Bell → Bell) (s : State) : (modBell f s).hst = s.hst := rfl
@[simp] theorem modBell_pit (f : Bell → Bell) (s : State) : (modBell f s).pit = s.pit := rfl
@[simp] theorem modBell_tu (f : Bell → Bell) (s : State) : (modBell f s).tu = s.tu := rfl
@[simp] theorem modBell_cages (f : Bell → Bell) (s : State) : (modBell f s).cages = s.cages := rfl
@[simp] theorem modBell_bell (f : Bell → Bell) (s : State) : (modBell f s).bell = f s.bell := rfl
@[simp] theorem modBell_wnd (f : Bell → Bell) (s : State) : (modBell f s).wnd = s.wnd := rfl
@[simp] theorem modBell_pwr (f : Bell → Bell) (s : State) : (modBell f s).pwr = s.pwr := rfl
@[simp] theorem modBell_shift (f : Bell → Bell) (s : State) : (modBell f s).shift = s.shift := rfl
@[simp] theorem modBell_mon (f : Bell → Bell) (s : State) : (modBell f s).mon = s.mon := rfl
@[simp] theorem modBell_con (f : Bell → Bell) (s : State) : (modBell f s).con = s.con := rfl
@[simp] theorem modBell_bun (f : Bell → Bell) (s : State) : (modBell f s).bun = s.bun := rfl
@[simp] theorem modBell_sys (f : Bell → Bell) (s : State) : (modBell f s).sys = s.sys := rfl

@[simp] theorem modWnd_pending (f : Winder → Winder) (s : State) : (modWnd f s).pending = s.pending := rfl
@[simp] theorem modWnd_freeCount (f : Winder → Winder) (s : State) : (modWnd f s).freeCount = s.freeCount := rfl
@[simp] theorem modWnd_lanes (f : Winder → Winder) (s : State) : (modWnd f s).lanes = s.lanes := rfl
@[simp] theorem modWnd_seam (f : Winder → Winder) (s : State) : (modWnd f s).seam = s.seam := rfl
@[simp] theorem modWnd_hop (f : Winder → Winder) (s : State) : (modWnd f s).hop = s.hop := rfl
@[simp] theorem modWnd_aba (f : Winder → Winder) (s : State) : (modWnd f s).aba = s.aba := rfl
@[simp] theorem modWnd_tal (f : Winder → Winder) (s : State) : (modWnd f s).tal = s.tal := rfl
@[simp] theorem modWnd_beams (f : Winder → Winder) (s : State) : (modWnd f s).beams = s.beams := rfl
@[simp] theorem modWnd_assay (f : Winder → Winder) (s : State) : (modWnd f s).assay = s.assay := rfl
@[simp] theorem modWnd_ayr (f : Winder → Winder) (s : State) : (modWnd f s).ayr = s.ayr := rfl
@[simp] theorem modWnd_trig (f : Winder → Winder) (s : State) : (modWnd f s).trig = s.trig := rfl
@[simp] theorem modWnd_hst (f : Winder → Winder) (s : State) : (modWnd f s).hst = s.hst := rfl
@[simp] theorem modWnd_pit (f : Winder → Winder) (s : State) : (modWnd f s).pit = s.pit := rfl
@[simp] theorem modWnd_tu (f : Winder → Winder) (s : State) : (modWnd f s).tu = s.tu := rfl
@[simp] theorem modWnd_cages (f : Winder → Winder) (s : State) : (modWnd f s).cages = s.cages := rfl
@[simp] theorem modWnd_bell (f : Winder → Winder) (s : State) : (modWnd f s).bell = s.bell := rfl
@[simp] theorem modWnd_wnd (f : Winder → Winder) (s : State) : (modWnd f s).wnd = f s.wnd := rfl
@[simp] theorem modWnd_pwr (f : Winder → Winder) (s : State) : (modWnd f s).pwr = s.pwr := rfl
@[simp] theorem modWnd_shift (f : Winder → Winder) (s : State) : (modWnd f s).shift = s.shift := rfl
@[simp] theorem modWnd_mon (f : Winder → Winder) (s : State) : (modWnd f s).mon = s.mon := rfl
@[simp] theorem modWnd_con (f : Winder → Winder) (s : State) : (modWnd f s).con = s.con := rfl
@[simp] theorem modWnd_bun (f : Winder → Winder) (s : State) : (modWnd f s).bun = s.bun := rfl
@[simp] theorem modWnd_sys (f : Winder → Winder) (s : State) : (modWnd f s).sys = s.sys := rfl

@[simp] theorem modPwr_pending (f : Pwr → Pwr) (s : State) : (modPwr f s).pending = s.pending := rfl
@[simp] theorem modPwr_freeCount (f : Pwr → Pwr) (s : State) : (modPwr f s).freeCount = s.freeCount := rfl
@[simp] theorem modPwr_lanes (f : Pwr → Pwr) (s : State) : (modPwr f s).lanes = s.lanes := rfl
@[simp] theorem modPwr_seam (f : Pwr → Pwr) (s : State) : (modPwr f s).seam = s.seam := rfl
@[simp] theorem modPwr_hop (f : Pwr → Pwr) (s : State) : (modPwr f s).hop = s.hop := rfl
@[simp] theorem modPwr_aba (f : Pwr → Pwr) (s : State) : (modPwr f s).aba = s.aba := rfl
@[simp] theorem modPwr_tal (f : Pwr → Pwr) (s : State) : (modPwr f s).tal = s.tal := rfl
@[simp] theorem modPwr_beams (f : Pwr → Pwr) (s : State) : (modPwr f s).beams = s.beams := rfl
@[simp] theorem modPwr_assay (f : Pwr → Pwr) (s : State) : (modPwr f s).assay = s.assay := rfl
@[simp] theorem modPwr_ayr (f : Pwr → Pwr) (s : State) : (modPwr f s).ayr = s.ayr := rfl
@[simp] theorem modPwr_trig (f : Pwr → Pwr) (s : State) : (modPwr f s).trig = s.trig := rfl
@[simp] theorem modPwr_hst (f : Pwr → Pwr) (s : State) : (modPwr f s).hst = s.hst := rfl
@[simp] theorem modPwr_pit (f : Pwr → Pwr) (s : State) : (modPwr f s).pit = s.pit := rfl
@[simp] theorem modPwr_tu (f : Pwr → Pwr) (s : State) : (modPwr f s).tu = s.tu := rfl
@[simp] theorem modPwr_cages (f : Pwr → Pwr) (s : State) : (modPwr f s).cages = s.cages := rfl
@[simp] theorem modPwr_bell (f : Pwr → Pwr) (s : State) : (modPwr f s).bell = s.bell := rfl
@[simp] theorem modPwr_wnd (f : Pwr → Pwr) (s : State) : (modPwr f s).wnd = s.wnd := rfl
@[simp] theorem modPwr_pwr (f : Pwr → Pwr) (s : State) : (modPwr f s).pwr = f s.pwr := rfl
@[simp] theorem modPwr_shift (f : Pwr → Pwr) (s : State) : (modPwr f s).shift = s.shift := rfl
@[simp] theorem modPwr_mon (f : Pwr → Pwr) (s : State) : (modPwr f s).mon = s.mon := rfl
@[simp] theorem modPwr_con (f : Pwr → Pwr) (s : State) : (modPwr f s).con = s.con := rfl
@[simp] theorem modPwr_bun (f : Pwr → Pwr) (s : State) : (modPwr f s).bun = s.bun := rfl
@[simp] theorem modPwr_sys (f : Pwr → Pwr) (s : State) : (modPwr f s).sys = s.sys := rfl

@[simp] theorem modShift_pending (f : Shift → Shift) (s : State) : (modShift f s).pending = s.pending := rfl
@[simp] theorem modShift_freeCount (f : Shift → Shift) (s : State) : (modShift f s).freeCount = s.freeCount := rfl
@[simp] theorem modShift_lanes (f : Shift → Shift) (s : State) : (modShift f s).lanes = s.lanes := rfl
@[simp] theorem modShift_seam (f : Shift → Shift) (s : State) : (modShift f s).seam = s.seam := rfl
@[simp] theorem modShift_hop (f : Shift → Shift) (s : State) : (modShift f s).hop = s.hop := rfl
@[simp] theorem modShift_aba (f : Shift → Shift) (s : State) : (modShift f s).aba = s.aba := rfl
@[simp] theorem modShift_tal (f : Shift → Shift) (s : State) : (modShift f s).tal = s.tal := rfl
@[simp] theorem modShift_beams (f : Shift → Shift) (s : State) : (modShift f s).beams = s.beams := rfl
@[simp] theorem modShift_assay (f : Shift → Shift) (s : State) : (modShift f s).assay = s.assay := rfl
@[simp] theorem modShift_ayr (f : Shift → Shift) (s : State) : (modShift f s).ayr = s.ayr := rfl
@[simp] theorem modShift_trig (f : Shift → Shift) (s : State) : (modShift f s).trig = s.trig := rfl
@[simp] theorem modShift_hst (f : Shift → Shift) (s : State) : (modShift f s).hst = s.hst := rfl
@[simp] theorem modShift_pit (f : Shift → Shift) (s : State) : (modShift f s).pit = s.pit := rfl
@[simp] theorem modShift_tu (f : Shift → Shift) (s : State) : (modShift f s).tu = s.tu := rfl
@[simp] theorem modShift_cages (f : Shift → Shift) (s : State) : (modShift f s).cages = s.cages := rfl
@[simp] theorem modShift_bell (f : Shift → Shift) (s : State) : (modShift f s).bell = s.bell := rfl
@[simp] theorem modShift_wnd (f : Shift → Shift) (s : State) : (modShift f s).wnd = s.wnd := rfl
@[simp] theorem modShift_pwr (f : Shift → Shift) (s : State) : (modShift f s).pwr = s.pwr := rfl
@[simp] theorem modShift_shift (f : Shift → Shift) (s : State) : (modShift f s).shift = f s.shift := rfl
@[simp] theorem modShift_mon (f : Shift → Shift) (s : State) : (modShift f s).mon = s.mon := rfl
@[simp] theorem modShift_con (f : Shift → Shift) (s : State) : (modShift f s).con = s.con := rfl
@[simp] theorem modShift_bun (f : Shift → Shift) (s : State) : (modShift f s).bun = s.bun := rfl
@[simp] theorem modShift_sys (f : Shift → Shift) (s : State) : (modShift f s).sys = s.sys := rfl

@[simp] theorem modMon_pending (f : Mon → Mon) (s : State) : (modMon f s).pending = s.pending := rfl
@[simp] theorem modMon_freeCount (f : Mon → Mon) (s : State) : (modMon f s).freeCount = s.freeCount := rfl
@[simp] theorem modMon_lanes (f : Mon → Mon) (s : State) : (modMon f s).lanes = s.lanes := rfl
@[simp] theorem modMon_seam (f : Mon → Mon) (s : State) : (modMon f s).seam = s.seam := rfl
@[simp] theorem modMon_hop (f : Mon → Mon) (s : State) : (modMon f s).hop = s.hop := rfl
@[simp] theorem modMon_aba (f : Mon → Mon) (s : State) : (modMon f s).aba = s.aba := rfl
@[simp] theorem modMon_tal (f : Mon → Mon) (s : State) : (modMon f s).tal = s.tal := rfl
@[simp] theorem modMon_beams (f : Mon → Mon) (s : State) : (modMon f s).beams = s.beams := rfl
@[simp] theorem modMon_assay (f : Mon → Mon) (s : State) : (modMon f s).assay = s.assay := rfl
@[simp] theorem modMon_ayr (f : Mon → Mon) (s : State) : (modMon f s).ayr = s.ayr := rfl
@[simp] theorem modMon_trig (f : Mon → Mon) (s : State) : (modMon f s).trig = s.trig := rfl
@[simp] theorem modMon_hst (f : Mon → Mon) (s : State) : (modMon f s).hst = s.hst := rfl
@[simp] theorem modMon_pit (f : Mon → Mon) (s : State) : (modMon f s).pit = s.pit := rfl
@[simp] theorem modMon_tu (f : Mon → Mon) (s : State) : (modMon f s).tu = s.tu := rfl
@[simp] theorem modMon_cages (f : Mon → Mon) (s : State) : (modMon f s).cages = s.cages := rfl
@[simp] theorem modMon_bell (f : Mon → Mon) (s : State) : (modMon f s).bell = s.bell := rfl
@[simp] theorem modMon_wnd (f : Mon → Mon) (s : State) : (modMon f s).wnd = s.wnd := rfl
@[simp] theorem modMon_pwr (f : Mon → Mon) (s : State) : (modMon f s).pwr = s.pwr := rfl
@[simp] theorem modMon_shift (f : Mon → Mon) (s : State) : (modMon f s).shift = s.shift := rfl
@[simp] theorem modMon_mon (f : Mon → Mon) (s : State) : (modMon f s).mon = f s.mon := rfl
@[simp] theorem modMon_con (f : Mon → Mon) (s : State) : (modMon f s).con = s.con := rfl
@[simp] theorem modMon_bun (f : Mon → Mon) (s : State) : (modMon f s).bun = s.bun := rfl
@[simp] theorem modMon_sys (f : Mon → Mon) (s : State) : (modMon f s).sys = s.sys := rfl

@[simp] theorem modCon_pending (f : Const → Const) (s : State) : (modCon f s).pending = s.pending := rfl
@[simp] theorem modCon_freeCount (f : Const → Const) (s : State) : (modCon f s).freeCount = s.freeCount := rfl
@[simp] theorem modCon_lanes (f : Const → Const) (s : State) : (modCon f s).lanes = s.lanes := rfl
@[simp] theorem modCon_seam (f : Const → Const) (s : State) : (modCon f s).seam = s.seam := rfl
@[simp] theorem modCon_hop (f : Const → Const) (s : State) : (modCon f s).hop = s.hop := rfl
@[simp] theorem modCon_aba (f : Const → Const) (s : State) : (modCon f s).aba = s.aba := rfl
@[simp] theorem modCon_tal (f : Const → Const) (s : State) : (modCon f s).tal = s.tal := rfl
@[simp] theorem modCon_beams (f : Const → Const) (s : State) : (modCon f s).beams = s.beams := rfl
@[simp] theorem modCon_assay (f : Const → Const) (s : State) : (modCon f s).assay = s.assay := rfl
@[simp] theorem modCon_ayr (f : Const → Const) (s : State) : (modCon f s).ayr = s.ayr := rfl
@[simp] theorem modCon_trig (f : Const → Const) (s : State) : (modCon f s).trig = s.trig := rfl
@[simp] theorem modCon_hst (f : Const → Const) (s : State) : (modCon f s).hst = s.hst := rfl
@[simp] theorem modCon_pit (f : Const → Const) (s : State) : (modCon f s).pit = s.pit := rfl
@[simp] theorem modCon_tu (f : Const → Const) (s : State) : (modCon f s).tu = s.tu := rfl
@[simp] theorem modCon_cages (f : Const → Const) (s : State) : (modCon f s).cages = s.cages := rfl
@[simp] theorem modCon_bell (f : Const → Const) (s : State) : (modCon f s).bell = s.bell := rfl
@[simp] theorem modCon_wnd (f : Const → Const) (s : State) : (modCon f s).wnd = s.wnd := rfl
@[simp] theorem modCon_pwr (f : Const → Const) (s : State) : (modCon f s).pwr = s.pwr := rfl
@[simp] theorem modCon_shift (f : Const → Const) (s : State) : (modCon f s).shift = s.shift := rfl
@[simp] theorem modCon_mon (f : Const → Const) (s : State) : (modCon f s).mon = s.mon := rfl
@[simp] theorem modCon_con (f : Const → Const) (s : State) : (modCon f s).con = f s.con := rfl
@[simp] theorem modCon_bun (f : Const → Const) (s : State) : (modCon f s).bun = s.bun := rfl
@[simp] theorem modCon_sys (f : Const → Const) (s : State) : (modCon f s).sys = s.sys := rfl

@[simp] theorem modPit_pending (f : Pit → Pit) (s : State) : (modPit f s).pending = s.pending := rfl
@[simp] theorem modPit_freeCount (f : Pit → Pit) (s : State) : (modPit f s).freeCount = s.freeCount := rfl
@[simp] theorem modPit_lanes (f : Pit → Pit) (s : State) : (modPit f s).lanes = s.lanes := rfl
@[simp] theorem modPit_seam (f : Pit → Pit) (s : State) : (modPit f s).seam = s.seam := rfl
@[simp] theorem modPit_hop (f : Pit → Pit) (s : State) : (modPit f s).hop = s.hop := rfl
@[simp] theorem modPit_aba (f : Pit → Pit) (s : State) : (modPit f s).aba = s.aba := rfl
@[simp] theorem modPit_tal (f : Pit → Pit) (s : State) : (modPit f s).tal = s.tal := rfl
@[simp] theorem modPit_beams (f : Pit → Pit) (s : State) : (modPit f s).beams = s.beams := rfl
@[simp] theorem modPit_assay (f : Pit → Pit) (s : State) : (modPit f s).assay = s.assay := rfl
@[simp] theorem modPit_ayr (f : Pit → Pit) (s : State) : (modPit f s).ayr = s.ayr := rfl
@[simp] theorem modPit_trig (f : Pit → Pit) (s : State) : (modPit f s).trig = s.trig := rfl
@[simp] theorem modPit_hst (f : Pit → Pit) (s : State) : (modPit f s).hst = s.hst := rfl
@[simp] theorem modPit_pit (f : Pit → Pit) (s : State) : (modPit f s).pit = f s.pit := rfl
@[simp] theorem modPit_tu (f : Pit → Pit) (s : State) : (modPit f s).tu = s.tu := rfl
@[simp] theorem modPit_cages (f : Pit → Pit) (s : State) : (modPit f s).cages = s.cages := rfl
@[simp] theorem modPit_bell (f : Pit → Pit) (s : State) : (modPit f s).bell = s.bell := rfl
@[simp] theorem modPit_wnd (f : Pit → Pit) (s : State) : (modPit f s).wnd = s.wnd := rfl
@[simp] theorem modPit_pwr (f : Pit → Pit) (s : State) : (modPit f s).pwr = s.pwr := rfl
@[simp] theorem modPit_shift (f : Pit → Pit) (s : State) : (modPit f s).shift = s.shift := rfl
@[simp] theorem modPit_mon (f : Pit → Pit) (s : State) : (modPit f s).mon = s.mon := rfl
@[simp] theorem modPit_con (f : Pit → Pit) (s : State) : (modPit f s).con = s.con := rfl
@[simp] theorem modPit_bun (f : Pit → Pit) (s : State) : (modPit f s).bun = s.bun := rfl
@[simp] theorem modPit_sys (f : Pit → Pit) (s : State) : (modPit f s).sys = s.sys := rfl

@[simp] theorem modCages_pending (f : Cages → Cages) (s : State) : (modCages f s).pending = s.pending := rfl
@[simp] theorem modCages_freeCount (f : Cages → Cages) (s : State) : (modCages f s).freeCount = s.freeCount := rfl
@[simp] theorem modCages_lanes (f : Cages → Cages) (s : State) : (modCages f s).lanes = s.lanes := rfl
@[simp] theorem modCages_seam (f : Cages → Cages) (s : State) : (modCages f s).seam = s.seam := rfl
@[simp] theorem modCages_hop (f : Cages → Cages) (s : State) : (modCages f s).hop = s.hop := rfl
@[simp] theorem modCages_aba (f : Cages → Cages) (s : State) : (modCages f s).aba = s.aba := rfl
@[simp] theorem modCages_tal (f : Cages → Cages) (s : State) : (modCages f s).tal = s.tal := rfl
@[simp] theorem modCages_beams (f : Cages → Cages) (s : State) : (modCages f s).beams = s.beams := rfl
@[simp] theorem modCages_assay (f : Cages → Cages) (s : State) : (modCages f s).assay = s.assay := rfl
@[simp] theorem modCages_ayr (f : Cages → Cages) (s : State) : (modCages f s).ayr = s.ayr := rfl
@[simp] theorem modCages_trig (f : Cages → Cages) (s : State) : (modCages f s).trig = s.trig := rfl
@[simp] theorem modCages_hst (f : Cages → Cages) (s : State) : (modCages f s).hst = s.hst := rfl
@[simp] theorem modCages_pit (f : Cages → Cages) (s : State) : (modCages f s).pit = s.pit := rfl
@[simp] theorem modCages_tu (f : Cages → Cages) (s : State) : (modCages f s).tu = s.tu := rfl
@[simp] theorem modCages_cages (f : Cages → Cages) (s : State) : (modCages f s).cages = f s.cages := rfl
@[simp] theorem modCages_bell (f : Cages → Cages) (s : State) : (modCages f s).bell = s.bell := rfl
@[simp] theorem modCages_wnd (f : Cages → Cages) (s : State) : (modCages f s).wnd = s.wnd := rfl
@[simp] theorem modCages_pwr (f : Cages → Cages) (s : State) : (modCages f s).pwr = s.pwr := rfl
@[simp] theorem modCages_shift (f : Cages → Cages) (s : State) : (modCages f s).shift = s.shift := rfl
@[simp] theorem modCages_mon (f : Cages → Cages) (s : State) : (modCages f s).mon = s.mon := rfl
@[simp] theorem modCages_con (f : Cages → Cages) (s : State) : (modCages f s).con = s.con := rfl
@[simp] theorem modCages_bun (f : Cages → Cages) (s : State) : (modCages f s).bun = s.bun := rfl
@[simp] theorem modCages_sys (f : Cages → Cages) (s : State) : (modCages f s).sys = s.sys := rfl

@[simp] theorem modLane_pending (n : Nat) (f : Lane → Lane) (s : State) : (modLane n f s).pending = s.pending := rfl
@[simp] theorem modLane_freeCount (n : Nat) (f : Lane → Lane) (s : State) : (modLane n f s).freeCount = s.freeCount := rfl
@[simp] theorem modLane_lanes (n : Nat) (f : Lane → Lane) (s : State) : (modLane n f s).lanes = { s.lanes with lane := upd s.lanes.lane n f } := rfl
@[simp] theorem modLane_seam (n : Nat) (f : Lane → Lane) (s : State) : (modLane n f s).seam = s.seam := rfl
@[simp] theorem modLane_hop (n : Nat) (f : Lane → Lane) (s : State) : (modLane n f s).hop = s.hop := rfl
@[simp] theorem modLane_aba (n : Nat) (f : Lane → Lane) (s : State) : (modLane n f s).aba = s.aba := rfl
@[simp] theorem modLane_tal (n : Nat) (f : Lane → Lane) (s : State) : (modLane n f s).tal = s.tal := rfl
@[simp] theorem modLane_beams (n : Nat) (f : Lane → Lane) (s : State) : (modLane n f s).beams = s.beams := rfl
@[simp] theorem modLane_assay (n : Nat) (f : Lane → Lane) (s : State) : (modLane n f s).assay = s.assay := rfl
@[simp] theorem modLane_ayr (n : Nat) (f : Lane → Lane) (s : State) : (modLane n f s).ayr = s.ayr := rfl
@[simp] theorem modLane_trig (n : Nat) (f : Lane → Lane) (s : State) : (modLane n f s).trig = s.trig := rfl
@[simp] theorem modLane_hst (n : Nat) (f : Lane → Lane) (s : State) : (modLane n f s).hst = s.hst := rfl
@[simp] theorem modLane_pit (n : Nat) (f : Lane → Lane) (s : State) : (modLane n f s).pit = s.pit := rfl
@[simp] theorem modLane_tu (n : Nat) (f : Lane → Lane) (s : State) : (modLane n f s).tu = s.tu := rfl
@[simp] theorem modLane_cages (n : Nat) (f : Lane → Lane) (s : State) : (modLane n f s).cages = s.cages := rfl
@[simp] theorem modLane_bell (n : Nat) (f : Lane → Lane) (s : State) : (modLane n f s).bell = s.bell := rfl
@[simp] theorem modLane_wnd (n : Nat) (f : Lane → Lane) (s : State) : (modLane n f s).wnd = s.wnd := rfl
@[simp] theorem modLane_pwr (n : Nat) (f : Lane → Lane) (s : State) : (modLane n f s).pwr = s.pwr := rfl
@[simp] theorem modLane_shift (n : Nat) (f : Lane → Lane) (s : State) : (modLane n f s).shift = s.shift := rfl
@[simp] theorem modLane_mon (n : Nat) (f : Lane → Lane) (s : State) : (modLane n f s).mon = s.mon := rfl
@[simp] theorem modLane_con (n : Nat) (f : Lane → Lane) (s : State) : (modLane n f s).con = s.con := rfl
@[simp] theorem modLane_bun (n : Nat) (f : Lane → Lane) (s : State) : (modLane n f s).bun = s.bun := rfl
@[simp] theorem modLane_sys (n : Nat) (f : Lane → Lane) (s : State) : (modLane n f s).sys = s.sys := rfl

@[simp] theorem modAyr_pending (a : Nat) (f : AyrCore → AyrCore) (s : State) : (modAyr a f s).pending = s.pending := rfl
@[simp] theorem modAyr_freeCount (a : Nat) (f : AyrCore → AyrCore) (s : State) : (modAyr a f s).freeCount = s.freeCount := rfl
@[simp] theorem modAyr_lanes (a : Nat) (f : AyrCore → AyrCore) (s : State) : (modAyr a f s).lanes = s.lanes := rfl
@[simp] theorem modAyr_seam (a : Nat) (f : AyrCore → AyrCore) (s : State) : (modAyr a f s).seam = s.seam := rfl
@[simp] theorem modAyr_hop (a : Nat) (f : AyrCore → AyrCore) (s : State) : (modAyr a f s).hop = s.hop := rfl
@[simp] theorem modAyr_aba (a : Nat) (f : AyrCore → AyrCore) (s : State) : (modAyr a f s).aba = s.aba := rfl
@[simp] theorem modAyr_tal (a : Nat) (f : AyrCore → AyrCore) (s : State) : (modAyr a f s).tal = s.tal := rfl
@[simp] theorem modAyr_beams (a : Nat) (f : AyrCore → AyrCore) (s : State) : (modAyr a f s).beams = s.beams := rfl
@[simp] theorem modAyr_assay (a : Nat) (f : AyrCore → AyrCore) (s : State) : (modAyr a f s).assay = s.assay := rfl
@[simp] theorem modAyr_ayr (a : Nat) (f : AyrCore → AyrCore) (s : State) : (modAyr a f s).ayr = upd s.ayr a f := rfl
@[simp] theorem modAyr_trig (a : Nat) (f : AyrCore → AyrCore) (s : State) : (modAyr a f s).trig = s.trig := rfl
@[simp] theorem modAyr_hst (a : Nat) (f : AyrCore → AyrCore) (s : State) : (modAyr a f s).hst = s.hst := rfl
@[simp] theorem modAyr_pit (a : Nat) (f : AyrCore → AyrCore) (s : State) : (modAyr a f s).pit = s.pit := rfl
@[simp] theorem modAyr_tu (a : Nat) (f : AyrCore → AyrCore) (s : State) : (modAyr a f s).tu = s.tu := rfl
@[simp] theorem modAyr_cages (a : Nat) (f : AyrCore → AyrCore) (s : State) : (modAyr a f s).cages = s.cages := rfl
@[simp] theorem modAyr_bell (a : Nat) (f : AyrCore → AyrCore) (s : State) : (modAyr a f s).bell = s.bell := rfl
@[simp] theorem modAyr_wnd (a : Nat) (f : AyrCore → AyrCore) (s : State) : (modAyr a f s).wnd = s.wnd := rfl
@[simp] theorem modAyr_pwr (a : Nat) (f : AyrCore → AyrCore) (s : State) : (modAyr a f s).pwr = s.pwr := rfl
@[simp] theorem modAyr_shift (a : Nat) (f : AyrCore → AyrCore) (s : State) : (modAyr a f s).shift = s.shift := rfl
@[simp] theorem modAyr_mon (a : Nat) (f : AyrCore → AyrCore) (s : State) : (modAyr a f s).mon = s.mon := rfl
@[simp] theorem modAyr_con (a : Nat) (f : AyrCore → AyrCore) (s : State) : (modAyr a f s).con = s.con := rfl
@[simp] theorem modAyr_bun (a : Nat) (f : AyrCore → AyrCore) (s : State) : (modAyr a f s).bun = s.bun := rfl
@[simp] theorem modAyr_sys (a : Nat) (f : AyrCore → AyrCore) (s : State) : (modAyr a f s).sys = s.sys := rfl

@[simp] theorem modCapt_pending (f : Capture → Capture) (s : State) : (modCapt f s).pending = s.pending := rfl
@[simp] theorem modCapt_freeCount (f : Capture → Capture) (s : State) : (modCapt f s).freeCount = s.freeCount := rfl
@[simp] theorem modCapt_lanes (f : Capture → Capture) (s : State) : (modCapt f s).lanes = s.lanes := rfl
@[simp] theorem modCapt_seam (f : Capture → Capture) (s : State) : (modCapt f s).seam = s.seam := rfl
@[simp] theorem modCapt_hop (f : Capture → Capture) (s : State) : (modCapt f s).hop = s.hop := rfl
@[simp] theorem modCapt_aba (f : Capture → Capture) (s : State) : (modCapt f s).aba = s.aba := rfl
@[simp] theorem modCapt_tal (f : Capture → Capture) (s : State) : (modCapt f s).tal = s.tal := rfl
@[simp] theorem modCapt_beams (f : Capture → Capture) (s : State) : (modCapt f s).beams = s.beams := rfl
@[simp] theorem modCapt_assay (f : Capture → Capture) (s : State) : (modCapt f s).assay = s.assay := rfl
@[simp] theorem modCapt_ayr (f : Capture → Capture) (s : State) : (modCapt f s).ayr = s.ayr := rfl
@[simp] theorem modCapt_trig (f : Capture → Capture) (s : State) : (modCapt f s).trig = { s.trig with capt := f s.trig.capt } := rfl
@[simp] theorem modCapt_hst (f : Capture → Capture) (s : State) : (modCapt f s).hst = s.hst := rfl
@[simp] theorem modCapt_pit (f : Capture → Capture) (s : State) : (modCapt f s).pit = s.pit := rfl
@[simp] theorem modCapt_tu (f : Capture → Capture) (s : State) : (modCapt f s).tu = s.tu := rfl
@[simp] theorem modCapt_cages (f : Capture → Capture) (s : State) : (modCapt f s).cages = s.cages := rfl
@[simp] theorem modCapt_bell (f : Capture → Capture) (s : State) : (modCapt f s).bell = s.bell := rfl
@[simp] theorem modCapt_wnd (f : Capture → Capture) (s : State) : (modCapt f s).wnd = s.wnd := rfl
@[simp] theorem modCapt_pwr (f : Capture → Capture) (s : State) : (modCapt f s).pwr = s.pwr := rfl
@[simp] theorem modCapt_shift (f : Capture → Capture) (s : State) : (modCapt f s).shift = s.shift := rfl
@[simp] theorem modCapt_mon (f : Capture → Capture) (s : State) : (modCapt f s).mon = s.mon := rfl
@[simp] theorem modCapt_con (f : Capture → Capture) (s : State) : (modCapt f s).con = s.con := rfl
@[simp] theorem modCapt_bun (f : Capture → Capture) (s : State) : (modCapt f s).bun = s.bun := rfl
@[simp] theorem modCapt_sys (f : Capture → Capture) (s : State) : (modCapt f s).sys = s.sys := rfl

@[simp] theorem modCage_pending (n : Nat) (f : Cage → Cage) (s : State) : (modCage n f s).pending = s.pending := rfl
@[simp] theorem modCage_freeCount (n : Nat) (f : Cage → Cage) (s : State) : (modCage n f s).freeCount = s.freeCount := rfl
@[simp] theorem modCage_lanes (n : Nat) (f : Cage → Cage) (s : State) : (modCage n f s).lanes = s.lanes := rfl
@[simp] theorem modCage_seam (n : Nat) (f : Cage → Cage) (s : State) : (modCage n f s).seam = s.seam := rfl
@[simp] theorem modCage_hop (n : Nat) (f : Cage → Cage) (s : State) : (modCage n f s).hop = s.hop := rfl
@[simp] theorem modCage_aba (n : Nat) (f : Cage → Cage) (s : State) : (modCage n f s).aba = s.aba := rfl
@[simp] theorem modCage_tal (n : Nat) (f : Cage → Cage) (s : State) : (modCage n f s).tal = s.tal := rfl
@[simp] theorem modCage_beams (n : Nat) (f : Cage → Cage) (s : State) : (modCage n f s).beams = s.beams := rfl
@[simp] theorem modCage_assay (n : Nat) (f : Cage → Cage) (s : State) : (modCage n f s).assay = s.assay := rfl
@[simp] theorem modCage_ayr (n : Nat) (f : Cage → Cage) (s : State) : (modCage n f s).ayr = s.ayr := rfl
@[simp] theorem modCage_trig (n : Nat) (f : Cage → Cage) (s : State) : (modCage n f s).trig = s.trig := rfl
@[simp] theorem modCage_hst (n : Nat) (f : Cage → Cage) (s : State) : (modCage n f s).hst = s.hst := rfl
@[simp] theorem modCage_pit (n : Nat) (f : Cage → Cage) (s : State) : (modCage n f s).pit = s.pit := rfl
@[simp] theorem modCage_tu (n : Nat) (f : Cage → Cage) (s : State) : (modCage n f s).tu = s.tu := rfl
@[simp] theorem modCage_cages (n : Nat) (f : Cage → Cage) (s : State) : (modCage n f s).cages = { s.cages with cage := upd s.cages.cage n f } := rfl
@[simp] theorem modCage_bell (n : Nat) (f : Cage → Cage) (s : State) : (modCage n f s).bell = s.bell := rfl
@[simp] theorem modCage_wnd (n : Nat) (f : Cage → Cage) (s : State) : (modCage n f s).wnd = s.wnd := rfl
@[simp] theorem modCage_pwr (n : Nat) (f : Cage → Cage) (s : State) : (modCage n f s).pwr = s.pwr := rfl
@[simp] theorem modCage_shift (n : Nat) (f : Cage → Cage) (s : State) : (modCage n f s).shift = s.shift := rfl
@[simp] theorem modCage_mon (n : Nat) (f : Cage → Cage) (s : State) : (modCage n f s).mon = s.mon := rfl
@[simp] theorem modCage_con (n : Nat) (f : Cage → Cage) (s : State) : (modCage n f s).con = s.con := rfl
@[simp] theorem modCage_bun (n : Nat) (f : Cage → Cage) (s : State) : (modCage n f s).bun = s.bun := rfl
@[simp] theorem modCage_sys (n : Nat) (f : Cage → Cage) (s : State) : (modCage n f s).sys = s.sys := rfl

@[simp] theorem freeNext_pending (s : State) : (freeNext s).pending = s.pending := rfl
@[simp] theorem freeNext_freeCount (s : State) : (freeNext s).freeCount = s.freeCount + 1 := rfl
@[simp] theorem freeNext_lanes (s : State) : (freeNext s).lanes = s.lanes := rfl
@[simp] theorem freeNext_seam (s : State) : (freeNext s).seam = s.seam := rfl
@[simp] theorem freeNext_hop (s : State) : (freeNext s).hop = s.hop := rfl
@[simp] theorem freeNext_aba (s : State) : (freeNext s).aba = s.aba := rfl
@[simp] theorem freeNext_tal (s : State) : (freeNext s).tal = s.tal := rfl
@[simp] theorem freeNext_beams (s : State) : (freeNext s).beams = s.beams := rfl
@[simp] theorem freeNext_assay (s : State) : (freeNext s).assay = s.assay := rfl
@[simp] theorem freeNext_ayr (s : State) : (freeNext s).ayr = s.ayr := rfl
@[simp] theorem freeNext_trig (s : State) : (freeNext s).trig = s.trig := rfl
@[simp] theorem freeNext_hst (s : State) : (freeNext s).hst = s.hst := rfl
@[simp] theorem freeNext_pit (s : State) : (freeNext s).pit = s.pit := rfl
@[simp] theorem freeNext_tu (s : State) : (freeNext s).tu = s.tu := rfl
@[simp] theorem freeNext_cages (s : State) : (freeNext s).cages = s.cages := rfl
@[simp] theorem freeNext_bell (s : State) : (freeNext s).bell = s.bell := rfl
@[simp] theorem freeNext_wnd (s : State) : (freeNext s).wnd = s.wnd := rfl
@[simp] theorem freeNext_pwr (s : State) : (freeNext s).pwr = s.pwr := rfl
@[simp] theorem freeNext_shift (s : State) : (freeNext s).shift = s.shift := rfl
@[simp] theorem freeNext_mon (s : State) : (freeNext s).mon = s.mon := rfl
@[simp] theorem freeNext_con (s : State) : (freeNext s).con = s.con := rfl
@[simp] theorem freeNext_bun (s : State) : (freeNext s).bun = s.bun := rfl
@[simp] theorem freeNext_sys (s : State) : (freeNext s).sys = s.sys := rfl

@[simp] theorem noteStat_pending (kind a0 a1 a2 ref : Nat) (s : State) : (noteStat kind a0 a1 a2 ref s).pending = s.pending := rfl
@[simp] theorem noteStat_freeCount (kind a0 a1 a2 ref : Nat) (s : State) : (noteStat kind a0 a1 a2 ref s).freeCount = s.freeCount := rfl
@[simp] theorem noteStat_lanes (kind a0 a1 a2 ref : Nat) (s : State) : (noteStat kind a0 a1 a2 ref s).lanes = s.lanes := rfl
@[simp] theorem noteStat_seam (kind a0 a1 a2 ref : Nat) (s : State) : (noteStat kind a0 a1 a2 ref s).seam = s.seam := rfl
@[simp] theorem noteStat_hop (kind a0 a1 a2 ref : Nat) (s : State) : (noteStat kind a0 a1 a2 ref s).hop = s.hop := rfl
@[simp] theorem noteStat_aba (kind a0 a1 a2 ref : Nat) (s : State) : (noteStat kind a0 a1 a2 ref s).aba = s.aba := rfl
@[simp] theorem noteStat_tal (kind a0 a1 a2 ref : Nat) (s : State) : (noteStat kind a0 a1 a2 ref s).tal = s.tal := rfl
@[simp] theorem noteStat_beams (kind a0 a1 a2 ref : Nat) (s : State) : (noteStat kind a0 a1 a2 ref s).beams = s.beams := rfl
@[simp] theorem noteStat_assay (kind a0 a1 a2 ref : Nat) (s : State) : (noteStat kind a0 a1 a2 ref s).assay = s.assay := rfl
@[simp] theorem noteStat_ayr (kind a0 a1 a2 ref : Nat) (s : State) : (noteStat kind a0 a1 a2 ref s).ayr = s.ayr := rfl
@[simp] theorem noteStat_trig (kind a0 a1 a2 ref : Nat) (s : State) : (noteStat kind a0 a1 a2 ref s).trig = s.trig := rfl
@[simp] theorem noteStat_pit (kind a0 a1 a2 ref : Nat) (s : State) : (noteStat kind a0 a1 a2 ref s).pit = s.pit := rfl
@[simp] theorem noteStat_tu (kind a0 a1 a2 ref : Nat) (s : State) : (noteStat kind a0 a1 a2 ref s).tu = s.tu := rfl
@[simp] theorem noteStat_cages (kind a0 a1 a2 ref : Nat) (s : State) : (noteStat kind a0 a1 a2 ref s).cages = s.cages := rfl
@[simp] theorem noteStat_bell (kind a0 a1 a2 ref : Nat) (s : State) : (noteStat kind a0 a1 a2 ref s).bell = s.bell := rfl
@[simp] theorem noteStat_wnd (kind a0 a1 a2 ref : Nat) (s : State) : (noteStat kind a0 a1 a2 ref s).wnd = s.wnd := rfl
@[simp] theorem noteStat_pwr (kind a0 a1 a2 ref : Nat) (s : State) : (noteStat kind a0 a1 a2 ref s).pwr = s.pwr := rfl
@[simp] theorem noteStat_shift (kind a0 a1 a2 ref : Nat) (s : State) : (noteStat kind a0 a1 a2 ref s).shift = s.shift := rfl
@[simp] theorem noteStat_mon (kind a0 a1 a2 ref : Nat) (s : State) : (noteStat kind a0 a1 a2 ref s).mon = s.mon := rfl
@[simp] theorem noteStat_con (kind a0 a1 a2 ref : Nat) (s : State) : (noteStat kind a0 a1 a2 ref s).con = s.con := rfl
@[simp] theorem noteStat_bun (kind a0 a1 a2 ref : Nat) (s : State) : (noteStat kind a0 a1 a2 ref s).bun = s.bun := rfl
@[simp] theorem noteStat_sys (kind a0 a1 a2 ref : Nat) (s : State) : (noteStat kind a0 a1 a2 ref s).sys = s.sys := rfl

end Sys2Proof.Machine
end

