-- ==== Sys2Proof/Laws/Queue.lean ====
section
/-! SUPPORT. The queue of waiting commands under every operation: none of them touches it. One lemma `F_pending` per
operation F that answers a state, with the operation's definition never unfolded again. -/

set_option maxHeartbeats 400000
set_option linter.unusedSimpArgs false
set_option linter.unusedTactic false
set_option linter.unreachableTactic false
namespace Sys2Proof.Machine
open Sys2Proof
theorem foldl_pending {α : Type} (g : State → α → State) (h : ∀ s x, (g s x).pending = s.pending) (l : List α) (s : State) : (l.foldl g s).pending = s.pending := by
  induction l generalizing s with
  | nil => rfl
  | cons a l ih => rw [List.foldl_cons, ih, h]
@[simp] theorem ite_pending (c : Prop) [Decidable c] (a b : State) : (if c then a else b).pending = if c then a.pending else b.pending := apply_ite State.pending c a b
@[simp] theorem ite_out_pending (c : Prop) [Decidable c] (a b : Out) : (if c then a else b).st.pending = if c then a.st.pending else b.st.pending := apply_ite (fun o => o.st.pending) c a b
@[simp] theorem whenRun_pending (s t : State) (h : t.pending = s.pending) : (whenRun s t).pending = s.pending := by unfold whenRun; split <;> simp [h]

@[simp] theorem Out_st_pending (x0 : Out) : (Out.st x0).pending = x0.st.pending := by simp [Out.st]

@[simp] theorem discardInput_pending (x0 : State) : (discardInput x0).pending = x0.pending := by simp [discardInput]

@[simp] theorem answerBus_pending (x0 : Nat) (x1 : Nat) (x2 : Bool) (x3 : State) : (answerBus x0 x1 x2 x3).pending = x3.pending := by simp [answerBus]

@[simp] theorem pitWrite_pending (x0 : Nat) (x1 : List Byte) (x2 : State) : (pitWrite x0 x1 x2).pending = x2.pending := by simp [pitWrite]

@[simp] theorem servePort_pending (x0 : Nat) (x1 : Nat) (x2 : State) : (servePort x0 x1 x2).pending = x2.pending := by simp [servePort]

@[simp] theorem finishRecord_pending (x0 : Nat) (x1 : State) : (finishRecord x0 x1).pending = x1.pending := by simp [finishRecord]

@[simp] theorem settleQueue_pending (x0 : State) : (settleQueue x0).pending = x0.pending := by
  unfold settleQueue
  repeat' (first | with_reducible rfl | assumption | (simp [*]; done) | (simp only [ite_pending, ite_out_pending]; split) | split | (refine foldl_pending _ ?_ _ _; intros) | (rw [foldl_pending _ (by intros; simp)]) | (simp [*]))

@[simp] theorem notePath_pending (x0 : State) (x1 : Nat) (x2 : State) : (notePath x0 x1 x2).pending = x2.pending := by unfold notePath; split <;> simp

@[simp] theorem notePaths_pending (x0 : State) (x1 : State) : (notePaths x0 x1).pending = x1.pending := by simp [notePaths]

@[simp] theorem refuse_pending (x0 : State) (x1 : Nat) (x2 : Nat) : (refuse x0 x1 x2).st.pending = x0.pending := by simp [refuse]

@[simp] theorem badRange_pending (x0 : State) : (badRange x0).st.pending = x0.pending := by simp [badRange]

@[simp] theorem badReserved_pending (x0 : State) : (badReserved x0).st.pending = x0.pending := by simp [badReserved]

@[simp] theorem badLen_pending (x0 : State) : (badLen x0).st.pending = x0.pending := by simp [badLen]

@[simp] theorem admission_pending (x0 : State) : (admission x0).st.pending = x0.pending := by simp [admission]

@[simp] theorem notInState_pending (x0 : State) : (notInState x0).st.pending = x0.pending := by simp [notInState]

@[simp] theorem answer_pending (x0 : State) (x1 : List Byte) : (answer x0 x1).st.pending = x0.pending := by simp [answer]

@[simp] theorem issue_pending (x0 : Req) (x1 : Completion) (x2 : State) : (issue x0 x1 x2).pending = x2.pending := by simp [issue]

@[simp] theorem modPlace_pending (x0 : Nat) (x1 : ClientPlace → ClientPlace) (x2 : State) : (modPlace x0 x1 x2).pending = x2.pending := by simp [modPlace]

theorem takePlace_pending (x0 : Nat) (x1 : Nat) (x2 : State) (t : State) (e : takePlace x0 x1 x2 = some t) : t.pending = x2.pending := by
  unfold takePlace at e
  revert e
  repeat' (first | (intro e; injection e with e; subst e; simp [*]; done) | (simp [*]; done) | split | (intro e; cases e; done) | (simp [*]))

@[simp] theorem enterTag_pending (x0 : Nat) (x1 : Nat) (x2 : Nat) (x3 : Bool) (x4 : State) : (enterTag x0 x1 x2 x3 x4).pending = x4.pending := by simp [enterTag]

@[simp] theorem cacheDone_pending (x0 : Nat) (x1 : Nat) (x2 : Nat) (x3 : Completion) (x4 : State) : (cacheDone x0 x1 x2 x3 x4).pending = x4.pending := by simp [cacheDone]

@[simp] theorem conclude_pending (x0 : Req) (x1 : Nat) (x2 : Nat) (x3 : Reply) (x4 : State) : (conclude x0 x1 x2 x3 x4).pending = x4.pending := by simp [conclude]

@[simp] theorem nextCommit_pending (x0 : State) : (nextCommit x0).pending = x0.pending := by simp [nextCommit]

@[simp] theorem settle_pending (x0 : Req) (x1 : Nat) (x2 : Nat) (x3 : Out) : (settle x0 x1 x2 x3).pending = x3.st.pending := by unfold settle; split <;> simp

@[simp] theorem answerOnly_pending (x0 : Req) (x1 : Nat) (x2 : Reply) (x3 : Nat) (x4 : State) : (answerOnly x0 x1 x2 x3 x4).pending = x4.pending := by simp [answerOnly]

@[simp] theorem accepted_pending (x0 : Req) (x1 : State) : (accepted x0 x1).pending = x1.pending := by simp [accepted]

@[simp] theorem setBusy_pending (x0 : Nat) (x1 : State) : (setBusy x0 x1).pending = x1.pending := by simp [setBusy]

@[simp] theorem arrive_pending (x0 : Req) (x1 : Nat) (x2 : State) : (arrive x0 x1 x2).pending = x2.pending := by simp [arrive]

@[simp] theorem setParty_pending (x0 : Party) (x1 : State) : (setParty x0 x1).pending = x1.pending := by simp [setParty]

@[simp] theorem queueMsg_pending (x0 : Nat) (x1 : Nat) (x2 : List Byte) (x3 : State) : (queueMsg x0 x1 x2 x3).pending = x3.pending := by simp [queueMsg]

@[simp] theorem forwardReq_pending (x0 : Req) (x1 : State) : (forwardReq x0 x1).pending = x1.pending := by simp [forwardReq]

@[simp] theorem runNow_pending (x0 : Nat) (x1 : Req → Nat → State → Out) (x2 : Req) (x3 : Nat) (x4 : State) (h1 : ∀ r t s, (x1 r t s).st.pending = s.pending) : (runNow x0 x1 x2 x3 x4).pending = x4.pending := by
  unfold runNow
  dsimp only
  split
  · simp
  · split
    · simp
    · rename_i h
      have hp := takePlace_pending _ _ _ _ h
      rw [accepted_pending] at hp
      split
      · simpa using hp
      · rw [modCage_pending]
        split <;> simpa using hp
      · simpa using hp
      · split <;> simp [h1, hp]

@[simp] theorem runCommand_pending (x0 : Nat) (x1 : Req → Nat → State → Out) (x2 : Req) (x3 : Nat) (x4 : State) (h1 : ∀ r t s, (x1 r t s).st.pending = s.pending) : (runCommand x0 x1 x2 x3 x4).pending = x4.pending := by
  unfold runCommand
  repeat' (first | with_reducible rfl | assumption | (simp [*]; done) | (simp only [ite_pending, ite_out_pending]; split) | split | (refine foldl_pending _ ?_ _ _; intros) | (rw [foldl_pending _ (by intros; simp)]) | (simp [*]))

@[simp] theorem finishOpen_pending (x0 : OpenCmd → Bool) (x1 : OpenCmd → Reply) (x2 : Nat) (x3 : State) : (finishOpen x0 x1 x2 x3).pending = x3.pending := by
  unfold finishOpen
  repeat' (first | with_reducible rfl | assumption | (simp [*]; done) | (simp only [ite_pending, ite_out_pending]; split) | split | (refine foldl_pending _ ?_ _ _; intros) | (rw [foldl_pending _ (by intros; simp)]) | (simp [*]))

@[simp] theorem commitOpen_pending (x0 : OpenCmd → Bool) (x1 : Nat) (x2 : State) : (commitOpen x0 x1 x2).pending = x2.pending := by simp [commitOpen]

@[simp] theorem setLaneRec_pending (x0 : Nat) (x1 : LaneRec → LaneRec) (x2 : State) : (setLaneRec x0 x1 x2).pending = x2.pending := by simp [setLaneRec]

@[simp] theorem failRecord_pending (x0 : Nat) (x1 : State) : (failRecord x0 x1).pending = x1.pending := by simp [failRecord]

@[simp] theorem finishBringups_pending (x0 : State) : (finishBringups x0).pending = x0.pending := by simp [finishBringups]

@[simp] theorem dropCopies_pending (x0 : Nat) (x1 : HPkt → Bool) (x2 : State) : (dropCopies x0 x1 x2).pending = x2.pending := by simp [dropCopies]

@[simp] theorem dropDown_pending (x0 : Nat) (x1 : State) : (dropDown x0 x1).pending = x1.pending := by simp [dropDown]

@[simp] theorem afterTxChange_pending (x0 : State) (x1 : State) : (afterTxChange x0 x1).pending = x1.pending := by simp [afterTxChange]

@[simp] theorem laneAssign_pending (x0 : Req) (x1 : Nat) (x2 : State) : (laneAssign x0 x1 x2).st.pending = x2.pending := by simp [laneAssign]

@[simp] theorem freeLane_pending (x0 : Nat) (x1 : State) : (freeLane x0 x1).pending = x1.pending := by simp [freeLane]

@[simp] theorem requeue_pending (x0 : Nat) (x1 : TxPkt) (x2 : State) : (requeue x0 x1 x2).pending = x2.pending := by simp [requeue]

@[simp] theorem loseSerialiser_pending (x0 : Nat) (x1 : State) : (loseSerialiser x0 x1).pending = x1.pending := by unfold loseSerialiser; repeat' (first | split | simp)

@[simp] theorem deliver_pending (x0 : Nat) (x1 : Nat) (x2 : List Byte) (x3 : State) : (deliver x0 x1 x2 x3).pending = x3.pending := by simp [deliver]

@[simp] theorem loseSignal_pending (x0 : Nat) (x1 : Bool) (x2 : State) : (loseSignal x0 x1 x2).pending = x2.pending := by
  unfold loseSignal
  split
  · unfold whenRun; split <;> rfl
  · rfl

@[simp] theorem laneBringup_pending (x0 : Req) (x1 : Nat) (x2 : State) : (laneBringup x0 x1 x2).st.pending = x2.pending := by
  unfold laneBringup
  repeat' (first | with_reducible rfl | assumption | (simp [*]; done) | (simp only [ite_pending, ite_out_pending]; split) | split | (refine foldl_pending _ ?_ _ _; intros) | (rw [foldl_pending _ (by intros; simp)]) | (simp [*]))

@[simp] theorem laneStatus_pending (x0 : Req) (x1 : Nat) (x2 : State) : (laneStatus x0 x1 x2).st.pending = x2.pending := by simp [laneStatus]

theorem takeDelivered_pending (x0 : Nat) (x1 : Nat) (x2 : State) (t) (e : takeDelivered x0 x1 x2 = some t) : t.2.pending = x2.pending := by
  unfold takeDelivered at e
  revert e
  repeat' (first | (intro e; injection e with e; subst e; simp [*]; done) | (simp [*]; done) | split | (intro e; cases e; done) | (simp [*]))

theorem launch_pending (x0 : Nat) (x1 : List Byte) (x2 : State) (t : State) (e : launch x0 x1 x2 = some t) : t.pending = x2.pending := by
  unfold launch at e
  dsimp only at e
  split at e
  · split at e
    · cases e
    · injection e with e
      rw [← e]; exact foldl_pending _ (by intros; rfl) _ _
  · split at e
    · injection e with e
      rw [← e]; rfl
    · cases e

@[simp] theorem postForwarded_pending (x0 : Forwarded) (x1 : Completion) (x2 : State) : (postForwarded x0 x1 x2).pending = x2.pending := by simp [postForwarded]

@[simp] theorem kindDiscard_pending (x0 : State) : (kindDiscard x0).pending = x0.pending := by simp [kindDiscard]

@[simp] theorem showUser_pending (x0 : List Byte) (x1 : State) : (showUser x0 x1).pending = x1.pending := by simp [showUser]

@[simp] theorem actOnKind_pending (x0 : Nat) (x1 : Nat) (x2 : List Byte) (x3 : State) : (actOnKind x0 x1 x2 x3).pending = x3.pending := by unfold actOnKind; repeat' (first | split | simp)

@[simp] theorem serveInbox_pending (x0 : Nat) (x1 : State) : (serveInbox x0 x1).pending = x1.pending := by
  unfold serveInbox
  repeat' (first | with_reducible rfl | assumption | (simp [*]; done) | (simp only [ite_pending, ite_out_pending]; split) | split | (refine foldl_pending _ ?_ _ _; intros) | (rw [foldl_pending _ (by intros; simp)]) | (simp [*]))

@[simp] theorem takeMessage_pending (x0 : List Byte) (x1 : Nat) (x2 : State) : (takeMessage x0 x1 x2).pending = x2.pending := by unfold takeMessage; repeat' (first | split | simp)

@[simp] theorem destDiscard_pending (x0 : State) : (destDiscard x0).pending = x0.pending := by simp [destDiscard]

@[simp] theorem failForwards_pending (x0 : Nat) (x1 : Nat) (x2 : State) : (failForwards x0 x1 x2).pending = x2.pending := by
  unfold failForwards
  repeat' (first | with_reducible rfl | assumption | (simp [*]; done) | (simp only [ite_pending, ite_out_pending]; split) | split | (refine foldl_pending _ ?_ _ _; intros) | (rw [foldl_pending _ (by intros; simp)]) | (simp [*]))

theorem judge_pending (x0 : State) (x1 : List Byte) (t) (e : judge x0 x1 = some t) : t.pending = x0.pending := by
  unfold judge at e
  repeat' (first | (injection e with e; subst e; simp; done) | (cases e; done) | split at e | dsimp only at e)

@[simp] theorem modSlot_pending (x0 : Nat) (x1 : Slot → Slot) (x2 : State) : (modSlot x0 x1 x2).pending = x2.pending := by simp [modSlot]

@[simp] theorem sealSlot_pending (x0 : Nat) (x1 : Bool) (x2 : State) : (sealSlot x0 x1 x2).pending = x2.pending := by simp [sealSlot]

@[simp] theorem settleSlot_pending (x0 : Nat) (x1 : State) : (settleSlot x0 x1).pending = x1.pending := by simp [settleSlot]

@[simp] theorem placeData_pending (x0 : List Byte) (x1 : State) : (placeData x0 x1).pending = x1.pending := by simp [placeData]

@[simp] theorem takeData_pending (x0 : List Byte) (x1 : State) : (takeData x0 x1).pending = x1.pending := by unfold takeData; repeat' (first | split | simp)

@[simp] theorem judgeWaiting_pending (x0 : Nat) (x1 : List Byte → State → State) (x2 : State) (h : ∀ b s, (x1 b s).pending = s.pending) : (judgeWaiting x0 x1 x2).pending = x2.pending := by
  unfold judgeWaiting
  rw [foldl_pending]
  intro s p
  cases e : judge s p.bytes
  · exact h _ _
  · exact judge_pending _ _ _ e

@[simp] theorem openWindow_pending (x0 : Nat) (x1 : State) : (openWindow x0 x1).pending = x1.pending := by unfold openWindow; repeat' (first | split | simp)

@[simp] theorem passClose_pending (x0 : PbClose) (x1 : State) : (passClose x0 x1).pending = x1.pending := by simp [passClose]

@[simp] theorem closeBlock_pending (x0 : Nat) (x1 : State) : (closeBlock x0 x1).pending = x1.pending := by unfold closeBlock; split <;> simp

@[simp] theorem skipBlocks_pending (x0 : Nat) (x1 : Nat) (x2 : State) : (skipBlocks x0 x1 x2).pending = x2.pending := by
  unfold skipBlocks
  repeat' (first | with_reducible rfl | assumption | (simp [*]; done) | (simp only [ite_pending, ite_out_pending]; split) | split | (refine foldl_pending _ ?_ _ _; intros) | (rw [foldl_pending _ (by intros; simp)]) | (simp [*]))

@[simp] theorem openBlock_pending (x0 : Nat) (x1 : State) : (openBlock x0 x1).pending = x1.pending := by
  unfold openBlock
  repeat' (first | with_reducible rfl | assumption | (simp [*]; done) | (simp only [ite_pending, ite_out_pending]; split) | split | (refine foldl_pending _ ?_ _ _; intros) | (rw [foldl_pending _ (by intros; simp)]) | (simp [*]))

@[simp] theorem dealUnit_pending (x0 : PbUnit) (x1 : State) : (dealUnit x0 x1).pending = x1.pending := by simp [dealUnit]

@[simp] theorem placePrompt_pending (x0 : List Byte) (x1 : Nat) (x2 : State) : (placePrompt x0 x1 x2).pending = x2.pending := by unfold placePrompt; repeat' (first | split | simp)

@[simp] theorem takePrompt_pending (x0 : List Byte) (x1 : State) : (takePrompt x0 x1).pending = x1.pending := by unfold takePrompt; repeat' (first | split | simp)

@[simp] theorem expireWait_pending (x0 : Nat) (x1 : State) : (expireWait x0 x1).pending = x1.pending := by simp [expireWait]

@[simp] theorem hopClear_pending (x0 : State) : (hopClear x0).pending = x0.pending := by simp [hopClear]

@[simp] theorem modSeries_pending (x0 : Nat) (x1 : Series → Series) (x2 : State) : (modSeries x0 x1 x2).pending = x2.pending := by simp [modSeries]

@[simp] theorem assaySat_pending (x0 : Nat) (x1 : State) : (assaySat x0 x1).pending = x1.pending := by simp [assaySat]

@[simp] theorem handOver_pending (x0 : Nat) (x1 : Nat) (x2 : Int) (x3 : State) : (handOver x0 x1 x2 x3).pending = x3.pending := by simp [handOver]

@[simp] theorem queueEvent_pending (x0 : Nat) (x1 : AssayEvent) (x2 : State) : (queueEvent x0 x1 x2).pending = x2.pending := by
  unfold queueEvent
  repeat' (first | with_reducible rfl | assumption | (simp [*]; done) | (simp only [ite_pending, ite_out_pending]; split) | split | (refine foldl_pending _ ?_ _ _; intros) | (rw [foldl_pending _ (by intros; simp)]) | (simp [*]))

@[simp] theorem commitStage_pending (x0 : State) (x1 : AssayStage) : (commitStage x0 x1).pending = x0.pending := by
  unfold commitStage
  repeat' (first | with_reducible rfl | assumption | (simp [*]; done) | (simp only [ite_pending, ite_out_pending]; split) | split | (refine foldl_pending _ ?_ _ _; intros) | (rw [foldl_pending _ (by intros; simp)]) | (simp [*]))

@[simp] theorem commitAssay_pending (x0 : State) : (commitAssay x0).pending = x0.pending := by
  unfold commitAssay
  repeat' (first | with_reducible rfl | assumption | (simp [*]; done) | (simp only [ite_pending, ite_out_pending]; split) | split | (refine foldl_pending _ ?_ _ _; intros) | (rw [foldl_pending _ (by intros; simp)]) | (simp [*]))

@[simp] theorem assayConfigure_pending (x0 : Req) (x1 : State) : (assayConfigure x0 x1).st.pending = x1.pending := by simp [assayConfigure]

@[simp] theorem requestFreeze_pending (x0 : Nat) (x1 : Nat) (x2 : Bool) (x3 : State) : (requestFreeze x0 x1 x2 x3).pending = x3.pending := by simp [requestFreeze]

@[simp] theorem assayConfig_pending (x0 : Req) (x1 : Nat) (x2 : State) : (assayConfig x0 x1 x2).st.pending = x2.pending := by unfold assayConfig; split <;> simp

@[simp] theorem assayClear_pending (x0 : State) : (assayClear x0).pending = x0.pending := by simp [assayClear]

@[simp] theorem probeSelect_pending (x0 : Nat) (x1 : State) : (probeSelect x0 x1).pending = x1.pending := by simp [probeSelect]

@[simp] theorem setRates_pending (x0 : State) : (setRates x0).pending = x0.pending := by simp [setRates]

@[simp] theorem modBeamPos_pending (x0 : Nat) (x1 : BeamPos → BeamPos) (x2 : State) : (modBeamPos x0 x1 x2).pending = x2.pending := by simp [modBeamPos]

@[simp] theorem beamRunDone_pending (x0 : Nat) (x1 : Nat) (x2 : Nat) (x3 : Nat) (x4 : Nat) (x5 : Nat) (x6 : State) : (beamRunDone x0 x1 x2 x3 x4 x5 x6).pending = x6.pending := by unfold beamRunDone; split <;> simp

@[simp] theorem beginBeams_pending (x0 : Nat) (x1 : State) : (beginBeams x0 x1).pending = x1.pending := by simp [beginBeams]

@[simp] theorem retireGens_pending (x0 : Nat) (x1 : State) : (retireGens x0 x1).pending = x1.pending := by simp [retireGens]

@[simp] theorem handUnit_pending (x0 : HUnit) (x1 : State) : (handUnit x0 x1).pending = x1.pending := by simp [handUnit]

@[simp] theorem dropBeamPos_pending (x0 : State) : (dropBeamPos x0).pending = x0.pending := by simp [dropBeamPos]

@[simp] theorem sumPower_pending (x0 : Nat) (x1 : State) : (sumPower x0 x1).pending = x1.pending := by unfold sumPower; split <;> simp

@[simp] theorem handSetPower_pending (x0 : PowerAcc) (x1 : Nat) (x2 : Nat) (x3 : State) : (handSetPower x0 x1 x2 x3).pending = x3.pending := by
  unfold handSetPower
  repeat' (first | with_reducible rfl | assumption | (simp [*]; done) | (simp only [ite_pending, ite_out_pending]; split) | split | (refine foldl_pending _ ?_ _ _; intros) | (rw [foldl_pending _ (by intros; simp)]) | (simp [*]))

@[simp] theorem handGroupPower_pending (x0 : PowerAcc) (x1 : Nat) (x2 : List Nat) (x3 : State) : (handGroupPower x0 x1 x2 x3).pending = x3.pending := by
  unfold handGroupPower
  repeat' (first | with_reducible rfl | assumption | (simp [*]; done) | (simp only [ite_pending, ite_out_pending]; split) | split | (refine foldl_pending _ ?_ _ _; intros) | (rw [foldl_pending _ (by intros; simp)]) | (simp [*]))

@[simp] theorem handPower_pending (x0 : Nat) (x1 : State) : (handPower x0 x1).pending = x1.pending := by
  unfold handPower
  repeat' (first | with_reducible rfl | assumption | (simp [*]; done) | (simp only [ite_pending, ite_out_pending]; split) | split | (refine foldl_pending _ ?_ _ _; intros) | (rw [foldl_pending _ (by intros; simp)]) | (simp [*]))

@[simp] theorem endUnits_pending (x0 : List PbUnit) (x1 : State) : (endUnits x0 x1).pending = x1.pending := by simp [endUnits]

@[simp] theorem stageGen_pending (x0 : StagedGen) (x1 : Nat) (x2 : State) : (stageGen x0 x1 x2).st.pending = x2.pending := by simp [stageGen]

@[simp] theorem busy_pending (x0 : State) : (busy x0).st.pending = x0.pending := by simp [busy]

@[simp] theorem beamsetDefine_pending (x0 : Req) (x1 : Nat) (x2 : State) : (beamsetDefine x0 x1 x2).st.pending = x2.pending := by simp [beamsetDefine]

@[simp] theorem beamDelays_pending (x0 : Req) (x1 : Nat) (x2 : State) : (beamDelays x0 x1 x2).st.pending = x2.pending := by simp [beamDelays]

@[simp] theorem commitGen_pending (x0 : State) : (commitGen x0).pending = x0.pending := by simp [commitGen]

@[simp] theorem beamWeightTable_pending (x0 : Req) (x1 : Nat) (x2 : State) : (beamWeightTable x0 x1 x2).st.pending = x2.pending := by
  unfold beamWeightTable
  repeat' (first | with_reducible rfl | assumption | (simp [*]; done) | (simp only [ite_pending, ite_out_pending]; split) | split | (refine foldl_pending _ ?_ _ _; intros) | (rw [foldl_pending _ (by intros; simp)]) | (simp [*]))

@[simp] theorem promptConfig_pending (x0 : Req) (x1 : Nat) (x2 : State) : (promptConfig x0 x1 x2).st.pending = x2.pending := by simp [promptConfig]

@[simp] theorem beamClear_pending (x0 : State) : (beamClear x0).pending = x0.pending := by simp [beamClear]

@[simp] theorem stageLine_pending (x0 : StagedLine) (x1 : State) : (stageLine x0 x1).pending = x1.pending := by simp [stageLine]

@[simp] theorem setJob_pending (x0 : PromJob) (x1 : State) : (setJob x0 x1).pending = x1.pending := by simp [setJob]

@[simp] theorem finishJob_pending (x0 : Bundle) (x1 : PromJob) (x2 : State) : (finishJob x0 x1 x2).pending = x2.pending := by simp [finishJob]

@[simp] theorem finishEmptyJobs_pending (x0 : State) : (finishEmptyJobs x0).pending = x0.pending := by
  unfold finishEmptyJobs
  repeat' (first | with_reducible rfl | assumption | (simp [*]; done) | (simp only [ite_pending, ite_out_pending]; split) | split | (refine foldl_pending _ ?_ _ _; intros) | (rw [foldl_pending _ (by intros; simp)]) | (simp [*]))

@[simp] theorem promote_pending (x0 : Bundle) (x1 : PromJob) (x2 : StagedLine) (x3 : State) : (promote x0 x1 x2 x3).pending = x3.pending := by simp [promote]

@[simp] theorem adoptRing_pending (x0 : IntegSched) (x1 : State) : (adoptRing x0 x1).pending = x1.pending := by simp [adoptRing]

@[simp] theorem takeEntry_pending (x0 : Bundle) (x1 : Integ) (x2 : Nat) (x3 : Bool) (x4 : State) : (takeEntry x0 x1 x2 x3 x4).1.pending = x4.pending := by simp [takeEntry]

@[simp] theorem closeInteg_pending (x0 : State) : (closeInteg x0).pending = x0.pending := by simp [closeInteg]

@[simp] theorem openInteg_pending (x0 : Nat) (x1 : IntegSched) (x2 : Option Nat) (x3 : State) : (openInteg x0 x1 x2 x3).pending = x3.pending := by simp [openInteg]

@[simp] theorem endPendingStop_pending (x0 : Nat) (x1 : State) : (endPendingStop x0 x1).pending = x1.pending := by simp [endPendingStop]

@[simp] theorem followOn_pending (x0 : Nat) (x1 : Nat) (x2 : State) : (followOn x0 x1 x2).pending = x2.pending := by unfold followOn; repeat' (first | split | simp)

@[simp] theorem startSchedule_pending (x0 : Nat) (x1 : State) : (startSchedule x0 x1).pending = x1.pending := by unfold startSchedule; repeat' (first | split | simp)

@[simp] theorem startCycle_pending (x0 : Nat) (x1 : Nat) (x2 : State) : (startCycle x0 x1 x2).pending = x2.pending := by unfold startCycle; repeat' (first | split | simp)

@[simp] theorem ringTest_pending (x0 : Bundle) (x1 : Integ) (x2 : Nat) (x3 : PromJob) (x4 : State) : (ringTest x0 x1 x2 x3 x4).2.pending = x4.pending := by unfold ringTest; repeat' (first | split | simp)

@[simp] theorem beginTally_pending (x0 : Nat) (x1 : Nat) (x2 : State) : (beginTally x0 x1 x2).pending = x2.pending := by unfold beginTally; repeat' (first | split | simp)

@[simp] theorem sweepChannel_pending (x0 : Bundle) (x1 : Sweep) (x2 : Nat) (x3 : State) : (sweepChannel x0 x1 x2 x3).pending = x3.pending := by
  unfold sweepChannel
  dsimp only
  rw [modTal_pending, servePort_pending, pitWrite_pending, foldl_pending _ (by intros; split <;> simp), pitWrite_pending,
    takeEntry_pending, adoptRing_pending]

@[simp] theorem startSweep_pending (x0 : State) : (startSweep x0).pending = x0.pending := by unfold startSweep; split <;> simp

@[simp] theorem integSchedule_pending (x0 : Req) (x1 : Nat) (x2 : State) : (integSchedule x0 x1 x2).st.pending = x2.pending := by unfold integSchedule; repeat' (first | split | simp)

@[simp] theorem integStop_pending (x0 : Req) (x1 : Nat) (x2 : State) : (integStop x0 x1 x2).st.pending = x2.pending := by unfold integStop; repeat' (first | split | simp)

@[simp] theorem talClear_pending (x0 : State) : (talClear x0).pending = x0.pending := by simp [talClear]

@[simp] theorem modFrame_pending (x0 : Nat) (x1 : Frame → Frame) (x2 : State) : (modFrame x0 x1 x2).pending = x2.pending := by simp [modFrame]

@[simp] theorem markFault_pending (x0 : Nat) (x1 : State) : (markFault x0 x1).pending = x1.pending := by unfold markFault; split <;> simp

@[simp] theorem stageShadow_pending (x0 : Nat) (x1 : Shadow) (x2 : State) : (stageShadow x0 x1 x2).pending = x2.pending := by unfold stageShadow; split <;> simp

@[simp] theorem stageAbsent_pending (x0 : Nat) (x1 : Run) (x2 : Nat) (x3 : State) : (stageAbsent x0 x1 x2 x3).pending = x3.pending := by unfold stageAbsent; split <;> simp

@[simp] theorem startRun_pending (x0 : Nat) (x1 : State) : (startRun x0 x1).pending = x1.pending := by unfold startRun; repeat' (first | split | simp)

@[simp] theorem endRun_pending (x0 : Nat) (x1 : State) : (endRun x0 x1).pending = x1.pending := by unfold endRun; repeat' (first | split | simp)

@[simp] theorem loseContext_pending (x0 : Nat) (x1 : Nat) (x2 : State) : (loseContext x0 x1 x2).1.pending = x2.pending := by unfold loseContext; repeat' (first | split | simp)

@[simp] theorem startPreempt_pending (x0 : Nat) (x1 : Nat) (x2 : List PbUnit) (x3 : Nat) (x4 : Nat) (x5 : Bool) (x6 : State) : (startPreempt x0 x1 x2 x3 x4 x5 x6).pending = x6.pending := by simp [startPreempt]

@[simp] theorem placeDrained_pending (x0 : Nat) (x1 : Frame) (x2 : Run) (x3 : Nat) (x4 : State) : (placeDrained x0 x1 x2 x3 x4).pending = x4.pending := by simp [placeDrained]

@[simp] theorem countStall_pending (x0 : Frame) (x1 : Nat) (x2 : State) : (countStall x0 x1 x2).pending = x2.pending := by simp [countStall]

@[simp] theorem drainFrame_pending (x0 : Nat) (x1 : Nat) (x2 : Nat) (x3 : State) : (drainFrame x0 x1 x2 x3).pending = x3.pending := by
  unfold drainFrame
  repeat' (first | with_reducible rfl | assumption | (simp [*]; done) | (simp only [ite_pending, ite_out_pending]; split) | split | (refine foldl_pending _ ?_ _ _; intros) | (rw [foldl_pending _ (by intros; simp)]) | (simp [*]))

@[simp] theorem overrun_pending (x0 : List Nat) (x1 : List Nat) (x2 : State) : (overrun x0 x1 x2).pending = x2.pending := by
  unfold overrun
  repeat' (first | with_reducible rfl | assumption | (simp [*]; done) | (simp only [ite_pending, ite_out_pending]; split) | split | (refine foldl_pending _ ?_ _ _; intros) | (rw [foldl_pending _ (by intros; simp)]) | (simp [*]))

@[simp] theorem drainCmd_pending (x0 : Req) (x1 : Nat) (x2 : State) : (drainCmd x0 x1 x2).st.pending = x2.pending := by simp [drainCmd]

@[simp] theorem flushFrame_pending (x0 : Nat) (x1 : State) : (flushFrame x0 x1).pending = x1.pending := by unfold flushFrame; repeat' (first | split | simp)

@[simp] theorem switchSched_pending (x0 : Nat) (x1 : State) : (switchSched x0 x1).pending = x1.pending := by unfold switchSched; split <;> simp

@[simp] theorem beginFrames_pending (x0 : Nat) (x1 : State) : (beginFrames x0 x1).pending = x1.pending := by
  unfold beginFrames
  repeat' (first | with_reducible rfl | assumption | (simp [*]; done) | (simp only [ite_pending, ite_out_pending]; split) | split | (refine foldl_pending _ ?_ _ _; intros) | (rw [foldl_pending _ (by intros; simp)]) | (simp [*]))

@[simp] theorem startFrames_pending (x0 : State) : (startFrames x0).pending = x0.pending := by
  unfold startFrames
  repeat' (first | with_reducible rfl | assumption | (simp [*]; done) | (simp only [ite_pending, ite_out_pending]; split) | split | (refine foldl_pending _ ?_ _ _; intros) | (rw [foldl_pending _ (by intros; simp)]) | (simp [*]))

@[simp] theorem abaClear_pending (x0 : State) : (abaClear x0).pending = x0.pending := by simp [abaClear]

@[simp] theorem endLossRun_pending (x0 : Nat) (x1 : State) : (endLossRun x0 x1).pending = x1.pending := by unfold endLossRun; split <;> simp

@[simp] theorem lose_pending (x0 : Nat) (x1 : Nat) (x2 : State) : (lose x0 x1 x2).pending = x2.pending := by simp [lose]

@[simp] theorem buildPkt_pending (x0 : HPkt) (x1 : State) : (buildPkt x0 x1).pending = x1.pending := by simp [buildPkt]

@[simp] theorem buildSome_pending (x0 : List HPkt) (x1 : State) : (buildSome x0 x1).2.pending = x1.pending := by
  induction x0 generalizing x1 with
  | nil => rfl
  | cons p r ih =>
    unfold buildSome
    split
    · rw [ih]; simp
    · rfl

@[simp] theorem buildDump_pending (x0 : Bundle) (x1 : RingRec) (x2 : Nat) (x3 : Nat) (x4 : State) : (buildDump x0 x1 x2 x3 x4).2.pending = x4.pending := by
  induction x3 generalizing x2 x4 with
  | zero => rfl
  | succ n ih =>
    unfold buildDump
    split
    · split
      · rw [ih]; simp
      · rfl
    · rfl

@[simp] theorem setUnit_pending (x0 : HUnit) (x1 : Option HUnit) (x2 : State) : (setUnit x0 x1 x2).pending = x2.pending := by simp [setUnit]

@[simp] theorem buildReady_pending (x0 : HUnit) (x1 : Nat) (x2 : List HPkt) (x3 : State) : (buildReady x0 x1 x2 x3).pending = x3.pending := by
  unfold buildReady
  repeat' (first | with_reducible rfl | assumption | (simp [*]; done) | (simp only [ite_pending, ite_out_pending]; split) | split | (refine foldl_pending _ ?_ _ _; intros) | (rw [foldl_pending _ (by intros; simp)]) | (simp [*]))

@[simp] theorem noteDrops_pending (x0 : Nat) (x1 : State) : (noteDrops x0 x1).pending = x1.pending := by simp [noteDrops]

@[simp] theorem setTxCur_pending (x0 : Nat) (x1 : TxPkt) (x2 : State) : (setTxCur x0 x1 x2).pending = x2.pending := by simp [setTxCur]

@[simp] theorem beaconEgress_pending (x0 : List Byte) (x1 : Nat) (x2 : State) : (beaconEgress x0 x1 x2).2.pending = x2.pending := by simp [beaconEgress]

@[simp] theorem hoistStreams_pending (x0 : Req) (x1 : Nat) (x2 : State) : (hoistStreams x0 x1 x2).st.pending = x2.pending := by simp [hoistStreams]

@[simp] theorem hoistPaths_pending (x0 : Req) (x1 : Nat) (x2 : State) : (hoistPaths x0 x1 x2).st.pending = x2.pending := by simp [hoistPaths]

@[simp] theorem crushConfig_pending (x0 : Req) (x1 : Nat) (x2 : State) : (crushConfig x0 x1 x2).st.pending = x2.pending := by simp [crushConfig]

@[simp] theorem enterHeld_pending (x0 : State) : (enterHeld x0).pending = x0.pending := by simp [enterHeld]

@[simp] theorem dropCaptUnits_pending (x0 : State) : (dropCaptUnits x0).pending = x0.pending := by simp [dropCaptUnits]

@[simp] theorem releaseRing_pending (x0 : State) : (releaseRing x0).pending = x0.pending := by simp [releaseRing]

@[simp] theorem rewriteHeader_pending (x0 : CaptRec) (x1 : State) : (rewriteHeader x0 x1).pending = x1.pending := by simp [rewriteHeader]

@[simp] theorem refuseFreeze_pending (x0 : State) : (refuseFreeze x0).pending = x0.pending := by simp [refuseFreeze]

@[simp] theorem freezeRing_pending (x0 : Nat) (x1 : Nat) (x2 : State) : (freezeRing x0 x1 x2).2.pending = x2.pending := by
  unfold freezeRing
  repeat' (first | with_reducible rfl | assumption | (simp [*]; done) | (simp only [ite_pending, ite_out_pending]; split) | split | (refine foldl_pending _ ?_ _ _; intros) | (rw [foldl_pending _ (by intros; simp)]) | (simp [*]))

@[simp] theorem captBegin_pending (x0 : Nat) (x1 : State) : (captBegin x0 x1).pending = x1.pending := by unfold captBegin; repeat' (first | split | simp)

@[simp] theorem captEnd_pending (x0 : Nat) (x1 : State) : (captEnd x0 x1).pending = x1.pending := by simp [captEnd]

@[simp] theorem captureConfig_pending (x0 : Req) (x1 : Nat) (x2 : State) : (captureConfig x0 x1 x2).st.pending = x2.pending := by unfold captureConfig; split <;> simp

@[simp] theorem captureFreeze_pending (x0 : Req) (x1 : Nat) (x2 : State) : (captureFreeze x0 x1 x2).st.pending = x2.pending := by
  unfold captureFreeze
  repeat' (first | with_reducible rfl | assumption | (simp [*]; done) | (simp only [ite_pending, ite_out_pending]; split) | split | (refine foldl_pending _ ?_ _ _; intros) | (rw [foldl_pending _ (by intros; simp)]) | (simp [*]))

@[simp] theorem captureRelease_pending (x0 : Req) (x1 : Nat) (x2 : State) : (captureRelease x0 x1 x2).st.pending = x2.pending := by unfold captureRelease; repeat' (first | split | simp)

@[simp] theorem handTrig_pending (x0 : HPkt) (x1 : State) : (handTrig x0 x1).pending = x1.pending := by simp [handTrig]

@[simp] theorem fire_pending (x0 : Candidate) (x1 : Nat) (x2 : State) : (fire x0 x1 x2).pending = x2.pending := by unfold fire; repeat' (first | split | simp)

@[simp] theorem triggerConfig_pending (x0 : Req) (x1 : Nat) (x2 : State) : (triggerConfig x0 x1 x2).st.pending = x2.pending := by simp [triggerConfig]

@[simp] theorem triggerArm_pending (x0 : Req) (x1 : Nat) (x2 : State) : (triggerArm x0 x1 x2).st.pending = x2.pending := by simp [triggerArm]

@[simp] theorem freeEvent_pending (x0 : Nat) (x1 : State) : (freeEvent x0 x1).pending = x1.pending := by simp [freeEvent]

@[simp] theorem injectValue_pending (x0 : Nat) (x1 : W32) (x2 : State) : (injectValue x0 x1 x2).pending = x2.pending := by simp [injectValue]

@[simp] theorem freezeSeries_pending (x0 : Nat) (x1 : W32) (x2 : State) : (freezeSeries x0 x1 x2).pending = x2.pending := by simp [freezeSeries]

@[simp] theorem portWrite_pending (x0 : Nat) (x1 : Nat) (x2 : W32) (x3 : State) : (portWrite x0 x1 x2 x3).pending = x3.pending := by unfold portWrite; split <;> simp

@[simp] theorem missedStop_pending (x0 : Nat) (x1 : State) : (missedStop x0 x1).pending = x1.pending := by simp [missedStop]

@[simp] theorem ayrFault_pending (x0 : Nat) (x1 : Nat) (x2 : State) : (ayrFault x0 x1 x2).pending = x2.pending := by simp [ayrFault]

@[simp] theorem ayrRun_pending (x0 : Nat) (x1 : AyrOp) (x2 : MemErr) (x3 : Nat) (x4 : State) : (ayrRun x0 x1 x2 x3 x4).pending = x4.pending := by unfold ayrRun; repeat' (first | split | simp)

@[simp] theorem windowStore_pending (x0 : Nat) (x1 : Nat) (x2 : W32) (x3 : State) : (windowStore x0 x1 x2 x3).pending = x3.pending := by simp [windowStore]

@[simp] theorem startCore_pending (x0 : Nat) (x1 : Nat) (x2 : State) : (startCore x0 x1 x2).pending = x2.pending := by simp [startCore]

@[simp] theorem takeImage_pending (x0 : Nat) (x1 : Nat) (x2 : Nat) (x3 : List Byte) (x4 : State) : (takeImage x0 x1 x2 x3 x4).st.pending = x4.pending := by simp [takeImage]

@[simp] theorem assayerLoad_pending (x0 : Req) (x1 : Nat) (x2 : State) : (assayerLoad x0 x1 x2).st.pending = x2.pending := by unfold assayerLoad; repeat' (first | split | simp)

@[simp] theorem assayerRun_pending (x0 : Req) (x1 : Nat) (x2 : State) : (assayerRun x0 x1 x2).st.pending = x2.pending := by unfold assayerRun; repeat' (first | split | simp)

@[simp] theorem stopCore_pending (x0 : Nat) (x1 : Nat) (x2 : Bool) (x3 : State) : (stopCore x0 x1 x2 x3).pending = x3.pending := by simp [stopCore]

@[simp] theorem pitStatus_pending (x0 : Req) (x1 : Nat) (x2 : State) : (pitStatus x0 x1 x2).st.pending = x2.pending := by simp [pitStatus]

@[simp] theorem pitRetireRank_pending (x0 : Req) (x1 : Nat) (x2 : State) : (pitRetireRank x0 x1 x2).st.pending = x2.pending := by unfold pitRetireRank; repeat' (first | split | simp)

@[simp] theorem pitRegulator_pending (x0 : Req) (x1 : Nat) (x2 : State) : (pitRegulator x0 x1 x2).st.pending = x2.pending := by simp [pitRegulator]

@[simp] theorem pitScrub_pending (x0 : Req) (x1 : Nat) (x2 : State) : (pitScrub x0 x1 x2).st.pending = x2.pending := by simp [pitScrub]

@[simp] theorem withSelection_pending (x0 : Tu → Tu) (x1 : State) : (withSelection x0 x1).pending = x1.pending := by simp [withSelection]

@[simp] theorem moveTime_pending (x0 : Int) (x1 : Bool) (x2 : State) : (moveTime x0 x1 x2).pending = x2.pending := by simp [moveTime]

@[simp] theorem coarseSet_pending (x0 : Nat) (x1 : State) : (coarseSet x0 x1).pending = x1.pending := by simp [coarseSet]

@[simp] theorem afterPhase_pending (x0 : Nat) (x1 : State) : (afterPhase x0 x1).pending = x1.pending := by simp [afterPhase]

@[simp] theorem signalFails_pending (x0 : Nat) (x1 : Nat) (x2 : State) : (signalFails x0 x1 x2).pending = x2.pending := by simp [signalFails]

@[simp] theorem tuSecond_pending (x0 : Nat) (x1 : Nat) (x2 : State) : (tuSecond x0 x1 x2).pending = x2.pending := by simp [tuSecond]

@[simp] theorem loseXo_pending (x0 : State) : (loseXo x0).pending = x0.pending := by simp [loseXo]

@[simp] theorem doTimeRefs_pending (x0 : Req) (x1 : Nat) (x2 : State) : (doTimeRefs x0 x1 x2).st.pending = x2.pending := by unfold doTimeRefs; repeat' (first | split | simp)

@[simp] theorem doTimeLoop_pending (x0 : Req) (x1 : Nat) (x2 : State) : (doTimeLoop x0 x1 x2).st.pending = x2.pending := by simp [doTimeLoop]

@[simp] theorem doTimePhaseStep_pending (x0 : Req) (x1 : Nat) (x2 : State) : (doTimePhaseStep x0 x1 x2).st.pending = x2.pending := by simp [doTimePhaseStep]

@[simp] theorem setTime_pending (x0 : Nat) (x1 : Nat) (x2 : Nat) (x3 : State) : (setTime x0 x1 x2 x3).pending = x3.pending := by simp [setTime]

@[simp] theorem doTimeSet_pending (x0 : Req) (x1 : Nat) (x2 : State) : (doTimeSet x0 x1 x2).st.pending = x2.pending := by simp [doTimeSet]

@[simp] theorem doTimeStatus_pending (x0 : Req) (x1 : Nat) (x2 : State) : (doTimeStatus x0 x1 x2).st.pending = x2.pending := by simp [doTimeStatus]

@[simp] theorem doPtpConfig_pending (x0 : Req) (x1 : Nat) (x2 : State) : (doPtpConfig x0 x1 x2).st.pending = x2.pending := by simp [doPtpConfig]

@[simp] theorem doHoldoverModel_pending (x0 : Req) (x1 : Nat) (x2 : State) : (doHoldoverModel x0 x1 x2).st.pending = x2.pending := by simp [doHoldoverModel]

@[simp] theorem bundleLoad_pending (x0 : Req) (x1 : Nat) (x2 : State) : (bundleLoad x0 x1 x2).st.pending = x2.pending := by simp [bundleLoad]

@[simp] theorem bundleJob_pending (x0 : List Byte) (x1 : State) : (bundleJob x0 x1).1.pending = x1.pending := by unfold bundleJob; split <;> simp

@[simp] theorem imageJob_pending (x0 : Req) (x1 : ExpJob) (x2 : State) : (imageJob x0 x1 x2).1.pending = x2.pending := by unfold imageJob; repeat' (first | split | simp)

@[simp] theorem failedJob_pending (x0 : OpenCmd) (x1 : State) : (failedJob x0 x1).1.pending = x1.pending := by simp [failedJob]

@[simp] theorem jobOutput_pending (x0 : ExpJob) (x1 : State) : (jobOutput x0 x1).pending = x1.pending := by unfold jobOutput; repeat' (first | split | simp)

@[simp] theorem sendVectors_pending (x0 : List Nat) (x1 : State) : (sendVectors x0 x1).pending = x1.pending := by simp [sendVectors]

@[simp] theorem askVector_pending (x0 : Nat) (x1 : State) : (askVector x0 x1).pending = x1.pending := by simp [askVector]

@[simp] theorem askVectors_pending (x0 : State) : (askVectors x0).pending = x0.pending := by
  unfold askVectors
  repeat' (first | with_reducible rfl | assumption | (simp [*]; done) | (simp only [ite_pending, ite_out_pending]; split) | split | (refine foldl_pending _ ?_ _ _; intros) | (rw [foldl_pending _ (by intros; simp)]) | (simp [*]))

@[simp] theorem bellSync_pending (x0 : State) : (bellSync x0).pending = x0.pending := by simp [bellSync]

@[simp] theorem withBell_pending (x0 : State → State) (x1 : State) (h0 : ∀ s, (x0 s).pending = s.pending) : (withBell x0 x1).pending = x1.pending := by
  unfold withBell
  repeat' (first | with_reducible rfl | assumption | (simp [*]; done) | (simp only [ite_pending, ite_out_pending]; split) | split | (refine foldl_pending _ ?_ _ _; intros) | (rw [foldl_pending _ (by intros; simp)]) | (simp [*]))

@[simp] theorem claim_pending (x0 : Nat) (x1 : Nat) (x2 : State) : (claim x0 x1 x2).2.pending = x2.pending := by unfold claim; repeat' (first | split | simp)

@[simp] theorem complete_pending (x0 : Nat) (x1 : Nat) (x2 : Nat) (x3 : State) : (complete x0 x1 x2 x3).pending = x3.pending := by simp [complete]

@[simp] theorem pendClear_pending (x0 : Nat) (x1 : Nat) (x2 : State) : (pendClear x0 x1 x2).pending = x2.pending := by simp [pendClear]

@[simp] theorem swSet_pending (x0 : Nat) (x1 : Nat) (x2 : State) : (swSet x0 x1 x2).pending = x2.pending := by simp [swSet]

@[simp] theorem bellCtrlWrite_pending (x0 : Nat) (x1 : State) : (bellCtrlWrite x0 x1).pending = x1.pending := by simp [bellCtrlWrite]

@[simp] theorem remapWrite_pending (x0 : Nat) (x1 : Nat) (x2 : State) : (remapWrite x0 x1 x2).pending = x2.pending := by simp [remapWrite]

@[simp] theorem bellWrite_pending (x0 : Nat) (x1 : Nat) (x2 : Nat) (x3 : State) : (bellWrite x0 x1 x2 x3).pending = x3.pending := by simp [bellWrite]

@[simp] theorem modConv_pending (x0 : Nat) (x1 : Conv → Conv) (x2 : State) : (modConv x0 x1 x2).pending = x2.pending := by simp [modConv]

@[simp] theorem monCause_pending (x0 : List Nat) (x1 : State) : (monCause x0 x1).pending = x1.pending := by simp [monCause]

@[simp] theorem latchCal_pending (x0 : Nat) (x1 : Nat) (x2 : State) : (latchCal x0 x1 x2).pending = x2.pending := by simp [latchCal]

@[simp] theorem refCheck_pending (x0 : Nat) (x1 : Int) (x2 : State) : (refCheck x0 x1 x2).pending = x2.pending := by simp [refCheck]

@[simp] theorem winCheck_pending (x0 : List Byte) (x1 : Int) (x2 : State) : (winCheck x0 x1 x2).pending = x2.pending := by simp [winCheck]

@[simp] theorem pushFifo_pending (x0 : Nat) (x1 : List Byte) (x2 : Int) (x3 : Bool) (x4 : Nat) (x5 : State) : (pushFifo x0 x1 x2 x3 x4 x5).pending = x5.pending := by simp [pushFifo]

@[simp] theorem endEntry_pending (x0 : State) : (endEntry x0).pending = x0.pending := by simp [endEntry]

@[simp] theorem commitTable_pending (x0 : List (List Byte)) (x1 : Bool) (x2 : State) : (commitTable x0 x1 x2).pending = x2.pending := by simp [commitTable]

@[simp] theorem monSequence_pending (x0 : Req) (x1 : Nat) (x2 : State) : (monSequence x0 x1 x2).st.pending = x2.pending := by simp [monSequence]

theorem queueUrgent_pending (x0 : Nat) (x1 : UrgReq) (x2 : State) (t : State) (e : queueUrgent x0 x1 x2 = some t) : t.pending = x2.pending := by
  unfold queueUrgent at e
  revert e
  repeat' (first | (intro e; injection e with e; subst e; simp [*]; done) | (simp [*]; done) | split | (intro e; cases e; done) | (simp [*]))

@[simp] theorem tuUrgent_pending (x0 : State) : (tuUrgent x0).pending = x0.pending := by
  unfold tuUrgent
  dsimp only
  split
  · rename_i h; exact queueUrgent_pending _ _ _ _ h
  · simp

@[simp] theorem monUrgent_pending (x0 : Req) (x1 : Nat) (x2 : State) : (monUrgent x0 x1 x2).st.pending = x2.pending := by
  unfold monUrgent
  dsimp only
  split
  · simp
  · split
    · rename_i h; exact queueUrgent_pending _ _ _ _ h
    · simp

@[simp] theorem resumeConv_pending (x0 : Nat) (x1 : State) : (resumeConv x0 x1).pending = x1.pending := by simp [resumeConv]

@[simp] theorem deliverUrgent_pending (x0 : Nat) (x1 : UrgReq) (x2 : Int) (x3 : Bool) (x4 : Nat) (x5 : State) : (deliverUrgent x0 x1 x2 x3 x4 x5).pending = x5.pending := by unfold deliverUrgent; split <;> simp

@[simp] theorem endUrgent_pending (x0 : Nat) (x1 : Int) (x2 : Nat) (x3 : State) : (endUrgent x0 x1 x2 x3).pending = x3.pending := by unfold endUrgent; repeat' (first | split | simp)

@[simp] theorem endTable_pending (x0 : Nat) (x1 : Int) (x2 : Nat) (x3 : State) : (endTable x0 x1 x2 x3).pending = x3.pending := by simp [endTable]

@[simp] theorem measure_pending (x0 : Req) (x1 : Option Int) (x2 : State) : (measure x0 x1 x2).st.pending = x2.pending := by
  unfold measure
  dsimp only
  split
  · simp
  · split
    · rename_i h; exact queueUrgent_pending _ _ _ _ h
    · simp

@[simp] theorem computeCal_pending (x0 : Nat) (x1 : Nat) (x2 : State) : (computeCal x0 x1 x2).st.pending = x2.pending := by unfold computeCal; repeat' (first | split | simp)

@[simp] theorem monCalibrate_pending (x0 : Req) (x1 : Nat) (x2 : State) : (monCalibrate x0 x1 x2).st.pending = x2.pending := by simp [monCalibrate]

@[simp] theorem monRead_pending (x0 : Req) (x1 : Nat) (x2 : State) : (monRead x0 x1 x2).st.pending = x2.pending := by simp [monRead]

@[simp] theorem monFifoRead_pending (x0 : Nat) (x1 : State) : (monFifoRead x0 x1).2.pending = x1.pending := by unfold monFifoRead; split <;> simp

@[simp] theorem clearMon_pending (x0 : State) : (clearMon x0).pending = x0.pending := by simp [clearMon]

@[simp] theorem monWrite_pending (x0 : Nat) (x1 : Nat) (x2 : State) : (monWrite x0 x1 x2).pending = x2.pending := by unfold monWrite; repeat' (first | split | simp)

@[simp] theorem conCause_pending (x0 : List Nat) (x1 : State) : (conCause x0 x1).pending = x1.pending := by simp [conCause]

@[simp] theorem setPeer_pending (x0 : Peer) (x1 : State) : (setPeer x0 x1).pending = x1.pending := by simp [setPeer]

@[simp] theorem judgeSuspect_pending (x0 : State) : (judgeSuspect x0).pending = x0.pending := by simp [judgeSuspect]

@[simp] theorem judgeLeader_pending (x0 : State) : (judgeLeader x0).pending = x0.pending := by simp [judgeLeader]

@[simp] theorem sendBeacon_pending (x0 : Nat) (x1 : State) : (sendBeacon x0 x1).pending = x1.pending := by unfold sendBeacon; split <;> simp

@[simp] theorem joinPeers_pending (x0 : Nat) (x1 : List Nat) (x2 : Nat) (x3 : State) : (joinPeers x0 x1 x2 x3).pending = x3.pending := by simp [joinPeers]

@[simp] theorem countSuspect_pending (x0 : State) : (countSuspect x0).pending = x0.pending := by simp [countSuspect]

@[simp] theorem joinStaged_pending (x0 : Nat) (x1 : State) : (joinStaged x0 x1).pending = x1.pending := by unfold joinStaged; split <;> simp

@[simp] theorem beaconSecond_pending (x0 : Nat) (x1 : State) : (beaconSecond x0 x1).pending = x1.pending := by
  unfold beaconSecond
  repeat' (first | with_reducible rfl | assumption | (simp [*]; done) | (simp only [ite_pending, ite_out_pending]; split) | split | (refine foldl_pending _ ?_ _ _; intros) | (rw [foldl_pending _ (by intros; simp)]) | (simp [*]))

@[simp] theorem judgeDue_pending (x0 : Peer) (x1 : Peer) (x2 : State) : (judgeDue x0 x1 x2).pending = x2.pending := by simp [judgeDue]

@[simp] theorem takeBeacon_pending (x0 : Peer) (x1 : Nat) (x2 : List Byte) (x3 : Bool) (x4 : Nat) (x5 : State) : (takeBeacon x0 x1 x2 x3 x4 x5).pending = x5.pending := by simp [takeBeacon]

@[simp] theorem constJoin_pending (x0 : Req) (x1 : Nat) (x2 : State) : (constJoin x0 x1 x2).st.pending = x2.pending := by unfold constJoin; split <;> simp

@[simp] theorem constState_pending (x0 : Req) (x1 : Nat) (x2 : State) : (constState x0 x1 x2).st.pending = x2.pending := by simp [constState]

@[simp] theorem constPolicy_pending (x0 : Req) (x1 : Nat) (x2 : State) : (constPolicy x0 x1 x2).st.pending = x2.pending := by simp [constPolicy]

@[simp] theorem holdSchedule_pending (x0 : State) : (holdSchedule x0).pending = x0.pending := by simp [holdSchedule]

@[simp] theorem realign_pending (x0 : Bundle) (x1 : Peer) (x2 : Nat) (x3 : State) : (realign x0 x1 x2 x3).pending = x3.pending := by unfold realign; split <;> simp

@[simp] theorem peerSelWrite_pending (x0 : Nat) (x1 : State) : (peerSelWrite x0 x1).pending = x1.pending := by simp [peerSelWrite]

@[simp] theorem clearCon_pending (x0 : State) : (clearCon x0).pending = x0.pending := by simp [clearCon]

@[simp] theorem constWrite_pending (x0 : Nat) (x1 : Nat) (x2 : State) : (constWrite x0 x1 x2).pending = x2.pending := by unfold constWrite; split <;> simp

theorem imageFn_pending (op : Nat) (f) (e : imageFn op = some f) : ∀ r t s, (f r t s).st.pending = s.pending := by
  unfold imageFn at e
  split at e <;> first | (cases e; intros; simp; done) | (cases e; done)

@[simp] theorem commitImage_pending (x0 : Nat) (x1 : State) : (commitImage x0 x1).pending = x1.pending := by simp [commitImage]

theorem applyImage_pending (x0 : Nat) (x1 : Nat) (x2 : Image) (x3 : State) (t) (e : applyImage x0 x1 x2 x3 = .ok t) : t.pending = x3.pending := by
  unfold applyImage at e
  split at e
  · injection e with e; rw [← e]
  · rename_i f hf
    dsimp only at e
    split at e
    · injection e with e
      rw [← e, commitImage_pending, imageFn_pending _ _ hf]
    · cases e

theorem tryImages_pending (x0 : Bundle) (x1 : Nat) (x2 : Nat) (x3 : List Image) (x4 : State) (t) (e : tryImages x0 x1 x2 x3 x4 = .ok t) : t.pending = x4.pending := by
  induction x3 generalizing x4 with
  | nil => unfold tryImages at e; injection e with e; rw [e]
  | cons im r ih =>
    unfold tryImages at e
    split at e
    · cases e
    · split at e
      · rename_i h; rw [ih _ e, applyImage_pending _ _ _ _ _ h]
      · cases e

@[simp] theorem whileApplying_pending (x0 : State → State) (x1 : State) (h0 : ∀ s, (x0 s).pending = s.pending) : (whileApplying x0 x1).pending = x1.pending := by
  unfold whileApplying
  repeat' (first | with_reducible rfl | assumption | (simp [*]; done) | (simp only [ite_pending, ite_out_pending]; split) | split | (refine foldl_pending _ ?_ _ _; intros) | (rw [foldl_pending _ (by intros; simp)]) | (simp [*]))

@[simp] theorem runImages_pending (x0 : Nat) (x1 : Nat) (x2 : List Image) (x3 : State) : (runImages x0 x1 x2 x3).pending = x3.pending := by
  unfold runImages
  rw [setRates_pending]
  refine whileApplying_pending _ _ fun s => foldl_pending _ (fun s im => ?_) _ _
  split
  · rename_i h; exact applyImage_pending _ _ _ _ _ h
  · rfl

@[simp] theorem leaveConst_pending (x0 : Bundle) (x1 : State) : (leaveConst x0 x1).pending = x1.pending := by unfold leaveConst; split <;> simp

@[simp] theorem freshConfig_pending (x0 : Bundle) (x1 : State) : (freshConfig x0 x1).pending = x1.pending := by
  unfold freshConfig
  exact leaveConst_pending _ _

@[simp] theorem settleGens_pending (x0 : Nat) (x1 : State) : (settleGens x0 x1).pending = x1.pending := by simp [settleGens]

@[simp] theorem settleStaged_pending (x0 : Nat) (x1 : State) : (settleStaged x0 x1).pending = x1.pending := by simp [settleStaged]

@[simp] theorem takeChangeover_pending (x0 : Nat) (x1 : Nat) (x2 : State) : (takeChangeover x0 x1 x2).pending = x2.pending := by unfold takeChangeover; split <;> simp

@[simp] theorem boundaryClears_pending (x0 : State) : (boundaryClears x0).pending = x0.pending := by simp [boundaryClears]

@[simp] theorem boundaryFrames_pending (x0 : List Nat) (x1 : List Nat) (x2 : State) : (boundaryFrames x0 x1 x2).pending = x2.pending := by
  unfold boundaryFrames
  repeat' (first | with_reducible rfl | assumption | (simp [*]; done) | (simp only [ite_pending, ite_out_pending]; split) | split | (refine foldl_pending _ ?_ _ _; intros) | (rw [foldl_pending _ (by intros; simp)]) | (simp [*]))

@[simp] theorem endPosition_pending (x0 : Nat) (x1 : State) : (endPosition x0 x1).pending = x1.pending := by simp [endPosition]

@[simp] theorem takeResume_pending (x0 : State) : (takeResume x0).pending = x0.pending := by simp [takeResume]

@[simp] theorem beginPosition_pending (x0 : Nat) (x1 : Nat) (x2 : State) : (beginPosition x0 x1 x2).pending = x2.pending := by simp [beginPosition]

@[simp] theorem deadline_pending (x0 : Nat) (x1 : State) : (deadline x0 x1).pending = x1.pending := by simp [deadline]

@[simp] theorem openSlot_pending (x0 : Nat) (x1 : State) : (openSlot x0 x1).pending = x1.pending := by simp [openSlot]

@[simp] theorem chunkBoundary_pending (x0 : Nat) (x1 : List Nat) (x2 : List Nat) (x3 : Nat) (x4 : State) : (chunkBoundary x0 x1 x2 x3 x4).pending = x4.pending := by simp [chunkBoundary]

@[simp] theorem alignHopper_pending (x0 : Nat) (x1 : State) : (alignHopper x0 x1).pending = x1.pending := by unfold alignHopper; split <;> simp

@[simp] theorem modWch_pending (x0 : Nat) (x1 : WndChan → WndChan) (x2 : State) : (modWch x0 x1 x2).pending = x2.pending := by simp [modWch]

@[simp] theorem wndStart_pending (x0 : Nat) (x1 : State) : (wndStart x0 x1).pending = x1.pending := by simp [wndStart]

@[simp] theorem wndUndefine_pending (x0 : Nat) (x1 : State) : (wndUndefine x0 x1).pending = x1.pending := by simp [wndUndefine]

@[simp] theorem wndEnd_pending (x0 : Nat) (x1 : Nat) (x2 : State) : (wndEnd x0 x1 x2).pending = x2.pending := by simp [wndEnd]

@[simp] theorem wndDisable_pending (x0 : Nat) (x1 : State) : (wndDisable x0 x1).pending = x1.pending := by simp [wndDisable]

@[simp] theorem wndPark_pending (x0 : Nat) (x1 : State) : (wndPark x0 x1).pending = x1.pending := by simp [wndPark]

@[simp] theorem wndLeaveDp_pending (x0 : Bool) (x1 : State) : (wndLeaveDp x0 x1).pending = x1.pending := by
  unfold wndLeaveDp
  refine foldl_pending _ (fun s c => ?_) _ _
  split
  · rfl
  · split <;> simp

@[simp] theorem wndResume_pending (x0 : State) : (wndResume x0).pending = x0.pending := by simp [wndResume]

@[simp] theorem wndEventSet_pending (x0 : Nat) (x1 : Nat) (x2 : State) : (wndEventSet x0 x1 x2).pending = x2.pending := by simp [wndEventSet]

@[simp] theorem wndCtrlWrite_pending (x0 : Nat) (x1 : Nat) (x2 : State) : (wndCtrlWrite x0 x1 x2).pending = x2.pending := by simp [wndCtrlWrite]

@[simp] theorem wndWrite_pending (x0 : Nat) (x1 : Nat) (x2 : State) : (wndWrite x0 x1 x2).pending = x2.pending := by unfold wndWrite; repeat' (first | split | simp)

@[simp] theorem appendPersist_pending (x0 : Nat) (x1 : Nat) (x2 : State) : (appendPersist x0 x1 x2).pending = x2.pending := by simp [appendPersist]

@[simp] theorem takeBack_pending (x0 : State) : (takeBack x0).pending = x0.pending := by
  unfold takeBack
  repeat' (first | with_reducible rfl | assumption | (simp [*]; done) | (simp only [ite_pending, ite_out_pending]; split) | split | (refine foldl_pending _ ?_ _ _; intros) | (rw [foldl_pending _ (by intros; simp)]) | (simp [*]))

@[simp] theorem downStops_pending (x0 : Nat) (x1 : State) : (downStops x0 x1).pending = x1.pending := by
  unfold downStops
  repeat' (first | with_reducible rfl | assumption | (simp [*]; done) | (simp only [ite_pending, ite_out_pending]; split) | split | (refine foldl_pending _ ?_ _ _; intros) | (rw [foldl_pending _ (by intros; simp)]) | (simp [*]))

@[simp] theorem dpDown_pending (x0 : Nat) (x1 : State) : (dpDown x0 x1).pending = x1.pending := by simp [dpDown]

@[simp] theorem startLanes_pending (x0 : Bool) (x1 : State) : (startLanes x0 x1).pending = x1.pending := by simp [startLanes]

@[simp] theorem comingLanes_pending (x0 : Nat) (x1 : State) : (comingLanes x0 x1).pending = x1.pending := by unfold comingLanes; split <;> simp

@[simp] theorem dpUp_pending (x0 : DpMove) (x1 : State) : (dpUp x0 x1).pending = x1.pending := by simp [dpUp]

@[simp] theorem leaveRun_pending (x0 : DpMove) (x1 : Bool) (x2 : State) : (leaveRun x0 x1 x2).pending = x2.pending := by simp [leaveRun]

@[simp] theorem quiesce_pending (x0 : Req) (x1 : Nat) (x2 : State) : (quiesce x0 x1 x2).st.pending = x2.pending := by simp [quiesce]

@[simp] theorem setSlot_pending (x0 : Req) (x1 : State) : (setSlot x0 x1).pending = x1.pending := by simp [setSlot]

@[simp] theorem takeSlot_pending (x0 : Option OpenCmd) (x1 : State) : (takeSlot x0 x1).pending = x1.pending := by unfold takeSlot; split <;> simp

@[simp] theorem resume_pending (x0 : Req) (x1 : Nat) (x2 : State) : (resume x0 x1 x2).st.pending = x2.pending := by simp [resume]

@[simp] theorem mapAll_pending (x0 : Nat) (x1 : Bool) (x2 : State) : (mapAll x0 x1 x2).pending = x2.pending := by simp [mapAll]

@[simp] theorem startAbacus_pending (x0 : Bundle) (x1 : State) : (startAbacus x0 x1).pending = x1.pending := by simp [startAbacus]

@[simp] theorem reloadAyr_pending (x0 : State) : (reloadAyr x0).pending = x0.pending := by
  unfold reloadAyr
  repeat' (first | with_reducible rfl | assumption | (simp [*]; done) | (simp only [ite_pending, ite_out_pending]; split) | split | (refine foldl_pending _ ?_ _ _; intros) | (rw [foldl_pending _ (by intros; simp)]) | (simp [*]))

@[simp] theorem restartReadout_pending (x0 : State) : (restartReadout x0).pending = x0.pending := by unfold restartReadout; split <;> simp

@[simp] theorem newSession_pending (x0 : State) : (newSession x0).pending = x0.pending := by simp [newSession]

@[simp] theorem runStart_pending (x0 : State) : (runStart x0).pending = x0.pending := by
  unfold runStart
  repeat' (first | with_reducible rfl | assumption | (simp [*]; done) | (simp only [ite_pending, ite_out_pending]; split) | split | (refine foldl_pending _ ?_ _ _; intros) | (rw [foldl_pending _ (by intros; simp)]) | (simp [*]))

@[simp] theorem beginRun_pending (x0 : Nat) (x1 : State) : (beginRun x0 x1).pending = x1.pending := by
  unfold beginRun
  dsimp only
  rw [modAssay_pending, runStart_pending, restartReadout_pending, reloadAyr_pending]
  split <;> simp

@[simp] theorem holdBundle_pending (x0 : State) : (holdBundle x0).pending = x0.pending := by unfold holdBundle; split <;> simp

@[simp] theorem hardReset_pending (x0 : Nat) (x1 : State) : (hardReset x0 x1).pending = x1.pending := by
  unfold hardReset
  dsimp only
  rw [bellSync_pending, modBell_pending]
  exact bellSync_pending _

@[simp] theorem coldReset_pending (x0 : State) : (coldReset x0).pending = x0.pending := by simp [coldReset]

@[simp] theorem resetReq_pending (x0 : Nat) (x1 : Nat) (x2 : State) : (resetReq x0 x1 x2).pending = x2.pending := by simp [resetReq]

@[simp] theorem drainOne_pending (x0 : Nat) (x1 : State) : (drainOne x0 x1).pending = x1.pending := by unfold drainOne; split <;> simp

@[simp] theorem drainOverflow_pending (x0 : Nat) (x1 : State) : (drainOverflow x0 x1).pending = x1.pending := by
  unfold drainOverflow
  repeat' (first | with_reducible rfl | assumption | (simp [*]; done) | (simp only [ite_pending, ite_out_pending]; split) | split | (refine foldl_pending _ ?_ _ _; intros) | (rw [foldl_pending _ (by intros; simp)]) | (simp [*]))

@[simp] theorem fetchOne_pending (x0 : Nat) (x1 : State) : (fetchOne x0 x1).pending = x1.pending := by unfold fetchOne; repeat' (first | split | simp)

@[simp] theorem fetchCage_pending (x0 : Nat) (x1 : State) : (fetchCage x0 x1).pending = x1.pending := by
  unfold fetchCage
  repeat' (first | with_reducible rfl | assumption | (simp [*]; done) | (simp only [ite_pending, ite_out_pending]; split) | split | (refine foldl_pending _ ?_ _ _; intros) | (rw [foldl_pending _ (by intros; simp)]) | (simp [*]))

@[simp] theorem fetchAll_pending (x0 : State) : (fetchAll x0).pending = x0.pending := by
  unfold fetchAll
  repeat' (first | with_reducible rfl | assumption | (simp [*]; done) | (simp only [ite_pending, ite_out_pending]; split) | split | (refine foldl_pending _ ?_ _ _; intros) | (rw [foldl_pending _ (by intros; simp)]) | (simp [*]))

@[simp] theorem cageCtrlWrite_pending (x0 : Nat) (x1 : Nat) (x2 : State) : (cageCtrlWrite x0 x1 x2).pending = x2.pending := by simp [cageCtrlWrite]

@[simp] theorem fetchError_pending (x0 : Nat) (x1 : State) : (fetchError x0 x1).pending = x1.pending := by simp [fetchError]

@[simp] theorem doorbell_pending (x0 : Nat) (x1 : Nat) (x2 : List Req) (x3 : Bool) (x4 : State) : (doorbell x0 x1 x2 x3 x4).pending = x4.pending := by simp [doorbell]

@[simp] theorem cplHeadWrite_pending (x0 : Nat) (x1 : Nat) (x2 : State) : (cplHeadWrite x0 x1 x2).pending = x2.pending := by simp [cplHeadWrite]

@[simp] theorem postTo_pending (x0 : Completion) (x1 : State) : (postTo x0 x1).pending = x1.pending := by simp [postTo]

@[simp] theorem postNext_pending (x0 : Nat) (x1 : State) : (postNext x0 x1).pending = x1.pending := by unfold postNext; split <;> simp

@[simp] theorem postAll_pending (x0 : State) : (postAll x0).pending = x0.pending := by
  unfold postAll
  repeat' (first | with_reducible rfl | assumption | (simp [*]; done) | (simp only [ite_pending, ite_out_pending]; split) | split | (refine foldl_pending _ ?_ _ _; intros) | (rw [foldl_pending _ (by intros; simp)]) | (simp [*]))

@[simp] theorem resetIfWritten_pending (x0 : State) : (resetIfWritten x0).pending = x0.pending := by simp [resetIfWritten]

@[simp] theorem dropAssembly_pending (x0 : Nat) (x1 : Nat) (x2 : Nat) (x3 : State) : (dropAssembly x0 x1 x2 x3).pending = x3.pending := by simp [dropAssembly]

@[simp] theorem holdPart_pending (x0 : Req) (x1 : List Byte) (x2 : Nat) (x3 : State) : (holdPart x0 x1 x2 x3).pending = x3.pending := by simp [holdPart]

@[simp] theorem partOutOfOrder_pending (x0 : Req) (x1 : Nat) (x2 : State) : (partOutOfOrder x0 x1 x2).pending = x2.pending := by simp [partOutOfOrder]

@[simp] theorem takeDatagram_pending (x0 : Req) (x1 : Nat) (x2 : State) : (takeDatagram x0 x1 x2).pending = x2.pending := by unfold takeDatagram; repeat' (first | split | simp)

@[simp] theorem hostBack_pending (x0 : State) : (hostBack x0).pending = x0.pending := by
  unfold hostBack
  repeat' (first | with_reducible rfl | assumption | (simp [*]; done) | (simp only [ite_pending, ite_out_pending]; split) | split | (refine foldl_pending _ ?_ _ _; intros) | (rw [foldl_pending _ (by intros; simp)]) | (simp [*]))

@[simp] theorem devCause_pending (x0 : List Nat) (x1 : State) : (devCause x0 x1).pending = x1.pending := by simp [devCause]

@[simp] theorem setCore_pending (x0 : Nat) (x1 : CoreState) (x2 : State) : (setCore x0 x1 x2).pending = x2.pending := by simp [setCore]

@[simp] theorem coreFaulty_pending (x0 : Nat) (x1 : State) : (coreFaulty x0 x1).pending = x1.pending := by simp [coreFaulty]

@[simp] theorem controlDown_pending (x0 : State) : (controlDown x0).pending = x0.pending := by simp [controlDown]

@[simp] theorem seekCore_pending (x0 : State) : (seekCore x0).pending = x0.pending := by unfold seekCore; repeat' (first | split | simp)

@[simp] theorem countRelinquish_pending (x0 : Nat) (x1 : Nat) (x2 : State) : (countRelinquish x0 x1 x2).pending = x2.pending := by simp [countRelinquish]

@[simp] theorem reasonCause_pending (x0 : Nat) (x1 : State) : (reasonCause x0 x1).pending = x1.pending := by simp [reasonCause]

@[simp] theorem loseJobs_pending (x0 : State) : (loseJobs x0).pending = x0.pending := by simp [loseJobs]

@[simp] theorem relinquish_pending (x0 : Nat) (x1 : State) : (relinquish x0 x1).pending = x1.pending := by simp [relinquish]

@[simp] theorem modStage_pending (x0 : Nat) (x1 : StageRec → StageRec) (x2 : State) : (modStage x0 x1 x2).pending = x2.pending := by simp [modStage]

@[simp] theorem enterTraining_pending (x0 : Nat) (x1 : State) : (enterTraining x0 x1).pending = x1.pending := by simp [enterTraining]

@[simp] theorem enterStage_pending (x0 : Nat) (x1 : State) : (enterStage x0 x1).pending = x1.pending := by simp [enterStage]

@[simp] theorem setResult_pending (x0 : Nat) (x1 : Nat) (x2 : State) : (setResult x0 x1 x2).pending = x2.pending := by simp [setResult]

@[simp] theorem bootTrigger_pending (x0 : Nat) (x1 : Nat) (x2 : State) : (bootTrigger x0 x1 x2).pending = x2.pending := by simp [bootTrigger]

@[simp] theorem takeoverFail_pending (x0 : Nat) (x1 : State) : (takeoverFail x0 x1).pending = x1.pending := by simp [takeoverFail]

@[simp] theorem trigger_pending (x0 : Nat) (x1 : State) : (trigger x0 x1).pending = x1.pending := by unfold trigger; repeat' (first | split | simp)

@[simp] theorem wdtKick_pending (x0 : Nat) (x1 : State) : (wdtKick x0 x1).pending = x1.pending := by simp [wdtKick]

@[simp] theorem shiftRelinquish_pending (x0 : Nat) (x1 : Nat) (x2 : Nat) (x3 : State) : (shiftRelinquish x0 x1 x2 x3).pending = x3.pending := by simp [shiftRelinquish]

@[simp] theorem repairEnd_pending (x0 : Nat) (x1 : Bool) (x2 : State) : (repairEnd x0 x1 x2).pending = x2.pending := by simp [repairEnd]

@[simp] theorem dropJournal_pending (x0 : List LogFault) (x1 : State) : (dropJournal x0 x1).pending = x1.pending := by simp [dropJournal]

@[simp] theorem takeShift_pending (x0 : Nat) (x1 : State) : (takeShift x0 x1).pending = x1.pending := by simp [takeShift]

@[simp] theorem shiftHandover_pending (x0 : Req) (x1 : Nat) (x2 : State) : (shiftHandover x0 x1 x2).st.pending = x2.pending := by simp [shiftHandover]

@[simp] theorem shiftStatus_pending (x0 : Req) (x1 : Nat) (x2 : State) : (shiftStatus x0 x1 x2).st.pending = x2.pending := by simp [shiftStatus]

@[simp] theorem ledgerRead_pending (x0 : Req) (x1 : Nat) (x2 : State) : (ledgerRead x0 x1 x2).st.pending = x2.pending := by simp [ledgerRead]

@[simp] theorem ledgerClear_pending (x0 : Req) (x1 : Nat) (x2 : State) : (ledgerClear x0 x1 x2).st.pending = x2.pending := by simp [ledgerClear]

@[simp] theorem persistWrite_pending (x0 : Nat) (x1 : State) : (persistWrite x0 x1).pending = x1.pending := by unfold persistWrite; repeat' (first | split | simp)

@[simp] theorem accessErr_pending (x0 : Nat) (x1 : Nat) (x2 : Nat) (x3 : State) : (accessErr x0 x1 x2 x3).pending = x3.pending := by simp [accessErr]

@[simp] theorem shiftWrite_pending (x0 : Nat) (x1 : Nat) (x2 : Nat) (x3 : Nat) (x4 : State) : (shiftWrite x0 x1 x2 x3 x4).pending = x4.pending := by unfold shiftWrite; split <;> simp

@[simp] theorem refuseAt_pending (x0 : State) (x1 : Nat) (x2 : Nat) (x3 : Nat) : (refuseAt x0 x1 x2 x3).st.pending = x0.pending := by simp [refuseAt]

@[simp] theorem extendSets_pending (x0 : Nat) (x1 : State) : (extendSets x0 x1).pending = x1.pending := by simp [extendSets]

@[simp] theorem sendNotices_pending (x0 : Option Bundle) (x1 : Bundle) (x2 : Nat) (x3 : State) : (sendNotices x0 x1 x2 x3).pending = x3.pending := by
  unfold sendNotices
  repeat' (first | with_reducible rfl | assumption | (simp [*]; done) | (simp only [ite_pending, ite_out_pending]; split) | split | (refine foldl_pending _ ?_ _ _; intros) | (rw [foldl_pending _ (by intros; simp)]) | (simp [*]))

@[simp] theorem registerSched_pending (x0 : Nat) (x1 : Bundle) (x2 : State) : (registerSched x0 x1 x2).pending = x2.pending := by simp [registerSched]

theorem tryChangeover_pending (x0 : Bundle) (x1 : Nat) (x2 : Nat) (x3 : State) (t) (e : tryChangeover x0 x1 x2 x3 = .ok t) : t.pending = x3.pending := by
  unfold tryChangeover at e
  dsimp only at e
  split at e
  · rename_i h
    injection e with e
    rw [← e, modBeams_pending, tryImages_pending _ _ _ _ _ _ h]
    simp
  · cases e

@[simp] theorem changeOver_pending (x0 : Req) (x1 : Bundle) (x2 : Bundle) (x3 : Nat) (x4 : State) : (changeOver x0 x1 x2 x3 x4).st.pending = x4.pending := by unfold changeOver; repeat' (first | split | simp)

@[simp] theorem restartWith_pending (x0 : Req) (x1 : Bundle) (x2 : Nat) (x3 : State) : (restartWith x0 x1 x2 x3).st.pending = x3.pending := by unfold restartWith; repeat' (first | split | simp)

@[simp] theorem bundleActivate_pending (x0 : Req) (x1 : Nat) (x2 : State) : (bundleActivate x0 x1 x2).st.pending = x2.pending := by unfold bundleActivate; repeat' (first | split | simp)

@[simp] theorem activateComing_pending (x0 : Bundle) (x1 : Nat) (x2 : Nat) (x3 : State) : (activateComing x0 x1 x2 x3).pending = x3.pending := by simp [activateComing]

@[simp] theorem keepChangeover_pending (x0 : State) : (keepChangeover x0).pending = x0.pending := by unfold keepChangeover; repeat' (first | split | simp)

@[simp] theorem serveRun_pending (x0 : Nat) (x1 : State) : (serveRun x0 x1).pending = x1.pending := by simp [serveRun]

@[simp] theorem serveNoData_pending (x0 : Nat) (x1 : State) : (serveNoData x0 x1).pending = x1.pending := by simp [serveNoData]

@[simp] theorem emptyRecord_pending (x0 : RegionRec) (x1 : State) : (emptyRecord x0 x1).pending = x1.pending := by unfold emptyRecord; repeat' (first | split | simp)

@[simp] theorem restoreRecord_pending (x0 : Nat) (x1 : Nat) (x2 : State) (x3 : RegionRec) : (restoreRecord x0 x1 x2 x3).pending = x2.pending := by unfold restoreRecord; repeat' (first | split | simp)

@[simp] theorem restoreRegion_pending (x0 : List RegionRec) (x1 : Nat) (x2 : State) : (restoreRegion x0 x1 x2).pending = x2.pending := by
  unfold restoreRegion
  repeat' (first | with_reducible rfl | assumption | (simp [*]; done) | (simp only [ite_pending, ite_out_pending]; split) | split | (refine foldl_pending _ ?_ _ _; intros) | (rw [foldl_pending _ (by intros; simp)]) | (simp [*]))

@[simp] theorem finishReturn_pending (x0 : Nat) (x1 : State) : (finishReturn x0 x1).pending = x1.pending := by
  unfold finishReturn
  extract_lets s
  have hs : s.pending = x1.pending := modShift_pending _ _
  rw [← hs]
  split
  · split
    · exact serveNoData_pending _ _
    · exact (modShift_pending _ _).trans (serveNoData_pending _ _)
  · split
    · split
      · exact (sendNotices_pending _ _ _ _).trans ((serveRun_pending _ _).trans (activateComing_pending _ _ _ _))
      · exact serveRun_pending _ _
    · exact serveNoData_pending _ _

@[simp] theorem testFrames_pending (x0 : Nat) (x1 : State) : (testFrames x0 x1).pending = x1.pending := by simp [testFrames]

@[simp] theorem restartLanes_pending (x0 : Nat) (x1 : State) : (restartLanes x0 x1).pending = x1.pending := by simp [restartLanes]

@[simp] theorem endStage_pending (x0 : Nat) (x1 : Nat) (x2 : Nat) (x3 : State) : (endStage x0 x1 x2 x3).pending = x3.pending := by simp [endStage]

@[simp] theorem skipTo_pending (x0 : DevState) (x1 : State) : (skipTo x0 x1).pending = x1.pending := by simp [skipTo]

@[simp] theorem startBoot_pending (x0 : State) : (startBoot x0).pending = x0.pending := by simp [startBoot]

@[simp] theorem startS5_pending (x0 : Nat) (x1 : State) : (startS5 x0 x1).pending = x1.pending := by simp [startS5]

@[simp] theorem afterS0_pending (x0 : Nat) (x1 : State) : (afterS0 x0 x1).pending = x1.pending := by simp [afterS0]

@[simp] theorem s0Failed_pending (x0 : Nat) (x1 : State) : (s0Failed x0 x1).pending = x1.pending := by simp [s0Failed]

@[simp] theorem readRecords_pending (x0 : Bool) (x1 : State) : (readRecords x0 x1).pending = x1.pending := by simp [readRecords]

@[simp] theorem s7Bundle_pending (x0 : Nat) (x1 : State) : (s7Bundle x0 x1).pending = x1.pending := by
  unfold s7Bundle
  split
  · rw [serveRun_pending, activateComing_pending]
  · dsimp only
    split
    · rw [serveNoData_pending]
    · rw [modShift_pending, holdBundle_pending]
  · rfl

@[simp] theorem ayrRegWrite_pending (x0 : Nat) (x1 : Nat) (x2 : Nat) (x3 : State) : (ayrRegWrite x0 x1 x2 x3).pending = x3.pending := by unfold ayrRegWrite; repeat' (first | split | simp)

@[simp] theorem laneWrite_pending (x0 : Nat) (x1 : Nat) (x2 : Nat) (x3 : State) : (laneWrite x0 x1 x2 x3).pending = x3.pending := by unfold laneWrite; split <;> simp

@[simp] theorem hopWrite_pending (x0 : Nat) (x1 : Nat) (x2 : State) : (hopWrite x0 x1 x2).pending = x2.pending := by unfold hopWrite; split <;> simp

@[simp] theorem abaWrite_pending (x0 : Nat) (x1 : Nat) (x2 : State) : (abaWrite x0 x1 x2).pending = x2.pending := by unfold abaWrite; repeat' (first | split | simp)

@[simp] theorem talWrite_pending (x0 : Nat) (x1 : Nat) (x2 : State) : (talWrite x0 x1 x2).pending = x2.pending := by unfold talWrite; split <;> simp

@[simp] theorem beamWrite_pending (x0 : Nat) (x1 : Nat) (x2 : State) : (beamWrite x0 x1 x2).pending = x2.pending := by unfold beamWrite; split <;> simp

@[simp] theorem assayWrite_pending (x0 : Nat) (x1 : Nat) (x2 : State) : (assayWrite x0 x1 x2).pending = x2.pending := by unfold assayWrite; split <;> simp

@[simp] theorem trigWrite_pending (x0 : Nat) (x1 : Nat) (x2 : State) : (trigWrite x0 x1 x2).pending = x2.pending := by unfold trigWrite; split <;> simp

@[simp] theorem hstWrite_pending (x0 : Nat) (x1 : Nat) (x2 : State) : (hstWrite x0 x1 x2).pending = x2.pending := by unfold hstWrite; split <;> simp

@[simp] theorem pitRegWrite_pending (x0 : Nat) (x1 : Nat) (x2 : State) : (pitRegWrite x0 x1 x2).pending = x2.pending := by unfold pitRegWrite; repeat' (first | split | simp)

@[simp] theorem windowWrite_pending (x0 : Nat) (x1 : Nat) (x2 : Nat) (x3 : State) : (windowWrite x0 x1 x2 x3).pending = x3.pending := by simp [windowWrite]

@[simp] theorem dpWrite_pending (x0 : Nat) (x1 : Nat) (x2 : State) : (dpWrite x0 x1 x2).pending = x2.pending := by simp [dpWrite]

@[simp] theorem pwrCause_pending (x0 : List Nat) (x1 : State) : (pwrCause x0 x1).pending = x1.pending := by simp [pwrCause]

@[simp] theorem enterSleep_pending (x0 : State) : (enterSleep x0).pending = x0.pending := by simp [enterSleep]

@[simp] theorem sleepReq_pending (x0 : Nat) (x1 : Nat) (x2 : State) : (sleepReq x0 x1 x2).pending = x2.pending := by simp [sleepReq]

@[simp] theorem wakeCtl_pending (x0 : State) : (wakeCtl x0).pending = x0.pending := by simp [wakeCtl]

@[simp] theorem timerWrite_pending (x0 : Nat) (x1 : State) : (timerWrite x0 x1).pending = x1.pending := by simp [timerWrite]

@[simp] theorem seeEdges_pending (x0 : Nat) (x1 : State) : (seeEdges x0 x1).pending = x1.pending := by simp [seeEdges]

@[simp] theorem movePins_pending (x0 : Pwr → Pwr) (x1 : State) : (movePins x0 x1).pending = x1.pending := by simp [movePins]

@[simp] theorem pwrWrite_pending (x0 : Nat) (x1 : Nat) (x2 : Nat) (x3 : State) : (pwrWrite x0 x1 x2 x3).pending = x3.pending := by unfold pwrWrite; split <;> simp

@[simp] theorem cageWrite_pending (x0 : Nat) (x1 : Nat) (x2 : Nat) (x3 : State) : (cageWrite x0 x1 x2 x3).pending = x3.pending := by unfold cageWrite; split <;> simp

@[simp] theorem tuWrite_pending (x0 : Nat) (x1 : Nat) (x2 : State) : (tuWrite x0 x1 x2).pending = x2.pending := by unfold tuWrite; split <;> simp

@[simp] theorem latchWide_pending (x0 : Nat) (x1 : State) : (latchWide x0 x1).pending = x1.pending := by simp [latchWide]

@[simp] theorem wakeFor_pending (x0 : Nat) (x1 : Nat) (x2 : State) : (wakeFor x0 x1 x2).pending = x2.pending := by simp [wakeFor]

@[simp] theorem busRead_pending (x0 : Nat) (x1 : Nat) (x2 : State) : (busRead x0 x1 x2).2.pending = x2.pending := by unfold busRead; repeat' (first | split | simp)

@[simp] theorem busWrite_pending (x0 : Nat) (x1 : Nat) (x2 : Nat) (x3 : Nat) (x4 : State) : (busWrite x0 x1 x2 x3 x4).pending = x4.pending := by simp [busWrite]

@[simp] theorem busAccess_pending (x0 : Nat) (x1 : Nat) (x2 : Nat) (x3 : Nat) (x4 : State) : (busAccess x0 x1 x2 x3 x4).pending = x4.pending := by simp [busAccess]

@[simp] theorem suhelPit_pending (x0 : Nat) (x1 : Nat) (x2 : Nat) (x3 : State) : (suhelPit x0 x1 x2 x3).pending = x3.pending := by simp [suhelPit]

@[simp] theorem suhelWrite_pending (x0 : Nat) (x1 : Nat) (x2 : Nat) (x3 : Nat) (x4 : State) : (suhelWrite x0 x1 x2 x3 x4).pending = x4.pending := by unfold suhelWrite; repeat' (first | split | simp)

@[simp] theorem regWrite_pending (x0 : Nat) (x1 : RegAddr) (x2 : Nat) (x3 : Nat) (x4 : State) : (regWrite x0 x1 x2 x3 x4).pending = x4.pending := by unfold regWrite; split <;> simp

@[simp] theorem wndError_pending (x0 : Nat) (x1 : Nat) (x2 : State) : (wndError x0 x1 x2).pending = x2.pending := by simp [wndError]

@[simp] theorem wndErrorAt_pending (x0 : Nat) (x1 : Nat) (x2 : Nat) (x3 : State) : (wndErrorAt x0 x1 x2 x3).pending = x3.pending := by simp [wndErrorAt]

@[simp] theorem wndIllegal_pending (x0 : Nat) (x1 : State) : (wndIllegal x0 x1).pending = x1.pending := by simp [wndIllegal]

@[simp] theorem atInstr_pending (x0 : Nat) (x1 : WndChan → WndInstr → State → State) (x2 : State) (h1 : ∀ c w s, (x1 c w s).pending = s.pending) : (atInstr x0 x1 x2).pending = x2.pending := by
  unfold atInstr
  repeat' (first | with_reducible rfl | assumption | (simp [*]; done) | (simp only [ite_pending, ite_out_pending]; split) | split | (refine foldl_pending _ ?_ _ _; intros) | (rw [foldl_pending _ (by intros; simp)]) | (simp [*]))

@[simp] theorem wndNext_pending (x0 : Nat) (x1 : State) : (wndNext x0 x1).pending = x1.pending := by simp [wndNext]

@[simp] theorem outOfSpace_pending (x0 : Nat) (x1 : Nat) (x2 : Int) (x3 : State) : (outOfSpace x0 x1 x2 x3).pending = x3.pending := by simp [outOfSpace]

@[simp] theorem startMove_pending (x0 : Nat) (x1 : WndChan) (x2 : WndMove) (x3 : State) : (startMove x0 x1 x2 x3).pending = x3.pending := by simp [startMove]

@[simp] theorem readRegs_pending (x0 : Nat) (x1 : Nat) (x2 : Nat) (x3 : State) : (readRegs x0 x1 x2 x3).2.pending = x3.pending := by
  induction x2 generalizing x0 x3 with
  | zero => rfl
  | succ n ih => unfold readRegs; dsimp only; rw [ih, busRead_pending]

@[simp] theorem writeRegs_pending (x0 : Nat) (x1 : Nat) (x2 : Nat) (x3 : List Byte) (x4 : Nat) (x5 : State) : (writeRegs x0 x1 x2 x3 x4 x5).pending = x5.pending := by
  induction x4 generalizing x0 x3 x5 with
  | zero => rfl
  | succ n ih => unfold writeRegs; rw [ih, busWrite_pending]

@[simp] theorem readBurst_pending (x0 : Nat) (x1 : WndMove) (x2 : List Byte) (x3 : Bool) (x4 : State) : (readBurst x0 x1 x2 x3 x4).pending = x4.pending := by unfold readBurst; repeat' (first | split | simp)

@[simp] theorem moveDone_pending (x0 : Nat) (x1 : WndMove) (x2 : State) : (moveDone x0 x1 x2).pending = x2.pending := by unfold moveDone; split <;> simp

@[simp] theorem writeBurst_pending (x0 : Nat) (x1 : WndMove) (x2 : Nat) (x3 : State) : (writeBurst x0 x1 x2 x3).pending = x3.pending := by unfold writeBurst; repeat' (first | split | simp)

@[simp] theorem burst_pending (x0 : List Byte) (x1 : Bool) (x2 : Nat) (x3 : State) : (burst x0 x1 x2 x3).pending = x3.pending := by unfold burst; repeat' (first | split | simp)

@[simp] theorem runLoop_pending (x0 : Nat) (x1 : WndChan) (x2 : Nat) (x3 : Nat) (x4 : Int) (x5 : Int) (x6 : State) : (runLoop x0 x1 x2 x3 x4 x5 x6).pending = x6.pending := by simp [runLoop]

@[simp] theorem poll_pending (x0 : Nat) (x1 : State) : (poll x0 x1).pending = x1.pending := by unfold poll; split <;> simp

@[simp] theorem endWait_pending (x0 : Nat) (x1 : Nat) (x2 : State) : (endWait x0 x1 x2).pending = x2.pending := by unfold endWait; split <;> simp

@[simp] theorem runSignal_pending (x0 : Nat) (x1 : Bool) (x2 : Bool) (x3 : Bool) (x4 : Nat) (x5 : Nat) (x6 : Nat) (x7 : State) : (runSignal x0 x1 x2 x3 x4 x5 x6 x7).pending = x7.pending := by simp [runSignal]

@[simp] theorem devInfo_pending (x0 : Req) (x1 : Nat) (x2 : State) : (devInfo x0 x1 x2).st.pending = x2.pending := by simp [devInfo]

@[simp] theorem devStatus_pending (x0 : Req) (x1 : Nat) (x2 : State) : (devStatus x0 x1 x2).st.pending = x2.pending := by simp [devStatus]

@[simp] theorem echo_pending (x0 : Req) (x1 : Nat) (x2 : State) : (echo x0 x1 x2).st.pending = x2.pending := by simp [echo]

@[simp] theorem configDigest_pending (x0 : Req) (x1 : Nat) (x2 : State) : (configDigest x0 x1 x2).st.pending = x2.pending := by simp [configDigest]

@[simp] theorem arrayLayout_pending (x0 : Req) (x1 : Nat) (x2 : State) : (arrayLayout x0 x1 x2).st.pending = x2.pending := by unfold arrayLayout; split <;> simp

@[simp] theorem frameBudget_pending (x0 : Req) (x1 : Nat) (x2 : State) : (frameBudget x0 x1 x2).st.pending = x2.pending := by unfold frameBudget; repeat' (first | split | simp)

@[simp] theorem devReset_pending (x0 : Req) (x1 : Nat) (x2 : State) : (devReset x0 x1 x2).st.pending = x2.pending := by simp [devReset]

@[simp] theorem resetNow_pending (x0 : State) : (resetNow x0).pending = x0.pending := by simp [resetNow]

@[simp] theorem dropJob_pending (x0 : Nat) (x1 : Nat) (x2 : State) : (dropJob x0 x1 x2).pending = x2.pending := by simp [dropJob]

@[simp] theorem stayInRun_pending (x0 : State) : (stayInRun x0).pending = x0.pending := by simp [stayInRun]

@[simp] theorem dropUrgent_pending (x0 : Nat) (x1 : UrgReq → Bool) (x2 : State) : (dropUrgent x0 x1 x2).pending = x2.pending := by unfold dropUrgent; repeat' (first | split | simp)

@[simp] theorem undo_pending (x0 : OpenCmd) (x1 : State) : (undo x0 x1).pending = x1.pending := by unfold undo; repeat' (first | split | simp)

@[simp] theorem endAborted_pending (x0 : Req) (x1 : Nat) (x2 : Nat) (x3 : State) : (endAborted x0 x1 x2 x3).pending = x3.pending := by simp [endAborted]

@[simp] theorem abort_pending (x0 : Req) (x1 : Nat) (x2 : State) : (abort x0 x1 x2).st.pending = x2.pending := by unfold abort; repeat' (first | split | simp)

theorem meaningA_pending (op : Nat) (f) (e : meaningA op = some f) : ∀ r t s, (f r t s).st.pending = s.pending := by
  unfold meaningA at e
  split at e <;> first | (cases e; intros; simp; done) | (cases e; done)

theorem meaningB_pending (op : Nat) (f) (e : meaningB op = some f) : ∀ r t s, (f r t s).st.pending = s.pending := by
  unfold meaningB at e
  split at e <;> first | (cases e; intros; simp; done) | (cases e; done)

@[simp] theorem meaningOf_pending (x0 : Nat) (x1 : Req) (x2 : Nat) (x3 : State) : (meaningOf x0 x1 x2 x3).st.pending = x3.pending := by
  unfold meaningOf
  cases ha : meaningA x0 with
  | some f => exact meaningA_pending _ _ ha _ _ _
  | none =>
    cases hb : meaningB x0 with
    | some f => exact meaningB_pending _ _ hb _ _ _
    | none => rfl

@[simp] theorem takeRequest_pending (x0 : Nat) (x1 : State) : (takeRequest x0 x1).pending = x1.pending := by unfold takeRequest; split <;> simp

@[simp] theorem redo_pending (x0 : Nat) (x1 : State) (x2 : OpenCmd) : (redo x0 x1 x2).pending = x1.pending := by unfold redo; repeat' (first | split | simp)

@[simp] theorem takeOver_pending (x0 : Nat) (x1 : Nat) (x2 : List LogFault) (x3 : State) : (takeOver x0 x1 x2 x3).pending = x3.pending := by
  unfold takeOver
  repeat' (first | with_reducible rfl | assumption | (simp [*]; done) | (simp only [ite_pending, ite_out_pending]; split) | split | (refine foldl_pending _ ?_ _ _; intros) | (rw [foldl_pending _ (by intros; simp)]) | (simp [*]))

@[simp] theorem loseSupply_pending (x0 : Nat) (x1 : State) : (loseSupply x0 x1).pending = x1.pending := by simp [loseSupply]

@[simp] theorem gainSupply_pending (x0 : Nat) (x1 : State) : (gainSupply x0 x1).pending = x1.pending := by simp [gainSupply]

@[simp] theorem powerOff_pending (x0 : State) : (powerOff x0).pending = x0.pending := by
  unfold powerOff
  repeat' (first | with_reducible rfl | assumption | (simp [*]; done) | (simp only [ite_pending, ite_out_pending]; split) | split | (refine foldl_pending _ ?_ _ _; intros) | (rw [foldl_pending _ (by intros; simp)]) | (simp [*]))

@[simp] theorem powerOn_pending (x0 : State) : (powerOn x0).pending = x0.pending := by simp [powerOn]

@[simp] theorem loseLanes_pending (x0 : Nat) (x1 : State) : (loseLanes x0 x1).pending = x1.pending := by
  unfold loseLanes
  repeat' (first | with_reducible rfl | assumption | (simp [*]; done) | (simp only [ite_pending, ite_out_pending]; split) | split | (refine foldl_pending _ ?_ _ _; intros) | (rw [foldl_pending _ (by intros; simp)]) | (simp [*]))

@[simp] theorem losePins_pending (x0 : State) : (losePins x0).pending = x0.pending := by
  unfold losePins
  repeat' (first | with_reducible rfl | assumption | (simp [*]; done) | (simp only [ite_pending, ite_out_pending]; split) | split | (refine foldl_pending _ ?_ _ _; intros) | (rw [foldl_pending _ (by intros; simp)]) | (simp [*]))

@[simp] theorem warmth_pending (x0 : Int) (x1 : State) : (warmth x0 x1).pending = x1.pending := by simp [warmth]

@[simp] theorem thermalTrip_pending (x0 : State) : (thermalTrip x0).pending = x0.pending := by unfold thermalTrip; repeat' (first | split | simp)

@[simp] theorem shutOff_pending (x0 : Int) (x1 : State) : (shutOff x0 x1).pending = x1.pending := by simp [shutOff]

end Sys2Proof.Machine
end

