-- ==== Sys2Proof/Laws/Ops.lean ====
section
/-! SUPPORT. What the shared operations do: one unit of a list of units, commands that are open, and a request that is
taken. -/

namespace Sys2Proof.Machine

/-! One unit of a list. -/

theorem modify_congr_getD {α : Type} (l : List α) (n : Nat) (f g : α → α) (d : α) (h : f (l.getD n d) = g (l.getD n d)) :
    l.modify n f = l.modify n g := by
  apply List.ext_getElem?
  intro i
  simp only [List.getElem?_modify]
  by_cases hi : n = i
  · subst hi
    cases hl : l[n]? with
    | none => rfl
    | some x => simp only [List.getD_eq_getElem?_getD, hl, Option.getD_some] at h; simp [h]
  · simp [hi]

theorem getD_upd {α : Type} (l : List α) (n k : Nat) (f : α → α) (d : α) :
    (upd l n f).getD k d = if k = n ∧ n < l.length then f (l.getD n d) else l.getD k d := by
  unfold upd
  simp only [List.getD_eq_getElem?_getD, List.getElem?_modify]
  by_cases h : n = k
  · subst h
    by_cases h2 : n < l.length
    · simp [h2]
    · simp [h2]
  · simp [h, Ne.symm h]

@[simp] theorem length_upd {α : Type} (l : List α) (n : Nat) (f : α → α) : (upd l n f).length = l.length := by
  unfold upd; simp

/-- What distinguishes the unit from the default one says that it is there. -/
theorem lt_length_of_getD {α : Type} (l : List α) (n : Nat) (d : α) (p : α → Prop) (hp : p (l.getD n d)) (hd : ¬ p d) :
    n < l.length := by
  apply Decidable.byContradiction
  intro h
  rw [List.getD_eq_getElem?_getD, List.getElem?_eq_none (by omega)] at hp
  exact hd hp

theorem laneAt_modLane (n k : Nat) (f : Lane → Lane) (s : State) :
    laneAt (modLane n f s) k = if k = n ∧ n < s.lanes.lane.length then f (laneAt s n) else laneAt s k :=
  getD_upd _ _ _ _ _

theorem modLane_congr (n : Nat) (f g : Lane → Lane) (s : State) (h : f (laneAt s n) = g (laneAt s n)) :
    modLane n f s = modLane n g s := by
  unfold modLane upd; rw [modify_congr_getD _ _ _ _ _ h]

theorem ayrAt_modAyr (n k : Nat) (f : AyrCore → AyrCore) (s : State) :
    ayrAt (modAyr n f s) k = if k = n ∧ n < s.ayr.length then f (ayrAt s n) else ayrAt s k :=
  getD_upd _ _ _ _ _

theorem modAyr_congr (n : Nat) (f g : AyrCore → AyrCore) (s : State) (h : f (ayrAt s n) = g (ayrAt s n)) :
    modAyr n f s = modAyr n g s := by
  unfold modAyr upd; rw [modify_congr_getD _ _ _ _ _ h]

theorem cageAt_modCage (n k : Nat) (f : Cage → Cage) (s : State) :
    cageAt (modCage n f s) k = if k = n ∧ n < s.cages.cage.length then f (cageAt s n) else cageAt s k :=
  getD_upd _ _ _ _ _

/-! Open commands. -/

theorem finishOpen_none (p : OpenCmd → Bool) (mk : OpenCmd → Reply) (t : Nat) (s : State)
    (h : ∀ o ∈ s.cages.openCmds, p o = false) : finishOpen p mk t s = s := by
  have h1 : s.cages.openCmds.filter p = [] := by
    rw [List.filter_eq_nil_iff]; intro o ho; simp [h o ho]
  have h2 : s.cages.openCmds.filter (fun o => !p o) = s.cages.openCmds := by
    rw [List.filter_eq_self]; intro o ho; simp [h o ho]
  unfold finishOpen modCages
  simp only [h1, h2, List.foldl_nil]

/-- A command's end touches the cages and, for a result block in the host area, shared SRAM. -/
theorem conclude_frame (r : Req) (n t : Nat) (a : Reply) (s : State) :
    ∃ c m, conclude r n t a s = { s with cages := c, sys := { s.sys with sram := m } } ∧ c.openCmds = s.cages.openCmds := by
  unfold conclude issue cacheDone modPlace modCages
  dsimp only
  split
  · split
    · exact ⟨_, s.sys.sram, rfl, rfl⟩
    · exact ⟨_, _, rfl, rfl⟩
  · exact ⟨_, s.sys.sram, rfl, rfl⟩

theorem finish_fold (l : List OpenCmd) (mk : OpenCmd → Reply) (t : Nat) (s : State) :
    ∃ c m, l.foldl (fun s o =>
      match o.phase with
      | .committed => conclude o.req o.order o.commitTime (mk o) s
      | _ => let s := nextCommit s; conclude o.req s.cages.commits t (mk o) s) s =
        { s with cages := c, sys := { s.sys with sram := m } } ∧ c.openCmds = s.cages.openCmds := by
  induction l generalizing s with
  | nil => exact ⟨s.cages, s.sys.sram, rfl, rfl⟩
  | cons o l ih =>
    rw [List.foldl_cons]
    split
    · obtain ⟨c, m, e, h⟩ := conclude_frame o.req o.order o.commitTime (mk o) s
      rw [e]
      obtain ⟨c', m', e', h'⟩ := ih { s with cages := c, sys := { s.sys with sram := m } }
      exact ⟨c', m', e', h'.trans h⟩
    · dsimp only
      obtain ⟨c, m, e, h⟩ := conclude_frame o.req (nextCommit s).cages.commits t (mk o) (nextCommit s)
      rw [e]
      obtain ⟨c', m', e', h'⟩ := ih { nextCommit s with cages := c, sys := { (nextCommit s).sys with sram := m } }
      exact ⟨c', m', e', h'.trans h⟩

/-- Open commands that end leave the journal; only the cages and shared SRAM change. -/
theorem finishOpen_frame (p : OpenCmd → Bool) (mk : OpenCmd → Reply) (t : Nat) (s : State) :
    ∃ c m, finishOpen p mk t s = { s with cages := c, sys := { s.sys with sram := m } } ∧
      c.openCmds = s.cages.openCmds.filter (fun o => !p o) := by
  unfold finishOpen
  exact finish_fold _ mk t _

/-! A request that is taken. -/

theorem settle_ended (op : Nat) (r : Req) (d t : Nat) (u : State) (a : Reply) (k : Nat) :
    settle { r with opcode := op } d t { st := u, reply := a, key := k } = ended op r t a u := rfl

theorem takes_runCommand {op : Nat} {r : Req} {t : Nat} {s u : State} (f : Req → Nat → State → Out)
    (h : Takes op r t s u) :
    runCommand op f r t s =
      settle { r with opcode := op } (reqDigest { r with opcode := op }) t (f { r with opcode := op } t u) := by
  obtain ⟨h0, h1, h2, h3, h4, spec, v, h5, h6, h7, h8, h9⟩ := h
  have e : runCommand op f r t s = runNow op f r t s := by
    unfold runCommand; simp [h1, h2, h3]
  rw [e]
  unfold runNow
  dsimp only
  rw [h0, if_neg (by simp [h4])]
  dsimp only
  rw [h6]
  dsimp only
  rw [h7, h5]
  dsimp only [Option.getD_some, Option.isNone_some]
  rw [← h8, if_neg (by decide), h9]

/-- A command whose meaning answers and does not stay open ends with that reply. -/
theorem takes_ended {op : Nat} {r : Req} {t : Nat} {s u v : State} {a : Reply} {k : Nat} (f : Req → Nat → State → Out)
    (h : Takes op r t s u) (e : f { r with opcode := op } t u = { st := v, reply := a, stay := none, key := k }) :
    (.next (runCommand op f r t s) : Host.Outcome State Fault Refusal) = .next (ended op r t a v) := by
  rw [takes_runCommand f h, e]; rfl

/-- A command whose meaning stays open is kept in the journal. -/
theorem takes_stays {op : Nat} {r : Req} {t : Nat} {s u v : State} {a : Reply} {k : Nat} {ph : CmdPhase}
    (f : Req → Nat → State → Out) (h : Takes op r t s u)
    (e : f { r with opcode := op } t u = { st := v, reply := a, stay := some ph, key := k }) :
    (.next (runCommand op f r t s) : Host.Outcome State Fault Refusal) =
      .next (staysOpen op r t ph k a.result v) := by
  rw [takes_runCommand f h, e]; rfl

/-- The request's fields are those of the entry, whatever opcode the row gives it. -/
theorem body_opcode (r : Req) (op k : Nat) :
    b8 { r with opcode := op } k = b8 r k ∧ b16 { r with opcode := op } k = b16 r k ∧
    b24 { r with opcode := op } k = b24 r k ∧ b32 { r with opcode := op } k = b32 r k ∧
    b48 { r with opcode := op } k = b48 r k ∧ b64 { r with opcode := op } k = b64 r k := ⟨rfl, rfl, rfl, rfl, rfl, rfl⟩

end Sys2Proof.Machine
end

