-- ==== Sys2Proof/Tests/Slice0.lean ====
section
/-! SUPPORT. Tests: well-formedness, values of the manual's worked examples, and, for every obligation with hypotheses, concrete
states and operands that meet them together, clause by clause (`witness_<Name>` for `Obligations.<Name>`). -/

namespace Sys2Proof.Tests

section

open Sys2Proof Sys2Proof.Machine

set_option maxRecDepth 10000
set_option Elab.async false

/-! An ill-formed command for each check of WellFormed, at the first value out of range: refused. -/

def bigReq : List Req :=
  [{ cage := 8 }, { opcode := 2 ^ 16 }, { tag := 2 ^ 16 }, { client := 2 ^ 16 }, { dest := 2 ^ 12 }, { argAddr := 2 ^ 64 },
   { resMax := 2 ^ 32 }, { body := List.replicate 39 0 }]

theorem wf_requests : (bigReq.all fun r => !(Instr.laneAssign r 0).wf) = true ∧ (Instr.laneAssign {} 0).wf = true ∧
    (Instr.laneAssign {} (2 ^ 64)).wf = false := by decide +kernel

theorem wf_registers : (([.registerWrite 5 (.bar0 0) 0 0, .registerWrite 0 (.bar0 2) 0 0, .registerWrite 0 (.bar0 (2 ^ 26)) 0 0,
    .registerWrite 0 (.suhel 2) 0 0, .registerWrite 1 (.suhel (2 ^ 32)) 0 0, .registerWrite 0 (.bar0 0) (2 ^ 32) 0,
    .registerWrite 0 (.bar0 0) 0 (2 ^ 64),
    .illegalRegisterAccess 5 0 0, .illegalRegisterAccess 0 0 4, .wideQuantityLowRead 5 0, .wideQuantityLowRead 0 1,
    .wideQuantityHighWrite 5 0 0 0, .wideQuantityHighWrite 0 3 0 0, .wideQuantityHighWrite 0 0 (2 ^ 32) 0,
    .wideQuantityHighWrite 0 0 0 (2 ^ 64)] : List Instr).all fun i => !i.wf) = true := by decide +kernel

theorem wf_lanes_and_packets : (([.txLaneTurnOff 64, .txTrainDone 64, .rxTrain 64 0 0, .rxTrain 0 256 0, .wordAlignment 64 [],
    .codeError 64 0 0 [] false false, .codeError 0 0 4 [] false false, .rxPacket 64 .eop [] [] 0, .rxPacket 0 .eop [] [] (2 ^ 64),
    .losAssert 64 false, .laneCounterClear 64, .lanePacketStart 64 [] 0, .packetSent 64, .dataPacket 64, .promptPacket 64,
    .controlMessage 64 0, .controlMessage 0 (2 ^ 64), .controlAck 64, .pureAckSend 4096, .controlSend 4096,
    .controlRetransmit 4096 0, .controlRetransmit 0 (2 ^ 64), .beaconReceived 64 0, .equaliserAdapt 64 0 []] : List Instr).all
    fun i => !i.wf) = true := by decide +kernel

theorem wf_datapath : (([.chunkBoundary 0 [] [] (2 ^ 64), .runHandover 36, .shadowEmptied 36 0, .beadStoreError 36 0 false,
    .beadStoreError 0 2 false, .preemptionEnd 36 0,
    .drainDone [] [] (2 ^ 64), .linePromotion 4 false [], .closeDone (2 ^ 64), .generationCommit (2 ^ 64), .weightBlockArrival 9 0 0,
    .tourStart (2 ^ 64), .seriesSlot 1024, .assayProbeSelWrite (2 ^ 32), .packetBuild 15, .copyDrop 2 [], .crusherFrameDone 15,
    .expanderJobEnd true (2 ^ 64), .captureReadoutDone (2 ^ 64), .trigInEdge 2 false 0 0, .pulseStart 4, .pulseEnd 4] :
    List Instr).all fun i => !i.wf) = true := by decide +kernel

theorem wf_assayers : (([.add 4 0 0 0, .mul 4 0 0 false false false 0 0 .none, .br 4 0, .pin 4 0 0 0, .pin 0 0 0 (2 ^ 64), .nop 4,
    .halt 4, .interruptEntry 4,
    .assayerWindowWrite 4 0 0, .assayerWindowWrite 0 (2 ^ 18) 0, .assayerStopCommit 4 0, .assayerStopCommit 0 (2 ^ 64),
    .forcedStop 4 0, .ayrCounterClear 4] : List Instr).all fun i => !i.wf) = true := by decide +kernel

theorem wf_pit_and_time : (([.pitRequest 8 0 0 none 0, .pitRequestServed 32 {} 0, .perBankRefresh 64 false,
    .retrainPause 32 true, .signalFailure 7 0, .signalRestore 7, .phaseMeasurement 7 0 0, .ppsEdge 7 none,
    .ptpTcForward 2 [] 0, .tuSecondEvaluation 0 (2 ^ 64)] : List Instr).all fun i => !i.wf) = true := by decide +kernel

theorem wf_shift_and_bell : (([.shiftWdtKick 5, .shiftRelinquish 5 0 0, .shiftRelinquish 0 (2 ^ 32) 0,
    .takeoverComplete (2 ^ 64) [], .repairPassEnd 2 true, .resetReq 0 (2 ^ 32), .resetReq 5 0, .bootS4 true (2 ^ 36) 0 0,
    .bootS4 true 0 0 (2 ^ 64),
    .dpReturnComplete (2 ^ 36) [] 0, .dpReturnComplete 0 [.image 4] 0, .persistRecordWrite 15, .persistRecordWrite 256,
    .bellSwset 28 0, .bellSwset 32 0,
    .bellClaim 5 0, .bellClaim 0 34, .bellComplete 0 34 0, .bellComplete 0 0 (2 ^ 11), .bellPendClear 32 0,
    .bellModeWrite (2 ^ 32), .coreRemapWrite 2 0, .winderStart 16 0, .winderEventSet 0 (2 ^ 32), .move 16, .winderWaitEnd 16 0,
    .winderBurst [] true (2 ^ 64), .pwrSleepReq 5 0, .pwrTimerWrite (2 ^ 32), .gpioEdge 18 true, .thermalSample [0, 0, 0, 0] false] :
    List Instr).all fun i => !i.wf) = true := by decide +kernel

theorem wf_ways_in : (([.cageEnable 8 0, .cageDisable 8 0, .cageDoorbell 4 0 [] true, .cageDoorbell 0 (2 ^ 12) [] true,
    .cageDoorbell 0 0 [{ cage := 8 }] true, .cageCplHeadWrite 4 0, .cageCplHeadWrite 0 (2 ^ 12), .requestAccept (2 ^ 64),
    .moderationTimer 4, .udpRequest 2 [] 0, .udpRequest 0 [] (2 ^ 64), .partAssemblyTimeout 3 0 0,
    .partAssemblyTimeout 6 0 0, .smbusBlockWrite (List.replicate 256 0) none 0, .managementFrame 2 []] : List Instr).all
    fun i => !i.wf) = true := by decide +kernel

theorem wf_monitor_and_supplies : (([.urgentConversionStart 4 0, .conversionEnd 4 0 0, .conversionEnd 0 (2 ^ 24) 0,
    .conversionEnd 0 0 (2 ^ 64), .monFifoRead 4, .monSequenceCommit (2 ^ 64), .peerSilent 4096 0, .constRealign (2 ^ 64),
    .constPeerSelWrite (2 ^ 32), .vlaneLoss (2 ^ 64), .vioLoss 3, .vioReturn 3] : List Instr).all fun i => !i.wf) = true := by
  decide +kernel

/-! Small states and requests. -/

/-- A state in which the device runs: core A on shift, DP in Run, pit memory serving. -/
def up : State :=
  { State.reset with
    shift := { held := .none, onShift := 0, done := true, dev := .ready, core := [.onShift, .ready], stage := 7 }
    sys := { dp := .run }
    pit := { state := .run }
    cages := { endpointUp := true, linkUp := true, busMaster := true } }

/-- The device boots at stage `k` on core A. -/
def booting (k : Nat) : State :=
  { State.reset with
    shift := { held := .none, core := [.booting, .off], stage := k }, sys := { dp := .run } }

/-- 40 body bytes, and an argument in host memory. -/
def reqOf (l : List (Nat × List Byte)) (arg : List Byte) : Req :=
  { client := 1, tag := 1, body := fields l, arg := arg, host := !arg.isEmpty, reachable := true }

/-- A tag is new to a client's window: nothing is kept yet, or the tag is later than the newest. -/
def firstUse (p : ClientPlace) (tag : Nat) : Bool :=
  (p.entries.isEmpty && p.newestDone.isNone && decide (p.newest = 0)) ||
  (decide (1 ≤ tagDiff tag p.newest) && decide (tagDiff tag p.newest ≤ 32767))

/-- The state in which the request's meaning starts, when it is taken now as a new command. -/
def taken (op : Nat) (r : Req) (t : Nat) (s : State) : Option State :=
  let q : Req := { r with opcode := op }
  match cmdSpec op, takePlace r.client t (accepted q s) with
  | some spec, some v =>
    let u := enterTag r.client r.tag (reqDigest q) (!atAcceptance spec q) v
    if withArg s q = q ∧ hasRoom s r.cage ∧ cagesOpen s ∧ mustWait s.cages.fetched op s = false ∧ r.forward = false ∧
        firstUse ((placeOf v r.client).getD {}) r.tag ∧ entryCheck spec q u = none then some u else none
  | _, _ => none

/-- The same with a bundle in force: one channel, group 0, SOURCE 5, EPOCH 1, and source 7 permitted. -/
def upb : State :=
  { up with bun := { active := some { epoch := 1, source := 5, specPeriod := 2 ^ 40, permit := [[7, 7, 7, 7]] } } }

/-- Entry `n` of a list, made long enough, changed. -/
def putAt {α : Type} [Inhabited α] (l : List α) (n : Nat) (f : α → α) : List α :=
  upd (l ++ List.replicate (n + 1 - l.length) default) n f

/-- A CONTROL message packet to SOURCE 5, in session 1, or an acknowledgement alone. -/
def ctlPkt (seq : Nat) (sync : Bool) (ack : Option (Nat × Nat)) (msg : Bool) : List Byte :=
  let b := controlPacket 7 1 5 1 seq sync ack (if msg then some (List.replicate 72 0) else none)
  b.take (b.length - 4)

/-- A DATA or PROMPT header with an all-blank block of source 7: group, channel, index. -/
def dataPkt (typ epoch group channel index : Nat) : List Byte :=
  commonHeader typ 2 0 7 epoch ++ [BitVec.ofNat 8 group] ++ beBytes 2 channel ++ beBytes 8 index ++ beBytes 2 64 ++
  List.replicate 12 0

/-- The packet delivered on lane 0. -/
def deliver (b : List Byte) (s : State) : State := { s with lanes.delivered := [{ lane := 0, bytes := b }] }

/-- The state after a delivered packet of a type has been taken. -/
def tookOf (typ : Nat) (s : State) : State := ((takeDelivered 0 typ s).map (·.2)).getD s

/-- Assayer 0 runs, and its program starts with an instruction. -/
def ayrWith (op : AyrOp) : State :=
  modAyr 0 (fun c => { c with state := .running, imem := [(0, encodeAyr op)] }) up

/-- Winder channel 2 in a state, with an instruction word at its PC. -/
def wndWith (st : WndState) (w : Nat) : State :=
  let s := modWch 2 (fun c => { c with state := st }) up
  { s with sys.sram := memWrite [] 0 (leBytes 16 w) }

/-- MOVE of 16 bytes in accesses of 4 from the shared SRAM to pit memory. -/
def wordMove : Nat := 1 + 2 * 2 ^ 8 + 2 * 2 ^ 11 + 16 * 2 ^ 16 + (2 ^ 40 + 256) * 2 ^ 40 + 4096 * 2 ^ 84
def wordLoop : Nat := 2 + 8 * 2 ^ 32
def wordEvent (k : Nat) : Nat := 3 + k * 2 ^ 32
def wordDelay (d : Nat) : Nat := 3 + 2 ^ 8 + d * 2 ^ 32
def wordPoll (o : Nat) : Nat := 3 + 2 * 2 ^ 8 + o * 2 ^ 32 + 2 ^ 64 + 2 ^ 96

/-- Source 7 known as a party of the seam in session 1, whose next message is number 3. -/
def known (s : State) : State := { s with seam.parties := [{ id := 7, session := some 1, expected := 3 }] }

/-- Source 7 as a party with changes. -/
def party (p : Party) (s : State) : State := { s with seam.parties := [{ p with id := 7 }] }

/-- The Hopper runs from chunk 0, and opens position `n` next. -/
def serving (n : Nat) (s : State) : State := { s with hop := { running := true, nextOpen := n } }

/-- Lane `n` up towards the next hop in a role. -/
def sending (n role : Nat) (s : State) : State := modLane n (fun l => { l with txRole := role, txUp := true }) s

/-- The prompt parameters of a PROMPT_CONFIG request. -/
def ppOf (r : Req) : PromptParams := {
  channels := (upTo (b8 r 24)).map (fun i => u16 r.arg (2 * i)), delays := (upTo (b8 r 24)).map (fun i => u8 r.arg (32 + i)),
  beams := b8 r 25, shift := b8 r 26, width4 := decide (b8 r 27 = 4), pbeam := decide (b8 r 28 = 1), powerMask := b16 r 30,
  wait := b16 r 40 }

def bun16 : Bundle := { epoch := 1, source := 5, channels := 16, specPeriod := 2 ^ 48, permit := [[7, 7, 7, 7]] }

/-- A lane UP that sends on path A, nine frames in service, and a bundle of 16 channels in force. -/
def upl : State :=
  { modLane 0 (fun l => { l with rxEnabled := true, rxState := .up, txRole := 1 }) up with
    bun.active := some bun16
    aba.phys := (upTo 36).map (fun i => { inService := decide (i < 9), logical := i }) }

/-- A constellation of sources 5, 7 and 9, which this device, 5, has joined with 7. -/
def joined : State :=
  { upb with bun.active := some { epoch := 1, source := 5, permit := [[7, 7, 7, 7]], const := some { members := [5, 7, 9] } }
             con.joined := true, con.peers := [{ source := 7 }] }

/-- A beacon of source 7 to SOURCE `dest`. -/
def beaconPkt (dest : Nat) : List Byte :=
  let b := beaconPacket 7 1 dest []
  b.take (b.length - 4)

/-- A PROMPT packet of block 0, channel 0, group 0, with samples. -/
def promptPkt : List Byte :=
  commonHeader 2 0 4096 7 1 ++ [0] ++ beBytes 2 0 ++ beBytes 8 0 ++ beBytes 2 64 ++ List.replicate 12 0 ++ List.replicate 4096 0

/-- The state with the port rates of a PIT_CONFIG request. -/
def withRates (r : Req) (u : State) : State :=
  { u with
    pit.ports := upd (upd (upd u.pit.ports 4
      (fun q => { q with rate := b16 r 24, burst := b16 r 32, tokens := min q.tokens (10240 * b16 r 32) }))
      5 (fun q => { q with rate := b16 r 26, burst := b16 r 34, tokens := min q.tokens (10240 * b16 r 34) }))
      6 (fun q => { q with rate := b16 r 28, burst := b16 r 36, tokens := min q.tokens (10240 * b16 r 36) })
    pit.migRate := b16 r 30 }

/-- A bundle in force that gives the device an IPv4 address. -/
def upIp : State := { up with bun.active := some { ipv4 := 0x0A000001 } }

/-- A frame with a UDP datagram to that address: a port, and 64 bytes of zeros. -/
def udpFrame (dport : Nat) : List Byte :=
  List.replicate 12 0 ++ beBytes 2 0x0800 ++ [0x45] ++ List.replicate 8 0 ++ [17, 0, 0] ++ beBytes 4 7 ++
  beBytes 4 0x0A000001 ++ beBytes 2 5 ++ beBytes 2 dport ++ beBytes 2 72 ++ beBytes 2 0 ++ List.replicate 64 0

/-- A PTP message of a type over Ethernet. -/
def ptpFrame (kind : Nat) : List Byte :=
  List.replicate 12 0 ++ beBytes 2 0x88F7 ++ [BitVec.ofNat 8 kind] ++ List.replicate 33 0

/-- A tag that `firstUse` accepts is new to the window (16 R387). -/
theorem classify_firstUse {p : ClientPlace} {tag d : Nat} (h : firstUse p tag = true) : classify p tag d = .new := by
  unfold classify
  by_cases e : (p.entries.isEmpty && p.newestDone.isNone && decide (p.newest = 0)) = true
  · simp only [e, if_true]
  · simp only [firstUse, Bool.or_eq_true, e, Bool.and_eq_true, decide_eq_true_eq] at h
    have h' := h.resolve_left (by decide)
    rw [if_neg e, if_pos h']

/-- Where `taken` answers, the request is taken with the state it answers. -/
theorem takes_of {op : Nat} {r : Req} {t : Nat} {s : State} (h : (taken op r t s).isSome = true) :
    Takes op r t s ((taken op r t s).getD s) := by
  unfold taken at h ⊢
  dsimp only at h ⊢
  split at h
  · rename_i spec v hs hv
    split at h
    · rename_i hc
      rw [if_pos hc]
      exact ⟨hc.1, hc.2.1, hc.2.2.1, hc.2.2.2.1, hc.2.2.2.2.1, spec, v, hs, hv, classify_firstUse hc.2.2.2.2.2.1, rfl,
        hc.2.2.2.2.2.2⟩
    · cases h
  · cases h

theorem no_room {s : State} {x : HPkt} (h : s.hst.queue = []) (hx : x.payload.length = 4194273) :
    queueRoom s (pktBytes x) = false := by
  simp [queueRoom, queueFill, pktBytes, queueCap, h, hx]

theorem some_getD {o : Option (List Byte)} (h : o.isSome = true) : o = some (o.getD []) := by
  cases o with
  | some l => rfl
  | none => cases h

/-- A frame whose destination is not address `m`. -/
theorem not_mine (m : Nat) : beAt (if m = 0 then [255] else []) 0 6 ≠ m := by
  by_cases h : m = 0
  · rw [if_pos h, h]; decide
  · rw [if_neg h]; exact fun e => h (e.symm.trans (by decide))

/-! Values that the manual's worked examples give. -/

/-- 12, worked example: a visibility's place in pit memory. -/
theorem test_pit_place : logicalRank 6428379920 = 38 ∧
    decodePit {} 6428379920 = { line := 1785659, col := 1744, bank := 9, row := 3487, phys := 38 } := by decide +kernel

/-- 09 Table 9.10, the polling program: each word decodes to its instruction. -/
theorem test_polling_program : ([0xC0400010, 0xC0800014, 0x84400100, 0xC0C00011, 0xC1400012, 0x1D080010, 0x091003FF, 0xC4000015,
      0x89000100, 0xC4C00028, 0xC5400029, 0xC480002A, 0x80000100, 0xC400002B, 0xE0000000] : List W32).map decodeAyr =
    ([.pin 1 0x10, .pin 2 0x14, .brc .eqz 1 0x100, .pin 3 0x11, .pin 5 0x12, .shift .shrl 4 2 16, .imm .and 4 4 0x3FF,
      .pout 0 0x15, .brc .nez 4 0x100, .pout 3 0x28, .pout 5 0x29, .pout 2 0x2A, .br 0x100, .pout 0 0x2B, .nop] :
      List AyrOp).map some := by decide +kernel

/-- The same table read the other way. -/
theorem test_polling_words : ([.shift .shrl 4 2 16, .imm .and 4 4 0x3FF, .pout 2 0x2A, .br 0x100] : List AyrOp).map encodeAyr =
    [0x1D080010, 0x091003FF, 0xC480002A, 0x80000100] := by decide +kernel

def loopBytes : List Byte := [2, 0, 0, 0, 16, 0, 0, 0, 0, 16, 16, 0, 0, 16, 16, 0]

/-- 15, worked example: LOOP of the capture readout. -/
theorem test_winder_loop_word : wndDecode 1 (leAt loopBytes 0 16) = .loop 0 16 1052672 1052672 := by decide +kernel

/-- 15, worked example: MOVE of one capture record. -/
theorem test_winder_move_word : wndDecode 0 (1 + 4 * 2 ^ 8 + 4 * 2 ^ 11 + 1052672 * 2 ^ 16 + 0xD00000000 * 2 ^ 40 +
      (3 * 2 ^ 40) * 2 ^ 84) =
    .move { srcW := 16, dstW := 16, len := 1052672, src := 0xD00000000, dst := 3 * 2 ^ 40 } := by decide +kernel

/-- Winder channel 3 at the LOOP of the capture readout, with `k` loops made. -/
def readout (k : Nat) : State :=
  let s := modWch 3 (fun c => { c with
    state := .running, prog := 0, pc := 1, loopAt := if k = 0 then none else some 1, loop := 15 - k
    srcAdj := 1052672 * k, dstAdj := 1052672 * k }) up
  { s with sys.sram := memWrite [] 16 loopBytes }

def afterOf (o : Host.Outcome State Fault Refusal) : Option (Nat × Nat × Int) :=
  match o with
  | .next s => some ((wchAt s 3).pc, (wchAt s 3).loop, (wchAt s 3).srcAdj)
  | _ => none

/-- 15 Table 15.14: after seven loops the counter reads 8 and SRC_ADJ 7,368,704. -/
theorem test_winder_seventh_loop :
    afterOf (exec (.winderLoop 3) (readout 6)) = some (0, 8, 7368704) := by decide +kernel

theorem test_winder_first_loop :
    afterOf (exec (.winderLoop 3) (readout 0)) = some (0, 14, 1052672) := by decide +kernel

/-- 05 Table 5.2: block-pairs of 32 groups, of 28, and of X4 with 16 of 32 groups in P. -/
theorem test_pair_counts : (pairList .w4f (upTo 32) 0).length = 528 ∧ (pairList .w4f (upTo 28) 0).length = 406 ∧
    (pairList .x4 (upTo 32) 0xFFFF).length = 256 := by decide +kernel

/-- 05 Table 5.2: its totals, K′ at 62.5 MHz and at 58.1 MHz, and which mixes fit. -/
theorem test_budget_table : committed 528 32 1 32 = 159744 ∧ committed 528 32 2 32 = 176128 ∧ committed 406 28 3 32 = 155136 ∧
    committed 256 32 5 32 = 155648 ∧ kPrime { specPeriod := 16 * 2 ^ 32 } = 163840 ∧
    kPrime { specPeriod := 2 ^ 32 * 1000 / 58 } = 176512 ∧ budgetFits 528 32 1 32 163840 = true ∧
    budgetFits 528 32 2 32 163840 = false ∧ budgetFits 528 32 2 32 176128 = true ∧ budgetFits 256 32 6 32 163840 = false := by
  decide +kernel

/-- 05, the worked-example schedule: S of 28 groups with one beam set on 32 frames. -/
theorem test_slice_length : sliceLen { ranks := upTo 28, sets := 1, frames := upTo 32 } = 118272 := by decide +kernel

/-- 05 R102 and its text: prompt costs, and where C = 42 and C = 43 stand with 16 prompt channels. -/
theorem test_prompt_costs : promptCost 16 32 32 = 2448 ∧ promptCost 8 28 32 = 1296 ∧ promptFits 43 16 32 32 = true ∧
    promptFits 42 16 32 32 = false := by decide +kernel

/-- What member B's beacon to A carries in 18's worked example, with the second boundary S at 10 s. -/
def beaconB : List Byte :=
  List.replicate 44 0 ++ leBytes 6 11 ++ leBytes 4 130 ++ leBytes 2 0 ++ leBytes 2 7 ++
  leBytes 6 ((10000000000 + 2370) * 65536 % 2 ^ 48)

/-- 18, worked example: θ = +1,400 ns and d = 850 ns. -/
theorem test_beacon_measure :
    (measureTime { sent := [(7, (10000000000 + 120) * 65536)] } beaconB 0 ((11000000000 - 420) * 65536)).map
      (fun m => (nsOf m.1, nsOf m.2.1, m.2.2)) = some (1400, 850, false) := by decide +kernel

/-- No word spells a command (log 1), and an empty queue idles (log 2). -/
theorem test_idle : decodeTableWord 32 0xC0400010 = none ∧ State.reset.withFetchWord 32 0 = State.reset ∧
    step State.reset = .next State.reset := ⟨rfl, rfl, rfl⟩

/-- The front command runs and leaves the queue; the next one stays. -/
theorem test_step_takes_front : (match step { up with pending := [.pwrTimerWrite 5, .pcieLinkDown] } with
    | .next s => decide (s.pending = [.pcieLinkDown]) && decide (s.pwr.timer = 5)
    | _ => false) = true := by decide +kernel

/-! Witnesses. -/

/-- One operation of each kind in AyrInstructions. -/
def ayrOps : List AyrOp :=
  ([.add, .sub, .and, .or, .xor, .shl, .shra, .shrl, .slt, .sltu, .min, .max] : List AluFn).map (fun f => .alu f 1 2 3) ++
  ([.add, .and, .or, .xor] : List ImmFn).map (fun f => .imm f 1 2 5) ++
  ([.shl, .shra, .shrl] : List ShiftFn).map (fun f => .shift f 1 2 31) ++
  ([.mul, .mac, .msu] : List MacFn).map (fun f => .mac f 1 2 true false true 3 4) ++
  ([.ld, .ldh, .st, .sth] : List MemFn).map (fun f => .mem f 1 2 true 4) ++
  ([.eqz, .nez, .ltz, .gez] : List BrFn).map (fun f => .brc f 1 9) ++
  [.abs 1 2, .movi 1 5, .movhi 1 5, .mova 1 31, .mfah 1, .mta 1 2, .clra, .movai 7 5, .adda 7 5, .movda 7 1, .movad 1 7, .br 9,
   .call 9, .jr 1, .loop 1 3, .loopi 5 3, .mtl (loopRegOf 3) 1, .mfl 1 (loopRegOf 3), .nop, .ei, .di, .wait, .reti]

theorem witness_AyrInstructions_all : (ayrOps.all fun op => ayrCan 0 op (ayrWith op)) = true := by decide +kernel

theorem witness_AssayCommands :
    (∃ (r : Req) (t : Nat) (s : State) (u : State),
     Takes 1537 r t s u ∧ b8 r 24 = 1 ∧ b8 r 25 = 0 ∧ b32 r 28 = 0 ∧ r.arg = [] ∧ b16 r 26 < 64 ∧
     (∀ (m : Nat), (seriesAt u (b16 r 26)).maxStamp = some m → m < b64 r 32)) ∧
    (∃ (r : Req) (t : Nat) (s : State) (u : State) (m : Nat),
     Takes 1537 r t s u ∧ b8 r 24 = 2 ∧ b8 r 25 = 0 ∧ b32 r 28 = 0 ∧ r.arg = [] ∧ b16 r 26 < 64 ∧
     (seriesAt u (b16 r 26)).maxStamp = some m ∧ b64 r 32 ≤ m) ∧
    (∃ (r : Req) (t : Nat) (s : State) (u : State),
     Takes 1537 r t s u ∧ b8 r 24 = 0 ∧ b8 r 25 < 2 ∧ b8 r 27 = 0 ∧ b16 r 28 = 0 ∧ b8 r 30 = 0 ∧ b8 r 31 = 0 ∧
     b64 r 32 = 0 ∧ r.arg.length = maskBytes u ∧ maskFits (chans u) (leAt r.arg 0 (maskBytes u)) = true) ∧
    (∃ (s : State),
     dpRun s = true ∧ s.assay.running = true ∧ s.assay.started = true) ∧
    (∃ (s : State),
     dpRun s = true ∧ s.assay.started = false) :=
  ⟨⟨(reqOf [(24, leBytes 1 1), (25, leBytes 1 0), (26, leBytes 2 63), (28, leBytes 4 0)] [] : Req), (0 : Nat), up, _, takes_of (by decide +kernel), by decide +kernel⟩,
   ⟨(reqOf [(24, leBytes 1 2), (26, leBytes 2 63)] [] : Req), (0 : Nat), (modSeries 63 (fun x => { x with maxStamp := some 0 }) upb : State), _, (0 : Nat), takes_of (by decide +kernel), by decide +kernel⟩,
   ⟨(reqOf [] [0, 0, 0, 0] : Req), (0 : Nat), upb, _, takes_of (by decide +kernel), by decide +kernel⟩,
   ⟨({ upb with assay.running := true, assay.started := true } : State), by decide +kernel⟩,
   ⟨({ upb with assay.started := false } : State), by decide +kernel⟩⟩

theorem witness_AssaySamples :
    (∃ (s : State) (n : Nat) (sr : Series) (k : Nat) (w : ChainWork),
     w = List.foldl (chainSample n s.assay.banks) { sr := { sr with queue := List.drop k sr.queue, snap := 0 } } (List.take k sr.queue) ∧
     n < 1024 ∧ s.assay.series.length = 1024 ∧ s.assay.running = true ∧ s.assay.slot = n ∧ sr = seriesAt s n ∧
     (k = if sr.params.enable = true then min 64 (min sr.snap sr.queue.length) else 0)) ∧
    (∃ (s : State) (n : Nat),
     n < 1024 ∧ s.assay.series.length = 1024 ∧ s.assay.slot ≠ n) ∧
    (∃ (s : State) (n : Nat),
     (seriesAt s n).params.enable = true ∧ (seriesAt s n).queue.length < 256) ∧
    (∃ (s : State) (n : Nat),
     (seriesAt s n).params.enable = true ∧ 256 ≤ (seriesAt s n).queue.length) ∧
    (∃ (s : State) (n : Nat),
     (seriesAt s n).params.enable = false) :=
  ⟨⟨({ modSeries 0 (fun x => { x with params.enable := true, queue := [{ stamp := 7, value := 5 }], snap := 1 }) up with assay.running := true } : State), (0 : Nat), (seriesAt ({ modSeries 0 (fun x => { x with params.enable := true, queue := [{ stamp := 7, value := 5 }], snap := 1 }) up with assay.running := true } : State) 0 : Series), (1 : Nat), _, rfl, by decide +kernel⟩,
   ⟨up, (1023 : Nat), by decide +kernel⟩,
   ⟨((modSeries (0 : Nat) (fun x => { x with params.enable := true }) (upb)) : State), (0 : Nat), by decide +kernel⟩,
   ⟨(modSeries 0 (fun x => { x with params.enable := true, queue := List.replicate 256 {} }) up : State), (0 : Nat), by decide +kernel⟩,
   ⟨up, (0 : Nat), by decide +kernel⟩⟩

theorem witness_AssayWatch :
    (∃ (s : State),
     s.assay.running = true ∧ (1024 ≤ s.assay.slot ∨ s.assay.started = false) ∧ s.assay.staged = [] ∧
     s.assay.clearPending = false) ∧
    (∃ (s : State),
     s.assay.running = true ∧ (1024 ≤ s.assay.slot ∨ s.assay.started = false) ∧ s.assay.staged ≠ [] ∧
     s.assay.clearPending = false ∧ s.cages.openCmds = []) ∧
    (∃ (s : State),
     s.assay.running = true ∧ (1024 ≤ s.assay.slot ∨ s.assay.started = false) ∧ s.assay.clearPending = true ∧
     s.assay.staged = []) ∧
    (∃ (s : State),
     (s.assay.running = false ∨ s.assay.slot < 1024 ∧ s.assay.started = true)) ∧
    (∃ (w : ChainWork),
     0 < w.sr.rmsCount ∧ w.sr.params.rmsReport = true) ∧
    (∃ (w : ChainWork) (q : Int × Nat),
     w.sr.peak = some q ∧ w.sr.params.peakReport = true) ∧
    (∃ (n : Nat) (stamp : Nat) (w : ChainWork) (v : Int) (frozen : Bool),
     (envelope n stamp v frozen w).sr.envOn = true ∧ w.sr.envOn = false) ∧
    (∃ (n : Nat) (stamp : Nat) (w : ChainWork) (v : Int) (frozen : Bool),
     (envelope n stamp v frozen w).sr.envOn = false ∧ w.sr.envOn = true) :=
  ⟨⟨({ upb with assay.running := true, assay.slot := 1024 + 1, assay.staged := [], assay.clearPending := false } : State), by decide +kernel⟩,
   ⟨({ upb with assay.running := true, assay.slot := 1024 + 1, assay.staged := [default], assay.clearPending := false, cages.openCmds := [] } : State), by decide +kernel⟩,
   ⟨({ upb with assay.running := true, assay.slot := 1024 + 1, assay.clearPending := true, assay.staged := [] } : State), by decide +kernel⟩,
   ⟨({ upb with assay.running := false } : State), by decide +kernel⟩,
   ⟨({ sr := { rmsCount := 1, params := { rmsReport := true } } } : ChainWork), by decide +kernel⟩,
   ⟨({ (((fun s => { s with sr.peak := some ((0, 0) : Int × Nat) }) ({} : ChainWork))) with sr.params.peakReport := true } : ChainWork), ((0, 0) : Int × Nat), by decide +kernel⟩,
   ⟨(0 : Nat), (0 : Nat), ({} : ChainWork), (0 : Int), false, by decide +kernel⟩,
   ⟨(0 : Nat), (0 : Nat), ({ sr := { envOn := true, params := { envOff := 1 } } } : ChainWork), (0 : Int), false, by decide +kernel⟩⟩

theorem witness_AyrControl :
    (∃ (s : State) (a : Nat),
     dpRun s = true ∧ a < 4 ∧ s.cages.openCmds = [] ∧ (ayrAt s a).state = AyrState.running ∧ intDue s a = true ∧
     stopDue (ayrAt s a) = false) ∧
    (∃ (s : State) (a : Nat) (n : Nat),
     dpRun s = true ∧ a < 4 ∧ s.cages.openCmds = [] ∧ (ayrAt s a).state = AyrState.waiting ∧
     (causePending (modAyr a (fun (k : AyrCore) => tickMany n (drainCore k)) s) a = true) ∧ (ayrAt s a).ie = true ∧
     a < s.ayr.length) ∧
    (∃ (s : State) (a : Nat) (n : Nat),
     dpRun s = true ∧ a < 4 ∧ s.cages.openCmds = [] ∧ (ayrAt s a).state = AyrState.waiting ∧
     (causePending (modAyr a (fun (k : AyrCore) => tickMany n (drainCore k)) s) a = true) ∧ (ayrAt s a).ie = false) ∧
    (∃ (s : State) (a : Nat),
     dpRun s = true ∧ a < 4 ∧ s.cages.openCmds = [] ∧ (ayrAt s a).state = AyrState.running ∧ intDue s a = false ∧
     stopDue (ayrAt s a) = false ∧
     (∀ (op : AyrOp), decodeAyr (imemAt (ayrAt s a) (ayrAt s a).pc) = some op → illegalHere (ayrAt s a) op = true)) ∧
    (∃ (s : State) (a : Nat),
     dpRun s = true ∧ a < 4 ∧ s.cages.openCmds = [] ∧ (ayrAt s a).state = AyrState.waiting ∧ (ayrAt s a).tick ≠ 0) ∧
    (∃ (s : State) (a : Nat),
     dpRun s = true ∧ a < 4 ∧ s.cages.openCmds = [] ∧ (ayrAt s a).inbox.length < 16) ∧
    (∃ (s : State) (a : Nat),
     dpRun s = true ∧ a < 4 ∧ s.cages.openCmds = [] ∧ 16 ≤ (ayrAt s a).inbox.length) ∧
    (∃ (s : State) (a : Nat) (off : Nat),
     dpRun s = true ∧ a < 4 ∧ s.cages.openCmds = [] ∧ off % 4 = 0 ∧ off < 65536 ∧ (ayrAt s a).state ≠ AyrState.running ∧
     (ayrAt s a).state ≠ AyrState.waiting) ∧
    (∃ (s : State) (a : Nat) (off : Nat),
     dpRun s = true ∧ a < 4 ∧ s.cages.openCmds = [] ∧ off % 4 = 0 ∧ off < 65536 ∧ (ayrAt s a).state = AyrState.running) ∧
    (∃ (s : State) (a : Nat) (off : Nat),
     dpRun s = true ∧ a < 4 ∧ s.cages.openCmds = [] ∧ off % 4 = 0 ∧ 65536 ≤ off ∧ off < 196608) ∧
    (∃ (s : State) (a : Nat),
     dpRun s = true ∧ a < 4 ∧ s.cages.openCmds = [] ∧
     ((ayrAt s a).state = AyrState.running ∨ (ayrAt s a).state = AyrState.waiting) ∧ (ayrAt s a).stopPending = true ∧
     interruptible (ayrAt s a) = true) ∧
    (∃ (s : State) (a : Nat),
     dpRun s = true ∧ a < 4 ∧ s.cages.openCmds = [] ∧
     ((ayrAt s a).state = AyrState.running ∨ (ayrAt s a).state = AyrState.waiting) ∧ (ayrAt s a).stopPending = true ∧
     interruptible (ayrAt s a) = false ∧ 1024 ≤ (ayrAt s a).stopCycles) ∧
    (∃ (r : Req) (t : Nat) (s : State) (u : State),
     Takes 1538 r t s u ∧ b8 r 24 < 4 ∧ b8 r 25 = 0 ∧ ownOk u (b8 r 24) (b16 r 28) (b16 r 30) = true ∧
     (ayrAt u (b8 r 24)).state ≠ AyrState.running ∧ (ayrAt u (b8 r 24)).state ≠ AyrState.waiting ∧ imageOk r.arg = true ∧
     digest128 (List.drop 64 r.arg) = List.take 16 (List.drop 20 r.arg)) ∧
    (∃ (r : Req) (t : Nat) (s : State) (u : State),
     Takes 1538 r t s u ∧ b8 r 24 < 4 ∧ b8 r 25 = 0 ∧ ownOk u (b8 r 24) (b16 r 28) (b16 r 30) = true ∧
     (ayrAt u (b8 r 24)).state = AyrState.running) ∧
    (∃ (r : Req) (t : Nat) (s : State) (u : State),
     Takes 1539 r t s u ∧ b8 r 24 < 4 ∧ b8 r 25 = 0 ∧ b8 r 24 < u.ayr.length ∧
     ((ayrAt u (b8 r 24)).state = AyrState.loaded ∨ (ayrAt u (b8 r 24)).state = AyrState.stopped ∨ (ayrAt u (b8 r 24)).state = AyrState.halted ∨ (ayrAt u (b8 r 24)).state = AyrState.faulted)) ∧
    (∃ (r : Req) (t : Nat) (s : State) (u : State),
     Takes 1539 r t s u ∧ b8 r 24 < 4 ∧ b8 r 25 = 1 ∧ (ayrAt u (b8 r 24)).state = AyrState.running ∧
     (ayrAt u (b8 r 24)).stopPending = false) ∧
    (∃ (r : Req) (t : Nat) (s : State) (u : State),
     Takes 1539 r t s u ∧ b8 r 24 < 4 ∧ b8 r 25 = 2 ∧ (ayrAt u (b8 r 24)).state = AyrState.halted ∧ b8 r 24 < u.ayr.length) :=
  ⟨⟨(modAyr 1 (fun c => { c with state := .running, ie := true, imask := 2, tickCause := true }) up : State), (1 : Nat), by decide +kernel⟩,
   ⟨(modAyr 1 (fun c => { c with state := .waiting, ie := true, imask := 2, tick := 3 }) up : State), (1 : Nat), (3 : Nat), by decide +kernel⟩,
   ⟨(modAyr 1 (fun c => { c with state := .waiting, ie := false, imask := 2, tick := 3 }) up : State), (1 : Nat), (3 : Nat), by decide +kernel⟩,
   ⟨(modAyr 1 (fun c => { c with state := .running, imem := [(0, 0xFFFFFFFF)] }) up : State), (1 : Nat), by decide +kernel⟩,
   ⟨(modAyr 1 (fun c => { c with state := .waiting, tick := 3 }) up : State), (1 : Nat), by decide +kernel⟩,
   ⟨({ up with cages.openCmds := [] } : State), (3 : Nat), by decide +kernel⟩,
   ⟨(modAyr 1 (fun c => { c with inbox := List.replicate 16 [] }) up : State), (1 : Nat), by decide +kernel⟩,
   ⟨({ up with cages.openCmds := [] } : State), (3 : Nat), (0 : Nat), by decide +kernel⟩,
   ⟨((modAyr (3 : Nat) (fun x => { x with state := AyrState.running }) (((fun s => { s with cages.openCmds := [] }) (up)))) : State), (3 : Nat), (0 : Nat), by decide +kernel⟩,
   ⟨({ up with cages.openCmds := [] } : State), (3 : Nat), (65536 : Nat), by decide +kernel⟩,
   ⟨((modAyr (3 : Nat) (fun x => { x with stopPending := true }) ((modAyr (3 : Nat) (fun x => { x with state := AyrState.running }) (((fun s => { s with cages.openCmds := [] }) (up)))))) : State), (3 : Nat), by decide +kernel⟩,
   ⟨(modAyr 1 (fun c => { c with state := .running, stopPending := true, started := true, stopCycles := 1024 }) up : State), (1 : Nat), by decide +kernel⟩,
   ⟨(reqOf [] (leBytes 4 0x0A555901 ++ leBytes 2 1 ++ leBytes 2 0 ++ leBytes 4 4 ++ leBytes 4 0 ++ leBytes 4 0 ++ digest128 (leBytes 4 7) ++ List.replicate 28 0 ++ leBytes 4 7) : Req), (0 : Nat), up, _, takes_of (by decide +kernel), by decide +kernel⟩,
   ⟨(reqOf [(24, leBytes 1 3), (25, leBytes 1 0)] [] : Req), (0 : Nat), ((modAyr (b8 (reqOf [(24, leBytes 1 3), (25, leBytes 1 0)] [] : Req) 24) (fun x => { x with state := AyrState.running }) (up)) : State), _, takes_of (by decide +kernel), by decide +kernel⟩,
   ⟨(reqOf [(24, leBytes 1 3), (25, leBytes 1 0)] [] : Req), (0 : Nat), ((modAyr (b8 (reqOf [(24, leBytes 1 3), (25, leBytes 1 0)] [] : Req) 24) (fun x => { x with state := AyrState.loaded }) (up)) : State), _, takes_of (by decide +kernel), by decide +kernel⟩,
   ⟨(reqOf [(24, leBytes 1 3), (25, leBytes 1 1)] [] : Req), (0 : Nat), ((modAyr (b8 (reqOf [(24, leBytes 1 3), (25, leBytes 1 1)] [] : Req) 24) (fun x => { x with stopPending := false }) ((modAyr (b8 (reqOf [(24, leBytes 1 3), (25, leBytes 1 1)] [] : Req) 24) (fun x => { x with state := AyrState.running }) (up)))) : State), _, takes_of (by decide +kernel), by decide +kernel⟩,
   ⟨(reqOf [(24, leBytes 1 3), (25, leBytes 1 2)] [] : Req), (0 : Nat), ((modAyr (b8 (reqOf [(24, leBytes 1 3), (25, leBytes 1 2)] [] : Req) 24) (fun x => { x with state := AyrState.halted }) (up)) : State), _, takes_of (by decide +kernel), by decide +kernel⟩⟩

theorem witness_AyrInstructions :
    (∃ (s : State) (a : Nat) (op : AyrOp),
     ayrCan a op s = false) ∧
    (∃ (s : State) (a : Nat) (d : BitVec 4) (x : BitVec 4) (y : BitVec 4),
     ayrCan a (AyrOp.alu AluFn.add d x y) s = true) ∧
    (∃ (s : State) (a : Nat) (d : BitVec 4) (x : BitVec 4) (y : BitVec 4),
     ayrCan a (AyrOp.alu AluFn.sub d x y) s = true) ∧
    (∃ (s : State) (a : Nat) (d : BitVec 4) (x : BitVec 4) (y : BitVec 4),
     ayrCan a (AyrOp.alu AluFn.and d x y) s = true) ∧
    (∃ (s : State) (a : Nat) (d : BitVec 4) (x : BitVec 4) (y : BitVec 4),
     ayrCan a (AyrOp.alu AluFn.or d x y) s = true) ∧
    (∃ (s : State) (a : Nat) (d : BitVec 4) (x : BitVec 4) (y : BitVec 4),
     ayrCan a (AyrOp.alu AluFn.xor d x y) s = true) ∧
    (∃ (s : State) (a : Nat) (d : BitVec 4) (x : BitVec 4) (y : BitVec 4),
     ayrCan a (AyrOp.alu AluFn.shl d x y) s = true) ∧
    (∃ (s : State) (a : Nat) (d : BitVec 4) (x : BitVec 4) (y : BitVec 4),
     ayrCan a (AyrOp.alu AluFn.shra d x y) s = true) ∧
    (∃ (s : State) (a : Nat) (d : BitVec 4) (x : BitVec 4) (y : BitVec 4),
     ayrCan a (AyrOp.alu AluFn.shrl d x y) s = true) ∧
    (∃ (s : State) (a : Nat) (d : BitVec 4) (x : BitVec 4) (y : BitVec 4),
     ayrCan a (AyrOp.alu AluFn.slt d x y) s = true) ∧
    (∃ (s : State) (a : Nat) (d : BitVec 4) (x : BitVec 4) (y : BitVec 4),
     ayrCan a (AyrOp.alu AluFn.sltu d x y) s = true) ∧
    (∃ (s : State) (a : Nat) (d : BitVec 4) (x : BitVec 4) (y : BitVec 4),
     ayrCan a (AyrOp.alu AluFn.min d x y) s = true) ∧
    (∃ (s : State) (a : Nat) (d : BitVec 4) (x : BitVec 4) (y : BitVec 4),
     ayrCan a (AyrOp.alu AluFn.max d x y) s = true) ∧
    (∃ (s : State) (a : Nat) (d : BitVec 4) (x : BitVec 4),
     ayrCan a (AyrOp.abs d x) s = true) ∧
    (∃ (s : State) (a : Nat) (d : BitVec 4) (x : BitVec 4) (i : BitVec 18),
     ayrCan a (AyrOp.imm ImmFn.add d x i) s = true) ∧
    (∃ (s : State) (a : Nat) (d : BitVec 4) (x : BitVec 4) (i : BitVec 18),
     ayrCan a (AyrOp.imm ImmFn.and d x i) s = true) ∧
    (∃ (s : State) (a : Nat) (d : BitVec 4) (x : BitVec 4) (i : BitVec 18),
     ayrCan a (AyrOp.imm ImmFn.or d x i) s = true) ∧
    (∃ (s : State) (a : Nat) (d : BitVec 4) (x : BitVec 4) (i : BitVec 18),
     ayrCan a (AyrOp.imm ImmFn.xor d x i) s = true) ∧
    (∃ (s : State) (a : Nat) (d : BitVec 4) (x : BitVec 4) (sh : BitVec 5),
     ayrCan a (AyrOp.shift ShiftFn.shl d x sh) s = true) ∧
    (∃ (s : State) (a : Nat) (d : BitVec 4) (x : BitVec 4) (sh : BitVec 5),
     ayrCan a (AyrOp.shift ShiftFn.shra d x sh) s = true) ∧
    (∃ (s : State) (a : Nat) (d : BitVec 4) (x : BitVec 4) (sh : BitVec 5),
     ayrCan a (AyrOp.shift ShiftFn.shrl d x sh) s = true) ∧
    (∃ (s : State) (a : Nat) (d : BitVec 4) (v : BitVec 22),
     ayrCan a (AyrOp.movi d v) s = true) ∧
    (∃ (s : State) (a : Nat) (d : BitVec 4) (v : BitVec 16),
     ayrCan a (AyrOp.movhi d v) s = true) ∧
    (∃ (s : State) (a : Nat) (d : BitVec 4) (x : BitVec 4) (y : BitVec 4) (ar : BitVec 3) (hs : Bool) (ht : Bool) (ld : Bool),
     ayrCan a (AyrOp.mac MacFn.mul x y hs ht ld ar d) s = true) ∧
    (∃ (s : State) (a : Nat) (d : BitVec 4) (x : BitVec 4) (y : BitVec 4) (ar : BitVec 3) (hs : Bool) (ht : Bool) (ld : Bool),
     ayrCan a (AyrOp.mac MacFn.mac x y hs ht ld ar d) s = true) ∧
    (∃ (s : State) (a : Nat) (d : BitVec 4) (x : BitVec 4) (y : BitVec 4) (ar : BitVec 3) (hs : Bool) (ht : Bool) (ld : Bool),
     ayrCan a (AyrOp.mac MacFn.msu x y hs ht ld ar d) s = true) ∧
    (∃ (s : State) (a : Nat) (d : BitVec 4) (sh : BitVec 5),
     ayrCan a (AyrOp.mova d sh) s = true) ∧
    (∃ (s : State) (a : Nat) (d : BitVec 4),
     ayrCan a (AyrOp.mfah d) s = true) ∧
    (∃ (s : State) (a : Nat) (x : BitVec 4) (y : BitVec 4),
     ayrCan a (AyrOp.mta x y) s = true) ∧
    (∃ (s : State) (a : Nat),
     ayrCan a AyrOp.clra s = true) ∧
    (∃ (s : State) (a : Nat) (d : BitVec 4) (ar : BitVec 3) (p : Bool) (i : BitVec 18),
     ayrCan a (AyrOp.mem MemFn.ld d ar p i) s = true) ∧
    (∃ (s : State) (a : Nat) (d : BitVec 4) (ar : BitVec 3) (p : Bool) (i : BitVec 18),
     ayrCan a (AyrOp.mem MemFn.ldh d ar p i) s = true) ∧
    (∃ (s : State) (a : Nat) (d : BitVec 4) (ar : BitVec 3) (p : Bool) (i : BitVec 18),
     ayrCan a (AyrOp.mem MemFn.st d ar p i) s = true) ∧
    (∃ (s : State) (a : Nat) (d : BitVec 4) (ar : BitVec 3) (p : Bool) (i : BitVec 18),
     ayrCan a (AyrOp.mem MemFn.sth d ar p i) s = true) ∧
    (∃ (s : State) (a : Nat) (ar : BitVec 3) (v : BitVec 17),
     ayrCan a (AyrOp.movai ar v) s = true) ∧
    (∃ (s : State) (a : Nat) (ar : BitVec 3) (i : BitVec 18),
     ayrCan a (AyrOp.adda ar i) s = true) ∧
    (∃ (s : State) (a : Nat) (d : BitVec 4) (ar : BitVec 3),
     ayrCan a (AyrOp.movda ar d) s = true) ∧
    (∃ (s : State) (a : Nat) (d : BitVec 4) (ar : BitVec 3),
     ayrCan a (AyrOp.movad d ar) s = true) ∧
    (∃ (s : State) (a : Nat) (t : BitVec 14),
     ayrCan a (AyrOp.br t) s = true) ∧
    (∃ (s : State) (a : Nat) (d : BitVec 4) (t : BitVec 14),
     ayrCan a (AyrOp.brc BrFn.eqz d t) s = true) ∧
    (∃ (s : State) (a : Nat) (d : BitVec 4) (t : BitVec 14),
     ayrCan a (AyrOp.brc BrFn.nez d t) s = true) ∧
    (∃ (s : State) (a : Nat) (d : BitVec 4) (t : BitVec 14),
     ayrCan a (AyrOp.brc BrFn.ltz d t) s = true) ∧
    (∃ (s : State) (a : Nat) (d : BitVec 4) (t : BitVec 14),
     ayrCan a (AyrOp.brc BrFn.gez d t) s = true) ∧
    (∃ (s : State) (a : Nat) (t : BitVec 14),
     ayrCan a (AyrOp.call t) s = true) ∧
    (∃ (s : State) (a : Nat) (d : BitVec 4),
     ayrCan a (AyrOp.jr d) s = true) ∧
    (∃ (s : State) (a : Nat) (d : BitVec 4) (t : BitVec 14),
     ayrCan a (AyrOp.loop d t) s = true) ∧
    (∃ (s : State) (a : Nat) (t : BitVec 14) (n : BitVec 12),
     ayrCan a (AyrOp.loopi n t) s = true) ∧
    (∃ (s : State) (a : Nat) (d : BitVec 4) (q : BitVec 2),
     ayrCan a (AyrOp.mtl (loopRegOf q.toNat) d) s = true) ∧
    (∃ (s : State) (a : Nat) (d : BitVec 4) (q : BitVec 2),
     ayrCan a (AyrOp.mfl d (loopRegOf q.toNat)) s = true) ∧
    (∃ (s : State) (a : Nat),
     ayrCan a AyrOp.nop s = true) ∧
    (∃ (s : State) (a : Nat),
     ayrCan a AyrOp.ei s = true) ∧
    (∃ (s : State) (a : Nat),
     ayrCan a AyrOp.di s = true) ∧
    (∃ (s : State) (a : Nat),
     ayrCan a AyrOp.wait s = true) ∧
    (∃ (s : State) (a : Nat),
     ayrCan a AyrOp.reti s = true) :=
  ⟨⟨upb, (0 : Nat), (.nop : AyrOp), by decide +kernel⟩,
   ⟨(((fun _ => ayrWith (AyrOp.alu AluFn.add (0 : BitVec 4) (0 : BitVec 4) (0 : BitVec 4))) (upb)) : State), (0 : Nat), (0 : BitVec 4), (0 : BitVec 4), (0 : BitVec 4), by decide +kernel⟩,
   ⟨(((fun _ => ayrWith (AyrOp.alu AluFn.sub (0 : BitVec 4) (0 : BitVec 4) (0 : BitVec 4))) (upb)) : State), (0 : Nat), (0 : BitVec 4), (0 : BitVec 4), (0 : BitVec 4), by decide +kernel⟩,
   ⟨(((fun _ => ayrWith (AyrOp.alu AluFn.and (0 : BitVec 4) (0 : BitVec 4) (0 : BitVec 4))) (upb)) : State), (0 : Nat), (0 : BitVec 4), (0 : BitVec 4), (0 : BitVec 4), by decide +kernel⟩,
   ⟨(((fun _ => ayrWith (AyrOp.alu AluFn.or (0 : BitVec 4) (0 : BitVec 4) (0 : BitVec 4))) (upb)) : State), (0 : Nat), (0 : BitVec 4), (0 : BitVec 4), (0 : BitVec 4), by decide +kernel⟩,
   ⟨(((fun _ => ayrWith (AyrOp.alu AluFn.xor (0 : BitVec 4) (0 : BitVec 4) (0 : BitVec 4))) (upb)) : State), (0 : Nat), (0 : BitVec 4), (0 : BitVec 4), (0 : BitVec 4), by decide +kernel⟩,
   ⟨(((fun _ => ayrWith (AyrOp.alu AluFn.shl (0 : BitVec 4) (0 : BitVec 4) (0 : BitVec 4))) (upb)) : State), (0 : Nat), (0 : BitVec 4), (0 : BitVec 4), (0 : BitVec 4), by decide +kernel⟩,
   ⟨(((fun _ => ayrWith (AyrOp.alu AluFn.shra (0 : BitVec 4) (0 : BitVec 4) (0 : BitVec 4))) (upb)) : State), (0 : Nat), (0 : BitVec 4), (0 : BitVec 4), (0 : BitVec 4), by decide +kernel⟩,
   ⟨(((fun _ => ayrWith (AyrOp.alu AluFn.shrl (0 : BitVec 4) (0 : BitVec 4) (0 : BitVec 4))) (upb)) : State), (0 : Nat), (0 : BitVec 4), (0 : BitVec 4), (0 : BitVec 4), by decide +kernel⟩,
   ⟨(((fun _ => ayrWith (AyrOp.alu AluFn.slt (0 : BitVec 4) (0 : BitVec 4) (0 : BitVec 4))) (upb)) : State), (0 : Nat), (0 : BitVec 4), (0 : BitVec 4), (0 : BitVec 4), by decide +kernel⟩,
   ⟨(((fun _ => ayrWith (AyrOp.alu AluFn.sltu (0 : BitVec 4) (0 : BitVec 4) (0 : BitVec 4))) (upb)) : State), (0 : Nat), (0 : BitVec 4), (0 : BitVec 4), (0 : BitVec 4), by decide +kernel⟩,
   ⟨(((fun _ => ayrWith (AyrOp.alu AluFn.min (0 : BitVec 4) (0 : BitVec 4) (0 : BitVec 4))) (upb)) : State), (0 : Nat), (0 : BitVec 4), (0 : BitVec 4), (0 : BitVec 4), by decide +kernel⟩,
   ⟨(((fun _ => ayrWith (AyrOp.alu AluFn.max (0 : BitVec 4) (0 : BitVec 4) (0 : BitVec 4))) (upb)) : State), (0 : Nat), (0 : BitVec 4), (0 : BitVec 4), (0 : BitVec 4), by decide +kernel⟩,
   ⟨(((fun _ => ayrWith (AyrOp.abs (0 : BitVec 4) (0 : BitVec 4))) (upb)) : State), (0 : Nat), (0 : BitVec 4), (0 : BitVec 4), by decide +kernel⟩,
   ⟨(((fun _ => ayrWith (AyrOp.imm ImmFn.add (0 : BitVec 4) (0 : BitVec 4) (0 : BitVec 18))) (upb)) : State), (0 : Nat), (0 : BitVec 4), (0 : BitVec 4), (0 : BitVec 18), by decide +kernel⟩,
   ⟨(((fun _ => ayrWith (AyrOp.imm ImmFn.and (0 : BitVec 4) (0 : BitVec 4) (0 : BitVec 18))) (upb)) : State), (0 : Nat), (0 : BitVec 4), (0 : BitVec 4), (0 : BitVec 18), by decide +kernel⟩,
   ⟨(((fun _ => ayrWith (AyrOp.imm ImmFn.or (0 : BitVec 4) (0 : BitVec 4) (0 : BitVec 18))) (upb)) : State), (0 : Nat), (0 : BitVec 4), (0 : BitVec 4), (0 : BitVec 18), by decide +kernel⟩,
   ⟨(((fun _ => ayrWith (AyrOp.imm ImmFn.xor (0 : BitVec 4) (0 : BitVec 4) (0 : BitVec 18))) (upb)) : State), (0 : Nat), (0 : BitVec 4), (0 : BitVec 4), (0 : BitVec 18), by decide +kernel⟩,
   ⟨(((fun _ => ayrWith (AyrOp.shift ShiftFn.shl (0 : BitVec 4) (0 : BitVec 4) (0 : BitVec 5))) (upb)) : State), (0 : Nat), (0 : BitVec 4), (0 : BitVec 4), (0 : BitVec 5), by decide +kernel⟩,
   ⟨(((fun _ => ayrWith (AyrOp.shift ShiftFn.shra (0 : BitVec 4) (0 : BitVec 4) (0 : BitVec 5))) (upb)) : State), (0 : Nat), (0 : BitVec 4), (0 : BitVec 4), (0 : BitVec 5), by decide +kernel⟩,
   ⟨(((fun _ => ayrWith (AyrOp.shift ShiftFn.shrl (0 : BitVec 4) (0 : BitVec 4) (0 : BitVec 5))) (upb)) : State), (0 : Nat), (0 : BitVec 4), (0 : BitVec 4), (0 : BitVec 5), by decide +kernel⟩,
   ⟨(((fun _ => ayrWith (AyrOp.movi (0 : BitVec 4) (0 : BitVec 22))) (upb)) : State), (0 : Nat), (0 : BitVec 4), (0 : BitVec 22), by decide +kernel⟩,
   ⟨(((fun _ => ayrWith (AyrOp.movhi (0 : BitVec 4) (0 : BitVec 16))) (upb)) : State), (0 : Nat), (0 : BitVec 4), (0 : BitVec 16), by decide +kernel⟩,
   ⟨(((fun _ => ayrWith (AyrOp.mac MacFn.mul (0 : BitVec 4) (0 : BitVec 4) false false false (0 : BitVec 3) (0 : BitVec 4))) (upb)) : State), (0 : Nat), (0 : BitVec 4), (0 : BitVec 4), (0 : BitVec 4), (0 : BitVec 3), false, false, false, by decide +kernel⟩,
   ⟨(((fun _ => ayrWith (AyrOp.mac MacFn.mac (0 : BitVec 4) (0 : BitVec 4) false false false (0 : BitVec 3) (0 : BitVec 4))) (upb)) : State), (0 : Nat), (0 : BitVec 4), (0 : BitVec 4), (0 : BitVec 4), (0 : BitVec 3), false, false, false, by decide +kernel⟩,
   ⟨(((fun _ => ayrWith (AyrOp.mac MacFn.msu (0 : BitVec 4) (0 : BitVec 4) false false false (0 : BitVec 3) (0 : BitVec 4))) (upb)) : State), (0 : Nat), (0 : BitVec 4), (0 : BitVec 4), (0 : BitVec 4), (0 : BitVec 3), false, false, false, by decide +kernel⟩,
   ⟨(((fun _ => ayrWith (AyrOp.mova (0 : BitVec 4) (0 : BitVec 5))) (upb)) : State), (0 : Nat), (0 : BitVec 4), (0 : BitVec 5), by decide +kernel⟩,
   ⟨(((fun _ => ayrWith (AyrOp.mfah (0 : BitVec 4))) (upb)) : State), (0 : Nat), (0 : BitVec 4), by decide +kernel⟩,
   ⟨(((fun _ => ayrWith (AyrOp.mta (0 : BitVec 4) (0 : BitVec 4))) (upb)) : State), (0 : Nat), (0 : BitVec 4), (0 : BitVec 4), by decide +kernel⟩,
   ⟨(((fun _ => ayrWith AyrOp.clra) (upb)) : State), (0 : Nat), by decide +kernel⟩,
   ⟨(((fun _ => ayrWith (AyrOp.mem MemFn.ld (0 : BitVec 4) (0 : BitVec 3) false (0 : BitVec 18))) (upb)) : State), (0 : Nat), (0 : BitVec 4), (0 : BitVec 3), false, (0 : BitVec 18), by decide +kernel⟩,
   ⟨(((fun _ => ayrWith (AyrOp.mem MemFn.ldh (0 : BitVec 4) (0 : BitVec 3) false (0 : BitVec 18))) (upb)) : State), (0 : Nat), (0 : BitVec 4), (0 : BitVec 3), false, (0 : BitVec 18), by decide +kernel⟩,
   ⟨(((fun _ => ayrWith (AyrOp.mem MemFn.st (0 : BitVec 4) (0 : BitVec 3) false (0 : BitVec 18))) (upb)) : State), (0 : Nat), (0 : BitVec 4), (0 : BitVec 3), false, (0 : BitVec 18), by decide +kernel⟩,
   ⟨(((fun _ => ayrWith (AyrOp.mem MemFn.sth (0 : BitVec 4) (0 : BitVec 3) false (0 : BitVec 18))) (upb)) : State), (0 : Nat), (0 : BitVec 4), (0 : BitVec 3), false, (0 : BitVec 18), by decide +kernel⟩,
   ⟨(((fun _ => ayrWith (AyrOp.movai (0 : BitVec 3) (0 : BitVec 17))) (upb)) : State), (0 : Nat), (0 : BitVec 3), (0 : BitVec 17), by decide +kernel⟩,
   ⟨(((fun _ => ayrWith (AyrOp.adda (0 : BitVec 3) (0 : BitVec 18))) (upb)) : State), (0 : Nat), (0 : BitVec 3), (0 : BitVec 18), by decide +kernel⟩,
   ⟨(((fun _ => ayrWith (AyrOp.movda (0 : BitVec 3) (0 : BitVec 4))) (upb)) : State), (0 : Nat), (0 : BitVec 4), (0 : BitVec 3), by decide +kernel⟩,
   ⟨(((fun _ => ayrWith (AyrOp.movad (0 : BitVec 4) (0 : BitVec 3))) (upb)) : State), (0 : Nat), (0 : BitVec 4), (0 : BitVec 3), by decide +kernel⟩,
   ⟨(((fun _ => ayrWith (AyrOp.br (0 : BitVec 14))) (upb)) : State), (0 : Nat), (0 : BitVec 14), by decide +kernel⟩,
   ⟨(((fun _ => ayrWith (AyrOp.brc BrFn.eqz (0 : BitVec 4) (0 : BitVec 14))) (upb)) : State), (0 : Nat), (0 : BitVec 4), (0 : BitVec 14), by decide +kernel⟩,
   ⟨(((fun _ => ayrWith (AyrOp.brc BrFn.nez (0 : BitVec 4) (0 : BitVec 14))) (upb)) : State), (0 : Nat), (0 : BitVec 4), (0 : BitVec 14), by decide +kernel⟩,
   ⟨(((fun _ => ayrWith (AyrOp.brc BrFn.ltz (0 : BitVec 4) (0 : BitVec 14))) (upb)) : State), (0 : Nat), (0 : BitVec 4), (0 : BitVec 14), by decide +kernel⟩,
   ⟨(((fun _ => ayrWith (AyrOp.brc BrFn.gez (0 : BitVec 4) (0 : BitVec 14))) (upb)) : State), (0 : Nat), (0 : BitVec 4), (0 : BitVec 14), by decide +kernel⟩,
   ⟨(((fun _ => ayrWith (AyrOp.call (0 : BitVec 14))) (upb)) : State), (0 : Nat), (0 : BitVec 14), by decide +kernel⟩,
   ⟨(((fun _ => ayrWith (AyrOp.jr (0 : BitVec 4))) (upb)) : State), (0 : Nat), (0 : BitVec 4), by decide +kernel⟩,
   ⟨(ayrWith (.loop 1 3) : State), (0 : Nat), (1 : BitVec 4), (3 : BitVec 14), by decide +kernel⟩,
   ⟨(ayrWith (.loopi 5 3) : State), (0 : Nat), (3 : BitVec 14), (5 : BitVec 12), by decide +kernel⟩,
   ⟨(((fun _ => ayrWith (AyrOp.mtl (loopRegOf (0 : BitVec 2).toNat) (0 : BitVec 4))) (upb)) : State), (0 : Nat), (0 : BitVec 4), (0 : BitVec 2), by decide +kernel⟩,
   ⟨(((fun _ => ayrWith (AyrOp.mfl (0 : BitVec 4) (loopRegOf (0 : BitVec 2).toNat))) (upb)) : State), (0 : Nat), (0 : BitVec 4), (0 : BitVec 2), by decide +kernel⟩,
   ⟨(((fun _ => ayrWith AyrOp.nop) (upb)) : State), (0 : Nat), by decide +kernel⟩,
   ⟨(((fun _ => ayrWith AyrOp.ei) (upb)) : State), (0 : Nat), by decide +kernel⟩,
   ⟨(((fun _ => ayrWith AyrOp.di) (upb)) : State), (0 : Nat), by decide +kernel⟩,
   ⟨(((fun _ => ayrWith AyrOp.wait) (upb)) : State), (0 : Nat), by decide +kernel⟩,
   ⟨(((fun _ => ayrWith AyrOp.reti) (upb)) : State), (0 : Nat), by decide +kernel⟩⟩

theorem witness_AyrPipeline :
    (∃ (op : AyrOp) (c : AyrCore) (d : BitVec 4) (dx : BitVec 4) (v : W32),
     op = AyrOp.imm ImmFn.add d dx 0 ∧ c.load = some (dx, v) ∧ d ≠ dx ∧ c.d.length = 16) ∧
    (∃ (op : AyrOp) (c : AyrCore) (q : LoopReg) (v : W32),
     (∀ (q : LoopReg) (x : BitVec 4), op ≠ AyrOp.mtl q x) ∧ op.isBranch = false ∧ c.mtl = [(q, v, 2)]) ∧
    (∃ (op : AyrOp) (c : AyrCore) (q : LoopReg) (v : W32),
     (∀ (q : LoopReg) (x : BitVec 4), op ≠ AyrOp.mtl q x) ∧ op.isBranch = false ∧ c.mtl = [(q, v, 1)]) ∧
    (∃ (op : AyrOp) (c : AyrCore),
     op.isBranch = false ∧ op ≠ AyrOp.wait ∧ op ≠ AyrOp.halt ∧ c.slots = 2) ∧
    (∃ (op : AyrOp) (c : AyrCore) (t : BitVec 14),
     op.isBranch = false ∧ op ≠ AyrOp.wait ∧ op ≠ AyrOp.halt ∧ c.slots = 1 ∧ c.target = some t) ∧
    (∃ (op : AyrOp) (c : AyrCore),
     op.isBranch = false ∧ op ≠ AyrOp.wait ∧ op ≠ AyrOp.halt ∧ c.slots = 1 ∧ c.retiIe = true) ∧
    (∃ (op : AyrOp) (c : AyrCore),
     (∀ (q : LoopReg) (x : BitVec 4), op ≠ AyrOp.mtl q x) ∧ op.isBranch = false ∧ op ≠ AyrOp.wait ∧ op ≠ AyrOp.halt ∧
     c.slots = 0 ∧ c.pc = c.le ∧ c.mtl = [] ∧ c.lc ≠ 0) ∧
    (∃ (op : AyrOp),
     (∀ (d : BitVec 4) (a : BitVec 3) (p : Bool) (o : BitVec 18), op ≠ AyrOp.mem MemFn.st d a p o) ∧
     (∀ (d : BitVec 4) (a : BitVec 3) (p : Bool) (o : BitVec 18), op ≠ AyrOp.mem MemFn.sth d a p o)) ∧
    (∃ (op : AyrOp) (c : AyrCore) (f : MemFn) (d : BitVec 4) (a : BitVec 3) (p : Bool) (o : BitVec 18) (w : Nat) (z : Nat),
     op = AyrOp.mem f d a p o ∧ Memory.wf c.dmem = true ∧ (f = MemFn.st ∧ w = 4 ∨ f = MemFn.sth ∧ w = 2) ∧
     ¬((memAddr c a p o).fst.toNat / w * w ≤ z ∧ z < (memAddr c a p o).fst.toNat / w * w + w)) :=
  ⟨⟨(AyrOp.imm ImmFn.add (0 : BitVec 4) (1 : BitVec 4) 0 : AyrOp), ({ ({ state := .running } : AyrCore) with load := some ((1 : BitVec 4), (0 : W32)) } : AyrCore), (0 : BitVec 4), (1 : BitVec 4), (0 : W32), by decide +kernel⟩,
   ⟨(.nop : AyrOp), ({ mtl := [(.lc, 5, 2)] } : AyrCore), (.lc : LoopReg), (5 : W32), (by intro q x h; cases h), by decide +kernel⟩,
   ⟨(.nop : AyrOp), ({ mtl := [(.le, 5, 1)] } : AyrCore), (.le : LoopReg), (5 : W32), (by intro q x h; cases h), by decide +kernel⟩,
   ⟨(.nop : AyrOp), ({ ({ state := .running } : AyrCore) with slots := 2 } : AyrCore), by decide +kernel⟩,
   ⟨(.nop : AyrOp), ({ (((fun s => { s with slots := 1 }) ({ state := .running } : AyrCore))) with target := some (0 : BitVec 14) } : AyrCore), (0 : BitVec 14), by decide +kernel⟩,
   ⟨(.nop : AyrOp), ({ (((fun s => { s with slots := 1 }) ({ state := .running } : AyrCore))) with retiIe := true } : AyrCore), by decide +kernel⟩,
   ⟨(.nop : AyrOp), ({ lc := 1 } : AyrCore), (by intro q x h; cases h), by decide +kernel⟩,
   ⟨(.nop : AyrOp), (by intros; simp), (by intros; simp)⟩,
   ⟨(AyrOp.mem MemFn.st (0 : BitVec 4) (0 : BitVec 3) false (0 : BitVec 18) : AyrOp), ({ state := .running } : AyrCore), MemFn.st, (0 : BitVec 4), (0 : BitVec 3), false, (0 : BitVec 18), (4 : Nat), (7 : Nat), by decide +kernel⟩⟩

theorem witness_AyrPorts :
    (∃ (s : State) (a : Nat) (d : BitVec 4) (p : BitVec 8),
     a < s.ayr.length ∧ ayrCan a (AyrOp.pin d p) s = true) ∧
    (∃ (s : State) (a : Nat) (b : Bundle),
     a < s.ayr.length ∧ s.bun.active = some b ∧ s.hop.running = true) ∧
    (∃ (s : State) (a : Nat),
     a < s.ayr.length ∧ ayrCan a AyrOp.halt s = true ∧ s.cages.openCmds = []) ∧
    (∃ (s : State) (a : Nat) (d : BitVec 4) (p : BitVec 8),
     p = 6 ∧ a < s.ayr.length ∧ ayrCan a (AyrOp.pout d p) s = true) ∧
    (∃ (s : State) (a : Nat) (d : BitVec 4) (p : BitVec 8),
     p = 21 ∧ a < s.ayr.length ∧ ayrCan a (AyrOp.pout d p) s = true) ∧
    (∃ (s : State) (a : Nat) (d : BitVec 4) (p : BitVec 8),
     p = 27 ∧ a < s.ayr.length ∧ ayrCan a (AyrOp.pout d p) s = true) ∧
    (∃ (s : State) (a : Nat) (d : BitVec 4) (p : BitVec 8),
     p = 34 ∧ a < s.ayr.length ∧ ayrCan a (AyrOp.pout d p) s = true) ∧
    (∃ (s : State) (a : Nat) (d : BitVec 4) (p : BitVec 8),
     p = 43 ∧ a < s.ayr.length ∧ ayrCan a (AyrOp.pout d p) s = true) ∧
    (∃ (s : State) (a : Nat) (d : BitVec 4) (p : BitVec 8),
     p = 56 ∧ a < s.ayr.length ∧ ayrCan a (AyrOp.pout d p) s = true) ∧
    (∃ (s : State) (a : Nat) (d : BitVec 4) (p : BitVec 8),
     p = 61 ∧ a < s.ayr.length ∧ ayrCan a (AyrOp.pout d p) s = true) ∧
    (∃ (s : State) (a : Nat),
     a < s.ayr.length ∧
     ((ayrAt s a).injSeries < (ayrAt s a).ownFirst ∨ (ayrAt s a).ownFirst + (ayrAt s a).ownCount ≤ (ayrAt s a).injSeries)) ∧
    (∃ (s : State) (a : Nat) (d : BitVec 4),
     a < s.ayr.length ∧ (ayrAt s a).ownFirst ≤ (ayrAt s a).injSeries ∧
     (ayrAt s a).injSeries < (ayrAt s a).ownFirst + (ayrAt s a).ownCount ∧
     sat24 (BitVec.toInt (getD_ (ayrAt s a) d)) = BitVec.toInt (getD_ (ayrAt s a) d)) ∧
    (∃ (s : State) (a : Nat) (d : BitVec 4),
     a < s.ayr.length ∧ bit (seriesAt s (BitVec.toNat (getD_ (ayrAt s a) d) % 64)).params.mask a = true) ∧
    (∃ (s : State) (a : Nat),
     a < s.ayr.length ∧ (ayrAt s a).requests.length < 16) ∧
    (∃ (s : State) (a : Nat),
     a < s.ayr.length ∧ 16 ≤ (ayrAt s a).requests.length) ∧
    (∃ (s : State) (a : Nat),
     a < s.ayr.length ∧ (ayrAt s a).outbox.length < 16 ∧ (ayrAt s a).outbox ≠ []) ∧
    (∃ (s : State) (a : Nat),
     a < s.ayr.length ∧ 16 ≤ (ayrAt s a).outbox.length) :=
  ⟨⟨(((fun _ => ayrWith (AyrOp.pin (0 : BitVec 4) (0 : BitVec 8))) (upb)) : State), (0 : Nat), (0 : BitVec 4), (0 : BitVec 8), by decide +kernel⟩,
   ⟨({ upb with bun.active := some ({} : Bundle), hop.running := true } : State), (0 : Nat), ({} : Bundle), by decide +kernel⟩,
   ⟨({ ((fun _ => ayrWith AyrOp.halt) (upb)) with cages.openCmds := [] } : State), (0 : Nat), by decide +kernel⟩,
   ⟨(((fun _ => ayrWith (AyrOp.pout (0 : BitVec 4) (6 : BitVec 8))) (upb)) : State), (0 : Nat), (0 : BitVec 4), _, rfl, by decide +kernel⟩,
   ⟨(((fun _ => ayrWith (AyrOp.pout (0 : BitVec 4) (21 : BitVec 8))) (upb)) : State), (0 : Nat), (0 : BitVec 4), _, rfl, by decide +kernel⟩,
   ⟨(((fun _ => ayrWith (AyrOp.pout (0 : BitVec 4) (27 : BitVec 8))) (upb)) : State), (0 : Nat), (0 : BitVec 4), _, rfl, by decide +kernel⟩,
   ⟨(((fun _ => ayrWith (AyrOp.pout (0 : BitVec 4) (34 : BitVec 8))) (upb)) : State), (0 : Nat), (0 : BitVec 4), _, rfl, by decide +kernel⟩,
   ⟨(((fun _ => ayrWith (AyrOp.pout (0 : BitVec 4) (43 : BitVec 8))) (upb)) : State), (0 : Nat), (0 : BitVec 4), _, rfl, by decide +kernel⟩,
   ⟨(((fun _ => ayrWith (AyrOp.pout (0 : BitVec 4) (56 : BitVec 8))) (upb)) : State), (0 : Nat), (0 : BitVec 4), _, rfl, by decide +kernel⟩,
   ⟨(((fun _ => ayrWith (AyrOp.pout (0 : BitVec 4) (61 : BitVec 8))) (upb)) : State), (0 : Nat), (0 : BitVec 4), _, rfl, by decide +kernel⟩,
   ⟨up, (0 : Nat), by decide +kernel⟩,
   ⟨(modAyr 1 (fun c => { c with ownFirst := 700, ownCount := 4, injSeries := 703 }) up : State), (1 : Nat), (2 : BitVec 4), by decide +kernel⟩,
   ⟨(modSeries 5 (fun x => { x with params.mask := 2 }) (modAyr 1 (fun c => { c with d := [0, 0, 5] }) up) : State), (1 : Nat), (2 : BitVec 4), by decide +kernel⟩,
   ⟨up, (0 : Nat), by decide +kernel⟩,
   ⟨(modAyr 1 (fun c => { c with requests := List.replicate 16 {} }) up : State), (1 : Nat), by decide +kernel⟩,
   ⟨(modAyr 1 (fun c => { c with outbox := List.replicate 15 [] }) up : State), (1 : Nat), by decide +kernel⟩,
   ⟨(modAyr 1 (fun c => { c with outbox := List.replicate 16 [] }) up : State), (1 : Nat), by decide +kernel⟩⟩

theorem witness_AyrResults :
    (∃ (c : AyrCore) (dx : BitVec 4) (dy : BitVec 4) (f : AluFn) (v : W32),
     straight c ∧
     (f = AluFn.add ∧ v = getD_ c dx + getD_ c dy ∨ f = AluFn.sub ∧ v = getD_ c dx - getD_ c dy ∨ f = AluFn.and ∧ v = getD_ c dx &&& getD_ c dy ∨ f = AluFn.or ∧ v = getD_ c dx ||| getD_ c dy ∨ f = AluFn.xor ∧ v = getD_ c dx ^^^ getD_ c dy ∨ f = AluFn.shl ∧ v = getD_ c dx <<< (BitVec.toNat (getD_ c dy) % 32) ∨ f = AluFn.shra ∧ v = BitVec.sshiftRight (getD_ c dx) (BitVec.toNat (getD_ c dy) % 32) ∨ f = AluFn.shrl ∧ v = getD_ c dx >>> (BitVec.toNat (getD_ c dy) % 32) ∨ (f = AluFn.slt ∧ v = if BitVec.toInt (getD_ c dx) < BitVec.toInt (getD_ c dy) then 1 else 0) ∨ (f = AluFn.sltu ∧ v = if BitVec.toNat (getD_ c dx) < BitVec.toNat (getD_ c dy) then 1 else 0) ∨ (f = AluFn.min ∧ v = if BitVec.toInt (getD_ c dx) < BitVec.toInt (getD_ c dy) then getD_ c dx else getD_ c dy) ∨ f = AluFn.max ∧ v = if BitVec.toInt (getD_ c dx) < BitVec.toInt (getD_ c dy) then getD_ c dy else getD_ c dx)) ∧
    (∃ (c : AyrCore) (dx : BitVec 4) (i : BitVec 18) (f : ImmFn) (v : W32),
     straight c ∧
     (f = ImmFn.add ∧ v = getD_ c dx + BitVec.signExtend 32 i ∨ f = ImmFn.and ∧ v = getD_ c dx &&& BitVec.zeroExtend 32 i ∨ f = ImmFn.or ∧ v = getD_ c dx ||| BitVec.zeroExtend 32 i ∨ f = ImmFn.xor ∧ v = getD_ c dx ^^^ BitVec.zeroExtend 32 i)) ∧
    (∃ (c : AyrCore) (dx : BitVec 4) (sh : BitVec 5) (f : ShiftFn) (v : BitVec 32),
     straight c ∧
     (f = ShiftFn.shl ∧ v = getD_ c dx <<< sh.toNat ∨ f = ShiftFn.shra ∧ v = BitVec.sshiftRight (getD_ c dx) sh.toNat ∨ f = ShiftFn.shrl ∧ v = getD_ c dx >>> sh.toNat)) ∧
    (∃ (c : AyrCore) (dx : BitVec 4) (dy : BitVec 4) (f : MacFn) (hs : Bool) (ht : Bool) (v : Int),
     straight c ∧
     (f = MacFn.mul ∧ v = half (getD_ c dx) hs * half (getD_ c dy) ht ∨ f = MacFn.mac ∧ v = c.acc.toInt + half (getD_ c dx) hs * half (getD_ c dy) ht ∨ f = MacFn.msu ∧ v = c.acc.toInt - half (getD_ c dx) hs * half (getD_ c dy) ht)) ∧
    (∃ (c : AyrCore) (ar : BitVec 3) (i : BitVec 18) (f : MemFn) (v : W32),
     straight c ∧
     (f = MemFn.ld ∧ v = dmemWord c (getA c ar + BitVec.truncate 17 i) ∨ f = MemFn.ldh ∧ v = dmemHalf c (getA c ar + BitVec.truncate 17 i))) ∧
    (∃ (c : AyrCore) (ar : BitVec 3) (f : MemFn) (v : W32),
     straight c ∧ (f = MemFn.ld ∧ v = dmemWord c (getA c ar) ∨ f = MemFn.ldh ∧ v = dmemHalf c (getA c ar))) ∧
    (∃ (c : AyrCore) (ar : BitVec 3) (i : BitVec 18) (post : Bool) (adr : Nat),
     straight c ∧ (adr = (if post = true then getA c ar else getA c ar + BitVec.truncate 17 i).toNat)) ∧
    (∃ (c : AyrCore) (dx : BitVec 4) (f : BrFn) (b : Bool),
     straight c ∧
     (f = BrFn.eqz ∧ b = decide (getD_ c dx = 0) ∨ f = BrFn.nez ∧ b = decide (getD_ c dx ≠ 0) ∨ f = BrFn.ltz ∧ b = decide (BitVec.toInt (getD_ c dx) < 0) ∨ f = BrFn.gez ∧ b = decide (0 ≤ BitVec.toInt (getD_ c dx)))) ∧
    (∃ (c : AyrCore) (q : LoopReg) (v : W32),
     straight c ∧
     (q = LoopReg.lc ∧ v = c.lc ∨ q = LoopReg.ls ∧ v = BitVec.zeroExtend 32 c.ls ∨ q = LoopReg.le ∧ v = BitVec.zeroExtend 32 c.le ∨ q = LoopReg.epc ∧ v = BitVec.zeroExtend 32 c.epc)) :=
  ⟨⟨({ state := .running } : AyrCore), (0 : BitVec 4), (0 : BitVec 4), AluFn.add, (getD_ ({ state := .running } : AyrCore) (0 : BitVec 4) + getD_ ({ state := .running } : AyrCore) (0 : BitVec 4) : W32), by unfold straight; decide +kernel, by decide +kernel⟩,
   ⟨({ state := .running } : AyrCore), (0 : BitVec 4), (0 : BitVec 18), ImmFn.add, (getD_ ({ state := .running } : AyrCore) (0 : BitVec 4) + BitVec.signExtend 32 (0 : BitVec 18) : W32), by unfold straight; decide +kernel, by decide +kernel⟩,
   ⟨({ state := .running } : AyrCore), (0 : BitVec 4), (0 : BitVec 5), ShiftFn.shl, (getD_ ({ state := .running } : AyrCore) (0 : BitVec 4) <<< (0 : BitVec 5).toNat : BitVec 32), by unfold straight; decide +kernel, by decide +kernel⟩,
   ⟨({ state := .running } : AyrCore), (0 : BitVec 4), (0 : BitVec 4), MacFn.mul, false, false, (half (getD_ ({ state := .running } : AyrCore) (0 : BitVec 4)) false * half (getD_ ({ state := .running } : AyrCore) (0 : BitVec 4)) false : Int), by unfold straight; decide +kernel, by decide +kernel⟩,
   ⟨({ state := .running } : AyrCore), (0 : BitVec 3), (0 : BitVec 18), MemFn.ld, (dmemWord ({ state := .running } : AyrCore) (getA ({ state := .running } : AyrCore) (0 : BitVec 3) + BitVec.truncate 17 (0 : BitVec 18)) : W32), by unfold straight; decide +kernel, by decide +kernel⟩,
   ⟨({ state := .running } : AyrCore), (0 : BitVec 3), MemFn.ld, (dmemWord ({ state := .running } : AyrCore) (getA ({ state := .running } : AyrCore) (0 : BitVec 3)) : W32), by unfold straight; decide +kernel, by decide +kernel⟩,
   ⟨({ state := .running } : AyrCore), (0 : BitVec 3), (0 : BitVec 18), false, ((if false = true then getA ({ state := .running } : AyrCore) (0 : BitVec 3) else getA ({ state := .running } : AyrCore) (0 : BitVec 3) + BitVec.truncate 17 (0 : BitVec 18)).toNat : Nat), by unfold straight; decide +kernel, by decide +kernel⟩,
   ⟨({ state := .running } : AyrCore), (0 : BitVec 4), BrFn.eqz, (decide (getD_ ({ state := .running } : AyrCore) (0 : BitVec 4) = 0) : Bool), by unfold straight; decide +kernel, by decide +kernel⟩,
   ⟨({ state := .running } : AyrCore), LoopReg.lc, (({ state := .running } : AyrCore).lc : W32), by unfold straight; decide +kernel, by decide +kernel⟩⟩

theorem witness_BeamBlocks :
    (∃ (s : State) (bp : BeamPos) (b : Bundle) (set : Nat) (rk : Nat),
     beamPosAt s s.aba.pos = some bp ∧ bundleOfPos s s.aba.pos = some b ∧ s.aba.consuming = true ∧
     (bp.setParams.getD set { }).tabulated = true ∧ rk < bp.ranks ∧
     ((bp.weights.any fun (w : WeightBlock) => w.set == set && w.rank == rk) = false) ∧ s.aba.frames = [] ∧
     s.pit.damaged = []) ∧
    (∃ (s : State) (j : PromptJob),
     (List.find? (fun (j : PromptJob) => j.volts.isNone) s.beams.jobs = some j) ∧ j.closed.isSome = true ∧
     j.ended = j.units ∧ j.params.pbeam = false) ∧
    (∃ (s : State) (j : PromptJob) (v : List (List (List (Int × Int)))),
     s.beams.jobs.head? = some j ∧ j.volts = some v) ∧
    (∃ (s : State),
     dpRun s = true ∧ s.hop.running = true) ∧
    (∃ (s : State),
     dpRun s = true ∧ s.hop.running = false) :=
  ⟨⟨({ upb with aba.pos := 3, aba.consuming := true, beams.pos := [{ pos := 3, setParams := [{ tabulated := true }], ranks := 1 }] } : State), ({ pos := 3, setParams := [{ tabulated := true }], ranks := 1 } : BeamPos), (({ upb with aba.pos := 3, aba.consuming := true, beams.pos := [{ pos := 3, setParams := [{ tabulated := true }], ranks := 1 }] } : State).bun.active.getD {} : Bundle), (0 : Nat), (0 : Nat), by decide +kernel⟩,
   ⟨({ upb with beams.jobs := [({ num := 1, closed := some {} } : PromptJob)] } : State), ({ num := 1, closed := some {} } : PromptJob), by decide +kernel⟩,
   ⟨({ upb with beams.jobs := [({ num := 1, volts := some [] } : PromptJob)] } : State), ({ num := 1, volts := some [] } : PromptJob), ([] : List (List (List (Int × Int)))), by decide +kernel⟩,
   ⟨({ up with hop.running := true } : State), by decide +kernel⟩,
   ⟨({ up with hop.running := false } : State), by decide +kernel⟩⟩

theorem witness_BeamConfiguration :
    (∃ (r : Req) (t : Nat) (s : State) (u : State) (p : SetParams),
     Takes 1281 r t s u ∧
     p = { tabulated := decide (b8 r 25 = 1), width4 := decide (b8 r 26 = 4), shift := b8 r 27, powerShift := b8 r 28, powerMask := leAt r.arg 0 r.arg.length, base0 := 4096 * b24 r 40, base1 := 4096 * b24 r 43, bank := b8 r 29 } ∧
     r.arg.length = maskBytes u ∧ b8 r 24 < setsNow u ∧ b8 r 25 < 2 ∧ (b8 r 26 = 8 ∨ b8 r 26 = 4) ∧ p.shift ≤ 31 ∧
     p.powerShift ≤ 31 ∧ p.bank ≤ 1 ∧ maskFits (chans u) p.powerMask = true ∧ updateChunkOk u (b64 r 32) = true ∧
     (u.beams.sets.getD (b8 r 24) { }).nextParams = none ∧
     (u.bun.applying = true ∨
  ratesOk
      { pending := u.pending, freeCount := u.freeCount, lanes := u.lanes, seam := u.seam, hop := u.hop, aba := u.aba, tal := u.tal,
        beams :=
          have __src := u.beams;
          { sets := upd u.beams.sets (b8 r 24) fun (x : BeamSet) => { params := x.params, nextParams := some (b64 r 32, p), terms := x.terms }, inputs := __src.inputs, promptTerms := __src.promptTerms, prompt := __src.prompt, nextPrompt := __src.nextPrompt, staged := __src.staged, pos := __src.pos, power := __src.power, jobs := __src.jobs, hist := __src.hist, cause := __src.cause, irqEn := __src.irqEn, clearPending := __src.clearPending, blocks := __src.blocks, pblocks := __src.pblocks, beamSat := __src.beamSat, pbeamSat := __src.pbeamSat, powerSat := __src.powerSat, wstall := __src.wstall, powerGap := __src.powerGap, promptRestart := __src.promptRestart },
        assay := u.assay, ayr := u.ayr, trig := u.trig, hst := u.hst, pit := u.pit, tu := u.tu, cages := u.cages, bell := u.bell, wnd := u.wnd, pwr := u.pwr, shift := u.shift, mon := u.mon, con := u.con, bun := u.bun, sys := u.sys } =
    true)) ∧
    (∃ (r : Req) (t : Nat) (s : State) (u : State) (p : SetParams),
     p = { tabulated := decide (b8 r 25 = 1), width4 := decide (b8 r 26 = 4), shift := b8 r 27, powerShift := b8 r 28, powerMask := leAt r.arg 0 r.arg.length, base0 := 4096 * b24 r 40, base1 := 4096 * b24 r 43, bank := b8 r 29 } ∧
     Takes 1281 r t s u ∧ r.arg.length = maskBytes u ∧
     (setsNow u ≤ b8 r 24 ∨ 1 < b8 r 25 ∨ b8 r 26 ≠ 8 ∧ b8 r 26 ≠ 4 ∨ 31 < b8 r 27 ∨ 31 < b8 r 28 ∨ 1 < b8 r 29 ∨ maskFits (chans u) p.powerMask = false ∨ updateChunkOk u (b64 r 32) = false)) ∧
    (∃ (s : State),
     s.bun.applying = false ∧ s.bun.active = none) ∧
    (∃ (s : State) (sc : Sched),
     s.bun.applying = false ∧ s.bun.active.isSome = true ∧ s.aba.sched = some sc) ∧
    (∃ (r : Req) (t : Nat) (s : State) (u : State),
     Takes 1282 r t s u ∧ b8 r 24 = 1 ∧ r.arg.length = 24 * inputCount u ∧
     (((recordsOf r.arg 0 24 (inputCount u)).any fun (b : List Byte) => decide (leAt b 19 5 ≠ 0)) = false) ∧
     updateChunkOk u (b64 r 32) = true ∧ u.beams.inputs.next = none) ∧
    (∃ (r : Req) (t : Nat) (s : State) (u : State) (b : Bundle),
     Takes 1283 r t s u ∧ u.bun.active = some b ∧ b8 r 24 < setsNow u ∧ b8 r 25 ≤ 1 ∧ b16 r 26 + b16 r 28 ≤ b.channels ∧
     b8 r 30 + b8 r 31 ≤ (activeGroups b).length ∧ b16 r 28 ≠ 0 ∧ b8 r 31 ≠ 0 ∧
     r.arg.length = b16 r 28 * b8 r 31 * weightBlockBytes b.mode ∧
     (u.beams.sets.getD (b8 r 24) { }).params.tabulated = false ∧ (u.beams.sets.getD (b8 r 24) { }).nextParams = none ∧
     weightAddr b (bankBase (u.beams.sets.getD (b8 r 24) { }).params (b8 r 25)) b.channels 0 ≤ pitBytes) ∧
    (∃ (s : State) (k : Nat) (l : List InputTerm),
     s.beams.staged = some (StagedGen.input k l) ∧ s.cages.openCmds = []) ∧
    (∃ (s : State),
     s.beams.staged = none) ∧
    (∃ (r : Req) (t : Nat) (s : State) (u : State) (b : Bundle),
     Takes 1284 r t s u ∧ u.bun.active = some b ∧ (b16 r 40 < 5 ∨ 1000 < b16 r 40)) ∧
    (∃ (r : Req) (t : Nat) (s : State) (u : State) (b : Bundle),
     Takes 1284 r t s u ∧ u.bun.active = some b ∧ 1 ≤ b8 r 24 ∧ b8 r 24 ≤ 16 ∧ 1 ≤ b8 r 25 ∧ b8 r 25 ≤ 64 ∧ b8 r 26 ≤ 31 ∧
     (b8 r 27 = 8 ∨ b8 r 27 = 4) ∧ b8 r 28 ≤ 1 ∧ 5 ≤ b16 r 40 ∧ b16 r 40 ≤ 1000 ∧
     (((ppOf r).channels.all fun (c : Nat) => decide (c < chans u)) = true) ∧ (ppOf r).channels.eraseDups.length = b8 r 24 ∧
     (((ppOf r).delays.all fun (d : Nat) => decide (d ≤ 63)) = true) ∧ updateChunkOk u (b64 r 32) = true ∧
     (((upTo 16).all fun (i : Nat) => decide (i < b8 r 24) || u16 r.arg (2 * i) == 0 && u8 r.arg (32 + i) == 0) = true) ∧
     u.beams.nextPrompt = none ∧ u.bun.applying = false ∧
     (promptFits (chans u) (b8 r 24) (activeGroups b).length (frameCount u) = false ∨ payloadOk b (b8 r 24) (rxCapacity u) = false)) ∧
    (∃ (r : Req) (t : Nat) (s : State) (u : State) (b : Bundle),
     Takes 1284 r t s u ∧ u.bun.active = some b ∧ 1 ≤ b8 r 24 ∧ b8 r 24 ≤ 16 ∧ 1 ≤ b8 r 25 ∧ b8 r 25 ≤ 64 ∧ b8 r 26 ≤ 31 ∧
     (b8 r 27 = 8 ∨ b8 r 27 = 4) ∧ b8 r 28 ≤ 1 ∧ 5 ≤ b16 r 40 ∧ b16 r 40 ≤ 1000 ∧
     (((ppOf r).channels.all fun (c : Nat) => decide (c < chans u)) = true) ∧ (ppOf r).channels.eraseDups.length = b8 r 24 ∧
     (((ppOf r).delays.all fun (d : Nat) => decide (d ≤ 63)) = true) ∧ updateChunkOk u (b64 r 32) = true ∧
     (((upTo 16).all fun (i : Nat) => decide (i < b8 r 24) || u16 r.arg (2 * i) == 0 && u8 r.arg (32 + i) == 0) = true) ∧
     u.beams.nextPrompt = none ∧ u.bun.applying = false ∧
     promptFits (chans u) (b8 r 24) (activeGroups b).length (frameCount u) = true ∧
     payloadOk b (b8 r 24) (rxCapacity u) = true) ∧
    (∃ (r : Req) (t : Nat) (s : State) (u : State) (b : Bundle) (c : Nat) (f : Nat),
     Takes 1284 r t s u ∧ u.bun.active = some b ∧ 0 < c ∧ 0 < f) :=
  ⟨⟨(reqOf [(24, leBytes 1 0), (25, leBytes 1 1), (26, leBytes 1 8), (27, leBytes 1 31), (28, leBytes 1 31), (29, leBytes 1 1)] [0, 0, 0, 0] : Req), (0 : Nat), ({ upb with beams.sets := [{}] } : State), _, ({ tabulated := true, shift := 31, powerShift := 31, bank := 1 } : SetParams), takes_of (by decide +kernel), by decide +kernel⟩,
   ⟨(reqOf [(24, leBytes 1 9)] [0, 0, 0, 0] : Req), (0 : Nat), upb, _, _, rfl, takes_of (by decide +kernel), by decide +kernel⟩,
   ⟨({ upb with bun.applying := false, bun.active := none } : State), by decide +kernel⟩,
   ⟨({ upb with aba.sched := some {} } : State), ({} : Sched), by decide +kernel⟩,
   ⟨(reqOf [(24, leBytes 1 1)] (List.replicate (24 * 64) 0) : Req), (0 : Nat), upb, _, takes_of (by decide +kernel), by decide +kernel⟩,
   ⟨(reqOf [(28, leBytes 2 1), (31, leBytes 1 1)] (List.replicate 8192 0) : Req), (0 : Nat), ({ upb with beams.sets := [{}] } : State), _, (({ upb with beams.sets := [{}] } : State).bun.active.getD {} : Bundle), takes_of (by decide +kernel), by decide +kernel⟩,
   ⟨({ up with beams.staged := some (StagedGen.input (0 : Nat) ([] : List InputTerm)), cages.openCmds := [] } : State), (0 : Nat), ([] : List InputTerm), by decide +kernel⟩,
   ⟨({ up with beams.staged := none } : State), by decide +kernel⟩,
   ⟨(reqOf [(40, leBytes 2 1001)] (List.replicate 48 0) : Req), (0 : Nat), upb, _, (upb.bun.active.getD {} : Bundle), takes_of (by decide +kernel), by decide +kernel⟩,
   ⟨(reqOf [(24, leBytes 1 1), (25, leBytes 1 64), (26, leBytes 1 31), (27, leBytes 1 4), (28, leBytes 1 1), (40, leBytes 2 1000)] (List.replicate 48 0) : Req), (0 : Nat), upb, _, (upb.bun.active.getD {} : Bundle), takes_of (by decide +kernel), by decide +kernel⟩,
   ⟨(reqOf [(24, leBytes 1 1), (25, leBytes 1 64), (26, leBytes 1 31), (27, leBytes 1 4), (28, leBytes 1 1), (40, leBytes 2 1000)] (List.replicate 48 0) : Req), (0 : Nat), ({ modLane 0 (fun l => { l with rxEnabled := true, rxState := .up }) upb with bun.active := some { epoch := 1, source := 5, channels := 16, specPeriod := 2 ^ 48 }, aba.phys := (upTo 36).map (fun i => { inService := decide (i < 9), logical := i }) } : State), _, (({ modLane 0 (fun l => { l with rxEnabled := true, rxState := .up }) upb with bun.active := some { epoch := 1, source := 5, channels := 16, specPeriod := 2 ^ 48 }, aba.phys := (upTo 36).map (fun i => { inService := decide (i < 9), logical := i }) } : State).bun.active.getD {} : Bundle), takes_of (by decide +kernel), by decide +kernel⟩,
   ⟨(reqOf [] (List.replicate 48 0) : Req), (0 : Nat), upb, _, (upb.bun.active.getD {} : Bundle), (1 : Nat), (1 : Nat), takes_of (by decide +kernel), by decide +kernel⟩⟩

theorem witness_BeamRequantised :
    ∃ (s : State) (bp : BeamPos),
     (List.find? (fun (p : BeamPos) => !p.handed) s.beams.pos = some bp) ∧ bp.seen = bp.setParams.length * bp.ranks * 8192 :=
  ⟨({ upb with beams.pos := [({ pos := 3, setParams := [{}], ranks := 1, seen := 8192 } : BeamPos)] } : State), ({ pos := 3, setParams := [{}], ranks := 1, seen := 8192 } : BeamPos), by decide +kernel⟩

theorem witness_BellSources :
    (∃ (s : State) (agent : Nat),
     agentReaches s agent = false) ∧
    (∃ (s : State) (agent : Nat) (t : Nat),
     ownsTarget (bellSync s) agent t = false) ∧
    (∃ (s : State) (agent : Nat) (t : Nat),
     ownsTarget (bellSync s) agent t = true ∧ deliverable (bellSync s).bell t = []) ∧
    (∃ (s : State) (agent : Nat) (t : Nat) (n : Nat),
     ownsTarget (bellSync s) agent t = true ∧ t < s.bell.active.length ∧
     preferred (bellSync s).bell (deliverable (bellSync s).bell t) = some n) ∧
    (∃ (s : State) (agent : Nat) (t : Nat) (n : Nat),
     agentReaches s agent = true ∧ ownsTarget (bellSync s) agent t = true ∧ n ∈ s.bell.active.getD t []) ∧
    (∃ (s : State) (agent : Nat) (t : Nat) (n : Nat),
     agentReaches s agent = true ∧ (ownsTarget (bellSync s) agent t = false ∨ n ∉ s.bell.active.getD t [])) ∧
    (∃ (w : Nat),
     w < 32) ∧
    (∃ (w : Nat),
     29 ≤ w ∧ w ≤ 31) ∧
    (∃ (s : State) (v : Nat),
     bit v 0 ≠ s.bell.claimMode ∧ s.bell.en ≠ 0) ∧
    (∃ (s : State) (v : Nat),
     (bit v 0 = s.bell.claimMode ∨ s.bell.en = 0)) ∧
    (∃ (s : State) (core : Nat),
     agentReaches s (core + 1) = true) ∧
    (∃ (s : State) (core : Nat),
     agentReaches s (core + 1) = false) ∧
    (∃ (b : Bell) (t : Nat) (n : Nat) (m : Nat),
     preferred b (deliverable b t) = some n ∧ m ∈ deliverable b t) :=
  ⟨⟨upb, (2 : Nat), by decide +kernel⟩,
   ⟨up, (0 : Nat), (0 : Nat), by decide +kernel⟩,
   ⟨up, (0 : Nat), (2 : Nat), by decide +kernel⟩,
   ⟨({ up with bell.pend := 8, bell.en := 8, bell.tgtEn := 4, bell.thresh := List.replicate 34 255, bell.route := List.replicate 1024 0x20000 } : State), (0 : Nat), (2 : Nat), (3 : Nat), by decide +kernel⟩,
   ⟨({ up with bell.active := List.replicate 34 [1023] } : State), (0 : Nat), (33 : Nat), (1023 : Nat), by decide +kernel⟩,
   ⟨upb, (0 : Nat), (0 : Nat), (0 : Nat), by decide +kernel⟩,
   ⟨(31 : Nat), by decide +kernel⟩,
   ⟨(31 : Nat), by decide +kernel⟩,
   ⟨({ up with bell.en := 1 } : State), (1 : Nat), by decide +kernel⟩,
   ⟨up, (0 : Nat), by decide +kernel⟩,
   ⟨upb, (0 : Nat), by decide +kernel⟩,
   ⟨upb, (1 : Nat), by decide +kernel⟩,
   ⟨({ pend := 8, en := 8, tgtEn := 4, route := List.replicate 1024 0x20000 } : Bell), (2 : Nat), (3 : Nat), (3 : Nat), by decide +kernel⟩⟩

theorem witness_BootStages :
    (∃ (s : State),
     s.shift.held ≠ Held.none ∧ supplyOn s vin = true ∧ s.pwr.shutOff = false) ∧
    (∃ (s : State),
     s.shift.held = Held.none) ∧
    (∃ (s : State) (c : Nat),
     bootingCore s = some c ∧ s.shift.stage = 0) ∧
    (∃ (s : State),
     atStage 1 s = true ∧ bit s.shift.altered 1 = false) ∧
    (∃ (s : State) (k : Nat),
     atStage 2 s = true ∧ k < 32 ∧ k < s.pit.chans.length) ∧
    (∃ (s : State),
     atStage 3 s = true ∧ firmwareOk s.shift.flash = false) ∧
    (∃ (s : State),
     atStage 4 s = true) ∧
    (∃ (s : State),
     atStage 5 s = true ∧ lanesSettled s = false) ∧
    (∃ (s : State),
     atStage 5 s = true ∧ lanesSettled s = true ∧ ((s.lanes.lane.all fun (l : Lane) => !l.rxEnabled) = true) ∧
     s.bun.coming = none) ∧
    (∃ (s : State),
     atStage 6 s = true ∧ s.tu.out = OutState.locked) ∧
    (∃ (s : State),
     atStage 6 s = true ∧ s.tu.out ≠ OutState.locked) ∧
    (∃ (s : State) (c : Nat),
     bootingCore s = some c ∧ c < 2 ∧ s.shift.stage = 7 ∧ s.shift.bootTo = DevState.noBundle ∧ s.shift.core.length = 2) ∧
    (∃ (s : State) (k : Nat),
     k < s.shift.stages.length) ∧
    (∃ (s : State) (c : Nat),
     (coreAt s (1 - c) = CoreState.off ∨ coreAt s (1 - c) = CoreState.ready) ∧ c < 2 ∧ s.shift.core.length = 2 ∧
     s.shift.bootResume = none) ∧
    (∃ (s : State),
     bit s.shift.ran 7 = false) ∧
    (∃ (s : State) (k : Nat),
     bootingCore s = none ∧ k < 8) ∧
    (∃ (s : State),
     s.pwr.returning = none) ∧
    (∃ (s : State) (k : DpMove),
     s.pwr.returning = some k ∧ s.pwr.retStep = 0 ∧ s.tal.sweep.isSome = true) ∧
    (∃ (s : State) (k : DpMove),
     s.pwr.returning = some k ∧ s.pwr.retStep = 1 ∧ s.tal.sweep.isSome = true) ∧
    (∃ (s : State) (k : DpMove),
     s.pwr.returning = some k ∧ s.pwr.retStep = 2 ∧ lanesSettled s = false) ∧
    (∃ (s : State) (k : DpMove),
     s.pwr.returning = some k ∧ s.pwr.retStep = 2 ∧ lanesSettled s = true) ∧
    (∃ (s : State) (x : Bundle),
     s.bun.coming = none ∧ s.bun.active = some x ∧ returnAdmits x (setCount x) s = false) :=
  ⟨⟨({ State.reset with pwr.shutOff := false } : State), by decide +kernel⟩,
   ⟨({ up with shift.held := Held.none } : State), by decide +kernel⟩,
   ⟨({ (booting 0) with shift.stage := 0 } : State), (0 : Nat), by decide +kernel⟩,
   ⟨(((fun _ => { booting 1 with shift.stage := 1 }) (upb)) : State), by decide +kernel⟩,
   ⟨(((fun _ => { booting 2 with shift.stage := 2 }) (upb)) : State), (31 : Nat), by decide +kernel⟩,
   ⟨({ booting 3 with shift.flash.magic := 0 } : State), by decide +kernel⟩,
   ⟨(((fun _ => { booting 4 with shift.stage := 4 }) (upb)) : State), by decide +kernel⟩,
   ⟨(modLane 0 (fun l => { l with rxEnabled := true, rxState := .search }) { booting 5 with shift.stage := 5 } : State), by decide +kernel⟩,
   ⟨({ ((fun _ => { booting 5 with shift.stage := 5 }) (upb)) with bun.coming := none } : State), by decide +kernel⟩,
   ⟨({ ((fun _ => { booting 6 with shift.stage := 6 }) (upb)) with tu.out := OutState.locked } : State), by decide +kernel⟩,
   ⟨(((fun _ => { booting 6 with shift.stage := 6 }) (upb)) : State), by decide +kernel⟩,
   ⟨({ (booting 0) with shift.stage := 7, shift.bootTo := DevState.noBundle } : State), (0 : Nat), by decide +kernel⟩,
   ⟨upb, (0 : Nat), by decide +kernel⟩,
   ⟨({ ((fun s => { s with shift.core := upd s.shift.core (1 - (1 : Nat)) (fun _ => CoreState.off) }) (upb)) with shift.bootResume := none } : State), (1 : Nat), by decide +kernel⟩,
   ⟨upb, by decide +kernel⟩,
   ⟨up, (7 : Nat), by decide +kernel⟩,
   ⟨({ up with pwr.returning := none } : State), by decide +kernel⟩,
   ⟨({ up with pwr.returning := some .quiesce, tal.sweep := some {} } : State), (.quiesce : DpMove), by decide +kernel⟩,
   ⟨({ up with pwr.returning := some .quiesce, pwr.retStep := 1, tal.sweep := some {} } : State), (.quiesce : DpMove), by decide +kernel⟩,
   ⟨(modLane 0 (fun l => { l with rxEnabled := true, rxState := .search }) { up with pwr.returning := some .quiesce, pwr.retStep := 2 } : State), (.quiesce : DpMove), by decide +kernel⟩,
   ⟨({ upb with pwr.returning := some (.quiesce : DpMove), pwr.retStep := 2 } : State), (.quiesce : DpMove), by decide +kernel⟩,
   ⟨({ upb with bun.coming := none, bun.active := some ({} : Bundle) } : State), ({} : Bundle), by decide +kernel⟩⟩

theorem witness_CageRings :
    (∃ (n : Nat) (v : Nat),
     n < 8 ∧ bit v 0 = true) ∧
    (∃ (n : Nat) (v : Nat),
     n < 8 ∧ bit v 0 = false) ∧
    (∃ (n : Nat),
     8 ≤ n) ∧
    (∃ (s : State) (n : Nat) (v : Nat),
     n < s.cages.cage.length ∧ bit v 0 = true ∧ (cageAt s n).enable = false ∧ (cageAt s n).overflow = []) ∧
    (∃ (s : State) (n : Nat) (v : Nat),
     n < s.cages.cage.length ∧ bit v 0 = false) ∧
    (∃ (s : State) (n : Nat) (tail : Nat),
     2 ^ (cageAt s n).takenReqLog2 ≤ tail) ∧
    (∃ (n : Nat),
     4 ≤ n) ∧
    (∃ (s : State) (n : Nat) (tail : Nat),
     tail < 2 ^ (cageAt s n).takenReqLog2 ∧ (cageAt s n).enable = false) ∧
    (∃ (s : State) (n : Nat) (tail : Nat) (ok : Bool),
     tail < 2 ^ (cageAt s n).takenReqLog2 ∧ n < s.cages.cage.length ∧ (cageAt s n).enable = true ∧
     (ok = false ∨ canSend s = false)) ∧
    (∃ (s : State) (n : Nat) (tail : Nat),
     tail < 2 ^ (cageAt s n).takenReqLog2 ∧ n < 4 ∧ s.cages.cage.length = 8 ∧ (cageAt s n).enable = true ∧
     canSend s = true ∧ cagesOpen s = true ∧ hasRoom s n = true ∧ (cageAt s n).inRing = [] ∧
     (cageAt s n).reqTail < 2 ^ (cageAt s n).takenReqLog2 ∧
     (tail + 2 ^ (cageAt s n).takenReqLog2 - (cageAt s n).reqTail) % 2 ^ (cageAt s n).takenReqLog2 = 1) ∧
    (∃ (s : State) (n : Nat) (head : Nat),
     head < 2 ^ (cageAt s n).takenCplLog2 ∧ n < s.cages.cage.length ∧ (cageAt s n).overflow = [] ∧ (cageAt s n).inRing = []) ∧
    (∃ (s : State) (n : Nat) (head : Nat),
     2 ^ (cageAt s n).takenCplLog2 ≤ head) ∧
    (∃ (s : State),
     firmwareUp s = true) ∧
    (∃ (s : State),
     firmwareUp s = false) ∧
    (∃ (s : State),
     s.shift.resetDue = false) ∧
    (∃ (s : State) (client : Nat) (e : Completion),
     (List.find? (fun (c : Completion) => decide (c.client = client) && mayPost s c) s.cages.ready = some e)) ∧
    (∃ (s : State) (e : Completion),
     e.cage ≤ 3 ∧ s.cages.cage.length = 8 ∧ (cageAt s e.cage).overflow = [] ∧ canWrite s e.cage = true) ∧
    (∃ (s : State) (e : Completion),
     e.cage ≤ 3 ∧ s.cages.cage.length = 8 ∧ canWrite s e.cage = false) ∧
    (∃ (s : State) (n : Nat),
     n < 4 ∧ (cageAt s n).timerOn = true) ∧
    (∃ (s : State) (n : Nat),
     (cageAt s n).timerOn = false) ∧
    (∃ (s : State),
     cagesOpen s = false) ∧
    (∃ (s : State),
     s.cages.fetched = []) ∧
    (∃ (s : State) (r : Req) (rest : List Req),
     s.cages.fetched = r :: rest ∧ mayTake s 0 = true) :=
  ⟨⟨(7 : Nat), (1 : Nat), by decide +kernel⟩,
   ⟨(7 : Nat), (0 : Nat), by decide +kernel⟩,
   ⟨(8 : Nat), by decide +kernel⟩,
   ⟨((modCage (0 : Nat) (fun x => { x with overflow := [] }) ((modCage (0 : Nat) (fun x => { x with enable := false }) (up)))) : State), (0 : Nat), (1 : Nat), by decide +kernel⟩,
   ⟨up, (0 : Nat), (0 : Nat), by decide +kernel⟩,
   ⟨upb, (0 : Nat), (90 : Nat), by decide +kernel⟩,
   ⟨(4 : Nat), by decide +kernel⟩,
   ⟨((modCage (0 : Nat) (fun x => { x with enable := false }) (up)) : State), (0 : Nat), (0 : Nat), by decide +kernel⟩,
   ⟨((modCage (0 : Nat) (fun x => { x with enable := true }) (up)) : State), (0 : Nat), (0 : Nat), false, by decide +kernel⟩,
   ⟨((modCage (3 : Nat) (fun x => { x with inRing := [] }) ((modCage (3 : Nat) (fun x => { x with enable := true }) (up)))) : State), (3 : Nat), (1 : Nat), by decide +kernel⟩,
   ⟨((modCage (0 : Nat) (fun x => { x with inRing := [] }) ((modCage (0 : Nat) (fun x => { x with overflow := [] }) (up)))) : State), (0 : Nat), (0 : Nat), by decide +kernel⟩,
   ⟨upb, (0 : Nat), (90 : Nat), by decide +kernel⟩,
   ⟨up, by decide +kernel⟩,
   ⟨State.reset, by decide +kernel⟩,
   ⟨({ up with shift.resetDue := false } : State), by decide +kernel⟩,
   ⟨({ upb with cages.ready := [({} : Completion)] } : State), (0 : Nat), ({} : Completion), by decide +kernel⟩,
   ⟨(modCage 0 (fun c => { c with enable := true }) up : State), ({} : Completion), by decide +kernel⟩,
   ⟨up, ({} : Completion), by decide +kernel⟩,
   ⟨((modCage (3 : Nat) (fun x => { x with timerOn := true }) (up)) : State), (3 : Nat), by decide +kernel⟩,
   ⟨((modCage (0 : Nat) (fun x => { x with timerOn := false }) (up)) : State), (0 : Nat), by decide +kernel⟩,
   ⟨State.reset, by decide +kernel⟩,
   ⟨({ up with cages.fetched := [] } : State), by decide +kernel⟩,
   ⟨({ up with cages.fetched := (reqOf [] [] : Req) :: ([] : List Req) } : State), (reqOf [] [] : Req), ([] : List Req), by decide +kernel⟩⟩

theorem witness_CaptureRing :
    (∃ (s : State) (stamp : Nat),
     s.trig.capt.state = CaptState.recording ∧ 4096 ≤ stamp % 8192 ∧ stamp / 8192 ≤ consumeChunk s + 1024) ∧
    (∃ (s : State) (stamp : Nat),
     s.trig.capt.state = CaptState.recording ∧ 4096 ≤ stamp % 8192 ∧ consumeChunk s + 1024 < stamp / 8192) ∧
    (∃ (s : State) (stamp : Nat),
     s.trig.capt.state = CaptState.held ∧ 4096 ≤ stamp % 8192 ∧ s.trig.capt.firstChunk = ↑(stamp / 8192)) ∧
    (∃ (s : State) (stamp : Nat),
     s.trig.capt.state = CaptState.held ∧ 4096 ≤ stamp % 8192 ∧ s.trig.capt.firstChunk ≠ ↑(stamp / 8192) ∧
     stamp / 8192 ≤ consumeChunk s + 1024) ∧
    (∃ (s : State) (j : Nat),
     captSelects s j = true ∧ (s.trig.capt.state = CaptState.recording ∨ s.trig.capt.state = CaptState.pending)) ∧
    (∃ (s : State) (j : Nat),
     captSelects s j = true ∧
     (s.trig.capt.state = CaptState.held ∨ s.trig.capt.state = CaptState.readout ∨ s.trig.capt.state = CaptState.done)) ∧
    (∃ (s : State) (j : Nat),
     captSelects s j = false) ∧
    (∃ (s : State) (stamp : Nat),
     (∀ (i : Nat), overwritten s i = false) ∧ s.trig.capt.state = CaptState.recording ∧ stamp % 8192 < 4096 ∧
     stamp / 8192 ≤ consumeChunk s + 1024) ∧
    (∃ (s : State) (j : Nat),
     s.trig.capt.writing ≠ some j) ∧
    (∃ (s : State) (j : Nat),
     s.trig.capt.writing = some j ∧ s.trig.capt.state = CaptState.recording) ∧
    (∃ (s : State),
     s.trig.capt.state = CaptState.pending) :=
  ⟨⟨({ up with trig.capt.state := .recording } : State), (4096 : Nat), by decide +kernel⟩,
   ⟨({ upb with trig.capt.state := CaptState.recording } : State), (10000000 : Nat), by decide +kernel⟩,
   ⟨({ upb with trig.capt.state := CaptState.held, trig.capt.firstChunk := ↑((10000000 : Nat) / 8192) } : State), (10000000 : Nat), by decide +kernel⟩,
   ⟨({ up with trig.capt.state := .held, trig.capt.firstChunk := 7 } : State), (8191 : Nat), by decide +kernel⟩,
   ⟨({ up with trig.capt.state := .recording, trig.capt.cfg.count := 1 } : State), (0 : Nat), by decide +kernel⟩,
   ⟨({ up with trig.capt.state := .held, trig.capt.cfg.count := 1 } : State), (0 : Nat), by decide +kernel⟩,
   ⟨up, (0 : Nat), by decide +kernel⟩,
   ⟨({ up with trig.capt.state := .recording } : State), (0 : Nat), (by intro i; rfl), by decide +kernel⟩,
   ⟨upb, (0 : Nat), by decide +kernel⟩,
   ⟨({ upb with trig.capt.writing := some (0 : Nat), trig.capt.state := CaptState.recording } : State), (0 : Nat), by decide +kernel⟩,
   ⟨({ upb with trig.capt.state := CaptState.pending } : State), by decide +kernel⟩⟩

theorem witness_ChunkBoundaryOrder :
    (∃ (s : State) (opens : Nat) (admitted : List Nat) (stalls : List Nat) (t : Nat) (c : State) (d : State) (e : State) (u : State) (x : State),
     c = boundaryFrames admitted stalls (boundaryClears (judgeWaiting 1 takeData s)) ∧
     (d = if c.hop.first + 3 ≤ opens then endPosition (opens - 3) c else c) ∧
     (e = if d.aba.resumePending = true ∧ ((slotAt d (opens - 2)).pos ≠ opens - 2 ∨ (slotAt d (opens - 2)).state ≠ .sealed) then { d with aba.resumePending := false, aba.state := .running } else d) ∧
     (u = if e.hop.first + 2 ≤ opens then beginPosition (opens - 2) t (deadline (opens - 2) e) else e) ∧
     (x = if u.aba.resumePending = true then { u with aba.resumePending := false, aba.state := .running } else u) ∧
     s.hop.running = true ∧ s.hop.nextOpen = opens) ∧
    (∃ (s : State) (opens : Nat),
     (s.hop.running = false ∨ s.hop.nextOpen ≠ opens)) ∧
    (∃ (s : State) (j : Nat),
     (slotAt s j).pos = j ∧ (slotAt s j).state = SlotState.opened) ∧
    (∃ (s : State),
     consumes s = false ∧ s.bun.changeover = none ∧ s.aba.nextSched = none) :=
  ⟨⟨({ serving 4 upl with aba.resumePending := true } : State), (4 : Nat), ([] : List Nat), ([] : List Nat), (0 : Nat), _, _, _, _, _, rfl, rfl, rfl, rfl, rfl, by decide +kernel⟩,
   ⟨({ upb with hop.running := false } : State), (0 : Nat), by decide +kernel⟩,
   ⟨((modSlot (0 : Nat) (fun x => { x with state := SlotState.opened }) ((modSlot (0 : Nat) (fun x => { x with pos := (0 : Nat) }) (upb)))) : State), (0 : Nat), by decide +kernel⟩,
   ⟨({ upb with bun.changeover := none, aba.nextSched := none } : State), by decide +kernel⟩⟩

theorem witness_CompletionFormed :
    (∃ (r : Req) (e : List Byte),
     e = reqBytes r ∧ Req.wf r = true ∧ r.reachable = true ∧ r.badLen = false ∧ r.peer = 0 ∧ r.origin = (0, 0, 0)) ∧
    (∃ (c : Completion) (e : List Byte),
     e = cplBytes c ∧ c.opcode < 2 ^ 16 ∧ c.tag < 2 ^ 16 ∧ c.client < 2 ^ 16 ∧ c.status < 256 ∧ c.orig < 256 ∧
     c.detail < 256 ∧ c.sideEffects < 2 ^ 16 ∧ c.resLen < 2 ^ 32 ∧ c.commitTime < 2 ^ 64 ∧ c.result.length = 40) ∧
    (∃ (op : Nat) (t : Nat) (r : Req) (a : Reply) (u : State) (v : State),
     v = ended op r t a u ∧ (3 < r.cage ∨ r.host = true ∨ a.block = none ∨ r.resMax = 0)) ∧
    (∃ (op : Nat) (t : Nat) (r : Req) (a : Reply) (u : State) (v : State) (b : List Byte),
     v = ended op r t a u ∧ r.cage ≤ 3 ∧ r.host = false ∧ a.block = some b ∧ 0 < r.resMax) ∧
    (∃ (op : Nat) (t : Nat) (r : Req) (a : Reply) (u : State) (v : State) (b : List Byte),
     v = ended op r t a u ∧ r.cage ≤ 3 ∧ r.host = true ∧ a.block = some b ∧ 0 < r.resMax) :=
  ⟨⟨({ reqOf [] [] with tag := 3 } : Req), _, rfl, by decide +kernel⟩,
   ⟨({ opcode := 65535, tag := 65535, client := 65535, status := 255, orig := 255, detail := 255, sideEffects := 65535, resLen := 2 ^ 32 - 1, commitTime := 2 ^ 64 - 1, result := List.replicate 40 0 } : Completion), _, rfl, by decide +kernel⟩,
   ⟨(0 : Nat), (0 : Nat), (reqOf [] [] : Req), ({} : Reply), up, _, rfl, by decide +kernel⟩,
   ⟨(1 : Nat), (0 : Nat), ({ reqOf [] [] with cage := 0, resMax := 1 } : Req), ({ block := some [1] } : Reply), up, _, ([1] : List Byte), rfl, by decide +kernel⟩,
   ⟨(1 : Nat), (0 : Nat), ({ reqOf [] [] with cage := 0, resMax := 1, host := true } : Req), ({ block := some [1] } : Reply), up, _, ([1] : List Byte), rfl, by decide +kernel⟩⟩

theorem witness_Constellation :
    (∃ (r : Req) (t : Nat) (s : State) (u : State) (cfg : ConstCfg) (l : List Nat),
     Takes 3073 r t s u ∧ conCfg u = some cfg ∧ dpRun u = true ∧ 1 ≤ b8 r 26 ∧ b8 r 26 ≤ 64 ∧
     r.arg.length = 4 * cdiv (2 * b8 r 26) 4 ∧ (l = List.map (fun (i : Nat) => u16 r.arg (2 * i)) (upTo (b8 r 26))) ∧
     (∀ (x : Nat), x ∈ l → x ∈ cfg.members ∧ x ≠ ownSource u) ∧ l.Nodup) ∧
    (∃ (r : Req) (t : Nat) (s : State) (u : State) (cfg : ConstCfg) (l : List Nat),
     Takes 3073 r t s u ∧ (∃ (x : Nat), x ∈ l ∧ (x ∉ cfg.members ∨ x = ownSource u)) ∧ conCfg u = some cfg ∧
     dpRun u = true ∧ 1 ≤ b8 r 26 ∧ b8 r 26 ≤ 64 ∧ r.arg.length = 4 * cdiv (2 * b8 r 26) 4 ∧
     (l = List.map (fun (i : Nat) => u16 r.arg (2 * i)) (upTo (b8 r 26)))) ∧
    (∃ (r : Req) (t : Nat) (s : State) (u : State),
     Takes 3073 r t s u ∧ conCfg u = none ∧ 1 ≤ b8 r 26 ∧ b8 r 26 ≤ 64 ∧ r.arg.length = 4 * cdiv (2 * b8 r 26) 4) ∧
    (∃ (r : Req) (t : Nat) (s : State) (u : State),
     Takes 3074 r t s u) ∧
    (∃ (r : Req) (t : Nat) (s : State) (u : State),
     Takes 3075 r t s u ∧ b8 r 24 ≤ 1 ∧ 20 ≤ b32 r 28 ∧ b32 r 28 ≤ 1000000 ∧
     ((peerOf u (b16 r 26)).isSome = true ∨ ownId u = some (b16 r 26))) ∧
    (∃ (r : Req) (t : Nat) (s : State) (u : State),
     Takes 3075 r t s u ∧ (1 < b8 r 24 ∨ b32 r 28 < 20 ∨ 1000000 < b32 r 28)) ∧
    (∃ (n : Nat) (now : Nat) (s : State) (p : Peer),
     peerOf s n = some p ∧ dpRun s = true ∧ s.con.joined = true ∧ p.state ≠ 3 ∧
     max (p.lastAt.getD 0) p.since + 3000000000 * 65536 ≤ now) ∧
    (∃ (n : Nat) (now : Nat) (s : State) (p : Peer),
     peerOf s n = some p ∧ now < max (p.lastAt.getD 0) p.since + 3000000000 * 65536) ∧
    (∃ (n : Nat) (s : State),
     peerOf s n = none) ∧
    (∃ (s : State),
     s.con.due = false) ∧
    (∃ (s : State),
     s.con.due = true ∧ dpRun s = true ∧ s.shift.onShift < 2 ∧ s.con.joined = true ∧ hostStops s = true) ∧
    (∃ (s : State),
     s.con.due = true ∧ dpRun s = true ∧ s.shift.onShift < 2 ∧ s.con.joined = true ∧ hostStops s = false ∧ s.con.hold = true) ∧
    (∃ (s : State) (p : Peer) (b : Bundle),
     s.con.due = true ∧ dpRun s = true ∧ s.shift.onShift < 2 ∧ s.con.joined = true ∧ hostStops s = false ∧
     s.con.hold = false ∧ s.con.leader.bind (peerOf s) = some p ∧ s.bun.active = some b) ∧
    (∃ (s : State),
     (s.con.newly = 0 ∨ 2 ≤ s.shift.onShift)) ∧
    (∃ (s : State) (cfg : ConstCfg),
     s.con.newly ≠ 0 ∧ s.shift.onShift < 2 ∧ conCfg s = some cfg) ∧
    (∃ (s : State),
     dpRun s = false) ∧
    (∃ (s : State) (lane : Nat),
     takeDelivered lane 4 s = none) ∧
    (∃ (s : State) (u : State) (lane : Nat) (b : List Byte),
     takeDelivered lane 4 s = some (b, u) ∧ peerOf u (hSource b) = none) ∧
    (∃ (s : State) (u : State) (lane : Nat) (b : List Byte) (p : Peer),
     takeDelivered lane 4 s = some (b, u) ∧ peerOf u (hSource b) = some p ∧ u16 (hPayload b) 6 ≠ u.con.number) ∧
    (∃ (s : State) (u : State) (lane : Nat) (b : List Byte) (p : Peer),
     takeDelivered lane 4 s = some (b, u) ∧ peerOf u (hSource b) = some p ∧ u.con.joined = true ∧
     u16 (hPayload b) 6 = u.con.number ∧ (ownId u = some (hDest b) ∨ hDest b = 4095)) ∧
    (∃ (k : Nat) (p : Peer) (j : Nat),
     k < 4 ∧ p.kinds.length = 4 ∧ p.differ.length = 4 ∧ p.agree.length = 4 ∧ j ≠ k) ∧
    (∃ (ingress : Nat) (p : Peer) (body : List Byte) (t1 : Nat) (t2 : Int) (t3 : Int),
     (List.find? (fun (x : Nat × Nat) => x.fst == u16 body 56) p.sent = some (u16 body 56, t1)) ∧
     t2 = nearestRx t1 (u48 body 58) ∧ t3 = ↑((u48 body 44 * 1000000000 + u32 body 50) * 65536 + u16 body 54) ∧
     (t3 - ↑ingress).natAbs < 1000000000 * 65536) :=
  ⟨⟨(reqOf [(26, leBytes 1 2)] [7, 0, 9, 0] : Req), (0 : Nat), joined, _, ({ members := [5, 7, 9] } : ConstCfg), ([7, 9] : List Nat), takes_of (by decide +kernel), by decide +kernel⟩,
   ⟨(reqOf [(26, leBytes 1 2)] [7, 0, 5, 0] : Req), (0 : Nat), joined, _, ({ members := [5, 7, 9] } : ConstCfg), ([7, 5] : List Nat), takes_of (by decide +kernel), (by exact ⟨5, by decide +kernel⟩), by decide +kernel⟩,
   ⟨(reqOf [(26, leBytes 1 1)] [7, 0, 0, 0] : Req), (0 : Nat), upb, _, takes_of (by decide +kernel), by decide +kernel⟩,
   ⟨(reqOf [] [] : Req), (0 : Nat), up, _, takes_of (by decide +kernel)⟩,
   ⟨(reqOf [(24, leBytes 1 1), (26, leBytes 2 7), (28, leBytes 4 1000000)] [] : Req), (0 : Nat), joined, _, takes_of (by decide +kernel), by decide +kernel⟩,
   ⟨(reqOf [(24, leBytes 1 2)] [] : Req), (0 : Nat), up, _, takes_of (by decide +kernel), by decide +kernel⟩,
   ⟨(7 : Nat), (3000000000 * 65536 : Nat), joined, ({ source := 7 } : Peer), by decide +kernel⟩,
   ⟨(7 : Nat), (3000000000 * 65536 : Nat), ({ joined with con.peers := [({ source := 7, lastAt := some 1 } : Peer)] } : State), ({ source := 7, lastAt := some 1 } : Peer), by decide +kernel⟩,
   ⟨(0 : Nat), up, by decide +kernel⟩,
   ⟨({ up with con.due := false } : State), by decide +kernel⟩,
   ⟨({ joined with con.due := true, cages.openCmds := [{ req := { reqOf [] [] with opcode := 0x0402 } }] } : State), by decide +kernel⟩,
   ⟨({ up with con.due := true, con.joined := true, con.hold := true } : State), by decide +kernel⟩,
   ⟨({ joined with con.due := true, con.leader := some 7 } : State), ({ source := 7 } : Peer), (({ joined with con.due := true, con.leader := some 7 } : State).bun.active.getD {} : Bundle), by decide +kernel⟩,
   ⟨({ up with con.newly := 0 } : State), by decide +kernel⟩,
   ⟨({ joined with con.newly := 2 } : State), ({ members := [5, 7, 9] } : ConstCfg), by decide +kernel⟩,
   ⟨({ up with sys.dp := .off } : State), by decide +kernel⟩,
   ⟨up, (0 : Nat), by decide +kernel⟩,
   ⟨(deliver (beaconPkt 5 : List Byte) upb : State), (tookOf 4 (deliver (beaconPkt 5 : List Byte) upb : State) : State), (0 : Nat), (beaconPkt 5 : List Byte), by decide +kernel⟩,
   ⟨(deliver (beaconPkt 5 : List Byte) { joined with con.number := 3 } : State), (tookOf 4 (deliver (beaconPkt 5 : List Byte) { joined with con.number := 3 } : State) : State), (0 : Nat), (beaconPkt 5 : List Byte), ({ source := 7 } : Peer), by decide +kernel⟩,
   ⟨(deliver (beaconPkt 5 : List Byte) joined : State), (tookOf 4 (deliver (beaconPkt 5 : List Byte) joined : State) : State), (0 : Nat), (beaconPkt 5 : List Byte), ({ source := 7 } : Peer), by decide +kernel⟩,
   ⟨(3 : Nat), ({} : Peer), (0 : Nat), by decide +kernel⟩,
   ⟨(0 : Nat), ({ sent := [(u16 ([] : List Byte) 56, (0 : Nat))] } : Peer), ([] : List Byte), (0 : Nat), (nearestRx (0 : Nat) (u48 ([] : List Byte) 58) : Int), (↑((u48 ([] : List Byte) 44 * 1000000000 + u32 ([] : List Byte) 50) * 65536 + u16 ([] : List Byte) 54) : Int), by decide +kernel⟩⟩

theorem witness_ControlMessages :
    (∃ (s : State) (s' : State) (lane : Nat) (b : List Byte),
     takeDelivered lane 3 s = some (b, s') ∧ hMessage b = true ∧ ownId s ≠ some (hDest b)) ∧
    (∃ (s : State) (s' : State) (lane : Nat) (b : List Byte) (p : Party),
     takeDelivered lane 3 s = some (b, s') ∧ hMessage b = true ∧ ownId s = some (hDest b) ∧
     (p = if hAckValid b = true then releaseAcked s'.seam.session (hAckSession b) (hAck b) (partyAt s' (hSource b)) else partyAt s' (hSource b)) ∧
     p.session = some (hSession b) ∧ hSeq b ≠ p.expected ∧ seqAfter p.expected (hSeq b) = true) ∧
    (∃ (s : State) (s' : State) (lane : Nat) (b : List Byte) (p : Party),
     takeDelivered lane 3 s = some (b, s') ∧ hMessage b = true ∧ ownId s = some (hDest b) ∧
     (p = if hAckValid b = true then releaseAcked s'.seam.session (hAckSession b) (hAck b) (partyAt s' (hSource b)) else partyAt s' (hSource b)) ∧
     p.session = some (hSession b) ∧ hSeq b ≠ p.expected ∧ seqAfter p.expected (hSeq b) = false) ∧
    (∃ (s : State) (s' : State) (lane : Nat) (b : List Byte) (p : Party),
     (p = if hAckValid b = true then releaseAcked s'.seam.session (hAckSession b) (hAck b) (partyAt s' (hSource b)) else partyAt s' (hSource b)) ∧
     takeDelivered lane 3 s = some (b, s') ∧ hMessage b = true ∧ ownId s = some (hDest b) ∧ p.session ≠ some (hSession b) ∧
     hSync b = false) ∧
    (∃ (s : State) (s' : State) (lane : Nat) (b : List Byte) (p : Party),
     takeDelivered lane 3 s = some (b, s') ∧ hMessage b = true ∧ ownId s = some (hDest b) ∧
     (p = if hAckValid b = true then releaseAcked s'.seam.session (hAckSession b) (hAck b) (partyAt s' (hSource b)) else partyAt s' (hSource b)) ∧
     p.session = some (hSession b) ∧ hSeq b = p.expected ∧ s'.seam.inbox.length < 64) ∧
    (∃ (s : State) (s' : State) (lane : Nat) (b : List Byte) (p : Party),
     takeDelivered lane 3 s = some (b, s') ∧ hMessage b = true ∧ ownId s = some (hDest b) ∧
     (p = if hAckValid b = true then releaseAcked s'.seam.session (hAckSession b) (hAck b) (partyAt s' (hSource b)) else partyAt s' (hSource b)) ∧
     p.session = some (hSession b) ∧ hSeq b = p.expected ∧ 64 ≤ s'.seam.inbox.length) ∧
    (∃ (s : State) (s' : State) (lane : Nat) (b : List Byte) (p : Party),
     (p = if hAckValid b = true then releaseAcked s'.seam.session (hAckSession b) (hAck b) (partyAt s' (hSource b)) else partyAt s' (hSource b)) ∧
     takeDelivered lane 3 s = some (b, s') ∧ hMessage b = true ∧ ownId s = some (hDest b) ∧ p.session ≠ some (hSession b) ∧
     hSync b = true ∧ s'.seam.inbox.length < 64) ∧
    (∃ (s : State),
     2 ≤ s.shift.onShift) ∧
    (∃ (s : State),
     s.seam.inbox = []) ∧
    (∃ (s : State),
     s.shift.onShift < 2) ∧
    (∃ (m : List Byte),
     u16 m 0 = 32) ∧
    (∃ (m : List Byte),
     u16 m 0 ≠ 1 ∧ u16 m 0 ≠ 2 ∧ u16 m 0 ≠ 32) ∧
    (∃ (peer : Nat) (m : List Byte) (s : State),
     u16 m 0 = 2 ∧ answered s peer (completionOfBytes (List.drop 8 m)) = none) ∧
    (∃ (peer : Nat) (m : List Byte) (s : State) (f : Forwarded),
     u16 m 0 = 2 ∧ answered s peer (completionOfBytes (List.drop 8 m)) = some f) ∧
    (∃ (m : List Byte) (s : State),
     u16 m 0 = 1 ∧ hasRoom s 7 = true) :=
  ⟨⟨((deliver (ctlPkt 0 true none true : List Byte) (up)) : State), (tookOf 3 ((deliver (ctlPkt 0 true none true : List Byte) (up)) : State) : State), (0 : Nat), (ctlPkt 0 true none true : List Byte), by decide +kernel⟩,
   ⟨(known (deliver (ctlPkt 2 false none true : List Byte) upb) : State), (tookOf 3 (known (deliver (ctlPkt 2 false none true : List Byte) upb) : State) : State), (0 : Nat), (ctlPkt 2 false none true : List Byte), (partyAt (tookOf 3 (known (deliver (ctlPkt 2 false none true : List Byte) upb) : State) : State) 7 : Party), by decide +kernel⟩,
   ⟨(known (deliver (ctlPkt 4 false none true : List Byte) upb) : State), (tookOf 3 (known (deliver (ctlPkt 4 false none true : List Byte) upb) : State) : State), (0 : Nat), (ctlPkt 4 false none true : List Byte), (partyAt (tookOf 3 (known (deliver (ctlPkt 4 false none true : List Byte) upb) : State) : State) 7 : Party), by decide +kernel⟩,
   ⟨((deliver (ctlPkt 0 false none true : List Byte) (upb)) : State), (tookOf 3 ((deliver (ctlPkt 0 false none true : List Byte) (upb)) : State) : State), (0 : Nat), (ctlPkt 0 false none true : List Byte), _, rfl, by decide +kernel⟩,
   ⟨({ known (deliver (ctlPkt 3 false none true : List Byte) upb) with seam.inbox := List.replicate 63 default } : State), (tookOf 3 ({ known (deliver (ctlPkt 3 false none true : List Byte) upb) with seam.inbox := List.replicate 63 default } : State) : State), (0 : Nat), (ctlPkt 3 false none true : List Byte), (partyAt (tookOf 3 ({ known (deliver (ctlPkt 3 false none true : List Byte) upb) with seam.inbox := List.replicate 63 default } : State) : State) 7 : Party), by decide +kernel⟩,
   ⟨({ known (deliver (ctlPkt 3 false none true : List Byte) upb) with seam.inbox := List.replicate 64 default } : State), (tookOf 3 ({ known (deliver (ctlPkt 3 false none true : List Byte) upb) with seam.inbox := List.replicate 64 default } : State) : State), (0 : Nat), (ctlPkt 3 false none true : List Byte), (partyAt (tookOf 3 ({ known (deliver (ctlPkt 3 false none true : List Byte) upb) with seam.inbox := List.replicate 64 default } : State) : State) 7 : Party), by decide +kernel⟩,
   ⟨((deliver (ctlPkt 0 true none true : List Byte) (upb)) : State), (tookOf 3 ((deliver (ctlPkt 0 true none true : List Byte) (upb)) : State) : State), (0 : Nat), (ctlPkt 0 true none true : List Byte), _, rfl, by decide +kernel⟩,
   ⟨({ upb with shift.onShift := 2 + 1 } : State), by decide +kernel⟩,
   ⟨({ upb with seam.inbox := [] } : State), by decide +kernel⟩,
   ⟨upb, by decide +kernel⟩,
   ⟨([32, 0] : List Byte), by decide +kernel⟩,
   ⟨([] : List Byte), by decide +kernel⟩,
   ⟨(7 : Nat), ([2, 0] : List Byte), up, by decide +kernel⟩,
   ⟨(7 : Nat), ([2] ++ List.replicate 71 0 : List Byte), ({ up with cages.forwards := [({ peer := 7, req := { reqOf [] [] with client := 0, tag := 0 } } : Forwarded)] } : State), ({ peer := 7, req := { reqOf [] [] with client := 0, tag := 0 } } : Forwarded), by decide +kernel⟩,
   ⟨([1, 0] : List Byte), up, by decide +kernel⟩⟩

theorem witness_ControlWindow :
    (∃ (s : State) (lane : Nat) (b : List Byte) (s' : State),
     takeDelivered lane 3 s = some (b, s') ∧ hMessage b = false ∧ ownId s = some (hDest b) ∧ hAckValid b = true) ∧
    (∃ (s : State) (lane : Nat) (b : List Byte) (s' : State),
     takeDelivered lane 3 s = some (b, s') ∧ hMessage b = false ∧ ownId s ≠ some (hDest b)) ∧
    (∃ (n : Nat),
     n < 64) ∧
    (∃ (s : State) (id : Nat),
     upstreamSource s id = true ∧ returnLanes s id = []) ∧
    (∃ (s : State) (id : Nat),
     upstreamSource s id = true ∧ returnLanes s id ≠ []) ∧
    (∃ (s : State) (id : Nat),
     upstreamSource s id = false ∧ (pathUp s 0 = true ∨ s.hst.dual = true ∧ pathUp s 1 = true)) ∧
    (∃ (s : State) (id : Nat),
     upstreamSource s id = false ∧ pathUp s 0 = false ∧ (s.hst.dual = false ∨ pathUp s 1 = false)) ∧
    (∃ (s : State) (id : Nat) (v : State),
     launch id (controlPacket (ownSource s) (epochNow s) id s.seam.session (partyAt s id).nextSeq false (ackOf (partyAt s id)) none) s = some v ∧
     dpRun s = true ∧ (partyAt s id).ackDue = true) ∧
    (∃ (s : State) (id : Nat) (m : CtlMsg) (v : State),
     launch id (controlPacket (ownSource s) (epochNow s) id s.seam.session m.seq m.sync (ackOf (partyAt s id)) (some m.msg)) s = some v ∧
     dpRun s = true ∧ nextToSend (partyAt s id) = some m) ∧
    (∃ (s : State) (id : Nat),
     (∀ (pkt : List Byte), launch id pkt s = none)) ∧
    (∃ (s : State) (id : Nat),
     dpRun s = true ∧ (partyAt s id).window ≠ [] ∧ ((partyAt s id).resends < 8 ∨ (partyAt s id).unreachable = true)) ∧
    (∃ (s : State) (id : Nat),
     dpRun s = true ∧ (partyAt s id).window ≠ [] ∧ 8 ≤ (partyAt s id).resends ∧ (partyAt s id).unreachable = false ∧
     (∀ (f : Forwarded), f ∈ s.cages.forwards → f.peer ≠ id)) ∧
    (∃ (s : State) (id : Nat) (f : Forwarded) (v : State),
     v = setParty { partyAt s id with unreachable := true } s ∧ dpRun s = true ∧ (partyAt s id).window ≠ [] ∧
     8 ≤ (partyAt s id).resends ∧ (partyAt s id).unreachable = false ∧ s.cages.forwards = [f] ∧ f.peer = id) ∧
    (∃ (session : Nat) (ackSession : Nat) (ack : Nat) (p : Party),
     (releaseAcked session ackSession ack p).window.length < p.window.length) ∧
    (∃ (session : Nat) (ackSession : Nat),
     ackSession ≠ session) :=
  ⟨⟨((deliver (ctlPkt 0 false (some (1, 0)) false : List Byte) (upb)) : State), (0 : Nat), (ctlPkt 0 false (some (1, 0)) false : List Byte), (tookOf 3 ((deliver (ctlPkt 0 false (some (1, 0)) false : List Byte) (upb)) : State) : State), by decide +kernel⟩,
   ⟨((deliver (ctlPkt 0 false (some (1, 0)) false : List Byte) (up)) : State), (0 : Nat), (ctlPkt 0 false (some (1, 0)) false : List Byte), (tookOf 3 ((deliver (ctlPkt 0 false (some (1, 0)) false : List Byte) (up)) : State) : State), by decide +kernel⟩,
   ⟨(63 : Nat), by decide +kernel⟩,
   ⟨upb, (7 : Nat), by decide +kernel⟩,
   ⟨(sending 0 3 upb : State), (7 : Nat), by decide +kernel⟩,
   ⟨(sending 0 1 up : State), (7 : Nat), by decide +kernel⟩,
   ⟨({ upb with hst.dual := false } : State), (0 : Nat), by decide +kernel⟩,
   ⟨(party { ackDue := true } (sending 0 1 up) : State), (7 : Nat), ((launch (7 : Nat) (controlPacket (ownSource (party { ackDue := true } (sending 0 1 up) : State)) (epochNow (party { ackDue := true } (sending 0 1 up) : State)) (7 : Nat) (party { ackDue := true } (sending 0 1 up) : State).seam.session (partyAt (party { ackDue := true } (sending 0 1 up) : State) (7 : Nat)).nextSeq false (ackOf (partyAt (party { ackDue := true } (sending 0 1 up) : State) (7 : Nat))) none) (party { ackDue := true } (sending 0 1 up) : State)).getD (party { ackDue := true } (sending 0 1 up) : State) : State), rfl, by decide +kernel⟩,
   ⟨(party { window := [{}] } (sending 0 1 up) : State), (7 : Nat), ({} : CtlMsg), ((launch (7 : Nat) (controlPacket (ownSource (party { window := [{}] } (sending 0 1 up) : State)) (epochNow (party { window := [{}] } (sending 0 1 up) : State)) (7 : Nat) (party { window := [{}] } (sending 0 1 up) : State).seam.session ({} : CtlMsg).seq ({} : CtlMsg).sync (ackOf (partyAt (party { window := [{}] } (sending 0 1 up) : State) (7 : Nat))) (some ({} : CtlMsg).msg)) (party { window := [{}] } (sending 0 1 up) : State)).getD (party { window := [{}] } (sending 0 1 up) : State) : State), rfl, by decide +kernel⟩,
   ⟨(party { window := [{}] } up : State), (7 : Nat), (by intro pkt; rfl)⟩,
   ⟨(party { window := [{}], resends := 7 } up : State), (7 : Nat), by decide +kernel⟩,
   ⟨(party { window := [{}], resends := 8 } up : State), (7 : Nat), by decide +kernel⟩,
   ⟨({ party { window := [{}], resends := 8 } up with cages.forwards := [({ peer := 7 } : Forwarded)] } : State), (7 : Nat), ({ peer := 7 } : Forwarded), _, rfl, by decide +kernel⟩,
   ⟨(1 : Nat), (1 : Nat), (0 : Nat), ({ window := [{ sent := true, queued := false }] } : Party), by decide +kernel⟩,
   ⟨(0 : Nat), (1 : Nat), by decide +kernel⟩⟩

theorem witness_DataPacketJudged :
    (∃ (s : State) (s' : State) (lane : Nat) (typ : Nat) (b : List Byte),
     takeDelivered lane typ s = some (b, s')) ∧
    (∃ (s : State) (s' : State) (lane : Nat) (b : List Byte),
     takeDelivered lane 1 s = some (b, s') ∧ foreign s' b = true) ∧
    (∃ (s : State) (s' : State) (lane : Nat) (b : List Byte),
     takeDelivered lane 1 s = some (b, s') ∧ foreign s' b = false ∧ misroute s' b ≠ 0) ∧
    (∃ (s : State) (s' : State) (lane : Nat) (b : List Byte),
     takeDelivered lane 1 s = some (b, s') ∧ foreign s' b = false ∧ misroute s' b = 0 ∧ s'.hop.running = true ∧
     s'.hop.first ≤ dataPos s' b ∧ s'.hop.nextOpen ≤ dataPos s' b) ∧
    (∃ (s : State) (s' : State) (lane : Nat) (b : List Byte),
     takeDelivered lane 1 s = some (b, s') ∧ foreign s' b = false ∧ misroute s' b = 0 ∧
     (s'.hop.running = false ∨ dataPos s' b < s'.hop.first ∨ dataPos s' b < s'.hop.nextOpen ∧ ((slotAt s' (dataPos s' b)).pos ≠ dataPos s' b ∨ (slotAt s' (dataPos s' b)).state = SlotState.sealed ∨ (slotAt s' (dataPos s' b)).state = SlotState.consuming))) ∧
    (∃ (s : State) (s' : State) (lane : Nat) (b : List Byte),
     takeDelivered lane 1 s = some (b, s') ∧ foreign s' b = false ∧ misroute s' b = 0 ∧ s'.hop.running = true ∧
     s'.hop.first ≤ dataPos s' b ∧ dataPos s' b < s'.hop.nextOpen ∧ (slotAt s' (dataPos s' b)).pos = dataPos s' b ∧
     ((slotAt s' (dataPos s' b)).state = SlotState.complete ∨ (slotAt s' (dataPos s' b)).state = SlotState.opened ∧ ((slotAt s' (dataPos s' b)).placed.any fun (p : Placed) => p.group == hGroup b && p.block == dataBlock b) = true)) ∧
    (∃ (s : State) (s' : State) (lane : Nat) (b : List Byte),
     takeDelivered lane 1 s = some (b, s') ∧ foreign s' b = false ∧ misroute s' b = 0 ∧ s'.hop.running = true ∧
     s'.hop.first ≤ dataPos s' b ∧ dataPos s' b < s'.hop.nextOpen ∧ (slotAt s' (dataPos s' b)).pos = dataPos s' b ∧
     (slotAt s' (dataPos s' b)).state = SlotState.opened ∧
     (((slotAt s' (dataPos s' b)).placed.any fun (p : Placed) => p.group == hGroup b && p.block == dataBlock b) = false)) ∧
    (∃ (s : State) (b : List Byte),
     bundleAt s (hIndex b) = none) ∧
    (∃ (s : State) (b : List Byte) (u : Bundle),
     bundleAt s (hIndex b) = some u ∧ bit u.groups (hGroup b) = false) ∧
    (∃ (s : State) (b : List Byte) (u : Bundle),
     bundleAt s (hIndex b) = some u ∧ bit u.groups (hGroup b) = true ∧ hSource b ∉ u.permit.getD (hGroup b) []) ∧
    (∃ (s : State) (b : List Byte) (u : Bundle),
     bundleAt s (hIndex b) = some u ∧ bit u.groups (hGroup b) = true ∧ hSource b ∈ u.permit.getD (hGroup b) [] ∧
     u.channels ≤ hChannel b) ∧
    (∃ (s : State) (b : List Byte) (u : Bundle),
     bundleAt s (hIndex b) = some u ∧ bit u.groups (hGroup b) = true ∧ hSource b ∈ u.permit.getD (hGroup b) [] ∧
     hChannel b < u.channels) :=
  ⟨⟨(deliver (dataPkt 1 1 0 0 0 : List Byte) upb : State), (tookOf 1 (deliver (dataPkt 1 1 0 0 0 : List Byte) upb : State) : State), (0 : Nat), (1 : Nat), (dataPkt 1 1 0 0 0 : List Byte), by decide +kernel⟩,
   ⟨((deliver (dataPkt 1 2 0 0 0 : List Byte) (upb)) : State), (tookOf 1 ((deliver (dataPkt 1 2 0 0 0 : List Byte) (upb)) : State) : State), (0 : Nat), (dataPkt 1 2 0 0 0 : List Byte), by decide +kernel⟩,
   ⟨((deliver (dataPkt 1 1 3 0 0 : List Byte) (upb)) : State), (tookOf 1 ((deliver (dataPkt 1 1 3 0 0 : List Byte) (upb)) : State) : State), (0 : Nat), (dataPkt 1 1 3 0 0 : List Byte), by decide +kernel⟩,
   ⟨(serving 1 (deliver (dataPkt 1 1 0 0 8192 : List Byte) upb) : State), (tookOf 1 (serving 1 (deliver (dataPkt 1 1 0 0 8192 : List Byte) upb) : State) : State), (0 : Nat), (dataPkt 1 1 0 0 8192 : List Byte), by decide +kernel⟩,
   ⟨((deliver (dataPkt 1 1 0 0 0 : List Byte) (upb)) : State), (tookOf 1 ((deliver (dataPkt 1 1 0 0 0 : List Byte) (upb)) : State) : State), (0 : Nat), (dataPkt 1 1 0 0 0 : List Byte), by decide +kernel⟩,
   ⟨(modSlot 0 (fun x => { x with state := .complete }) (serving 1 (deliver (dataPkt 1 1 0 0 0 : List Byte) upb)) : State), (tookOf 1 (modSlot 0 (fun x => { x with state := .complete }) (serving 1 (deliver (dataPkt 1 1 0 0 0 : List Byte) upb)) : State) : State), (0 : Nat), (dataPkt 1 1 0 0 0 : List Byte), by decide +kernel⟩,
   ⟨(modSlot 0 (fun x => { x with state := .opened }) (serving 1 (deliver (dataPkt 1 1 0 0 0 : List Byte) upb)) : State), (tookOf 1 (modSlot 0 (fun x => { x with state := .opened }) (serving 1 (deliver (dataPkt 1 1 0 0 0 : List Byte) upb)) : State) : State), (0 : Nat), (dataPkt 1 1 0 0 0 : List Byte), by decide +kernel⟩,
   ⟨up, ([] : List Byte), by decide +kernel⟩,
   ⟨upb, (dataPkt 1 1 3 0 0 : List Byte), (upb.bun.active.getD {} : Bundle), by decide +kernel⟩,
   ⟨({ up with bun.active := some { epoch := 1, source := 5, specPeriod := 2 ^ 40, permit := [[8]] } } : State), (dataPkt 1 1 0 0 0 : List Byte), (({ up with bun.active := some { epoch := 1, source := 5, specPeriod := 2 ^ 40, permit := [[8]] } } : State).bun.active.getD {} : Bundle), by decide +kernel⟩,
   ⟨upb, (dataPkt 1 1 0 5 0 : List Byte), (upb.bun.active.getD {} : Bundle), by decide +kernel⟩,
   ⟨upb, (dataPkt 1 1 0 0 0 : List Byte), (upb.bun.active.getD {} : Bundle), by decide +kernel⟩⟩

theorem witness_DeviceAndBundles :
    (∃ (r : Req) (t : Nat) (s : State) (u : State),
     Takes 257 r t s u) ∧
    (∃ (r : Req) (t : Nat) (s : State) (u : State),
     Takes 258 r t s u) ∧
    (∃ (r : Req) (t : Nat) (s : State) (u : State),
     Takes 261 r t s u) ∧
    (∃ (r : Req) (t : Nat) (s : State) (u : State),
     Takes 515 r t s u) ∧
    (∃ (r : Req) (t : Nat) (s : State) (u : State) (b : Bundle),
     Takes 1028 r t s u ∧ u.bun.active = some b) ∧
    (∃ (r : Req) (t : Nat) (s : State) (u : State),
     Takes 1028 r t s u ∧ u.bun.active = none) ∧
    (∃ (r : Req) (t : Nat) (s : State) (u : State),
     Takes 1029 r t s u ∧ b8 r 24 < 2 ∧ 1 ≤ b8 r 25 ∧ b8 r 25 ≤ 32 ∧ b8 r 27 ≤ 16 ∧ 1 ≤ b32 r 28 ∧ b32 r 28 ≤ 62500000 ∧
     1 ≤ b16 r 32 ∧ b16 r 32 ≤ 4096) ∧
    (∃ (r : Req) (t : Nat) (s : State) (u : State),
     Takes 1029 r t s u ∧ b8 r 24 = 2 ∧ 1 ≤ b8 r 25 ∧ b8 r 25 ≤ 32 ∧ b8 r 27 ≤ 16 ∧ 1 ≤ b32 r 28 ∧ b32 r 28 ≤ 62500000 ∧
     1 ≤ b16 r 32 ∧ b16 r 32 ≤ 4096 ∧ b8 r 34 + b8 r 35 = b8 r 25) ∧
    (∃ (r : Req) (t : Nat) (s : State) (u : State) (b : Bundle),
     Takes 1029 r t s u ∧ b8 r 24 = 3 ∧ u.bun.active = some b) ∧
    (∃ (r : Req) (t : Nat) (s : State) (u : State),
     Takes 1029 r t s u ∧ (3 < b8 r 24 ∨ b8 r 24 < 3 ∧ 32 < b8 r 25)) ∧
    (∃ (r : Req) (t : Nat) (s : State) (u : State) (o : OpenCmd),
     Takes 260 r t s u ∧
     (List.find? (fun (x : OpenCmd) => x.req.client == r.client && x.req.tag == b16 r 24) u.cages.openCmds = some o) ∧
     o.phase ≠ CmdPhase.committed) ∧
    (∃ (r : Req) (t : Nat) (s : State) (u : State) (o : OpenCmd),
     Takes 260 r t s u ∧
     (List.find? (fun (x : OpenCmd) => x.req.client == r.client && x.req.tag == b16 r 24) u.cages.openCmds = some o) ∧
     o.phase = CmdPhase.committed) ∧
    (∃ (r : Req) (t : Nat) (s : State) (u : State),
     Takes 260 r t s u ∧
     (List.find? (fun (x : OpenCmd) => x.req.client == r.client && x.req.tag == b16 r 24) u.cages.openCmds = none) ∧
     (List.find? (fun (e : CacheEntry) => e.tag == b16 r 24) ((placeOf u r.client).getD { }).entries = none) ∧
     List.find? (isTarget r.client (b16 r 24)) u.cages.fetched = none) ∧
    (∃ (r : Req) (t : Nat) (s : State) (u : State) (e : CacheEntry) (c : Completion),
     Takes 260 r t s u ∧
     (List.find? (fun (x : OpenCmd) => x.req.client == r.client && x.req.tag == b16 r 24) u.cages.openCmds = none) ∧
     (List.find? (fun (e : CacheEntry) => e.tag == b16 r 24) ((placeOf u r.client).getD { }).entries = some e) ∧
     e.done = some c ∧ c.opcode ≠ 260) ∧
    (∃ (r : Req) (t : Nat) (s : State) (u : State),
     Takes 513 r t s u ∧ stagingUp u = true ∧ b8 r 28 = 1 ∧ b8 r 29 = 0 ∧ b32 r 24 = 0) ∧
    (∃ (r : Req) (t : Nat) (s : State) (u : State),
     Takes 513 r t s u ∧ stagingUp u = true ∧ b8 r 28 = 0 ∧ b8 r 29 = 0 ∧ b32 r 24 = u.bun.staging.length) ∧
    (∃ (r : Req) (t : Nat) (s : State) (u : State),
     Takes 513 r t s u ∧ stagingUp u = true ∧ b8 r 28 = 2 ∧ b8 r 29 = 0 ∧ b32 r 24 = u.bun.staging.length ∧
     headerOk (u.bun.staging ++ r.arg) ((u.bun.staging ++ r.arg).length - 64) = true ∧ u.hst.jobs.length < 9) ∧
    (∃ (r : Req) (t : Nat) (s : State) (u : State),
     Takes 513 r t s u ∧ stagingUp u = false) ∧
    (∃ (r : Req) (t : Nat) (s : State) (u : State),
     Takes 513 r t s u ∧ stagingUp u = true ∧ b8 r 28 < 4 ∧ b8 r 29 = 0 ∧
     (b32 r 24 ≠ if bit (b8 r 28) 0 = true then 0 else u.bun.staging.length)) ∧
    (∃ (r : Req) (t : Nat) (s : State) (u : State),
     Takes 514 r t s u ∧ b8 r 32 ≤ 1 ∧ b8 r 33 ≤ 1 ∧ b8 r 34 ≤ 1 ∧ dpRun u = true ∧ u.bun.staged = none) ∧
    (∃ (r : Req) (t : Nat) (s : State) (u : State) (b : Bundle),
     Takes 514 r t s u ∧ b8 r 32 ≤ 1 ∧ b8 r 33 ≤ 1 ∧ b8 r 34 ≤ 1 ∧ dpRun u = true ∧ u.bun.staged = some b ∧
     u.bun.changeover = none ∧ u.pwr.leaving = none ∧ u.pwr.returning = none ∧ List.take 16 (List.drop 16 r.body) ≠ b.digest) ∧
    (∃ (r : Req) (t : Nat) (s : State) (u : State) (b : Bundle) (old : Bundle),
     Takes 514 r t s u ∧ b8 r 32 = 0 ∧ b8 r 33 ≤ 1 ∧ b8 r 34 ≤ 1 ∧ dpRun u = true ∧ u.bun.staged = some b ∧
     u.bun.changeover = none ∧ u.pwr.leaving = none ∧ u.pwr.returning = none ∧
     List.take 16 (List.drop 16 r.body) = b.digest ∧ u.bun.active = some old ∧ u.hop.running = true ∧ b.epoch = old.epoch) ∧
    (∃ (r : Req) (t : Nat) (s : State) (u : State) (b : Bundle) (old : Bundle),
     Takes 514 r t s u ∧ b8 r 32 = 0 ∧ b8 r 33 ≤ 1 ∧ b8 r 34 ≤ 1 ∧ dpRun u = true ∧ u.bun.staged = some b ∧
     u.bun.changeover = none ∧ u.pwr.leaving = none ∧ u.pwr.returning = none ∧
     List.take 16 (List.drop 16 r.body) = b.digest ∧ u.bun.active = some old ∧ u.hop.running = true ∧ b.epoch ≠ old.epoch ∧
     (b64 r 24 % 8192 ≠ 0 ∨ b64 r 24 < fillingSpectrum u + 16384)) ∧
    (∃ (r : Req) (t : Nat) (s : State) (u : State) (b : Bundle) (old : Bundle) (c : State),
     Takes 514 r t s u ∧ tryChangeover b (b64 r 24 / 8192) t u = Except.ok c ∧ b8 r 32 = 0 ∧ b8 r 33 ≤ 1 ∧ b8 r 34 ≤ 1 ∧
     dpRun u = true ∧ u.bun.staged = some b ∧ u.bun.changeover = none ∧ u.pwr.leaving = none ∧ u.pwr.returning = none ∧
     List.take 16 (List.drop 16 r.body) = b.digest ∧ u.bun.active = some old ∧ u.hop.running = true ∧ b.epoch ≠ old.epoch ∧
     b64 r 24 % 8192 = 0 ∧ fillingSpectrum u + 16384 ≤ b64 r 24 ∧ sameShape old b = true ∧ beaconLanesOk b u = true ∧
     wholeOk b u c = true ∧ (wholeOk.framesFit old ((Option.map (fun (x : Sched) => x.sets) u.aba.sched).getD 0) u = true)) ∧
    (∃ (r : Req) (t : Nat) (s : State) (u : State) (b : Bundle) (c : State),
     Takes 514 r t s u ∧
     tryImages b 0 t b.images
  { freshConfig b { u with hop := {}, aba := { phys := u.aba.phys }, sys.dp := .run } with bun.applying := true } = Except.ok c ∧
     b8 r 32 = 1 ∧ b8 r 33 ≤ 1 ∧ b8 r 34 ≤ 1 ∧ dpRun u = false ∧ u.shift.dev = DevState.noBundle ∧ u.sys.dp = DpState.off ∧
     u.bun.staged = some b ∧ u.bun.changeover = none ∧ u.pwr.leaving = none ∧ u.pwr.returning = none ∧
     List.take 16 (List.drop 16 r.body) = b.digest ∧ tooHot u = false ∧ beaconLanesOk b u = true ∧ wholeOk b u c = false) ∧
    (∃ (r : Req) (t : Nat) (s : State) (u : State) (b : Bundle) (c : State),
     Takes 514 r t s u ∧
     tryImages b 0 t b.images
  { freshConfig b { u with hop := {}, aba := { phys := u.aba.phys }, sys.dp := .run } with bun.applying := true } = Except.ok c ∧
     b8 r 32 = 1 ∧ b8 r 33 ≤ 1 ∧ b8 r 34 ≤ 1 ∧ dpRun u = true ∧ u.bun.staged = some b ∧ u.bun.changeover = none ∧
     u.pwr.leaving = none ∧ u.pwr.returning = none ∧ List.take 16 (List.drop 16 r.body) = b.digest ∧ tooHot u = false ∧
     beaconLanesOk b u = true ∧ wholeOk b u c = true) :=
  ⟨⟨(reqOf [] [] : Req), (0 : Nat), up, _, takes_of (by decide +kernel)⟩,
   ⟨(reqOf [] [] : Req), (0 : Nat), up, _, takes_of (by decide +kernel)⟩,
   ⟨(reqOf [] [] : Req), (0 : Nat), up, _, takes_of (by decide +kernel)⟩,
   ⟨(reqOf [] [] : Req), (0 : Nat), up, _, takes_of (by decide +kernel)⟩,
   ⟨(reqOf [] [] : Req), (0 : Nat), ({ up with bun.active := some ({} : Bundle) } : State), _, ({} : Bundle), takes_of (by decide +kernel), by decide +kernel⟩,
   ⟨(reqOf [] [] : Req), (0 : Nat), ({ up with bun.active := none } : State), _, takes_of (by decide +kernel), by decide +kernel⟩,
   ⟨(reqOf [(24, leBytes 1 1), (25, leBytes 1 1), (27, leBytes 1 16), (28, leBytes 4 1), (32, leBytes 2 1)] [] : Req), (0 : Nat), up, _, takes_of (by decide +kernel), by decide +kernel⟩,
   ⟨(reqOf [(24, leBytes 1 2), (25, leBytes 1 32), (27, leBytes 1 16), (28, leBytes 4 62500000), (32, leBytes 2 4096), (34, leBytes 1 16), (35, leBytes 1 16)] [] : Req), (0 : Nat), up, _, takes_of (by decide +kernel), by decide +kernel⟩,
   ⟨(reqOf [(24, leBytes 1 3)] [] : Req), (0 : Nat), ({ up with bun.active := some ({} : Bundle) } : State), _, ({} : Bundle), takes_of (by decide +kernel), by decide +kernel⟩,
   ⟨(reqOf [(24, leBytes 1 4)] [] : Req), (0 : Nat), up, _, takes_of (by decide +kernel), by decide +kernel⟩,
   ⟨(reqOf [] [] : Req), (0 : Nat), ({ upb with cages.openCmds := [({} : OpenCmd)] } : State), _, ({} : OpenCmd), takes_of (by decide +kernel), by decide +kernel⟩,
   ⟨(reqOf [(24, leBytes 2 9)] [] : Req), (0 : Nat), ({ up with cages.openCmds := [({ req := { client := 1, tag := 9 }, phase := .committed } : OpenCmd)] } : State), _, ({ req := { client := 1, tag := 9 }, phase := .committed } : OpenCmd), takes_of (by decide +kernel), by decide +kernel⟩,
   ⟨(reqOf [] [] : Req), (0 : Nat), up, _, takes_of (by decide +kernel), by decide +kernel⟩,
   ⟨(reqOf [] [] : Req), (0 : Nat), ({ up with cages.places := [{ client := 1, entries := [({ done := some { opcode := 1 } } : CacheEntry)] }] } : State), _, ({ done := some { opcode := 1 } } : CacheEntry), ({ opcode := 1 } : Completion), takes_of (by decide +kernel), by decide +kernel⟩,
   ⟨(reqOf [(24, leBytes 4 0), (28, leBytes 1 1), (29, leBytes 1 0)] [] : Req), (0 : Nat), up, _, takes_of (by decide +kernel), by decide +kernel⟩,
   ⟨(reqOf [(28, leBytes 1 0), (29, leBytes 1 0)] [] : Req), (0 : Nat), up, _, takes_of (by decide +kernel), by decide +kernel⟩,
   ⟨(reqOf [(28, leBytes 1 2)] (leBytes 4 0x4F5A4255 ++ [1, 0, 1, 0, 2, 0, 0, 0] ++ leBytes 4 64 ++ leBytes 4 0 ++ List.replicate 44 0) : Req), (0 : Nat), up, _, takes_of (by decide +kernel), by decide +kernel⟩,
   ⟨(reqOf [] [] : Req), (0 : Nat), ({ up with pwr.leaving := some .quiesce } : State), _, takes_of (by decide +kernel), by decide +kernel⟩,
   ⟨(reqOf [(24, leBytes 4 4), (28, leBytes 1 1)] [] : Req), (0 : Nat), up, _, takes_of (by decide +kernel), by decide +kernel⟩,
   ⟨(reqOf [(32, leBytes 1 1), (33, leBytes 1 1), (34, leBytes 1 1)] [] : Req), (0 : Nat), ({ up with bun.staged := none } : State), _, takes_of (by decide +kernel), by decide +kernel⟩,
   ⟨(reqOf [] [] : Req), (0 : Nat), ({ upb with bun.staged := some { epoch := 2, digest := List.replicate 16 1 } } : State), _, (({ upb with bun.staged := some { epoch := 2, digest := List.replicate 16 1 } } : State).bun.staged.getD {} : Bundle), takes_of (by decide +kernel), by decide +kernel⟩,
   ⟨(reqOf [(32, leBytes 1 0), (33, leBytes 1 1), (34, leBytes 1 1)] [] : Req), (0 : Nat), ({ up with bun.staged := some ({} : Bundle), bun.changeover := none, pwr.leaving := none, pwr.returning := none, bun.active := some ({} : Bundle), hop.running := true } : State), _, ({} : Bundle), ({} : Bundle), takes_of (by decide +kernel), by decide +kernel⟩,
   ⟨(reqOf [(24, leBytes 8 8192)] [] : Req), (0 : Nat), (serving 1 { upl with bun.staged := some { bun16 with epoch := 2 } } : State), _, ((serving 1 { upl with bun.staged := some { bun16 with epoch := 2 } } : State).bun.staged.getD {} : Bundle), bun16, takes_of (by decide +kernel), by decide +kernel⟩,
   ⟨(reqOf [(24, leBytes 8 16384)] [] : Req), (0 : Nat), (serving 1 { upl with bun.staged := some { bun16 with epoch := 2 } } : State), _, ((serving 1 { upl with bun.staged := some { bun16 with epoch := 2 } } : State).bun.staged.getD {} : Bundle), bun16, (((tryChangeover ((serving 1 { upl with bun.staged := some { bun16 with epoch := 2 } } : State).bun.staged.getD {} : Bundle) (b64 (reqOf [(24, leBytes 8 16384)] [] : Req) 24 / 8192) (0 : Nat) ((taken 514 (reqOf [(24, leBytes 8 16384)] [] : Req) (0 : Nat) (serving 1 { upl with bun.staged := some { bun16 with epoch := 2 } } : State)).getD (serving 1 { upl with bun.staged := some { bun16 with epoch := 2 } } : State) : State)).toOption).getD ((taken 514 (reqOf [(24, leBytes 8 16384)] [] : Req) (0 : Nat) (serving 1 { upl with bun.staged := some { bun16 with epoch := 2 } } : State)).getD (serving 1 { upl with bun.staged := some { bun16 with epoch := 2 } } : State) : State) : State), takes_of (by decide +kernel), rfl, by decide +kernel⟩,
   ⟨(reqOf [(32, leBytes 1 1)] [] : Req), (0 : Nat), ({ upl with sys.dp := .off, shift.dev := .noBundle, bun.staged := some { bun16 with epoch := 2, fwBase := 2 ^ 40 } } : State), _, (({ upl with sys.dp := .off, shift.dev := .noBundle, bun.staged := some { bun16 with epoch := 2, fwBase := 2 ^ 40 } } : State).bun.staged.getD {} : Bundle), (((tryImages (({ upl with sys.dp := .off, shift.dev := .noBundle, bun.staged := some { bun16 with epoch := 2, fwBase := 2 ^ 40 } } : State).bun.staged.getD {} : Bundle) 0 (0 : Nat) (({ upl with sys.dp := .off, shift.dev := .noBundle, bun.staged := some { bun16 with epoch := 2, fwBase := 2 ^ 40 } } : State).bun.staged.getD {} : Bundle).images { freshConfig (({ upl with sys.dp := .off, shift.dev := .noBundle, bun.staged := some { bun16 with epoch := 2, fwBase := 2 ^ 40 } } : State).bun.staged.getD {} : Bundle) { ((taken 514 (reqOf [(32, leBytes 1 1)] [] : Req) (0 : Nat) ({ upl with sys.dp := .off, shift.dev := .noBundle, bun.staged := some { bun16 with epoch := 2, fwBase := 2 ^ 40 } } : State)).getD ({ upl with sys.dp := .off, shift.dev := .noBundle, bun.staged := some { bun16 with epoch := 2, fwBase := 2 ^ 40 } } : State) : State) with hop := {}, aba := { phys := ((taken 514 (reqOf [(32, leBytes 1 1)] [] : Req) (0 : Nat) ({ upl with sys.dp := .off, shift.dev := .noBundle, bun.staged := some { bun16 with epoch := 2, fwBase := 2 ^ 40 } } : State)).getD ({ upl with sys.dp := .off, shift.dev := .noBundle, bun.staged := some { bun16 with epoch := 2, fwBase := 2 ^ 40 } } : State) : State).aba.phys }, sys.dp := .run } with bun.applying := true }).toOption).getD ((taken 514 (reqOf [(32, leBytes 1 1)] [] : Req) (0 : Nat) ({ upl with sys.dp := .off, shift.dev := .noBundle, bun.staged := some { bun16 with epoch := 2, fwBase := 2 ^ 40 } } : State)).getD ({ upl with sys.dp := .off, shift.dev := .noBundle, bun.staged := some { bun16 with epoch := 2, fwBase := 2 ^ 40 } } : State) : State) : State), takes_of (by decide +kernel), rfl, by decide +kernel⟩,
   ⟨(reqOf [(32, leBytes 1 1)] [] : Req), (0 : Nat), ({ upl with bun.staged := some { bun16 with epoch := 2 } } : State), _, (({ upl with bun.staged := some { bun16 with epoch := 2 } } : State).bun.staged.getD {} : Bundle), (((tryImages (({ upl with bun.staged := some { bun16 with epoch := 2 } } : State).bun.staged.getD {} : Bundle) 0 (0 : Nat) (({ upl with bun.staged := some { bun16 with epoch := 2 } } : State).bun.staged.getD {} : Bundle).images { freshConfig (({ upl with bun.staged := some { bun16 with epoch := 2 } } : State).bun.staged.getD {} : Bundle) { ((taken 514 (reqOf [(32, leBytes 1 1)] [] : Req) (0 : Nat) ({ upl with bun.staged := some { bun16 with epoch := 2 } } : State)).getD ({ upl with bun.staged := some { bun16 with epoch := 2 } } : State) : State) with hop := {}, aba := { phys := ((taken 514 (reqOf [(32, leBytes 1 1)] [] : Req) (0 : Nat) ({ upl with bun.staged := some { bun16 with epoch := 2 } } : State)).getD ({ upl with bun.staged := some { bun16 with epoch := 2 } } : State) : State).aba.phys }, sys.dp := .run } with bun.applying := true }).toOption).getD ((taken 514 (reqOf [(32, leBytes 1 1)] [] : Req) (0 : Nat) ({ upl with bun.staged := some { bun16 with epoch := 2 } } : State)).getD ({ upl with bun.staged := some { bun16 with epoch := 2 } } : State) : State) : State), takes_of (by decide +kernel), rfl, by decide +kernel⟩⟩

theorem witness_DrainAndPromptWork :
    (∃ (s : State) (k : Nat) (n : Nat) (f : Frame) (us : List PbUnit) (admitted : Nat),
     frameAt s k = some f ∧ (List.find? (fun (x : Nat × List PbUnit) => x.fst == n) f.held = some (n, us)) ∧
     f.preempt = none ∧ f.deferred.contains n = false ∧ (blockClosed s n = true ∨ blockShare s n ≤ us.length) ∧
     (sliceDone s f = true ∨ f.promptUsed + (preemptCost s f ((f.runs.head?.map (fun r => max r.lo (min r.hi admitted))).getD 0) us.length).1 ≤ kNow s - sNow s)) ∧
    (∃ (s : State) (k : Nat) (n : Nat) (f : Frame) (us : List PbUnit) (admitted : Nat),
     frameAt s k = some f ∧ (List.find? (fun (x : Nat × List PbUnit) => x.fst == n) f.held = some (n, us)) ∧
     f.preempt = none ∧ f.deferred.contains n = false ∧ (blockClosed s n = true ∨ blockShare s n ≤ us.length) ∧
     sliceDone s f = false ∧
     (kNow s - sNow s < f.promptUsed + (preemptCost s f ((Option.map (fun (r : Run) => max r.lo (min r.hi admitted)) f.runs.head?).getD 0) us.length).fst)) ∧
    (∃ (s : State) (k : Nat) (n : Nat) (f : Frame) (us : List PbUnit),
     frameAt s k = some f ∧
     (f.preempt ≠ none ∨ f.deferred.contains n = true ∨ List.find? (fun (x : Nat × List PbUnit) => x.fst == n) f.held = none ∨ blockClosed s n = false ∧ List.find? (fun (x : Nat × List PbUnit) => x.fst == n) f.held = some (n, us) ∧ us.length < blockShare s n)) ∧
    (∃ (s : State) (k : Nat) (f : Frame) (p : Preempt) (done : Nat),
     frameAt s k = some f ∧ f.preempt = some p ∧ done < p.units.length) ∧
    (∃ (s : State) (k : Nat) (f : Frame) (p : Preempt) (done : Nat),
     frameAt s k = some f ∧ f.preempt = some p ∧ p.units.length ≤ done ∧ (p.saved = false ∨ f.runs = [])) ∧
    (∃ (s : State) (k : Nat) (f : Frame) (p : Preempt) (done : Nat) (r : Run) (rest : List Run),
     frameAt s k = some f ∧ f.preempt = some p ∧ p.units.length ≤ done ∧ p.saved = true ∧ f.runs = r :: rest) ∧
    (∃ (s : State) (k : Nat) (n : Nat) (f : Frame) (us : List PbUnit) (rest : List Nat),
     frameAt s k = some f ∧ f.deferred = n :: rest ∧ f.preempt = none ∧
     (sliceDone s f = true ∨ f.carried.contains n = true) ∧
     (List.find? (fun (x : Nat × List PbUnit) => x.fst == n) f.held = some (n, us))) ∧
    (∃ (s : State) (k : Nat) (n : Nat) (f : Frame) (rest : List Nat),
     frameAt s k = some f ∧ f.deferred = n :: rest ∧ sliceDone s f = false ∧ f.carried.contains n = false) ∧
    (∃ (s : State) (r : Req) (t : Nat) (u : State),
     Takes 1027 r t s u ∧ u.aba.state = AbaState.running) ∧
    (∃ (s : State) (r : Req) (t : Nat) (u : State),
     Takes 1027 r t s u ∧ u.aba.state ≠ AbaState.running) ∧
    (∃ (s : State) (admitted : List Nat) (cut : DrainCut) (v : State),
     cut = s.aba.cut.getD { pos := consumePos s, counts := drainCounts s admitted } ∧
     v = { s with sys.sram := memWrite s.sys.sram 0x3F0000 (drainRecord s cut.pos cut.counts), aba.state := .drained, aba.cut := none, aba.drainPos := cut.pos, aba.drainSamples := (cut.counts.map (·.2)).sum % 2 ^ 32, aba.cause := setBits s.aba.cause [0], tal.sweepDue := s.tal.cur.isSome } ∧
     (∀ (o : OpenCmd), o ∈ s.cages.openCmds → isOp 1027 o = false) ∧ s.aba.state = AbaState.draining ∧ s.aba.frames = []) ∧
    (∃ (s : State) (admitted : List Nat) (cut : DrainCut) (v : State) (o : OpenCmd),
     cut = s.aba.cut.getD { pos := consumePos s, counts := drainCounts s admitted } ∧
     v = { s with sys.sram := memWrite s.sys.sram 0x3F0000 (drainRecord s cut.pos cut.counts), aba.state := .drained, aba.cut := none, aba.drainPos := cut.pos, aba.drainSamples := (cut.counts.map (·.2)).sum % 2 ^ 32, aba.cause := setBits s.aba.cause [0], tal.sweepDue := s.tal.cur.isSome } ∧
     s.aba.state = AbaState.draining ∧ s.aba.frames = [] ∧ s.cages.openCmds = [o] ∧ isOp 1027 o = true ∧
     o.phase = CmdPhase.committed) ∧
    (∃ (s : State),
     s.aba.state ≠ AbaState.draining) ∧
    (∃ (pos : Nat) (counts : List ((Nat × Nat) × Nat)),
     pos < 2 ^ 64 ∧ counts.length < 2 ^ 32) :=
  ⟨⟨({ upb with aba.frames := [({ held := [(4, [])] } : Frame)], beams.jobs := [{ num := 4, closed := some {} }] } : State), (0 : Nat), (4 : Nat), ({ held := [(4, [])] } : Frame), ([] : List PbUnit), (0 : Nat), by decide +kernel⟩,
   ⟨({ up with aba.frames := [({ held := [(4, [])], runs := [{}] } : Frame)], aba.state := .running, beams.jobs := [{ num := 4, closed := some {} }] } : State), (0 : Nat), (4 : Nat), ({ held := [(4, [])], runs := [{}] } : Frame), ([] : List PbUnit), (0 : Nat), by decide +kernel⟩,
   ⟨({ up with aba.frames := [({ held := [(4, [])], deferred := [4] } : Frame)] } : State), (0 : Nat), (4 : Nat), ({ held := [(4, [])], deferred := [4] } : Frame), ([] : List PbUnit), by decide +kernel⟩,
   ⟨({ up with aba.frames := [({ preempt := some ({ units := [{}] } : Preempt) } : Frame)] } : State), (0 : Nat), ({ preempt := some ({ units := [{}] } : Preempt) } : Frame), ({ units := [{}] } : Preempt), (0 : Nat), by decide +kernel⟩,
   ⟨({ up with aba.frames := [({ preempt := some ({} : Preempt) } : Frame)] } : State), (0 : Nat), ({ preempt := some ({} : Preempt) } : Frame), ({} : Preempt), (0 : Nat), by decide +kernel⟩,
   ⟨({ up with aba.frames := [({ preempt := some ({ saved := true } : Preempt), runs := [({} : Run)] } : Frame)] } : State), (0 : Nat), ({ preempt := some ({ saved := true } : Preempt), runs := [({} : Run)] } : Frame), ({ saved := true } : Preempt), (0 : Nat), ({} : Run), ([] : List Run), by decide +kernel⟩,
   ⟨({ up with aba.frames := [({ held := [(4, [])], deferred := [4] } : Frame)] } : State), (0 : Nat), (4 : Nat), ({ held := [(4, [])], deferred := [4] } : Frame), ([] : List PbUnit), ([] : List Nat), by decide +kernel⟩,
   ⟨({ up with aba.state := .running, aba.frames := [({ deferred := [4], runs := [{}] } : Frame)] } : State), (0 : Nat), (4 : Nat), ({ deferred := [4], runs := [{}] } : Frame), ([] : List Nat), by decide +kernel⟩,
   ⟨({ upb with aba.state := .running } : State), (reqOf [] [] : Req), (0 : Nat), _, takes_of (by decide +kernel), by decide +kernel⟩,
   ⟨upb, (reqOf [] [] : Req), (0 : Nat), _, takes_of (by decide +kernel), by decide +kernel⟩,
   ⟨({ up with aba.state := .draining } : State), ([] : List Nat), (({ up with aba.state := .draining } : State).aba.cut.getD { pos := consumePos ({ up with aba.state := .draining } : State), counts := drainCounts ({ up with aba.state := .draining } : State) ([] : List Nat) } : DrainCut), _, rfl, rfl, (by exact fun o h => absurd h List.not_mem_nil), by decide +kernel⟩,
   ⟨({ up with aba.state := .draining, cages.openCmds := [({ phase := .committed, req := { reqOf [] [] with opcode := 0x0403 } } : OpenCmd)] } : State), ([] : List Nat), (({ up with aba.state := .draining, cages.openCmds := [({ phase := .committed, req := { reqOf [] [] with opcode := 0x0403 } } : OpenCmd)] } : State).aba.cut.getD { pos := consumePos ({ up with aba.state := .draining, cages.openCmds := [({ phase := .committed, req := { reqOf [] [] with opcode := 0x0403 } } : OpenCmd)] } : State), counts := drainCounts ({ up with aba.state := .draining, cages.openCmds := [({ phase := .committed, req := { reqOf [] [] with opcode := 0x0403 } } : OpenCmd)] } : State) ([] : List Nat) } : DrainCut), _, ({ phase := .committed, req := { reqOf [] [] with opcode := 0x0403 } } : OpenCmd), rfl, rfl, by decide +kernel⟩,
   ⟨up, by decide +kernel⟩,
   ⟨(0 : Nat), ([] : List ((Nat × Nat) × Nat)), by decide +kernel⟩⟩

theorem witness_ExactArithmetic :
    (∃ (v : Int) (d : Nat),
     0 < d ∧ (2 * (v - ↑d * divHalfEven v d) = ↑d ∨ 2 * (↑d * divHalfEven v d - v) = ↑d)) ∧
    (∃ (a : Nat) (b : Nat),
     0 < b ∧ a / b < 2 ^ 80) ∧
    (∃ (set : Nat) (sp : Nat) (part : BeamPart),
     part.set = set ∧ part.lo ≤ sp ∧ sp < part.hi) ∧
    (∃ (set : Nat) (sp : Nat) (part : BeamPart),
     (part.set ≠ set ∨ sp < part.lo ∨ part.hi ≤ sp)) :=
  ⟨⟨(1 : Int), (2 : Nat), by decide +kernel⟩,
   ⟨(0 : Nat), (1 : Nat), by decide +kernel⟩,
   ⟨(0 : Nat), (0 : Nat), ({ hi := 1 } : BeamPart), by decide +kernel⟩,
   ⟨(0 : Nat), (0 : Nat), ({} : BeamPart), by decide +kernel⟩⟩

theorem witness_FrameUse :
    (∃ (pass : Nat) (mask : Nat) (g : Nat),
     g < 4 ∧ frameFit pass mask (9 * g + 8) = false) ∧
    (∃ (pass : Nat) (mask : Nat) (g : Nat),
     (∀ (i : Nat), i < 8 → frameFit pass mask (9 * g + i) = true) ∧ g < 4 ∧ frameFit pass mask (9 * g + 8) = true) ∧
    (∃ (pass : Nat) (mask : Nat) (g : Nat) (k : Nat),
     (∀ (i : Nat), i < k → frameFit pass mask (9 * g + i) = true) ∧ g < 4 ∧ k < 8 ∧ frameFit pass mask (9 * g + 8) = true ∧
     frameFit pass mask (9 * g + k) = false) ∧
    (∃ (m : Mode) (b : Bead),
     b.count < 2 ^ 14 ∧ (m ≠ Mode.w8f → -2 ^ 23 ≤ b.re ∧ b.re < 2 ^ 23 ∧ -2 ^ 23 ≤ b.im ∧ b.im < 2 ^ 23) ∧
     (m = Mode.w8f → -2 ^ 47 ≤ b.re ∧ b.re < 2 ^ 47 ∧ -2 ^ 47 ≤ b.im ∧ b.im < 2 ^ 47)) ∧
    (∃ (s : State) (k : Nat) (f : Frame),
     frameAt s k = some f ∧ runsOn s f = true ∧ f.runs ≠ []) ∧
    (∃ (s : State) (k : Nat) (f : Frame),
     frameAt s k = some f ∧ runsOn s f = false) ∧
    (∃ (s : State) (k : Nat) (f : Frame) (r : Run) (rest : List Run) (a : Nat) (b : Nat),
     frameAt s k = some f ∧ f.runs = r :: rest ∧ r.item = WorkItem.pair a b ∧ f.shadow = none) ∧
    (∃ (s : State) (k : Nat) (f : Frame) (r : Run) (rest : List Run) (a : Nat) (b : Nat),
     frameAt s k = some f ∧ f.runs = r :: rest ∧ r.item = WorkItem.pair a b ∧ f.shadow ≠ none) ∧
    (∃ (s : State) (k : Nat) (f : Frame) (r : Run) (rest : List Run) (set : Nat) (rk : Nat),
     frameAt s k = some f ∧ f.runs = r :: rest ∧ r.item = WorkItem.beam set rk) ∧
    (∃ (s : State) (k : Nat) (f : Frame) (sh : Shadow),
     frameAt s k = some f ∧ f.shadow = some sh ∧
     stagingRoom s (modeAt s (chunkOf s sh.run.pos)) (f.logical / 8) (shadowBytes s sh) = false) ∧
    (∃ (s : State) (k : Nat) (f : Frame) (sh : Shadow) (u : State) (v : State),
     u = stageShadow f.logical sh s ∧
     (v = modFrame k (fun g => { g with shadow := f.second.map (fun x => { x with beads := contextBeads u x.run f.ctx1 }), second := none, ctx1 := [], stalled := false }) u) ∧
     frameAt s k = some f ∧ f.shadow = some sh ∧
     stagingRoom s (modeAt s (chunkOf s sh.run.pos)) (f.logical / 8) (shadowBytes s sh) = true ∧ f.stalled = false) ∧
    (∃ (s : State) (k : Nat) (f : Frame) (sh : Shadow) (u : State) (v : State),
     u = stageShadow f.logical sh s ∧
     (v = modFrame k (fun g => { g with shadow := f.second.map (fun x => { x with beads := contextBeads u x.run f.ctx1 }), second := none, ctx1 := [], stalled := false }) u) ∧
     frameAt s k = some f ∧ f.shadow = some sh ∧
     stagingRoom s (modeAt s (chunkOf s sh.run.pos)) (f.logical / 8) (shadowBytes s sh) = true ∧ f.stalled = true) ∧
    (∃ (s : State) (k : Nat) (f : Frame) (p : Nat),
     frameAt s k = some f ∧ physOf s f.logical = some p) ∧
    (∃ (s : State) (k : Nat) (f : Frame) (ctx : Nat),
     frameAt s k = some f ∧ contextSaved f ctx = true) ∧
    (∃ (s : State) (k : Nat) (f : Frame) (ctx : Nat),
     frameAt s k = some f ∧ contextSaved f ctx = false) ∧
    (∃ (s : State) (k : Nat) (f : Frame),
     frameAt s k = some f ∧ dpRun s = true ∧ s.hop.running = true) ∧
    (∃ (s : State) (k : Nat) (f : Frame),
     frameAt s k = some f ∧ dpRun s = true ∧ s.hop.running = false) :=
  ⟨⟨(0 : Nat), (0 : Nat), (3 : Nat), by decide +kernel⟩,
   ⟨(0x3FFFF : Nat), (0x0 : Nat), (1 : Nat), (by decide), by decide +kernel⟩,
   ⟨(0x3FFFF : Nat), (0x10000 : Nat), (1 : Nat), (7 : Nat), (by decide), by decide +kernel⟩,
   ⟨(.w8f : Mode), ({ count := 5, re := -3, im := 2 ^ 40 } : Bead), by decide +kernel⟩,
   ⟨({ up with aba.state := .running, aba.consuming := true, aba.frames := [({ runs := [{}] } : Frame)] } : State), (0 : Nat), ({ runs := [{}] } : Frame), by decide +kernel⟩,
   ⟨({ up with aba.frames := [({} : Frame)] } : State), (0 : Nat), ({} : Frame), by decide +kernel⟩,
   ⟨({ up with aba.state := .running, aba.consuming := true, aba.frames := [({ runs := [({ item := .pair 0 1 } : Run)] } : Frame)] } : State), (0 : Nat), ({ runs := [({ item := .pair 0 1 } : Run)] } : Frame), ({ item := .pair 0 1 } : Run), ([] : List Run), (0 : Nat), (1 : Nat), by decide +kernel⟩,
   ⟨({ up with aba.state := .running, aba.consuming := true, aba.frames := [({ runs := [({ item := .pair 0 1 } : Run)], shadow := some {} } : Frame)] } : State), (0 : Nat), ({ runs := [({ item := .pair 0 1 } : Run)], shadow := some {} } : Frame), ({ item := .pair 0 1 } : Run), ([] : List Run), (0 : Nat), (1 : Nat), by decide +kernel⟩,
   ⟨({ up with aba.state := .running, aba.consuming := true, aba.frames := [({ runs := [({ item := .beam 0 1 } : Run)] } : Frame)] } : State), (0 : Nat), ({ runs := [({ item := .beam 0 1 } : Run)] } : Frame), ({ item := .beam 0 1 } : Run), ([] : List Run), (0 : Nat), (1 : Nat), by decide +kernel⟩,
   ⟨({ up with tal.staging := List.replicate 13 { beads := List.replicate 16384 {} }, aba.frames := [({ shadow := some {} } : Frame)] } : State), (0 : Nat), ({ shadow := some {} } : Frame), ({} : Shadow), by decide +kernel⟩,
   ⟨({ up with aba.frames := [({ shadow := some {} } : Frame)] } : State), (0 : Nat), ({ shadow := some {} } : Frame), ({} : Shadow), _, _, rfl, rfl, by decide +kernel⟩,
   ⟨({ up with aba.frames := [({ shadow := some {}, stalled := true } : Frame)] } : State), (0 : Nat), ({ shadow := some {}, stalled := true } : Frame), ({} : Shadow), _, _, rfl, rfl, by decide +kernel⟩,
   ⟨({ upl with aba.frames := [({} : Frame)] } : State), (0 : Nat), ({} : Frame), (0 : Nat), by decide +kernel⟩,
   ⟨({ upl with aba.frames := [({ second := some {} } : Frame)] } : State), (0 : Nat), ({ second := some {} } : Frame), (1 : Nat), by decide +kernel⟩,
   ⟨({ upl with aba.frames := [({ second := some {} } : Frame)] } : State), (0 : Nat), ({ second := some {} } : Frame), (0 : Nat), by decide +kernel⟩,
   ⟨(serving 1 { upl with aba.frames := [({} : Frame)] } : State), (0 : Nat), ({} : Frame), by decide +kernel⟩,
   ⟨({ upl with aba.frames := [({} : Frame)] } : State), (0 : Nat), ({} : Frame), by decide +kernel⟩⟩

theorem witness_HoistCommands :
    (∃ (r : Req) (t : Nat) (s : State) (u : State) (a : List Nat),
     Takes 2049 r t s u ∧ a = List.map (b32 r) [24, 28, 32, 36, 40, 44] ∧ u.bun.active = none ∧
     (ratesOk
    { pending := u.pending, freeCount := u.freeCount, lanes := u.lanes, seam := u.seam, hop := u.hop, aba := u.aba, tal := u.tal, beams := u.beams, assay := u.assay, ayr := u.ayr, trig := u.trig,
      hst :=
        have __src := u.hst;
        { seq := __src.seq, lastSent := __src.lastSent, units := __src.units, queue := __src.queue, nextNum := __src.nextNum, started := __src.started, stat := __src.stat, notBuiltRuns := __src.notBuiltRuns, dropRun := __src.dropRun, sentCount := __src.sentCount, unsent := __src.unsent, ctlA := __src.ctlA, ctlB := __src.ctlB, allot := a, used := __src.used, peakUse := __src.peakUse, dual := __src.dual, unitDual := __src.unitDual, crushDump := __src.crushDump, crushCapt := __src.crushCapt, jobs := __src.jobs, expRunning := __src.expRunning, expOut := __src.expOut, freeTick := __src.freeTick, flushing := __src.flushing, cause := __src.cause, irqEn := __src.irqEn, pktA := __src.pktA, pktB := __src.pktB, resend := __src.resend, copyDrop0 := __src.copyDrop0, copyDrop1 := __src.copyDrop1, notBuilt := __src.notBuilt, queuePeak := __src.queuePeak, cruIn := __src.cruIn, cruOut := __src.cruOut, cruStored := __src.cruStored, expJobs := __src.expJobs, expLimit := __src.expLimit, expMalformed := __src.expMalformed, allotSel := __src.allotSel },
      pit := u.pit, tu := u.tu, cages := u.cages, bell := u.bell, wnd := u.wnd, pwr := u.pwr, shift := u.shift, mon := u.mon, con := u.con, bun := u.bun, sys := u.sys } =
  true)) ∧
    (∃ (r : Req) (t : Nat) (s : State) (u : State) (a : List Nat),
     Takes 2049 r t s u ∧ a = List.map (b32 r) [24, 28, 32, 36, 40, 44] ∧ u.bun.applying = false ∧
     (allotmentsOk
    { pending := u.pending, freeCount := u.freeCount, lanes := u.lanes, seam := u.seam, hop := u.hop, aba := u.aba, tal := u.tal, beams := u.beams, assay := u.assay, ayr := u.ayr, trig := u.trig,
      hst :=
        have __src := u.hst;
        { seq := __src.seq, lastSent := __src.lastSent, units := __src.units, queue := __src.queue, nextNum := __src.nextNum, started := __src.started, stat := __src.stat, notBuiltRuns := __src.notBuiltRuns, dropRun := __src.dropRun, sentCount := __src.sentCount, unsent := __src.unsent, ctlA := __src.ctlA, ctlB := __src.ctlB, allot := a, used := __src.used, peakUse := __src.peakUse, dual := __src.dual, unitDual := __src.unitDual, crushDump := __src.crushDump, crushCapt := __src.crushCapt, jobs := __src.jobs, expRunning := __src.expRunning, expOut := __src.expOut, freeTick := __src.freeTick, flushing := __src.flushing, cause := __src.cause, irqEn := __src.irqEn, pktA := __src.pktA, pktB := __src.pktB, resend := __src.resend, copyDrop0 := __src.copyDrop0, copyDrop1 := __src.copyDrop1, notBuilt := __src.notBuilt, queuePeak := __src.queuePeak, cruIn := __src.cruIn, cruOut := __src.cruOut, cruStored := __src.cruStored, expJobs := __src.expJobs, expLimit := __src.expLimit, expMalformed := __src.expMalformed, allotSel := __src.allotSel },
      pit := u.pit, tu := u.tu, cages := u.cages, bell := u.bell, wnd := u.wnd, pwr := u.pwr, shift := u.shift, mon := u.mon, con := u.con, bun := u.bun, sys := u.sys } =
  false)) ∧
    (∃ (r : Req) (t : Nat) (s : State) (u : State),
     Takes 2050 r t s u ∧ b8 r 24 = 0) ∧
    (∃ (r : Req) (t : Nat) (s : State) (u : State),
     Takes 2050 r t s u ∧ b8 r 24 = 1 ∧ (∀ (l : Lane), l ∈ u.lanes.lane → (l.txNext.getD (l.txRole, l.txRate)).fst ≠ 2)) ∧
    (∃ (r : Req) (t : Nat) (s : State) (u : State),
     Takes 2051 r t s u ∧ b8 r 24 ≤ 2 ∧ b8 r 25 ≤ 2 ∧
     (u.bun.applying = true ∨
  crusherOk u (b8 r 24) (b8 r 25) = true ∧
    allotmentsOk
        { pending := u.pending, freeCount := u.freeCount, lanes := u.lanes, seam := u.seam, hop := u.hop, aba := u.aba, tal := u.tal, beams := u.beams, assay := u.assay, ayr := u.ayr, trig := u.trig,
          hst :=
            have __src := u.hst;
            { seq := __src.seq, lastSent := __src.lastSent, units := __src.units, queue := __src.queue, nextNum := __src.nextNum, started := __src.started, stat := __src.stat, notBuiltRuns := __src.notBuiltRuns, dropRun := __src.dropRun, sentCount := __src.sentCount, unsent := __src.unsent, ctlA := __src.ctlA, ctlB := __src.ctlB, allot := __src.allot, used := __src.used, peakUse := __src.peakUse, dual := __src.dual, unitDual := __src.unitDual, crushDump := b8 r 24, crushCapt := b8 r 25, jobs := __src.jobs, expRunning := __src.expRunning, expOut := __src.expOut, freeTick := __src.freeTick, flushing := __src.flushing, cause := __src.cause, irqEn := __src.irqEn, pktA := __src.pktA, pktB := __src.pktB, resend := __src.resend, copyDrop0 := __src.copyDrop0, copyDrop1 := __src.copyDrop1, notBuilt := __src.notBuilt, queuePeak := __src.queuePeak, cruIn := __src.cruIn, cruOut := __src.cruOut, cruStored := __src.cruStored, expJobs := __src.expJobs, expLimit := __src.expLimit, expMalformed := __src.expMalformed, allotSel := __src.allotSel },
          pit := u.pit, tu := u.tu, cages := u.cages, bell := u.bell, wnd := u.wnd, pwr := u.pwr, shift := u.shift, mon := u.mon, con := u.con, bun := u.bun, sys := u.sys } =
      true)) ∧
    (∃ (s : State),
     s.hst.jobs ≠ [] ∧ s.hst.expRunning = false ∧ s.shift.held = Held.none ∧ s.pwr.ctlSleep = false) ∧
    (∃ (s : State) (j : ExpJob) (rest : List ExpJob),
     s.hst.expRunning = true ∧ s.hst.jobs = j :: rest ∧ s.cages.openCmds = []) ∧
    (∃ (j : ExpJob) (out : List Byte) (left : Nat),
     expandJob j = Inflated.ok out left ∧ (j.expect = 0 ∨ out.length = j.expect)) ∧
    (∃ (j : ExpJob),
     (∀ (out : List Byte) (left : Nat), expandJob j = Inflated.ok out left → j.expect ≠ 0 ∧ out.length ≠ j.expect)) ∧
    (∃ (j : ExpJob),
     j.use = 1) ∧
    (∃ (s : State) (j : ExpJob) (rest : List ExpJob) (o : OpenCmd) (ok : Bool),
     s.hst.expRunning = true ∧ s.hst.jobs = j :: rest ∧ ok = false ∧
     (List.find? (fun (o : OpenCmd) => o.req.client == j.client && o.req.tag == j.tag) s.cages.openCmds = some o) ∧
     o.req.opcode ≠ 1538) ∧
    (∃ (s : State),
     dpRun s = true) :=
  ⟨⟨(reqOf [] [] : Req), (0 : Nat), ({ upb with bun.active := none } : State), _, _, takes_of (by decide +kernel), rfl, by decide +kernel⟩,
   ⟨(reqOf [] [] : Req), (0 : Nat), ({ upb with bun.applying := false } : State), _, _, takes_of (by decide +kernel), rfl, by decide +kernel⟩,
   ⟨(reqOf [(24, leBytes 1 0)] [] : Req), (0 : Nat), up, _, takes_of (by decide +kernel), by decide +kernel⟩,
   ⟨(reqOf [(24, leBytes 1 1)] [] : Req), (0 : Nat), up, _, takes_of (by decide +kernel), by decide +kernel⟩,
   ⟨(reqOf [(24, leBytes 1 2), (25, leBytes 1 2)] [] : Req), (0 : Nat), up, _, takes_of (by decide +kernel), by decide +kernel⟩,
   ⟨({ up with hst.jobs := [default], hst.expRunning := false, shift.held := Held.none, pwr.ctlSleep := false } : State), by decide +kernel⟩,
   ⟨({ up with hst.expRunning := true, hst.jobs := ({} : ExpJob) :: ([] : List ExpJob), cages.openCmds := [] } : State), ({} : ExpJob), ([] : List ExpJob), by decide +kernel⟩,
   ⟨({ use := 1, input := [1, 0, 0, 255, 255], limit := 10 } : ExpJob), ([] : List Byte), (0 : Nat), by decide +kernel⟩,
   ⟨({ use := 1, limit := 10 } : ExpJob), (by intro out left h; exact absurd h (by rw [show expandJob { use := 1, limit := 10 } = .malformed by decide +kernel]; nofun))⟩,
   ⟨({ use := 1 } : ExpJob), by decide +kernel⟩,
   ⟨({ up with hst.expRunning := true, hst.jobs := [({ client := 1, tag := 9 } : ExpJob)], cages.openCmds := [({ req := { client := 1, tag := 9, opcode := 0x0201 } } : OpenCmd)] } : State), ({ client := 1, tag := 9 } : ExpJob), ([] : List ExpJob), ({ req := { client := 1, tag := 9, opcode := 0x0201 } } : OpenCmd), false, by decide +kernel⟩,
   ⟨up, by decide +kernel⟩⟩

theorem witness_HoistPackets :
    (∃ (s : State) (b : Bundle),
     dpRun s = true ∧ s.hst.flushing = false ∧ s.bun.active = some b ∧ s.hst.notBuiltRuns = []) ∧
    (∃ (s : State) (k : Nat) (b : Bundle) (l : List HPkt),
     dpRun s = true ∧ s.hst.flushing = false ∧ s.bun.active = some b ∧ s.hst.units = [HUnit.pkts k l] ∧ k ≠ 0 ∧
     queueRoom s (List.map pktBytes l).sum = true) ∧
    (∃ (s : State) (k : Nat) (b : Bundle) (x : HPkt),
     s.hst.units = [HUnit.pkts k [x]] ∧ queueRoom s (pktBytes x) = false ∧ dpRun s = true ∧ s.hst.flushing = false ∧
     s.bun.active = some b ∧ k ≠ 0 ∧ k ≠ 12 ∧ x.endsCapt = none) ∧
    (∃ (s : State) (b : Bundle) (x : HPkt),
     s.hst.units = [HUnit.pkts 12 [x]] ∧ queueRoom s (pktBytes x) = false ∧ dpRun s = true ∧ s.hst.flushing = false ∧
     s.bun.active = some b) ∧
    (∃ (s : State) (b : Bundle),
     dpRun s = true ∧ s.hst.flushing = false ∧ s.bun.active = some b ∧ s.hst.started = true ∧ s.hst.dropRun = [0, 0] ∧
     s.hst.stat ≠ []) ∧
    (∃ (s : State) (b : Bundle),
     dpRun s = true ∧ s.hst.flushing = false ∧ s.bun.active = some b ∧ (s.hst.stat.length < 128 ∨ s.hst.started = false)) ∧
    (∃ (s : State) (b : Bundle) (n : Nat) (l : List HPkt) (j : CruJob) (js : List CruJob) (d : Option Nat) (c : Option Nat),
     dpRun s = true ∧ s.hst.flushing = false ∧ s.bun.active = some b ∧ s.hst.units = [HUnit.crush n l (j :: js) d c]) ∧
    (∃ (s : State) (n : Nat) (l : Lane),
     l = laneAt s n ∧ dpRun s = true ∧ (l.txUp = false ∨ l.txCur.isSome = true)) ∧
    (∃ (s : State) (n : Nat) (l : Lane) (p : List Byte) (rest : List (List Byte)),
     l = laneAt s n ∧ dpRun s = true ∧ l.txUp = true ∧ l.txCur = none ∧ l.txNext = none ∧ l.txRole = 3 ∧ l.txCtl = p :: rest) ∧
    (∃ (s : State) (n : Nat) (aged : List Nat) (l : Lane) (p : HPkt),
     l = laneAt s n ∧ dpRun s = true ∧ l.txUp = true ∧ l.txCur = none ∧ l.txNext = none ∧ l.txRole = 1 ∧ aged = [] ∧
     laneTurn s n = true ∧
     (resendPkt s 0 = some p ∨ resendPkt s 0 = none ∧ l.txCtl = [] ∧ s.hst.ctlA = [] ∧ pickPacket s 0 = some p)) ∧
    (∃ (s : State) (n : Nat) (aged : List Nat) (l : Lane) (p : List Byte) (rest : List (List Byte)) (u : State),
     (u = modLane n (fun x => { x with txCtl := rest }) s) ∧ l = laneAt s n ∧ dpRun s = true ∧ l.txUp = true ∧
     l.txCur = none ∧ l.txNext = none ∧ l.txRole = 1 ∧ aged = [] ∧ (laneTurn s n = false ∨ resendPkt s 0 = none) ∧
     l.txCtl = p :: rest) ∧
    (∃ (s : State) (n : Nat) (aged : List Nat) (l : Lane) (p : List Byte) (rest : List (List Byte)),
     l = laneAt s n ∧ dpRun s = true ∧ l.txUp = true ∧ l.txCur = none ∧ l.txNext = none ∧ l.txRole = 1 ∧ aged = [] ∧
     laneTurn s n = true ∧ resendPkt s 0 = none ∧ l.txCtl = [] ∧ s.hst.ctlA = p :: rest) ∧
    (∃ (s : State) (n : Nat) (aged : List Nat) (l : Lane),
     l = laneAt s n ∧ dpRun s = true ∧ l.txUp = true ∧ l.txCur = none ∧ l.txNext = none ∧ l.txRole = 1 ∧ aged = [] ∧
     laneTurn s n = false ∧ l.txCtl = []) ∧
    (∃ (s : State) (n : Nat) (l : Lane) (p : HPkt),
     l = laneAt s n ∧ dpRun s = true ∧ resendPkt s 0 = some p) ∧
    (∃ (s : State) (n : Nat) (l : Lane) (p : HPkt),
     l = laneAt s n ∧ dpRun s = true ∧ pickPacket s 0 = some p) ∧
    (∃ (s : State) (n : Nat) (l : Lane) (p : TxPkt) (u : State),
     (u = modLane n (fun x => { x with txCur := none, txPktCnt := sat64 (x.txPktCnt + 1) }) (freeLane n s)) ∧
     l = laneAt s n ∧ dpRun s = true ∧ l.txCur = some p ∧ p.ctl = true ∧ l.txRole = 2) ∧
    (∃ (s : State) (n : Nat) (l : Lane) (p : HPkt) (num : Nat),
     l = laneAt s n ∧ dpRun s = true ∧ (List.find? (fun (q : HPkt) => q.num == num) s.hst.queue = some p) ∧
     p.stream < s.hst.lastSent.length) ∧
    (∃ (s : State) (n : Nat) (l : Lane),
     l = laneAt s n ∧ dpRun s = true ∧ (pathUp s 0 = false ∨ pathUp s 1 = false)) ∧
    (∃ (s : State) (n : Nat) (aged : List Nat) (l : Lane) (p : HPkt),
     l = laneAt s n ∧ dpRun s = true ∧ s.hst.queue = [p] ∧ pathUp s 0 = true ∧ pathUp s 1 = true ∧ lagging 0 p = true ∧
     aged = [p.num] ∧ p.waitB = false ∧ p.onA = false ∧ p.endsDump = none ∧ p.endsCapt = none) ∧
    (∃ (s : State) (n : Nat) (l : Lane),
     l = laneAt s n ∧ dpRun s = true ∧ s.hst.flushing = true) ∧
    (∃ (s : State) (n : Nat) (l : Lane),
     l = laneAt s n ∧ dpRun s = true ∧ s.hst.flushing = false) :=
  ⟨⟨({ up with hst.flushing := false, bun.active := some ({} : Bundle), hst.notBuiltRuns := [] } : State), ({} : Bundle), by decide +kernel⟩,
   ⟨({ up with hst.flushing := false, bun.active := some ({} : Bundle), hst.units := [HUnit.pkts (1 : Nat) ([] : List HPkt)] } : State), (1 : Nat), ({} : Bundle), ([] : List HPkt), by decide +kernel⟩,
   ⟨({ upb with hst.units := [.pkts 1 [({ payload := List.replicate 4194273 0 } : HPkt)]] } : State), (1 : Nat), (({ upb with hst.units := [.pkts 1 [({ payload := List.replicate 4194273 0 } : HPkt)]] } : State).bun.active.getD {} : Bundle), ({ payload := List.replicate 4194273 0 } : HPkt), rfl, (by exact no_room rfl (List.length_replicate ..)), by decide +kernel⟩,
   ⟨({ upb with hst.units := [.pkts 12 [({ payload := List.replicate 4194273 0 } : HPkt)]] } : State), (({ upb with hst.units := [.pkts 12 [({ payload := List.replicate 4194273 0 } : HPkt)]] } : State).bun.active.getD {} : Bundle), ({ payload := List.replicate 4194273 0 } : HPkt), rfl, (by exact no_room rfl (List.length_replicate ..)), by decide +kernel⟩,
   ⟨({ upb with hst.flushing := false, bun.active := some ({} : Bundle), hst.started := true, hst.dropRun := [0, 0], hst.stat := [default] } : State), ({} : Bundle), by decide +kernel⟩,
   ⟨({ upb with hst.flushing := false, bun.active := some ({} : Bundle) } : State), ({} : Bundle), by decide +kernel⟩,
   ⟨({ up with hst.flushing := false, bun.active := some ({} : Bundle), hst.units := [HUnit.crush (0 : Nat) ([] : List HPkt) (({} : CruJob) :: ([] : List CruJob)) none none] } : State), ({} : Bundle), (0 : Nat), ([] : List HPkt), ({} : CruJob), ([] : List CruJob), none, none, by decide +kernel⟩,
   ⟨up, (0 : Nat), _, rfl, by decide +kernel⟩,
   ⟨(modLane 0 (fun l => { l with txCtl := [([1] : List Byte)] }) (sending 0 3 up) : State), (0 : Nat), (laneAt (modLane 0 (fun l => { l with txCtl := [([1] : List Byte)] }) (sending 0 3 up) : State) 0 : Lane), ([1] : List Byte), ([] : List (List Byte)), by decide +kernel⟩,
   ⟨({ sending 0 1 upb with hst.queue := [({ waitA := true } : HPkt)] } : State), (0 : Nat), ([] : List Nat), (laneAt ({ sending 0 1 upb with hst.queue := [({ waitA := true } : HPkt)] } : State) 0 : Lane), ({ waitA := true } : HPkt), by decide +kernel⟩,
   ⟨(modLane 0 (fun l => { l with txCtl := [[1]] }) (sending 0 1 up) : State), (0 : Nat), ([] : List Nat), (laneAt (modLane 0 (fun l => { l with txCtl := [[1]] }) (sending 0 1 up) : State) 0 : Lane), ([1] : List Byte), ([] : List (List Byte)), _, rfl, by decide +kernel⟩,
   ⟨({ sending 0 1 up with hst.ctlA := [[1]] } : State), (0 : Nat), ([] : List Nat), (laneAt ({ sending 0 1 up with hst.ctlA := [[1]] } : State) 0 : Lane), ([1] : List Byte), ([] : List (List Byte)), by decide +kernel⟩,
   ⟨(sending 0 1 (sending 1 1 up) : State), (1 : Nat), ([] : List Nat), (laneAt (sending 0 1 (sending 1 1 up) : State) 1 : Lane), by decide +kernel⟩,
   ⟨({ sending 0 1 upb with hst.queue := [({ waitA := true, redoA := true } : HPkt)] } : State), (0 : Nat), (laneAt ({ sending 0 1 upb with hst.queue := [({ waitA := true, redoA := true } : HPkt)] } : State) 0 : Lane), ({ waitA := true, redoA := true } : HPkt), by decide +kernel⟩,
   ⟨({ sending 0 1 upb with hst.queue := [({ waitA := true } : HPkt)] } : State), (0 : Nat), (laneAt ({ sending 0 1 upb with hst.queue := [({ waitA := true } : HPkt)] } : State) 0 : Lane), ({ waitA := true } : HPkt), by decide +kernel⟩,
   ⟨(modLane 0 (fun l => { l with txCur := some { ctl := true } }) (sending 0 2 up) : State), (0 : Nat), (laneAt (modLane 0 (fun l => { l with txCur := some { ctl := true } }) (sending 0 2 up) : State) 0 : Lane), ({ ctl := true } : TxPkt), _, rfl, by decide +kernel⟩,
   ⟨({ upb with hst.queue := [({} : HPkt)] } : State), (0 : Nat), _, ({} : HPkt), (0 : Nat), rfl, by decide +kernel⟩,
   ⟨up, (0 : Nat), _, rfl, by decide +kernel⟩,
   ⟨({ sending 1 2 (sending 0 1 upb) with hst.dual := true, hst.queue := [({ num := 5, waitA := true, sentB := true } : HPkt)] } : State), (0 : Nat), ([5] : List Nat), (laneAt ({ sending 1 2 (sending 0 1 upb) with hst.dual := true, hst.queue := [({ num := 5, waitA := true, sentB := true } : HPkt)] } : State) 0 : Lane), ({ num := 5, waitA := true, sentB := true } : HPkt), by decide +kernel⟩,
   ⟨({ up with hst.flushing := true } : State), (0 : Nat), _, rfl, by decide +kernel⟩,
   ⟨({ up with hst.flushing := false } : State), (0 : Nat), _, rfl, by decide +kernel⟩⟩

theorem witness_IntegrationLines :
    (∃ (s : State) (g : Nat) (l : StagedLine) (b : Bundle) (j : PromJob),
     Memory.wf s.pit.mem = true ∧ nextLine s g = some l ∧ s.bun.active = some b ∧ jobAt s l.pos = some j ∧ j.begun = true ∧
     j.fresh = false ∧ j.last = false ∧ 1 < j.linesLeft ∧ l.damaged = false ∧ s.pit.damaged = []) ∧
    (∃ (s : State) (g : Nat),
     nextLine s g = none) ∧
    (∃ (s : State) (r : RingRec),
     (List.find? (fun (r : RingRec) => !r.posted) s.tal.ring = some r) ∧ r.written = true) ∧
    (∃ (s : State) (r : RingRec),
     (List.find? (fun (r : RingRec) => !r.posted) s.tal.ring = some r) ∧ r.written = false) ∧
    (∃ (s : State) (sc : IntegSched),
     s.tal.ringBase = sc.ringBase ∧ s.tal.ringCap = sc.ringRecords) ∧
    (∃ (s : State) (sc : IntegSched),
     (s.tal.ringBase ≠ sc.ringBase ∨ s.tal.ringCap ≠ sc.ringRecords)) ∧
    (∃ (s : State) (it : Integ),
     ringUsed (adoptRing it.sched s) < (adoptRing it.sched s).tal.ringCap) ∧
    (∃ (s : State) (it : Integ),
     (adoptRing it.sched s).tal.ringCap ≤ ringUsed (adoptRing it.sched s)) ∧
    (∃ (s : State),
     dpRun s = true ∧ s.hop.running = true) ∧
    (∃ (s : State),
     dpRun s = true ∧ s.hop.running = false) :=
  ⟨⟨({ upl with tal.staging := [({ pos := 3, seen := 8192 } : StagedLine)], tal.jobs := [({ pos := 3, begun := true, linesLeft := 2 } : PromJob)] } : State), (0 : Nat), ({ pos := 3, seen := 8192 } : StagedLine), bun16, ({ pos := 3, begun := true, linesLeft := 2 } : PromJob), by decide +kernel⟩,
   ⟨upb, (0 : Nat), by decide +kernel⟩,
   ⟨({ up with tal.ring := [({ written := true } : RingRec)] } : State), ({ written := true } : RingRec), by decide +kernel⟩,
   ⟨({ up with tal.ring := [({} : RingRec)] } : State), ({} : RingRec), by decide +kernel⟩,
   ⟨({ upb with tal.ringBase := ({} : IntegSched).ringBase, tal.ringCap := ({} : IntegSched).ringRecords } : State), ({} : IntegSched), by decide +kernel⟩,
   ⟨upb, ({} : IntegSched), by decide +kernel⟩,
   ⟨up, ({} : Integ), by decide +kernel⟩,
   ⟨up, ({ sched := { ringRecords := 0 } } : Integ), by decide +kernel⟩,
   ⟨({ up with hop.running := true } : State), by decide +kernel⟩,
   ⟨({ up with hop.running := false } : State), by decide +kernel⟩⟩

theorem witness_Integrations :
    (∃ (k : Nat) (it : Integ),
     it.stop = some k) ∧
    (∃ (k : Nat) (it : Integ),
     it.stop ≠ some k ∧ 0 < it.sched.length ∧ k + 1 = it.k0 + it.sched.length) ∧
    (∃ (k : Nat) (it : Integ),
     it.stop ≠ some k ∧ it.sched.length = 0 ∧ k + 1 - it.k0 = formatLimit it.sched.format it.sched.countPlane) ∧
    (∃ (k : Nat) (it : Integ),
     it.stop ≠ some k ∧ (it.sched.length = 0 ∨ k + 1 ≠ it.k0 + it.sched.length) ∧
     k + 1 - it.k0 ≠ formatLimit it.sched.format it.sched.countPlane) ∧
    (∃ (s : State) (j : Nat) (b : Bundle),
     bundleOfPos s j = some b ∧ (s.tal.sweepDue = true ∨ s.tal.sweep ≠ none ∨ channelOf s j ≠ 0 ∧ s.tal.cur = none)) ∧
    (∃ (it : Integ) (s : State),
     s.tal.cur = some it ∧ it.last = false) ∧
    (∃ (it : Integ) (s : State),
     s.tal.cur = some it ∧ it.last = true ∧ it.endCode = 2) ∧
    (∃ (it : Integ) (s : State),
     s.tal.cur = some it ∧ it.last = true ∧ it.endCode = 3) ∧
    (∃ (r : Req) (t : Nat) (s : State) (u : State) (b : Bundle),
     Takes 1025 r t s u ∧ u.bun.active = some b ∧ b8 r 45 < 2 ∧ 2 ≤ (schedOfReq r).ringRecords ∧
     formatSuits b.mode (schedOfReq r).format = true ∧
     allApart (schedRegions b (schedOfReq r) ++ captRegion u ++ fwRegion b) = true ∧
     (((oldRing u (schedOfReq r)).all fun (o : Nat × Nat) => (schedRegions b (schedOfReq r)).all (regionsApart o)) = true) ∧
     consumeChunk u + 2 ≤ (schedOfReq r).firstChunk ∧ u.tal.sweep = none ∧ u.tal.sweepDue = false ∧ u.tal.cur = none ∧
     (schedOfReq r).length ≤ formatLimit (schedOfReq r).format (schedOfReq r).countPlane ∧
     (u.bun.applying = true ∨ regionsFit (schedRegions b (schedOfReq r)) = true ∧ ringRuleOk u b (schedOfReq r) = true ∧
  ratesOk { u with tal.sched := some (schedOfReq r), tal.begun := 0, tal.idsUsed := 0, tal.next := none, tal.ended := false } = true)) ∧
    (∃ (r : Req) (t : Nat) (s : State) (u : State) (b : Bundle) (it : Integ),
     Takes 1025 r t s u ∧ u.bun.active = some b ∧ b8 r 45 < 2 ∧ 2 ≤ (schedOfReq r).ringRecords ∧
     formatSuits b.mode (schedOfReq r).format = true ∧
     allApart (schedRegions b (schedOfReq r) ++ captRegion u ++ fwRegion b) = true ∧ oldRing u (schedOfReq r) = [] ∧
     consumeChunk u + 2 ≤ (schedOfReq r).firstChunk ∧ u.tal.sweep = none ∧ u.tal.sweepDue = false ∧ u.tal.cur = some it ∧
     it.sched.length ≠ 0 ∧ it.k0 + it.sched.length ≤ (schedOfReq r).firstChunk ∧
     (schedOfReq r).length ≤ formatLimit (schedOfReq r).format (schedOfReq r).countPlane ∧ u.bun.applying = true) ∧
    (∃ (r : Req) (t : Nat) (s : State) (u : State) (b : Bundle),
     Takes 1025 r t s u ∧ u.bun.active = some b ∧ (schedOfReq r).ringRecords < 2) ∧
    (∃ (r : Req) (t : Nat) (s : State) (u : State) (b : Bundle),
     Takes 1026 r t s u ∧ u.bun.active = some b ∧ b32 r 24 = 4294967295 ∧ u.tal.cur = none) ∧
    (∃ (r : Req) (t : Nat) (s : State) (u : State) (b : Bundle) (it : Integ),
     Takes 1026 r t s u ∧ u.bun.active = some b ∧ b32 r 24 = 4294967295 ∧ u.tal.cur = some it ∧ it.last = false ∧
     it.sched.length = 0) ∧
    (∃ (r : Req) (t : Nat) (s : State) (u : State) (b : Bundle) (it : Integ),
     Takes 1026 r t s u ∧ u.bun.active = some b ∧
     (b32 r 24 = 4294967295 ∨ b32 r 24 = it.id ∧ u.tal.idsBegun.contains it.id = true) ∧ u.tal.cur = some it ∧
     it.last = false ∧ it.sched.length ≠ 0 ∧ chunkAfter b (fullTime u t) 1000000 ≤ it.k0 + it.sched.length - 1) ∧
    (∃ (r : Req) (t : Nat) (s : State) (u : State) (b : Bundle) (it : Integ),
     Takes 1026 r t s u ∧ u.bun.active = some b ∧ b32 r 24 = 4294967295 ∧ u.tal.cur = some it ∧ it.last = true) ∧
    (∃ (s : State) (u : State) (b : Bundle),
     u.bun.active = some b ∧ sweepsOn s = false) ∧
    (∃ (s : State) (u : State) (b : Bundle) (it : Integ),
     u.bun.active = some b ∧ s.tal.sweepDue = true ∧ s.tal.jobs = [] ∧ s.tal.sweep = none ∧ s.tal.cur = some it) ∧
    (∃ (s : State) (u : State) (b : Bundle) (sw : Sweep),
     u.bun.active = some b ∧ sweepsOn s = true ∧ s.bun.active = some b ∧ s.tal.sweep = some sw ∧ s.tal.sweepDue = false ∧
     sw.channel < b.channels ∧
     ((List.filter (fun (r : RingRec) => r.base == sw.integ.sched.ringBase && r.cap == sw.integ.sched.ringRecords) s.tal.ring).length < sw.integ.sched.ringRecords)) ∧
    (∃ (s : State) (u : State) (b : Bundle) (sw : Sweep),
     (∀ (o : OpenCmd), o ∈ s.cages.openCmds → isOp 1026 o = false ∨ o.phase ≠ CmdPhase.staged) ∧ u.bun.active = some b ∧
     sweepsOn s = true ∧ s.bun.active = some b ∧ s.tal.sweep = some sw ∧ b.channels ≤ sw.channel) :=
  ⟨⟨(0 : Nat), ({ stop := some (0 : Nat) } : Integ), by decide +kernel⟩,
   ⟨(3 : Nat), ({ sched := { length := 4 } } : Integ), by decide +kernel⟩,
   ⟨(formatLimit 0 false - 1 : Nat), ({} : Integ), by decide +kernel⟩,
   ⟨(0 : Nat), ({} : Integ), by decide +kernel⟩,
   ⟨upl, (3 : Nat), bun16, by decide +kernel⟩,
   ⟨({ last := false } : Integ), ({ upb with tal.cur := some (((fun s => { s with last := false }) ({} : Integ)) : Integ) } : State), by decide +kernel⟩,
   ⟨({ (((fun s => { s with last := true }) ({} : Integ))) with endCode := 2 } : Integ), ({ upb with tal.cur := some (((fun s => { s with endCode := 2 }) (((fun s => { s with last := true }) ({} : Integ)) : Integ)) : Integ) } : State), by decide +kernel⟩,
   ⟨({ (((fun s => { s with last := true }) ({} : Integ))) with endCode := 3 } : Integ), ({ upb with tal.cur := some (((fun s => { s with endCode := 3 }) (((fun s => { s with last := true }) ({} : Integ)) : Integ)) : Integ) } : State), by decide +kernel⟩,
   ⟨(reqOf [(24, leBytes 8 2), (32, leBytes 4 1), (46, leBytes 2 1000), (48, leBytes 3 0x100000), (54, leBytes 3 0x200000)] [] : Req), (0 : Nat), upl, _, bun16, takes_of (by decide +kernel), by decide +kernel⟩,
   ⟨(reqOf [(24, leBytes 8 2), (32, leBytes 4 1), (46, leBytes 2 1000), (48, leBytes 3 0x100000), (54, leBytes 3 0x200000)] [] : Req), (0 : Nat), ({ upl with bun.applying := true, tal.cur := some { sched := { length := 1 } } } : State), _, bun16, ({ sched := { length := 1 } } : Integ), takes_of (by decide +kernel), by decide +kernel⟩,
   ⟨(reqOf [] [] : Req), (0 : Nat), ({ up with bun.active := some ({} : Bundle) } : State), _, ({} : Bundle), takes_of (by decide +kernel), by decide +kernel⟩,
   ⟨(reqOf [(24, leBytes 4 4294967295)] [] : Req), (0 : Nat), ({ up with bun.active := some ({} : Bundle), tal.cur := none } : State), _, ({} : Bundle), takes_of (by decide +kernel), by decide +kernel⟩,
   ⟨(reqOf [(24, leBytes 4 4294967295)] [] : Req), (0 : Nat), ({ up with bun.active := some ({} : Bundle), tal.cur := some ({} : Integ) } : State), _, ({} : Bundle), ({} : Integ), takes_of (by decide +kernel), by decide +kernel⟩,
   ⟨(reqOf [(24, leBytes 4 4294967295)] [] : Req), (0 : Nat), ({ upl with tal.cur := some { sched := { length := 1000 } } } : State), _, bun16, ({ sched := { length := 1000 } } : Integ), takes_of (by decide +kernel), by decide +kernel⟩,
   ⟨(reqOf [(24, leBytes 4 4294967295)] [] : Req), (0 : Nat), ({ upl with tal.cur := some { last := true } } : State), _, bun16, ({ last := true } : Integ), takes_of (by decide +kernel), by decide +kernel⟩,
   ⟨State.reset, ({ upb with bun.active := some ({} : Bundle) } : State), ({} : Bundle), by decide +kernel⟩,
   ⟨({ upb with tal.sweepDue := true, tal.jobs := [], tal.sweep := none, tal.cur := some ({} : Integ) } : State), ({ upb with bun.active := some ({} : Bundle) } : State), ({} : Bundle), ({} : Integ), by decide +kernel⟩,
   ⟨({ upb with bun.active := some ({} : Bundle), tal.sweep := some ({} : Sweep), tal.sweepDue := false } : State), ({ upb with bun.active := some ({} : Bundle) } : State), ({} : Bundle), ({} : Sweep), by decide +kernel⟩,
   ⟨({ upl with tal.sweep := some { channel := 16 } } : State), (({ upl with tal.sweep := some { channel := 16 } } : State) : State), bun16, ({ channel := 16 } : Sweep), (by exact fun o h => absurd h List.not_mem_nil), by decide +kernel⟩⟩

theorem witness_LaneAssignRefused :
    ∃ (r : Req) (t : Nat) (s : State) (u : State),
     Takes 771 r t s u ∧ (∀ (n : Nat), n < 64 → assignEntry r.arg n &&& 4294954238 = 0) ∧ b8 r 24 < 2 ∧
     (roleRates r.arg 1 = [] ∨ sameRates (roleRates r.arg 1) = false ∨ sameRates (roleRates r.arg 2) = false ∨ bit (b8 r 24) 0 = true ∧ roleRates r.arg 2 = []) :=
  ⟨(reqOf [] (List.replicate 256 0) : Req), (0 : Nat), up, _, takes_of (by decide +kernel), (by decide +kernel), by decide +kernel⟩

theorem witness_LaneBringupLadder :
    (∃ (s : State) (n : Nat),
     dpRun s = true ∧ (laneAt s n).rxState = RxState.search ∧ (laneAt s n).los = false) ∧
    (∃ (s : State) (n : Nat),
     dpRun s = true ∧ (laneAt s n).rxState = RxState.search ∧ (laneAt s n).bringup = Bringup.ladder ∧
     0 < (laneAt s n).rxRate) ∧
    (∃ (s : State) (n : Nat),
     dpRun s = true ∧ (laneAt s n).rxState = RxState.search ∧ (laneAt s n).bringup = Bringup.ladder ∧
     (laneAt s n).rxRate = 0) ∧
    (∃ (s : State) (n : Nat),
     dpRun s = true ∧ (laneAt s n).rxState = RxState.search ∧ (laneAt s n).bringup = Bringup.saved) ∧
    (∃ (s : State) (n : Nat),
     dpRun s = true ∧ (laneAt s n).rxState = RxState.adapt ∧ (laneAt s n).bringup = Bringup.saved) ∧
    (∃ (s : State) (n : Nat),
     dpRun s = true ∧ (laneAt s n).rxState = RxState.adapt ∧ (laneAt s n).bringup ≠ Bringup.saved ∧ 0 < (laneAt s n).rxRate) ∧
    (∃ (s : State) (n : Nat) (ctle : Nat),
     dpRun s = true ∧ (laneAt s n).rxState = RxState.up ∧ (laneAt s n).frozen = false ∧ ctle ≤ (laneAt s n).ctle + 1 ∧
     (laneAt s n).ctle ≤ ctle + 1) ∧
    (∃ (s : State) (n : Nat),
     dpRun s = true ∧ (laneAt s n).frozen = true) ∧
    (∃ (s : State),
     (∀ (o : OpenCmd), o ∈ s.cages.openCmds → o.req.opcode = 769 → ∃ (k : Nat), k ∈ bitsSet 64 o.key ∧ ((laneAt s k).rxState = RxState.search ∨ (laneAt s k).rxState = RxState.adapt)) ∧
     dpRun s = true) ∧
    (∃ (s : State) (o : OpenCmd),
     dpRun s = true ∧ s.cages.openCmds = [o] ∧ o.phase = CmdPhase.committed ∧ o.req.opcode = 769 ∧
     (∀ (k : Nat), k ∈ bitsSet 64 o.key → (laneAt s k).rxState ≠ RxState.search ∧ (laneAt s k).rxState ≠ RxState.adapt)) :=
  ⟨⟨((modLane (0 : Nat) (fun x => { x with los := false }) ((modLane (0 : Nat) (fun x => { x with rxState := RxState.search }) (up)))) : State), (0 : Nat), by decide +kernel⟩,
   ⟨(modLane 5 (fun l => { l with rxEnabled := true, rxState := .search, bringup := .ladder, rxRate := 1 }) up : State), (5 : Nat), by decide +kernel⟩,
   ⟨((modLane (0 : Nat) (fun x => { x with rxRate := 0 }) ((modLane (0 : Nat) (fun x => { x with bringup := Bringup.ladder }) ((modLane (0 : Nat) (fun x => { x with rxState := RxState.search }) (upb)))))) : State), (0 : Nat), by decide +kernel⟩,
   ⟨((modLane (0 : Nat) (fun x => { x with bringup := Bringup.saved }) ((modLane (0 : Nat) (fun x => { x with rxState := RxState.search }) (up)))) : State), (0 : Nat), by decide +kernel⟩,
   ⟨((modLane (0 : Nat) (fun x => { x with bringup := Bringup.saved }) ((modLane (0 : Nat) (fun x => { x with rxState := RxState.adapt }) (upb)))) : State), (0 : Nat), by decide +kernel⟩,
   ⟨(modLane 5 (fun l => { l with rxEnabled := true, rxState := .adapt, bringup := .ladder, rxRate := 1 }) up : State), (5 : Nat), by decide +kernel⟩,
   ⟨((modLane (0 : Nat) (fun x => { x with frozen := false }) ((modLane (0 : Nat) (fun x => { x with rxState := RxState.up }) (up)))) : State), (0 : Nat), (0 : Nat), by decide +kernel⟩,
   ⟨((modLane (0 : Nat) (fun x => { x with frozen := true }) (up)) : State), (0 : Nat), by decide +kernel⟩,
   ⟨up, (by exact fun o h => absurd h List.not_mem_nil), by decide +kernel⟩,
   ⟨({ up with cages.openCmds := [({ phase := .committed, req := { reqOf [] [] with opcode := 769 }, key := 2 } : OpenCmd)] } : State), ({ phase := .committed, req := { reqOf [] [] with opcode := 769 }, key := 2 } : OpenCmd), by decide +kernel⟩⟩

theorem witness_LanePacketOutcomes :
    (∃ (p : RxPkt) (l : List RxPkt),
     (∀ (q : RxPkt), q ∈ l → q.time = p.time → q.lane ≤ p.lane)) ∧
    (∃ (p : RxPkt) (l : List RxPkt) (q : RxPkt),
     (∀ (x : RxPkt), x ∈ l → x.time = p.time → x.lane ≤ p.lane) ∧ q.time = p.time ∧ p.lane < q.lane) ∧
    (∃ (s : State) (n : Nat) (w : Nat) (pos : Nat) (word : List RxChar),
     dpRun s = true ∧ (laneAt s n).rxEnabled = true ∧ codeFault word pos = true ∧
     ((List.filter (fun (x : Nat) => decide (w < x + 16)) (laneAt s n).errWords).length < 3)) ∧
    (∃ (s : State) (n : Nat) (w : Nat) (pos : Nat) (word : List RxChar),
     dpRun s = true ∧ (laneAt s n).rxEnabled = true ∧ codeFault word pos = true ∧ (laneAt s n).lol = false ∧
     (3 ≤ (List.filter (fun (x : Nat) => decide (w < x + 16)) (laneAt s n).errWords).length)) ∧
    (∃ (s : State) (n : Nat) (pos : Nat) (word : List RxChar),
     dpRun s = true ∧ (laneAt s n).rxEnabled = true ∧ codeFault word pos = false) ∧
    (∃ (s : State) (n : Nat) (bytes : List Byte) (crc : List Byte),
     dpRun s = true ∧ (laneAt s n).rxEnabled = true ∧ (laneAt s n).pktErr = false ∧ bytes.length + 4 ≤ 8228 ∧
     leAt crc 0 4 = crc32 bytes ∧ (laneAt s n).rxState = RxState.up ∧ malformed bytes = false) ∧
    (∃ (s : State) (n : Nat) (bytes : List Byte) (crc : List Byte),
     dpRun s = true ∧ (laneAt s n).rxEnabled = true ∧ (laneAt s n).pktErr = false ∧ bytes.length + 4 ≤ 8228 ∧
     leAt crc 0 4 = crc32 bytes ∧ (laneAt s n).rxState = RxState.up ∧ malformed bytes = true) ∧
    (∃ (s : State) (n : Nat) (bytes : List Byte) (crc : List Byte),
     dpRun s = true ∧ (laneAt s n).rxEnabled = true ∧ (laneAt s n).pktErr = false ∧ bytes.length + 4 ≤ 8228 ∧
     leAt crc 0 4 = crc32 bytes ∧ (laneAt s n).rxState ≠ RxState.up) ∧
    (∃ (s : State) (n : Nat) (how : RxEnd) (bytes : List Byte) (crc : List Byte),
     dpRun s = true ∧ (laneAt s n).rxEnabled = true ∧
     ((laneAt s n).pktErr = true ∨ how = RxEnd.eop ∧ bytes.length + 4 ≤ 8228 ∧ leAt crc 0 4 ≠ crc32 bytes)) ∧
    (∃ (s : State) (n : Nat) (how : RxEnd) (bytes : List Byte),
     dpRun s = true ∧ (laneAt s n).rxEnabled = true ∧ (laneAt s n).pktErr = false ∧
     (how ≠ RxEnd.eop ∨ 8228 < bytes.length + 4)) :=
  ⟨⟨({} : RxPkt), ([] : List RxPkt), by decide +kernel⟩,
   ⟨({} : RxPkt), ([] : List RxPkt), ({ lane := 1 } : RxPkt), (by exact fun o h => absurd h List.not_mem_nil), by decide +kernel⟩,
   ⟨(modLane 0 (fun l => { l with rxEnabled := true }) up : State), (0 : Nat), (0 : Nat), (0 : Nat), ([{ valid := false }] : List RxChar), by decide +kernel⟩,
   ⟨(modLane 0 (fun l => { l with rxEnabled := true, errWords := [0, 0, 0] }) up : State), (0 : Nat), (0 : Nat), (0 : Nat), ([{ valid := false }] : List RxChar), by decide +kernel⟩,
   ⟨((modLane (0 : Nat) (fun x => { x with rxEnabled := true }) (upb)) : State), (0 : Nat), (0 : Nat), ([] : List RxChar), by decide +kernel⟩,
   ⟨(modLane 0 (fun l => { l with rxEnabled := true, rxState := .up }) up : State), (0 : Nat), (ctlPkt 0 true none true : List Byte), (leBytes 4 (crc32 (ctlPkt 0 true none true)) : List Byte), by decide +kernel⟩,
   ⟨((modLane (0 : Nat) (fun x => { x with rxState := RxState.up }) ((modLane (0 : Nat) (fun x => { x with pktErr := false }) ((modLane (0 : Nat) (fun x => { x with rxEnabled := true }) (upb)))))) : State), (0 : Nat), ([] : List Byte), ([] : List Byte), by decide +kernel⟩,
   ⟨((modLane (0 : Nat) (fun x => { x with pktErr := false }) ((modLane (0 : Nat) (fun x => { x with rxEnabled := true }) (upb)))) : State), (0 : Nat), ([] : List Byte), ([] : List Byte), by decide +kernel⟩,
   ⟨((modLane (0 : Nat) (fun x => { x with pktErr := true }) ((modLane (0 : Nat) (fun x => { x with rxEnabled := true }) (upb)))) : State), (0 : Nat), (.eop : RxEnd), ([] : List Byte), ([] : List Byte), by decide +kernel⟩,
   ⟨(modLane 0 (fun l => { l with rxEnabled := true, rxState := .up }) up : State), (0 : Nat), (.eab : RxEnd), ([] : List Byte), by decide +kernel⟩⟩

theorem witness_LaneReception :
    (∃ (s : State) (n : Nat) (info : Nat),
     dpRun s = true ∧ (laneAt s n).rxEnabled = true ∧ bit info 3 = false) ∧
    (∃ (s : State) (info : Nat),
     dpRun s = true ∧ bit info 3 = true) ∧
    (∃ (s : State) (n : Nat) (words : List (List RxChar)),
     (∀ (w : List RxChar), w ∈ List.drop (words.length - 8) words → alignsWord w = true) ∧ dpRun s = true ∧
     (laneAt s n).rxEnabled = true ∧ (laneAt s n).los = false ∧ 8 ≤ words.length) ∧
    (∃ (s : State) (words : List (List RxChar)),
     (words.length < 8 ∨ ∃ (w : List RxChar), w ∈ List.drop (words.length - 8) words ∧ alignsWord w = false) ∧
     dpRun s = true) ∧
    (∃ (s : State) (n : Nat),
     dpRun s = true ∧ (laneAt s n).rxEnabled = true ∧ (laneAt s n).los = false ∧ (laneAt s n).lol = false) ∧
    (∃ (s : State) (n : Nat),
     dpRun s = true ∧ (laneAt s n).rxEnabled = true ∧ (laneAt s n).los = false ∧ (laneAt s n).lol = true) ∧
    (∃ (s : State) (n : Nat),
     dpRun s = true ∧ (laneAt s n).los = true ∧ supplyOn s vlane = true) ∧
    (∃ (s : State) (n : Nat),
     dpRun s = true ∧ (laneAt s n).lol = true ∧ (laneAt s n).aligned = true ∧ (laneAt s n).los = false) ∧
    (∃ (s : State) (n : Nat),
     dpRun s = true ∧ (laneAt s n).rxState = RxState.relock ∧ (laneAt s n).los = false) ∧
    (∃ (s : State) (n : Nat) (inPkt : Bool) (ok : Bool) (a : Nat) (b : Nat) (ws : List (List RxChar)) (bs : List Byte) (crc : List Byte) (how : RxEnd) (e : Instr),
     e ∈ [Instr.rxTrain n a b, Instr.rxSkip n a, Instr.elasticEvent n inPkt, Instr.wordAlignment n ws, Instr.laneCounterClear n, Instr.losAssert n inPkt, Instr.losDeassert n, Instr.lolAssert n inPkt, Instr.lolDeassert n, Instr.relockAttempt n ok, Instr.rxPacket n how bs crc a, Instr.rateTrialSuccess n, Instr.rateTrialFail n, Instr.savedRateAttemptEnd n, Instr.txTrainDone n, Instr.txSkipSend n a, Instr.txTrainSend n a, Instr.txTrainReport n a, Instr.txFault n, Instr.txSerialiserRelock n] ∧
     dpRun s = false) :=
  ⟨⟨((modLane (0 : Nat) (fun x => { x with rxEnabled := true }) (up)) : State), (0 : Nat), (0 : Nat), by decide +kernel⟩,
   ⟨upb, (90 : Nat), by decide +kernel⟩,
   ⟨(modLane 0 (fun l => { l with rxEnabled := true }) up : State), (0 : Nat), (List.replicate 8 [{ ctl := true, byte := 0xBC }, { byte := 0xB5 }, { byte := 0xB5 }, { byte := 0xB5 }] : List (List RxChar)), (by decide +kernel), by decide +kernel⟩,
   ⟨up, ([] : List (List RxChar)), (by exact .inl (by decide)), by decide +kernel⟩,
   ⟨((modLane (0 : Nat) (fun x => { x with lol := false }) ((modLane (0 : Nat) (fun x => { x with los := false }) ((modLane (0 : Nat) (fun x => { x with rxEnabled := true }) (up)))))) : State), (0 : Nat), by decide +kernel⟩,
   ⟨((modLane (0 : Nat) (fun x => { x with lol := true }) ((modLane (0 : Nat) (fun x => { x with los := false }) ((modLane (0 : Nat) (fun x => { x with rxEnabled := true }) (up)))))) : State), (0 : Nat), by decide +kernel⟩,
   ⟨((modLane (0 : Nat) (fun x => { x with los := true }) (up)) : State), (0 : Nat), by decide +kernel⟩,
   ⟨((modLane (0 : Nat) (fun x => { x with los := false }) ((modLane (0 : Nat) (fun x => { x with aligned := true }) ((modLane (0 : Nat) (fun x => { x with lol := true }) (up)))))) : State), (0 : Nat), by decide +kernel⟩,
   ⟨((modLane (0 : Nat) (fun x => { x with los := false }) ((modLane (0 : Nat) (fun x => { x with rxState := RxState.relock }) (up)))) : State), (0 : Nat), by decide +kernel⟩,
   ⟨({ up with sys.dp := .off } : State), (0 : Nat), false, false, (0 : Nat), (0 : Nat), ([] : List (List RxChar)), ([] : List Byte), ([] : List Byte), (.eop : RxEnd), (.laneCounterClear 0 : Instr), (by simp), by decide +kernel⟩⟩

theorem witness_LaneTransmission :
    (∃ (s : State) (n : Nat) (role : Nat) (rate : Nat),
     dpRun s = true ∧ (laneAt s n).txNext = some (role, rate) ∧ (laneAt s n).txCur = none) ∧
    (∃ (s : State) (n : Nat),
     dpRun s = true ∧ ((laneAt s n).txNext = none ∨ (laneAt s n).txCur ≠ none)) ∧
    (∃ (s : State) (n : Nat),
     dpRun s = true ∧ (laneAt s n).txTraining = true ∧ (laneAt s n).txFault = false) ∧
    (∃ (s : State) (n : Nat) (w : Nat),
     dpRun s = true ∧ (laneAt s n).txUp = true ∧ (laneAt s n).txCur = none ∧ 1024 ≤ (laneAt s n).sinceSkip + w) ∧
    (∃ (s : State) (n : Nat) (w : Nat),
     dpRun s = true ∧ (laneAt s n).txUp = true ∧ (laneAt s n).txCur = none ∧ 61440 ≤ (laneAt s n).sinceTrain0 + w) ∧
    (∃ (s : State) (n : Nat) (w : Nat) (k : Nat),
     dpRun s = true ∧ (laneAt s n).txUp = true ∧ (laneAt s n).txCur = none ∧ (laneAt s n).txRole = 3 ∧
     256 ≤ (laneAt s n).sinceTrain + w ∧ nextReport s (laneAt s n).lastReport = some k) ∧
    (∃ (s : State) (n : Nat) (w : Nat),
     dpRun s = true ∧ ((laneAt s n).txUp = false ∨ (laneAt s n).txCur ≠ none ∨ (laneAt s n).sinceTrain + w < 256)) ∧
    (∃ (s : State) (rate : Nat),
     dpRun s = true ∧ rate < 4) ∧
    (∃ (s : State) (last : Option Nat) (k : Nat) (l : Nat),
     dpRun s = true ∧ nextReport s last = some k ∧ last = some l) ∧
    (∃ (s : State) (n : Nat),
     dpRun s = true ∧ (laneAt s n).txRole ≠ 0 ∧ (laneAt s n).txFault = false ∧ (laneAt s n).txCur = none) ∧
    (∃ (s : State) (n : Nat) (p : TxPkt),
     dpRun s = true ∧ (laneAt s n).txRole = 3 ∧ (laneAt s n).txFault = false ∧ (laneAt s n).txCur = some p) ∧
    (∃ (s : State) (n : Nat) (p : TxPkt),
     dpRun s = true ∧ ((laneAt s n).txRole = 1 ∨ (laneAt s n).txRole = 2) ∧ (laneAt s n).txFault = false ∧
     (laneAt s n).txCur = some p) ∧
    (∃ (s : State) (n : Nat),
     dpRun s = true ∧ (laneAt s n).txFault = true ∧ supplyOn s vlane = true) ∧
    (∃ (rec : LaneRec) (e : Nat) (l : Lane),
     bit e 0 = true ∧ l.rxEnabled = false ∧ rec.valid = true) ∧
    (∃ (rec : LaneRec) (e : Nat) (l : Lane),
     bit e 0 = true ∧ l.rxEnabled = false ∧ rec.valid = false) ∧
    (∃ (e : Nat) (l : Lane),
     bit e 0 = true ∧ l.rxEnabled = true) ∧
    (∃ (e : Nat) (l : Lane),
     bit e 0 = false ∧ l.rxEnabled = true) ∧
    (∃ (e : Nat) (l : Lane),
     bits e 8 2 = l.txRole ∧ bits e 12 2 = l.txRate) ∧
    (∃ (e : Nat) (l : Lane),
     (bits e 8 2 ≠ l.txRole ∨ bits e 12 2 ≠ l.txRate ∧ l.txRole ≠ 0) ∧ l.txCur ≠ none) ∧
    (∃ (e : Nat) (l : Lane),
     (bits e 8 2 ≠ l.txRole ∨ bits e 12 2 ≠ l.txRate ∧ l.txRole ≠ 0) ∧ l.txCur = none) ∧
    (∃ (r : Req) (t : Nat) (s : State) (u : State),
     Takes 771 r t s u ∧ (∀ (n : Nat), n < 64 → assignEntry r.arg n &&& 4294954238 = 0) ∧
     (bit (b8 r 24) 0 = true → roleRates r.arg 2 ≠ []) ∧ b8 r 24 < 2 ∧ roleRates r.arg 1 ≠ [] ∧
     sameRates (roleRates r.arg 1) = true ∧ sameRates (roleRates r.arg 2) = true) ∧
    (∃ (r : Req) (t : Nat) (s : State) (u : State),
     Takes 769 r t s u ∧ b8 r 32 < 4 ∧ bitsSet 64 (b64 r 24) ≠ [] ∧
     (∀ (n : Nat), n ∈ bitsSet 64 (b64 r 24) → (laneAt u n).rxEnabled = true)) ∧
    (∃ (r : Req) (t : Nat) (s : State) (u : State),
     Takes 769 r t s u ∧ (∃ (n : Nat), n ∈ bitsSet 64 (b64 r 24) ∧ (laneAt u n).rxEnabled = false) ∧ b8 r 32 < 4) ∧
    (∃ (r : Req) (t : Nat) (s : State) (u : State),
     Takes 770 r t s u ∧ b8 r 24 = 0 ∧ b8 r 25 < 64) ∧
    (∃ (r : Req) (t : Nat) (s : State) (u : State),
     Takes 770 r t s u ∧ b8 r 24 = 1 ∧ b16 r 26 < 4096) :=
  ⟨⟨((modLane (0 : Nat) (fun x => { x with txCur := none }) ((modLane (0 : Nat) (fun x => { x with txNext := some ((0 : Nat), (0 : Nat)) }) (up)))) : State), (0 : Nat), (0 : Nat), (0 : Nat), by decide +kernel⟩,
   ⟨((modLane (0 : Nat) (fun x => { x with txNext := none }) (upb)) : State), (0 : Nat), by decide +kernel⟩,
   ⟨((modLane (0 : Nat) (fun x => { x with txFault := false }) ((modLane (0 : Nat) (fun x => { x with txTraining := true }) (up)))) : State), (0 : Nat), by decide +kernel⟩,
   ⟨(sending 0 1 up : State), (0 : Nat), (1024 : Nat), by decide +kernel⟩,
   ⟨((modLane (0 : Nat) (fun x => { x with txCur := none }) ((modLane (0 : Nat) (fun x => { x with txUp := true }) (upb)))) : State), (0 : Nat), (65536 : Nat), by decide +kernel⟩,
   ⟨(sending 0 3 (modLane 0 (fun l => { l with rxEnabled := true, rxState := .up }) up) : State), (0 : Nat), (256 : Nat), (0 : Nat), by decide +kernel⟩,
   ⟨((modLane (0 : Nat) (fun x => { x with txUp := false }) (upb)) : State), (0 : Nat), (0 : Nat), by decide +kernel⟩,
   ⟨upb, (3 : Nat), by decide +kernel⟩,
   ⟨(modLane 5 (fun l => { l with rxEnabled := true }) up : State), (some 3 : Option Nat), (5 : Nat), (3 : Nat), by decide +kernel⟩,
   ⟨(sending 0 1 up : State), (0 : Nat), by decide +kernel⟩,
   ⟨((modLane (0 : Nat) (fun x => { x with txCur := some ({} : TxPkt) }) ((modLane (0 : Nat) (fun x => { x with txFault := false }) ((modLane (0 : Nat) (fun x => { x with txRole := 3 }) (upb)))))) : State), (0 : Nat), ({} : TxPkt), by decide +kernel⟩,
   ⟨((modLane (0 : Nat) (fun x => { x with txCur := some ({} : TxPkt) }) ((modLane (0 : Nat) (fun x => { x with txFault := false }) ((modLane (0 : Nat) (fun x => { x with txRole := 1 }) (upb)))))) : State), (0 : Nat), ({} : TxPkt), by decide +kernel⟩,
   ⟨((modLane (0 : Nat) (fun x => { x with txFault := true }) (up)) : State), (0 : Nat), by decide +kernel⟩,
   ⟨({ valid := true } : LaneRec), (1 : Nat), ({} : Lane), (by decide), rfl, rfl⟩,
   ⟨({} : LaneRec), (1 : Nat), ({} : Lane), (by decide), rfl, rfl⟩,
   ⟨(1 : Nat), ({ rxEnabled := true } : Lane), by decide +kernel⟩,
   ⟨(0 : Nat), ({ rxEnabled := true } : Lane), by decide +kernel⟩,
   ⟨(0 : Nat), ({} : Lane), by decide +kernel⟩,
   ⟨(0 : Nat), ({ (((fun s => { s with txRole := 1 }) ({} : Lane))) with txCur := some default } : Lane), by decide +kernel⟩,
   ⟨(0 : Nat), ({ (((fun s => { s with txRole := 1 }) ({} : Lane))) with txCur := none } : Lane), by decide +kernel⟩,
   ⟨(reqOf [] (leBytes 4 0x100 ++ List.replicate 252 0) : Req), (0 : Nat), up, _, takes_of (by decide +kernel), (by decide +kernel), (by decide +kernel), by decide +kernel⟩,
   ⟨(reqOf [(24, leBytes 8 (2 ^ 63)), (32, leBytes 1 3)] [] : Req), (0 : Nat), (modLane 63 (fun l => { l with rxEnabled := true }) up : State), _, takes_of (by decide +kernel), by decide +kernel⟩,
   ⟨(reqOf [(24, leBytes 8 (2 ^ 63)), (32, leBytes 1 3)] [] : Req), (0 : Nat), up, _, takes_of (by decide +kernel), (by exact ⟨63, by decide +kernel⟩), by decide +kernel⟩,
   ⟨(reqOf [(24, leBytes 1 0), (25, leBytes 1 63)] [] : Req), (0 : Nat), up, _, takes_of (by decide +kernel), by decide +kernel⟩,
   ⟨(reqOf [(24, leBytes 1 1), (26, leBytes 2 4095)] [] : Req), (0 : Nat), up, _, takes_of (by decide +kernel), by decide +kernel⟩⟩

theorem witness_MemoryInvariant :
    ∃ (s : State) (u : State),
     MemOk s ∧ step s = Host.Outcome.next u :=
  ⟨({ up with pending := [.pcieLinkDown] } : State), (match step ({ up with pending := [.pcieLinkDown] } : State) with | .next u => u | _ => ({ up with pending := [.pcieLinkDown] } : State) : State), (by unfold MemOk memsOk ayrOk; decide +kernel), rfl⟩

theorem witness_MemoryReadAfterWrite :
    (∃ (m : List Host.Cell) (bs : List Byte) (i : Nat),
     Memory.wf m = true ∧ i < bs.length) ∧
    (∃ (m : List Host.Cell) (a : Nat) (bs : List Byte) (x : Nat),
     Memory.wf m = true ∧ (x < a ∨ a + bs.length ≤ x)) :=
  ⟨⟨([] : List Host.Cell), ([1] : List Byte), (0 : Nat), by decide +kernel⟩,
   ⟨([] : List Host.Cell), (0 : Nat), ([] : List Byte), (0 : Nat), by decide +kernel⟩⟩

theorem witness_Monitor :
    (∃ (s : State) (es : List (List Byte)) (run : Bool),
     s.mon.staged = some (es, run) ∧ s.mon.phase = SeqPhase.converting) ∧
    (∃ (s : State) (es : List (List Byte)) (run : Bool),
     s.mon.staged = some (es, run) ∧ s.mon.phase ≠ SeqPhase.converting) ∧
    (∃ (s : State),
     s.mon.phase = SeqPhase.ready ∧ s.mon.staged = none ∧ s.mon.conv.length = 4 ∧
     (∀ (k : Nat), k < 4 → bit (entMask (s.mon.table.getD s.mon.entry [])) k = true → freeOfUrgent s k = true)) ∧
    (∃ (s : State),
     s.mon.phase = SeqPhase.delay ∧ s.mon.staged = none ∧ (∀ (k : Nat), k < 4 → freeOfUrgent s k = true)) ∧
    (∃ (s : State),
     s.mon.phase ≠ SeqPhase.ready ∧ s.mon.phase ≠ SeqPhase.delay) ∧
    (∃ (s : State) (m : Nat),
     ((convAt s m).state = ConvState.idle ∨ (convAt s m).state = ConvState.paused)) ∧
    (∃ (s : State) (m : Nat) (raw : Nat),
     raw < 2 ^ 24 ∧ (convAt s m).state = ConvState.table) ∧
    (∃ (s : State) (m : Nat) (raw : Nat),
     raw < 2 ^ 24 ∧ (convAt s m).state = ConvState.urgent) ∧
    (∃ (s : State) (m : Nat) (k : Nat),
     m < 4 ∧ s.mon.conv.length = 4 ∧ k ≠ m) ∧
    (∃ (v : Nat) (c : Conv) (r : Int) (g : Nat),
     v < 8 ∧ -8388608 ≤ divHalfEven ((inputReferred r g - c.off) * c.gain) (2 ^ 32) ∧
     divHalfEven ((inputReferred r g - c.off) * c.gain) (2 ^ 32) ≤ 8388607) ∧
    (∃ (s : State) (x : Int) (e : List Byte),
     bit (entDest e) 3 = true ∧ (x < s.mon.winLo.getD (entDest e % 8) 0 ∨ s.mon.winHi.getD (entDest e % 8) 0 < x)) ∧
    (∃ (s : State) (x : Int) (e : List Byte),
     s.mon.winLo.getD (entDest e % 8) 0 ≤ x ∧ x ≤ s.mon.winHi.getD (entDest e % 8) 0) ∧
    (∃ (s : State) (m : Nat) (e : List Byte),
     m < 4 ∧ s.mon.conv.length = 4 ∧ bit (entDest e) 4 = true ∧ 256 ≤ (convAt s m).fifo.length) ∧
    (∃ (s : State) (m : Nat) (e : List Byte),
     m < 4 ∧ s.mon.conv.length = 4 ∧ bit (entDest e) 4 = true ∧ (convAt s m).fifo.length < 256 ∧
     (convAt s m).fifo.length = 127) ∧
    (∃ (s : State) (m : Nat),
     (convAt s m).fifo = []) ∧
    (∃ (s : State) (m : Nat) (w : Nat × Nat) (rest : List (Nat × Nat)),
     (convAt s m).fifo = w :: rest) ∧
    (∃ (r : Req) (t : Nat) (s : State) (u : State) (es : List (List Byte)),
     Takes 2817 r t s u ∧ 1 ≤ b8 r 24 ∧ b8 r 24 ≤ 64 ∧ r.arg.length = 16 * b8 r 24 ∧ b8 r 25 ≤ 1 ∧
     (es = List.map (fun (i : Nat) => List.take 16 (List.drop (16 * i) r.arg)) (upTo (b8 r 24))) ∧
     es.all entReserved = true ∧ es.all entOk = true ∧ u.mon.phase ≠ SeqPhase.converting) ∧
    (∃ (r : Req) (t : Nat) (s : State) (u : State) (es : List (List Byte)),
     Takes 2817 r t s u ∧ 1 ≤ b8 r 24 ∧ b8 r 24 ≤ 64 ∧ r.arg.length = 16 * b8 r 24 ∧ b8 r 25 ≤ 1 ∧
     (es = List.map (fun (i : Nat) => List.take 16 (List.drop (16 * i) r.arg)) (upTo (b8 r 24))) ∧
     es.all entReserved = true ∧ es.all entOk = true ∧ u.mon.phase = SeqPhase.converting) ∧
    (∃ (r : Req) (t : Nat) (s : State) (u : State),
     Takes 2817 r t s u ∧ (b8 r 24 = 0 ∨ 64 < b8 r 24)) ∧
    (∃ (r : Req) (t : Nat) (s : State) (u : State),
     Takes 2818 r t s u ∧ b8 r 24 ≤ 3 ∧ b8 r 25 ≤ 7 ∧ b8 r 26 = 0 ∧ measuring u (b8 r 24) = false ∧
     (convAt u (b8 r 24)).queue.length < 4) ∧
    (∃ (r : Req) (t : Nat) (s : State) (u : State) (u0 : Int) (u1 : Int),
     Takes 2818 r t s u ∧ b8 r 24 ≤ 3 ∧ b8 r 25 ≤ 7 ∧ b8 r 26 = 2 ∧ (calAt u (b8 r 24) (b8 r 25)).u0 = some u0 ∧
     (calAt u (b8 r 24) (b8 r 25)).u1 = some u1 ∧ (u1 - u0).natAbs < 2 ^ 16) ∧
    (∃ (r : Req) (t : Nat) (s : State) (u : State) (u0 : Int) (u1 : Int) (g : Int),
     Takes 2818 r t s u ∧ b8 r 24 ≤ 3 ∧ b8 r 25 ≤ 7 ∧ b8 r 26 = 2 ∧ (calAt u (b8 r 24) (b8 r 25)).u0 = some u0 ∧
     (calAt u (b8 r 24) (b8 r 25)).u1 = some u1 ∧ 2 ^ 16 ≤ u1 - u0 ∧
     g = divHalfEven ((calAt u (b8 r 24) (b8 r 25)).full * 2 ^ 32) (u1 - u0).natAbs ∧ -2 ^ 31 ≤ g ∧ g < 2 ^ 31) ∧
    (∃ (r : Req) (t : Nat) (s : State) (u : State),
     Takes 2819 r t s u) ∧
    (∃ (r : Req) (t : Nat) (s : State) (u : State),
     Takes 2820 r t s u ∧ b8 r 24 ≤ 3 ∧ b8 r 25 ≤ 11 ∧ b8 r 26 ≤ 9 ∧ b8 r 27 ≤ 1 ∧ (convAt u (b8 r 24)).queue.length < 4) ∧
    (∃ (r : Req) (t : Nat) (s : State) (u : State),
     Takes 2820 r t s u ∧ b8 r 24 ≤ 3 ∧ b8 r 25 ≤ 11 ∧ b8 r 26 ≤ 9 ∧ b8 r 27 ≤ 1 ∧ 4 ≤ (convAt u (b8 r 24)).queue.length) ∧
    (∃ (m : Nat) (s : State),
     (convAt s m).queue = []) ∧
    (∃ (m : Nat) (s : State) (q : UrgReq) (rest : List UrgReq),
     m < 4 ∧ s.mon.conv.length = 4 ∧ (convAt s m).serving = none ∧ (convAt s m).queue = q :: rest ∧
     ((convAt s m).state ≠ ConvState.table ∨ finishFirst s m q = false)) ∧
    (∃ (m : Nat) (s : State) (q : UrgReq) (rest : List UrgReq),
     (convAt s m).state = ConvState.table ∧ (convAt s m).queue = q :: rest ∧ finishFirst s m q = true) :=
  ⟨⟨({ up with mon.staged := some (([] : List (List Byte)), false), mon.phase := SeqPhase.converting } : State), ([] : List (List Byte)), false, by decide +kernel⟩,
   ⟨({ up with mon.staged := some (([] : List (List Byte)), false) } : State), ([] : List (List Byte)), false, by decide +kernel⟩,
   ⟨({ up with mon.phase := SeqPhase.ready, mon.staged := none } : State), by decide +kernel⟩,
   ⟨({ up with mon.phase := SeqPhase.delay, mon.staged := none } : State), by decide +kernel⟩,
   ⟨up, by decide +kernel⟩,
   ⟨((modConv (0 : Nat) (fun x => { x with state := ConvState.idle }) (up)) : State), (0 : Nat), by decide +kernel⟩,
   ⟨((modConv (0 : Nat) (fun x => { x with state := ConvState.table }) (up)) : State), (0 : Nat), (16777215 : Nat), by decide +kernel⟩,
   ⟨((modConv (0 : Nat) (fun x => { x with state := ConvState.urgent }) (up)) : State), (0 : Nat), (16777215 : Nat), by decide +kernel⟩,
   ⟨up, (3 : Nat), (0 : Nat), by decide +kernel⟩,
   ⟨(7 : Nat), ({} : Conv), (0 : Int), (0 : Nat), by decide +kernel⟩,
   ⟨up, (8388608 : Int), (List.replicate 8 0 ++ [8] : List Byte), by decide +kernel⟩,
   ⟨up, (0 : Int), ([] : List Byte), by decide +kernel⟩,
   ⟨(modConv 3 (fun c => { c with fifo := List.replicate 256 (0, 0) }) up : State), (3 : Nat), (List.replicate 8 0 ++ [16] : List Byte), by decide +kernel⟩,
   ⟨(modConv 3 (fun c => { c with fifo := List.replicate 127 (0, 0) }) up : State), (3 : Nat), (List.replicate 8 0 ++ [16] : List Byte), by decide +kernel⟩,
   ⟨((modConv (0 : Nat) (fun x => { x with fifo := [] }) (up)) : State), (0 : Nat), by decide +kernel⟩,
   ⟨((modConv (0 : Nat) (fun x => { x with fifo := ((0, 0) : Nat × Nat) :: ([] : List (Nat × Nat)) }) (upb)) : State), (0 : Nat), ((0, 0) : Nat × Nat), ([] : List (Nat × Nat)), by decide +kernel⟩,
   ⟨(reqOf [(24, leBytes 1 1)] (1 :: 0 :: 0 :: 0 :: 1 :: List.replicate 11 0) : Req), (0 : Nat), up, _, ([1 :: 0 :: 0 :: 0 :: 1 :: List.replicate 11 0] : List (List Byte)), takes_of (by decide +kernel), by decide +kernel⟩,
   ⟨(reqOf [(24, leBytes 1 1)] (1 :: 0 :: 0 :: 0 :: 1 :: List.replicate 11 0) : Req), (0 : Nat), ({ up with mon.phase := .converting } : State), _, ([1 :: 0 :: 0 :: 0 :: 1 :: List.replicate 11 0] : List (List Byte)), takes_of (by decide +kernel), by decide +kernel⟩,
   ⟨(reqOf [(24, leBytes 1 0)] [] : Req), (0 : Nat), up, _, takes_of (by decide +kernel), by decide +kernel⟩,
   ⟨(reqOf [(24, leBytes 1 3), (25, leBytes 1 7), (26, leBytes 1 0)] [] : Req), (0 : Nat), up, _, takes_of (by decide +kernel), by decide +kernel⟩,
   ⟨(reqOf [(24, leBytes 1 3), (25, leBytes 1 7), (26, leBytes 1 2)] [] : Req), (0 : Nat), ({ up with mon.cal := List.replicate 32 { u0 := some 0, u1 := some 65535 } } : State), _, (0 : Int), (65535 : Int), takes_of (by decide +kernel), by decide +kernel⟩,
   ⟨(reqOf [(24, leBytes 1 3), (25, leBytes 1 7), (26, leBytes 1 2)] [] : Req), (0 : Nat), ({ up with mon.cal := List.replicate 32 { u0 := some 0, u1 := some 65536 } } : State), _, (0 : Int), (65536 : Int), (0 : Int), takes_of (by decide +kernel), by decide +kernel⟩,
   ⟨(reqOf [] [] : Req), (0 : Nat), up, _, takes_of (by decide +kernel)⟩,
   ⟨(reqOf [(24, leBytes 1 3), (25, leBytes 1 11), (26, leBytes 1 9), (27, leBytes 1 1)] [] : Req), (0 : Nat), up, _, takes_of (by decide +kernel), by decide +kernel⟩,
   ⟨(reqOf [(24, leBytes 1 3), (25, leBytes 1 11), (26, leBytes 1 9), (27, leBytes 1 1)] [] : Req), (0 : Nat), (modConv 3 (fun c => { c with queue := List.replicate 4 {} }) up : State), _, takes_of (by decide +kernel), by decide +kernel⟩,
   ⟨(0 : Nat), ((modConv (0 : Nat) (fun x => { x with queue := [] }) (up)) : State), by decide +kernel⟩,
   ⟨(3 : Nat), ((modConv (3 : Nat) (fun x => { x with queue := ({} : UrgReq) :: ([] : List UrgReq) }) ((modConv (3 : Nat) (fun x => { x with serving := none }) (up)))) : State), ({} : UrgReq), ([] : List UrgReq), by decide +kernel⟩,
   ⟨(3 : Nat), ({ modConv 3 (fun c => { c with state := .table, queue := [{}] }) up with mon.urgMode := 8 } : State), ({} : UrgReq), ([] : List UrgReq), by decide +kernel⟩⟩

theorem witness_OtherCages :
    (∃ (s : State) (port : Nat) (frame : List Byte),
     (cagesUp s = false ∨ datagramReq s port frame = none)) ∧
    (∃ (s : State) (r : Req) (port : Nat) (frame : List Byte),
     cagesUp s = true ∧ datagramReq s port frame = some r) ∧
    (∃ (s : State) (frame : List Byte) (bytes : List Byte) (src : Nat) (sport : Nat) (dport : Nat),
     udpDatagram (ipv4 s) frame = some (src, sport, dport, bytes) ∧ 64 ≤ bytes.length ∧ dport = 20314) ∧
    (∃ (s : State) (frame : List Byte) (bytes : List Byte) (src : Nat) (sport : Nat) (dport : Nat),
     udpDatagram (ipv4 s) frame = some (src, sport, dport, bytes) ∧ 64 ≤ bytes.length ∧ dport = 20315) ∧
    (∃ (s : State) (frame : List Byte) (bytes : List Byte) (src : Nat) (sport : Nat) (dport : Nat),
     udpDatagram (ipv4 s) frame = some (src, sport, dport, bytes) ∧ 64 ≤ bytes.length ∧ dport ≠ 20314 ∧ dport ≠ 20315) ∧
    (∃ (s : State) (r : Req),
     r.arg.length ≤ 1408 ∧ r.part = false ∧ assemblyOf (cageAt s r.cage) r = none) ∧
    (∃ (s : State) (r : Req),
     r.arg.length ≤ 1408 ∧ r.part = true ∧ assemblyOf (cageAt s r.cage) r = none ∧ r.argAddr ≠ 0) ∧
    (∃ (s : State) (r : Req),
     r.arg.length ≤ 1408 ∧ r.part = true ∧ assemblyOf (cageAt s r.cage) r = none ∧ r.argAddr = 0) ∧
    (∃ (s : State) (r : Req) (a : Assembly),
     r.arg.length ≤ 1408 ∧ r.part = true ∧ assemblyOf (cageAt s r.cage) r = some a) ∧
    (∃ (s : State) (r : Req) (a : Assembly),
     r.arg.length ≤ 1408 ∧ r.part = false ∧ assemblyOf (cageAt s r.cage) r = some a) ∧
    (∃ (s : State) (r : Req),
     hasRoom s r.cage = true) ∧
    (∃ (s : State) (r : Req),
     hasRoom s r.cage = false ∧ r.cage ≠ 6) ∧
    (∃ (s : State) (bytes : List Byte) (pec : Byte),
     cagesUp s = true ∧ supplyOn s vioM = true ∧ 64 ≤ bytes.length ∧ BitVec.toNat pec = smbusPec bytes) ∧
    (∃ (s : State) (bytes : List Byte),
     (cagesUp s = false ∨ supplyOn s vioM = false ∨ bytes.length < 64)) ∧
    (∃ (bytes : List Byte) (pec : Byte),
     BitVec.toNat pec ≠ smbusPec bytes) ∧
    (∃ (bytes : List Byte),
     (smbusReq bytes).badLen = false) ∧
    (∃ (s : State),
     (cagesUp s = false ∨ supplyOn s vioM = false)) ∧
    (∃ (s : State),
     s.cages.linkUp = true) ∧
    (∃ (s : State),
     s.cages.linkUp = false) ∧
    (∃ (s : State),
     s.cages.endpointUp = true) ∧
    (∃ (s : State),
     s.cages.endpointUp = false) ∧
    (∃ (s : State),
     canSend s = false) ∧
    (∃ (s : State),
     released s = false) ∧
    (∃ (s : State) (port : Nat) (frame : List Byte) (out : List Byte),
     arpReply (Config.mac port % 2 ^ 48) (ipv4 s) frame = some out ∧ released s = true ∧ port < 2) ∧
    (∃ (s : State) (port : Nat) (frame : List Byte),
     arpReply (Config.mac port % 2 ^ 48) (ipv4 s) frame = none ∧
     echoReply (Config.mac port % 2 ^ 48) (ipv4 s) frame = none ∧ beAt frame 0 6 ≠ Config.mac port % 2 ^ 48 ∧
     released s = true ∧ port < 2) :=
  ⟨⟨upb, (0 : Nat), ([] : List Byte), by decide +kernel⟩,
   ⟨upIp, ((datagramReq upIp 0 (udpFrame 20314)).getD {} : Req), (0 : Nat), (udpFrame 20314 : List Byte), by decide +kernel⟩,
   ⟨upIp, (udpFrame 20314 : List Byte), (List.replicate 64 0 : List Byte), (7 : Nat), (5 : Nat), (20314 : Nat), by decide +kernel⟩,
   ⟨upIp, (udpFrame 20315 : List Byte), (List.replicate 64 0 : List Byte), (7 : Nat), (5 : Nat), (20315 : Nat), by decide +kernel⟩,
   ⟨upIp, (udpFrame 319 : List Byte), (List.replicate 64 0 : List Byte), (7 : Nat), (5 : Nat), (319 : Nat), by decide +kernel⟩,
   ⟨upb, ({ (reqOf [] []) with part := false } : Req), by decide +kernel⟩,
   ⟨upb, ({ (((fun s => { s with part := true }) (reqOf [] [] : Req))) with argAddr := 1 } : Req), by decide +kernel⟩,
   ⟨upb, ({ (((fun s => { s with part := true }) (reqOf [] [] : Req))) with argAddr := 0 } : Req), by decide +kernel⟩,
   ⟨(modCage 4 (fun c => { c with assembly := [{ client := 1, tag := 1, bytes := [1] }] }) up : State), ({ reqOf [] [] with cage := 4, part := true } : Req), ({ client := 1, tag := 1, bytes := [1] } : Assembly), by decide +kernel⟩,
   ⟨(modCage 5 (fun c => { c with assembly := [{ client := 1, tag := 1 }] }) up : State), ({ reqOf [] [] with cage := 5 } : Req), ({ client := 1, tag := 1 } : Assembly), by decide +kernel⟩,
   ⟨up, (reqOf [] [] : Req), by decide +kernel⟩,
   ⟨({ up with cages.fetched := List.replicate 256 { reqOf [] [] with cage := 5 } } : State), ({ reqOf [] [] with cage := 5 } : Req), by decide +kernel⟩,
   ⟨up, (List.replicate 64 0 : List Byte), (BitVec.ofNat 8 (smbusPec (List.replicate 64 0)) : Byte), by decide +kernel⟩,
   ⟨upb, ([] : List Byte), by decide +kernel⟩,
   ⟨([] : List Byte), (0 : Byte), by decide +kernel⟩,
   ⟨([] : List Byte), by decide +kernel⟩,
   ⟨State.reset, by decide +kernel⟩,
   ⟨({ up with cages.linkUp := true } : State), by decide +kernel⟩,
   ⟨({ up with cages.linkUp := false } : State), by decide +kernel⟩,
   ⟨({ up with cages.endpointUp := true } : State), by decide +kernel⟩,
   ⟨({ up with cages.endpointUp := false } : State), by decide +kernel⟩,
   ⟨State.reset, by decide +kernel⟩,
   ⟨({ up with shift.held := .hard } : State), by decide +kernel⟩,
   ⟨({ upb with bun.active := some { epoch := 1, ipv4 := 1 } } : State), (1 : Nat), (beBytes 6 0xFFFFFFFFFFFF ++ beBytes 6 1 ++ beBytes 2 0x0806 ++ beBytes 8 0x0001080006040001 ++ beBytes 6 1 ++ beBytes 4 9 ++ beBytes 6 0 ++ beBytes 4 1 ++ List.replicate 18 0 : List Byte), ((arpReply (Config.mac (1 : Nat) % 2 ^ 48) (ipv4 ({ upb with bun.active := some { epoch := 1, ipv4 := 1 } } : State)) (beBytes 6 0xFFFFFFFFFFFF ++ beBytes 6 1 ++ beBytes 2 0x0806 ++ beBytes 8 0x0001080006040001 ++ beBytes 6 1 ++ beBytes 4 9 ++ beBytes 6 0 ++ beBytes 4 1 ++ List.replicate 18 0 : List Byte)).getD [] : List Byte), (by exact some_getD (by decide +kernel)), by decide +kernel⟩,
   ⟨upb, (1 : Nat), (if Config.mac 1 % 2 ^ 48 = 0 then [255] else [] : List Byte), (by split <;> decide +kernel), (by split <;> decide +kernel), (by exact not_mine _), by decide +kernel⟩⟩

theorem witness_PitAddresses :
    (∃ (a : Nat) (b : Nat),
     a < pitBytes ∧ b < pitBytes ∧ logicalRank a = logicalRank b ∧ rankOffset a = rankOffset b) ∧
    (∃ (s : State) (port : Nat) (addr : Nat) (len : Nat) (ns : Nat) (q : PitPort) (f : PitPort),
     q = portAt s.pit port ∧ f = { fillBucket ns q with issued := q.issued + 1 } ∧ s.pit.state = PitState.run ∧ port < 8 ∧
     q.waiting = [] ∧ addressOk addr len = false) ∧
    (∃ (s : State) (port : Nat) (addr : Nat) (len : Nat) (ns : Nat) (d : Option (List Byte)) (q : PitPort) (f : PitPort),
     q = portAt s.pit port ∧ f = { fillBucket ns q with issued := q.issued + 1 } ∧ d = none ∧ s.pit.state = PitState.run ∧
     port < 8 ∧ q.waiting = [] ∧ addressOk addr len = true ∧ (10 * len ≤ f.tokens ∨ q.rate ≠ 0) ∧ s.pit.mig = none) ∧
    (∃ (s : State) (port : Nat) (addr : Nat) (len : Nat) (ns : Nat) (d : Option (List Byte)) (q : PitPort) (f : PitPort) (b : List Byte),
     q = portAt s.pit port ∧ f = { fillBucket ns q with issued := q.issued + 1 } ∧ s.pit.state = PitState.run ∧ port < 8 ∧
     q.waiting = [] ∧ addressOk addr len = true ∧ (10 * len ≤ f.tokens ∨ q.rate ≠ 0) ∧ s.pit.mig = none ∧ d = some b) ∧
    (∃ (s : State) (port : Nat) (addr : Nat) (len : Nat) (ns : Nat) (q : PitPort) (f : PitPort),
     q = portAt s.pit port ∧ f = { fillBucket ns q with issued := q.issued + 1 } ∧ s.pit.state = PitState.run ∧ port < 8 ∧
     q.waiting = [] ∧ addressOk addr len = true ∧ f.tokens < 10 * len ∧ q.rate = 0) ∧
    (∃ (s : State) (port : Nat) (len : Nat) (ns : Nat) (q : PitPort) (f : PitPort),
     q = portAt s.pit port ∧ f = { fillBucket ns q with issued := q.issued + 1 } ∧ s.pit.state = PitState.run ∧ port < 8 ∧
     q.waiting = [] ∧ 10 * len ≤ f.tokens) ∧
    (∃ (s : State) (port : Nat) (len : Nat) (ns : Nat) (q : PitPort) (f : PitPort),
     q = portAt s.pit port ∧ f = { fillBucket ns q with issued := q.issued + 1 } ∧ s.pit.state = PitState.run ∧ port < 8 ∧
     q.waiting = [] ∧ f.tokens < 10 * len ∧ q.rate ≠ 0) ∧
    (∃ (s : State) (port : Nat) (addr : Nat) (ns : Nat) (q : PitPort) (f : PitPort) (m : Migration),
     q = portAt s.pit port ∧ f = { fillBucket ns q with issued := q.issued + 1 } ∧ s.pit.state = PitState.run ∧ port < 8 ∧
     q.waiting = [] ∧ s.pit.mig = some m ∧ s.pit.held = [] ∧ m.logical = logicalRank addr) :=
  ⟨⟨(0 : Nat), (0 : Nat), by decide +kernel⟩,
   ⟨up, (7 : Nat), (0 : Nat), (0 : Nat), (0 : Nat), _, _, rfl, rfl, by decide +kernel⟩,
   ⟨up, (7 : Nat), (0 : Nat), (64 : Nat), (0 : Nat), _, _, _, rfl, rfl, rfl, by decide +kernel⟩,
   ⟨up, (7 : Nat), (0 : Nat), (1 : Nat), (0 : Nat), (some [5] : Option (List Byte)), _, _, ([5] : List Byte), rfl, rfl, by decide +kernel⟩,
   ⟨({ up with pit.ports := List.replicate 8 { rate := 0, tokens := 0 } } : State), (7 : Nat), (0 : Nat), (64 : Nat), (0 : Nat), _, _, rfl, rfl, by decide +kernel⟩,
   ⟨up, (7 : Nat), (64 : Nat), (0 : Nat), _, _, rfl, rfl, by decide +kernel⟩,
   ⟨({ up with pit.ports := List.replicate 8 { rate := 1, tokens := 0 } } : State), (7 : Nat), (64 : Nat), (0 : Nat), _, _, rfl, rfl, by decide +kernel⟩,
   ⟨({ up with pit.mig := some {} } : State), (7 : Nat), (0 : Nat), (0 : Nat), _, _, ({} : Migration), rfl, rfl, by decide +kernel⟩⟩

theorem witness_PitMaintenance :
    (∃ (s : State) (r : Nat),
     s.pit.state = PitState.run ∧ r < 64 ∧ r % 2 = 0 ∧ (chanAt s.pit (r / 2)).hot0 = false) ∧
    (∃ (s : State) (r : Nat),
     s.pit.state = PitState.run ∧ r < 64 ∧ r % 2 = 1) ∧
    (∃ (s : State) (c : Nat),
     s.pit.state = PitState.run ∧ c < 32 ∧ s.pit.queue = [] ∧ rankSt s.pit (2 * c) = RankState.inService ∧
     rankSt s.pit (2 * c + 1) = RankState.inService) ∧
    (∃ (s : State),
     s.pit.state = PitState.run ∧ s.pit.scrubOn = false) ∧
    (∃ (s : State),
     s.pit.state = PitState.run ∧ s.pit.scrubOn = true ∧ scrubRankFrom s.pit s.pit.scrubRank = some s.pit.scrubRank ∧
     s.pit.scrubLine + 1 < rankLines ∧ rankSt s.pit s.pit.scrubRank = RankState.inService) ∧
    (∃ (s : State),
     s.pit.state = PitState.run ∧ s.pit.scrubOn = true ∧ scrubRankFrom s.pit s.pit.scrubRank = some s.pit.scrubRank ∧
     s.pit.scrubRank < 64 ∧ s.pit.rankState.length = 64 ∧ rankSt s.pit s.pit.scrubRank = RankState.spare) ∧
    (∃ (s : State) (r : Nat) (rest : List Nat) (l : Nat) (t : Nat),
     s.pit.state = PitState.run ∧ s.pit.mig = none ∧ s.pit.queue = r :: rest ∧
     (List.findIdx? (fun (x : Nat) => x == r) s.pit.rankMap = some l) ∧ lowestSpare s.pit = some t) ∧
    (∃ (s : State) (r : Nat) (rest : List Nat) (l : Nat),
     s.pit.state = PitState.run ∧ s.pit.mig = none ∧ s.pit.queue = r :: rest ∧
     (List.findIdx? (fun (x : Nat) => x == r) s.pit.rankMap = some l) ∧ lowestSpare s.pit = none) ∧
    (∃ (s : State) (m : Migration),
     s.pit.state = PitState.run ∧ s.pit.mig = some m ∧ s.pit.held = [] ∧ m.m + 1 < rankBlocks) ∧
    (∃ (s : State) (m : Migration) (i : Nat) (n : Nat),
     s.pit.state = PitState.run ∧ s.pit.mig = some m ∧ s.pit.held = [] ∧ m.source / 2 < s.pit.chans.length ∧ i < 15 ∧ 2 ≤ n) ∧
    (∃ (s : State) (m : Migration),
     s.pit.state = PitState.run ∧ s.pit.mig = some m ∧ s.pit.held = [] ∧ m.m + 1 = rankBlocks) ∧
    (∃ (r : Req) (t : Nat) (s : State) (u : State),
     Takes 2305 r t s u) ∧
    (∃ (r : Req) (t : Nat) (s : State) (u : State),
     Takes 2306 r t s u ∧ b8 r 24 < 64 ∧ b8 r 24 < u.pit.rankState.length ∧ rankSt u.pit (b8 r 24) = RankState.spare) ∧
    (∃ (r : Req) (t : Nat) (s : State) (u : State),
     Takes 2306 r t s u ∧ b8 r 24 < 64 ∧ rankSt u.pit (b8 r 24) = RankState.inService ∧
     u.pit.queue.contains (b8 r 24) = false ∧ (lowestSpare u.pit).isSome = true) ∧
    (∃ (r : Req) (t : Nat) (s : State) (u : State),
     Takes 2306 r t s u ∧
     (64 ≤ b8 r 24 ∨ rankSt u.pit (b8 r 24) = RankState.retired ∨ rankSt u.pit (b8 r 24) = RankState.absent ∨ rankSt u.pit (b8 r 24) = RankState.degraded)) ∧
    (∃ (r : Req) (t : Nat) (s : State) (u : State),
     Takes 2307 r t s u ∧ 400 < b16 r 24) ∧
    (∃ (r : Req) (t : Nat) (s : State) (u : State) (v : State),
     Takes 2307 r t s u ∧ b16 r 24 ≤ 400 ∧ 3 ≤ b16 r 26 ∧ b16 r 26 ≤ 40 ∧ 1 ≤ b16 r 28 ∧ b16 r 28 ≤ 40 ∧ 5 ≤ b16 r 30 ∧
     b16 r 30 ≤ 120 ∧ 4 ≤ b16 r 32 ∧ b16 r 32 ≤ 1024 ∧ 4 ≤ b16 r 34 ∧ b16 r 34 ≤ 1024 ∧ 4 ≤ b16 r 36 ∧ b16 r 36 ≤ 1024 ∧
     u.pit.ports.length = 8 ∧
     (v =
  { pending := u.pending, freeCount := u.freeCount, lanes := u.lanes, seam := u.seam, hop := u.hop, aba := u.aba, tal := u.tal, beams := u.beams, assay := u.assay, ayr := u.ayr, trig := u.trig, hst := u.hst,
    pit :=
      have __src := u.pit;
      { state := __src.state, mem := __src.mem, damaged := __src.damaged, rankMap := __src.rankMap, rankState := __src.rankState, queue := __src.queue, mig := __src.mig, held := __src.held, ports := upd (upd (upd u.pit.ports 4 fun (q : PitPort) => { rate := b16 r 24, burst := b16 r 32, tokens := min q.tokens (10240 * b16 r 32), bytes := q.bytes, held := q.held, lat := q.lat, last := q.last, issued := q.issued, answered := q.answered, early := q.early, resps := q.resps, waiting := q.waiting }) 5 fun (q : PitPort) => { rate := b16 r 26, burst := b16 r 34, tokens := min q.tokens (10240 * b16 r 34), bytes := q.bytes, held := q.held, lat := q.lat, last := q.last, issued := q.issued, answered := q.answered, early := q.early, resps := q.resps, waiting := q.waiting }) 6 fun (q : PitPort) => { rate := b16 r 28, burst := b16 r 36, tokens := min q.tokens (10240 * b16 r 36), bytes := q.bytes, held := q.held, lat := q.lat, last := q.last, issued := q.issued, answered := q.answered, early := q.early, resps := q.resps, waiting := q.waiting }, migRate := b16 r 30, scrubOn := __src.scrubOn, scrubHours := __src.scrubHours, scrubRank := __src.scrubRank, scrubLine := __src.scrubLine, scrubPasses := __src.scrubPasses, chans := __src.chans, cause := __src.cause, irqEn := __src.irqEn, chIrqEn := __src.chIrqEn },
    tu := u.tu, cages := u.cages, bell := u.bell, wnd := u.wnd, pwr := u.pwr, shift := u.shift, mon := u.mon, con := u.con, bun := u.bun, sys := u.sys }) ∧
     ratesOk v = true) ∧
    (∃ (r : Req) (t : Nat) (s : State) (u : State) (v : State),
     Takes 2307 r t s u ∧ b16 r 24 ≤ 400 ∧ 3 ≤ b16 r 26 ∧ b16 r 26 ≤ 40 ∧ 1 ≤ b16 r 28 ∧ b16 r 28 ≤ 40 ∧ 5 ≤ b16 r 30 ∧
     b16 r 30 ≤ 120 ∧ 4 ≤ b16 r 32 ∧ b16 r 32 ≤ 1024 ∧ 4 ≤ b16 r 34 ∧ b16 r 34 ≤ 1024 ∧ 4 ≤ b16 r 36 ∧ b16 r 36 ≤ 1024 ∧
     u.pit.ports.length = 8 ∧
     (v =
  { pending := u.pending, freeCount := u.freeCount, lanes := u.lanes, seam := u.seam, hop := u.hop, aba := u.aba, tal := u.tal, beams := u.beams, assay := u.assay, ayr := u.ayr, trig := u.trig, hst := u.hst,
    pit :=
      have __src := u.pit;
      { state := __src.state, mem := __src.mem, damaged := __src.damaged, rankMap := __src.rankMap, rankState := __src.rankState, queue := __src.queue, mig := __src.mig, held := __src.held, ports := upd (upd (upd u.pit.ports 4 fun (q : PitPort) => { rate := b16 r 24, burst := b16 r 32, tokens := min q.tokens (10240 * b16 r 32), bytes := q.bytes, held := q.held, lat := q.lat, last := q.last, issued := q.issued, answered := q.answered, early := q.early, resps := q.resps, waiting := q.waiting }) 5 fun (q : PitPort) => { rate := b16 r 26, burst := b16 r 34, tokens := min q.tokens (10240 * b16 r 34), bytes := q.bytes, held := q.held, lat := q.lat, last := q.last, issued := q.issued, answered := q.answered, early := q.early, resps := q.resps, waiting := q.waiting }) 6 fun (q : PitPort) => { rate := b16 r 28, burst := b16 r 36, tokens := min q.tokens (10240 * b16 r 36), bytes := q.bytes, held := q.held, lat := q.lat, last := q.last, issued := q.issued, answered := q.answered, early := q.early, resps := q.resps, waiting := q.waiting }, migRate := b16 r 30, scrubOn := __src.scrubOn, scrubHours := __src.scrubHours, scrubRank := __src.scrubRank, scrubLine := __src.scrubLine, scrubPasses := __src.scrubPasses, chans := __src.chans, cause := __src.cause, irqEn := __src.irqEn, chIrqEn := __src.chIrqEn },
    tu := u.tu, cages := u.cages, bell := u.bell, wnd := u.wnd, pwr := u.pwr, shift := u.shift, mon := u.mon, con := u.con, bun := u.bun, sys := u.sys }) ∧
     ratesOk v = false ∧ u.bun.applying = false) ∧
    (∃ (r : Req) (t : Nat) (s : State) (u : State),
     Takes 2308 r t s u ∧ b8 r 24 < 2 ∧ 1 ≤ b16 r 26 ∧ b16 r 26 ≤ 168) ∧
    (∃ (s : State),
     dpRun s = true) :=
  ⟨⟨({ up with pit.state := PitState.run } : State), (0 : Nat), by decide +kernel⟩,
   ⟨({ up with pit.state := PitState.run } : State), (63 : Nat), by decide +kernel⟩,
   ⟨({ up with pit.state := PitState.run, pit.queue := [] } : State), (0 : Nat), by decide +kernel⟩,
   ⟨({ up with pit.state := PitState.run, pit.scrubOn := false } : State), by decide +kernel⟩,
   ⟨({ up with pit.state := PitState.run, pit.scrubOn := true } : State), by decide +kernel⟩,
   ⟨(((fun s => { s with pit.rankState := putAt s.pit.rankState (s.pit.scrubRank) (fun _ => RankState.spare) }) (((fun s => { s with pit.scrubOn := true }) (((fun s => { s with pit.state := PitState.run }) (upb)))))) : State), by decide +kernel⟩,
   ⟨({ up with pit.queue := [0] } : State), (0 : Nat), ([] : List Nat), (0 : Nat), (60 : Nat), by decide +kernel⟩,
   ⟨({ up with pit.queue := [0], pit.rankState := List.replicate 64 .inService } : State), (0 : Nat), ([] : List Nat), (0 : Nat), by decide +kernel⟩,
   ⟨({ up with pit.state := PitState.run, pit.mig := some ({} : Migration), pit.held := [] } : State), ({} : Migration), by decide +kernel⟩,
   ⟨({ up with pit.mig := some {} } : State), ({} : Migration), (14 : Nat), (2 : Nat), by decide +kernel⟩,
   ⟨({ up with pit.mig := some ({ m := rankBlocks - 1 } : Migration) } : State), ({ m := rankBlocks - 1 } : Migration), by decide +kernel⟩,
   ⟨(reqOf [] [] : Req), (0 : Nat), up, _, takes_of (by decide +kernel)⟩,
   ⟨(reqOf [(24, leBytes 1 63)] [] : Req), (0 : Nat), up, _, takes_of (by decide +kernel), by decide +kernel⟩,
   ⟨(reqOf [(24, leBytes 1 63)] [] : Req), (0 : Nat), (((fun s => { s with pit.rankState := putAt s.pit.rankState ((b8 (reqOf [(24, leBytes 1 63)] [] : Req) 24)) (fun _ => RankState.inService) }) (upb)) : State), _, takes_of (by decide +kernel), by decide +kernel⟩,
   ⟨(reqOf [(24, leBytes 1 64)] [] : Req), (0 : Nat), up, _, takes_of (by decide +kernel), by decide +kernel⟩,
   ⟨(reqOf [(24, leBytes 2 401)] [] : Req), (0 : Nat), up, _, takes_of (by decide +kernel), by decide +kernel⟩,
   ⟨(reqOf [(24, leBytes 2 400), (26, leBytes 2 40), (28, leBytes 2 40), (30, leBytes 2 120), (32, leBytes 2 1024), (34, leBytes 2 4), (36, leBytes 2 4)] [] : Req), (0 : Nat), upb, _, (withRates (reqOf [(24, leBytes 2 400), (26, leBytes 2 40), (28, leBytes 2 40), (30, leBytes 2 120), (32, leBytes 2 1024), (34, leBytes 2 4), (36, leBytes 2 4)] [] : Req) ((taken 2307 (reqOf [(24, leBytes 2 400), (26, leBytes 2 40), (28, leBytes 2 40), (30, leBytes 2 120), (32, leBytes 2 1024), (34, leBytes 2 4), (36, leBytes 2 4)] [] : Req) (0 : Nat) upb).getD upb : State) : State), takes_of (by decide +kernel), by decide +kernel⟩,
   ⟨(reqOf [(24, leBytes 2 400), (26, leBytes 2 40), (28, leBytes 2 40), (30, leBytes 2 120), (32, leBytes 2 1024), (34, leBytes 2 4), (36, leBytes 2 4)] [] : Req), (0 : Nat), ({ upb with bun.active := some { epoch := 1, source := 5 }, hst.allot := [4294967295, 0, 0, 0, 0, 0] } : State), _, (withRates (reqOf [(24, leBytes 2 400), (26, leBytes 2 40), (28, leBytes 2 40), (30, leBytes 2 120), (32, leBytes 2 1024), (34, leBytes 2 4), (36, leBytes 2 4)] [] : Req) ((taken 2307 (reqOf [(24, leBytes 2 400), (26, leBytes 2 40), (28, leBytes 2 40), (30, leBytes 2 120), (32, leBytes 2 1024), (34, leBytes 2 4), (36, leBytes 2 4)] [] : Req) (0 : Nat) ({ upb with bun.active := some { epoch := 1, source := 5 }, hst.allot := [4294967295, 0, 0, 0, 0, 0] } : State)).getD ({ upb with bun.active := some { epoch := 1, source := 5 }, hst.allot := [4294967295, 0, 0, 0, 0, 0] } : State) : State) : State), takes_of (by decide +kernel), by decide +kernel⟩,
   ⟨(reqOf [(24, leBytes 1 1), (26, leBytes 2 1)] [] : Req), (0 : Nat), up, _, takes_of (by decide +kernel), by decide +kernel⟩,
   ⟨up, by decide +kernel⟩⟩

theorem witness_PitService :
    (∃ (s : State) (c : Nat) (q : PitReq) (rest : List PitReq) (y : PitPort),
     s.pit.state = PitState.run ∧ (chanAt s.pit c).queue = q :: rest ∧ c < s.pit.chans.length ∧
     q.port < s.pit.ports.length ∧ y = portAt s.pit q.port ∧ y.early = [] ∧ y.answered = q.id) ∧
    (∃ (s : State) (c : Nat),
     (s.pit.state ≠ PitState.run ∨ (chanAt s.pit c).queue = [])) :=
  ⟨⟨({ up with pit.chans := [{ queue := [{ data := some [1] }] }] } : State), (0 : Nat), ({ data := some [1] } : PitReq), ([] : List PitReq), ({} : PitPort), by decide +kernel⟩,
   ⟨upb, (0 : Nat), by decide +kernel⟩⟩

theorem witness_PowerEvents :
    (∃ (s : State) (agent : Nat) (v : Nat),
     isOnShift s agent = true ∧ v % 256 = 90 ∧ maySleep s = true) ∧
    (∃ (s : State) (agent : Nat) (v : Nat),
     isOnShift s agent = true ∧ v % 256 = 90 ∧ maySleep s = false) ∧
    (∃ (s : State) (agent : Nat) (v : Nat),
     (isOnShift s agent = false ∨ v % 256 ≠ 90)) ∧
    (∃ (s : State),
     s.pwr.sleepHold = true ∧ maySleep s = true) ∧
    (∃ (s : State),
     (s.pwr.sleepHold = false ∨ maySleep s = false)) ∧
    (∃ (s : State),
     (coreAsked s = true ∨ doorbellLatched s = true)) ∧
    (∃ (s : State),
     coreAsked s = false ∧ doorbellLatched s = false) ∧
    (∃ (s : State),
     s.pwr.ctlSleep = false ∧ s.pwr.sleepHold = true) ∧
    (∃ (s : State),
     s.pwr.ctlSleep = true) ∧
    (∃ (s : State),
     s.pwr.timer = 0) ∧
    (∃ (s : State) (ticks : Nat),
     ticks < s.pwr.timer) ∧
    (∃ (s : State) (ticks : Nat),
     s.pwr.timer ≠ 0 ∧ s.pwr.timer ≤ ticks) ∧
    (∃ (s : State) (n : Nat) (rising : Bool),
     n < 18 ∧ (16 ≤ n ∨ bit s.pwr.dir n = false) ∧ supplyOn s vioG = true ∧ bit s.pwr.gpioIn n = !rising ∧
     bit s.pwr.edge n = !rising) ∧
    (∃ (s : State),
     supplyOn s vioG = false) ∧
    (∃ (s : State) (k : Nat),
     k < 6 ∧ s.pwr.supply.length = 6 ∧ supplyOn s k = true) ∧
    (∃ (s : State),
     s.shift.held ≠ Held.cold) ∧
    (∃ (s : State),
     supplyOn s vin = true) ∧
    (∃ (s : State),
     supplyOn s vin = false ∧ s.pwr.shutOff = true) ∧
    (∃ (s : State),
     supplyOn s vin = false ∧ s.pwr.shutOff = false ∧ s.shift.held = Held.hard) ∧
    (∃ (k : Nat),
     k < 2) ∧
    (∃ (k : Nat),
     k ≤ 2) ∧
    (∃ (s : State),
     supplyOn s vaux = false) ∧
    (∃ (l : List Int) (x : Int),
     l ≠ [] ∧ x ∈ l) ∧
    (∃ (s : State) (l : List Int),
     supplyOn s vaux = true ∧ s.pwr.shutOff = false ∧ 90 ≤ hottest l ∧ hottest l < 95) ∧
    (∃ (s : State) (l : List Int),
     supplyOn s vaux = true ∧ s.pwr.shutOff = false ∧ 110 ≤ hottest l ∧ hottest l < 125) ∧
    (∃ (s : State) (tj : Int),
     95 ≤ tj ∧ s.pwr.warm = false) ∧
    (∃ (s : State) (tj : Int),
     125 ≤ tj ∧ s.pwr.shutOff = false) ∧
    (∃ (s : State),
     dpRun s = true ∧ s.pwr.returning = none ∧ s.pwr.leaving = none) :=
  ⟨⟨upb, (1 : Nat), (90 : Nat), by decide +kernel⟩,
   ⟨({ up with hst.crushDump := 1 } : State), (1 : Nat), (90 : Nat), by decide +kernel⟩,
   ⟨up, (0 : Nat), (0 : Nat), by decide +kernel⟩,
   ⟨({ up with pwr.sleepHold := true } : State), by decide +kernel⟩,
   ⟨({ up with pwr.sleepHold := false } : State), by decide +kernel⟩,
   ⟨({ up with cages.fetched := [reqOf [] []] } : State), by decide +kernel⟩,
   ⟨up, by decide +kernel⟩,
   ⟨({ up with pwr.ctlSleep := false, pwr.sleepHold := true } : State), by decide +kernel⟩,
   ⟨({ up with pwr.ctlSleep := true } : State), by decide +kernel⟩,
   ⟨({ up with pwr.timer := 0 } : State), by decide +kernel⟩,
   ⟨({ upb with pwr.timer := (0 : Nat) + 1 } : State), (0 : Nat), by decide +kernel⟩,
   ⟨({ up with pwr.timer := 1 } : State), (1 : Nat), by decide +kernel⟩,
   ⟨up, (17 : Nat), true, by decide +kernel⟩,
   ⟨(((fun s => { s with pwr.supply := upd s.pwr.supply vioG (fun _ => false) }) (up)) : State), by decide +kernel⟩,
   ⟨up, (5 : Nat), by decide +kernel⟩,
   ⟨up, by decide +kernel⟩,
   ⟨up, by decide +kernel⟩,
   ⟨({ ((fun s => { s with pwr.supply := upd s.pwr.supply vin (fun _ => false) }) (up)) with pwr.shutOff := true } : State), by decide +kernel⟩,
   ⟨({ ((fun s => { s with pwr.supply := upd s.pwr.supply vin (fun _ => false) }) (up)) with pwr.shutOff := false, shift.held := Held.hard } : State), by decide +kernel⟩,
   ⟨(1 : Nat), by decide +kernel⟩,
   ⟨(2 : Nat), by decide +kernel⟩,
   ⟨(((fun s => { s with pwr.supply := upd s.pwr.supply vaux (fun _ => false) }) (up)) : State), by decide +kernel⟩,
   ⟨([94, 40, 0, 0, -5] : List Int), (94 : Int), by decide +kernel⟩,
   ⟨up, ([94, 40, 0, 0, -5] : List Int), by decide +kernel⟩,
   ⟨up, ([-5, 124, 0, 0, 110] : List Int), by decide +kernel⟩,
   ⟨({ up with pwr.warm := false } : State), (95 : Int), by decide +kernel⟩,
   ⟨({ up with pwr.shutOff := false } : State), (125 : Int), by decide +kernel⟩,
   ⟨({ up with pwr.returning := none, pwr.leaving := none } : State), by decide +kernel⟩⟩

theorem witness_PreemptionCost :
    (∃ (s : State) (f : Frame) (admitted : Nat),
     (sliceDone s f = true ∨ hasAdmitted f admitted = false)) ∧
    (∃ (s : State) (f : Frame) (admitted : Nat) (r : Run) (rest : List Run),
     sliceDone s f = false ∧ hasAdmitted f admitted = true ∧ f.runs = r :: rest ∧
     (admitted ≤ r.lo ∨ r.hi ≤ admitted ∨ f.stalled = true)) ∧
    (∃ (s : State) (f : Frame) (admitted : Nat) (r : Run) (rest : List Run) (set : Nat) (rk : Nat),
     sliceDone s f = false ∧ hasAdmitted f admitted = true ∧ f.runs = r :: rest ∧ r.lo < admitted ∧ admitted < r.hi ∧
     f.stalled = false ∧ r.item = WorkItem.beam set rk) ∧
    (∃ (s : State) (f : Frame) (admitted : Nat) (r : Run) (rest : List Run) (a : Nat) (b : Nat),
     sliceDone s f = false ∧ hasAdmitted f admitted = true ∧ f.runs = r :: rest ∧ r.lo < admitted ∧ admitted < r.hi ∧
     f.stalled = false ∧ r.item = WorkItem.pair a b) :=
  ⟨⟨up, ({} : Frame), (0 : Nat), by decide +kernel⟩,
   ⟨({ up with aba.state := .running } : State), ({ runs := [({ item := .pair 0 1, hi := 8192 } : Run)], fresh := false } : Frame), (8192 : Nat), ({ item := .pair 0 1, hi := 8192 } : Run), ([] : List Run), by decide +kernel⟩,
   ⟨({ up with aba.state := .running } : State), ({ runs := [{ item := .beam 0 1, hi := 8192 }], fresh := false } : Frame), (1 : Nat), ({ item := .beam 0 1, hi := 8192 } : Run), ([] : List Run), (0 : Nat), (1 : Nat), by decide +kernel⟩,
   ⟨({ up with aba.state := .running } : State), ({ runs := [({ item := .pair 0 1, hi := 8192 } : Run)], fresh := false } : Frame), (1 : Nat), ({ item := .pair 0 1, hi := 8192 } : Run), ([] : List Run), (0 : Nat), (1 : Nat), by decide +kernel⟩⟩

theorem witness_QueueInvariant :
    ∃ (s : State) (u : State),
     step s = Host.Outcome.next u ∧ s.pending.all Instr.wf = true :=
  ⟨({ up with pending := [.pcieLinkDown] } : State), (match step ({ up with pending := [.pcieLinkDown] } : State) with | .next u => u | _ => ({ up with pending := [.pcieLinkDown] } : State) : State), rfl, by decide +kernel⟩

theorem witness_RegisterAccess :
    (∃ (s : State),
     released s = false) ∧
    (∃ (agent : Nat),
     (agent = 0 ∨ 3 ≤ agent)) ∧
    (∃ (s : State) (core : Nat) (x : Nat),
     core < 2 ∧ agentReaches s (core + 1) = true ∧ x < 67108864) ∧
    (∃ (s : State) (core : Nat) (x : Nat),
     core < 2 ∧ agentReaches s (core + 1) = true ∧ x < 4194304) ∧
    (∃ (s : State) (core : Nat) (x : Nat),
     core < 2 ∧ agentReaches s (core + 1) = true ∧ x < 1073741824 ∧ dpRun s = true ∧
     addressOk (2 ^ 30 * s.pwr.aperture.getD core 0 + x) 4 = true) ∧
    (∃ (s : State) (core : Nat) (x : Nat),
     core < 2 ∧ agentReaches s (core + 1) = true ∧ x < 1073741824 ∧ dpRun s = false) ∧
    (∃ (s : State) (core : Nat) (x : Nat),
     core < 2 ∧ x < 131072 ∧ (agentReaches s (core + 1) = true ∨ coreAt s core = CoreState.repair)) ∧
    (∃ (s : State) (core : Nat) (x : Nat),
     core < 2 ∧ agentReaches s (core + 1) = false ∧ x < 4194304) ∧
    (∃ (s : State) (o : Nat),
     s.pwr.ctlSleep = false ∧ 20905984 ≤ o ∧ o < 20971520 ∧ o % 4 = 0) ∧
    (∃ (s : State) (agent : Nat) (o : Nat),
     agent ≠ 0 ∧ agentReaches s agent = true ∧ o % 4 ≠ 0) ∧
    (∃ (s : State) (agent : Nat) (o : Nat),
     agent ≠ 0 ∧ agentReaches s agent = true ∧ o % 4 = 0 ∧ 4096 ≤ o ∧ o < 20480) ∧
    (∃ (s : State) (agent : Nat) (o : Nat) (v : Nat),
     agent ≠ 0 ∧ agentReaches s agent = true ∧ o % 4 = 0 ∧ 16777216 ≤ o ∧ o < 20971520 ∧ v < 2 ^ 32 ∧
     Memory.wf s.sys.sram = true) ∧
    (∃ (s : State) (agent : Nat) (o : Nat) (kind : Nat),
     released s = true ∧ kind < 3 ∧ o < 16777216 ∧ agentReaches s agent = true) ∧
    (∃ (s : State) (agent : Nat) (o : Nat) (kind : Nat),
     released s = true ∧ kind < 3 ∧ o < 16777216 ∧ agentReaches s agent = false) ∧
    (∃ (s : State) (o : Nat) (kind : Nat),
     (released s = false ∨ 3 ≤ kind ∨ 16777216 ≤ o)) ∧
    (∃ (s : State),
     s.shift.accErr = false) ∧
    (∃ (s : State),
     s.shift.accErr = true) ∧
    (∃ (s : State) (agent : Nat) (o : Nat),
     released s = true ∧ o % 4 = 0 ∧ 0 < wideWords o ∧ agentReaches s agent = true ∧ (agent ≠ 0 ∨ s.pwr.ctlSleep = false)) ∧
    (∃ (s : State) (agent : Nat) (o : Nat),
     released s = true ∧ o % 4 = 0 ∧ 0 < wideWords o ∧ agentReaches s agent = false) ∧
    (∃ (s : State) (o : Nat),
     (released s = false ∨ o % 4 ≠ 0 ∨ wideWords o = 0)) ∧
    (∃ (s : State) (o : Nat) (k : Nat) (u : State),
     0 < wideWords o ∧ (dpOffset o = false ∨ dpRun s = true) ∧ 0 < k ∧ k < wideWords o ∧
     u.shift.snaps = (latchWide o s).shift.snaps) ∧
    (∃ (s : State) (o : Nat),
     released s = true ∧ wideHighRw o = true) ∧
    (∃ (s : State) (o : Nat),
     (released s = false ∨ wideHighRw o = false)) :=
  ⟨⟨({ up with shift.held := .hard } : State), by decide +kernel⟩,
   ⟨(0 : Nat), by decide +kernel⟩,
   ⟨upb, (0 : Nat), (67108863 : Nat), by decide +kernel⟩,
   ⟨upb, (0 : Nat), (4194303 : Nat), by decide +kernel⟩,
   ⟨upb, (0 : Nat), (0 : Nat), by decide +kernel⟩,
   ⟨({ upb with sys.dp := .off } : State), (0 : Nat), (1073741823 : Nat), by decide +kernel⟩,
   ⟨upb, (0 : Nat), (131071 : Nat), by decide +kernel⟩,
   ⟨upb, (1 : Nat), (4194303 : Nat), by decide +kernel⟩,
   ⟨({ upb with pwr.ctlSleep := false } : State), (20905984 : Nat), by decide +kernel⟩,
   ⟨up, (1 : Nat), (1 : Nat), by decide +kernel⟩,
   ⟨up, (1 : Nat), (4096 : Nat), by decide +kernel⟩,
   ⟨up, (3 : Nat), (20971516 : Nat), (2 ^ 32 - 1 : Nat), by decide +kernel⟩,
   ⟨up, (0 : Nat), (16777215 : Nat), (2 : Nat), by decide +kernel⟩,
   ⟨up, (2 : Nat), (0 : Nat), (0 : Nat), by decide +kernel⟩,
   ⟨({ upb with shift.held := .hard } : State), (0 : Nat), (0 : Nat), by decide +kernel⟩,
   ⟨({ up with shift.accErr := false } : State), by decide +kernel⟩,
   ⟨({ up with shift.accErr := true } : State), by decide +kernel⟩,
   ⟨up, (0 : Nat), (0x40010 : Nat), by decide +kernel⟩,
   ⟨up, (2 : Nat), (0x40010 : Nat), by decide +kernel⟩,
   ⟨({ upb with shift.held := .hard } : State), (0 : Nat), by decide +kernel⟩,
   ⟨up, (0x40010 : Nat), (3 : Nat), (latchWide (0x40010 : Nat) up : State), by decide +kernel⟩,
   ⟨up, (0x10014 : Nat), by decide +kernel⟩,
   ⟨({ up with shift.held := .hard } : State), (0 : Nat), by decide +kernel⟩⟩

theorem witness_RequestHandling :
    (∃ (op : Nat) (r : Req) (q : Req) (s : State),
     q = withArg s { r with opcode := op } ∧ hasRoom s r.cage = false ∧ r.cage ≤ 3) ∧
    (∃ (op : Nat) (r : Req) (q : Req) (s : State),
     q = withArg s { r with opcode := op } ∧ hasRoom s r.cage = true ∧
     (cagesOpen s = false ∨ mustWait s.cages.fetched op s = true ∧ r.forward = false)) ∧
    (∃ (op : Nat) (r : Req) (q : Req) (s : State),
     q = withArg s { r with opcode := op } ∧ hasRoom s r.cage = true ∧ cagesOpen s = true ∧
     (mustWait s.cages.fetched op s = false ∨ r.forward = true)) ∧
    (∃ (op : Nat) (r : Req) (q : Req) (s : State),
     q = withArg s { r with opcode := op } ∧ (3 < r.cage ∨ r.host = true)) ∧
    (∃ (op : Nat) (r : Req) (q : Req) (s : State),
     q = withArg s { r with opcode := op } ∧ r.cage ≤ 3 ∧ r.host = false ∧ hostArea r.argAddr r.arg.length = true) ∧
    (∃ (op : Nat) (r : Req) (q : Req) (s : State),
     q = withArg s { r with opcode := op } ∧ r.forward = true ∧ r.cage ≤ 5 ∧ r.dest ≠ 4095) ∧
    (∃ (op : Nat) (r : Req) (q : Req) (s : State),
     q = withArg s { r with opcode := op } ∧ r.forward = true ∧ r.cage ≤ 5 ∧ r.dest = 4095) ∧
    (∃ (op : Nat) (r : Req) (q : Req) (t : Nat) (s : State) (u : State) (stale : Bool),
     q = withArg s { r with opcode := op } ∧ r.forward = false ∧ takePlace r.client t (accepted q s) = some u ∧
     classify ((placeOf u r.client).getD { }) r.tag (reqDigest q) = TagClass.conflict none stale) ∧
    (∃ (op : Nat) (r : Req) (q : Req) (t : Nat) (s : State),
     q = withArg s { r with opcode := op } ∧ r.forward = false ∧ takePlace r.client t (accepted q s) = none) ∧
    (∃ (op : Nat) (r : Req) (q : Req) (t : Nat) (s : State) (u : State),
     q = withArg s { r with opcode := op } ∧ r.forward = false ∧ takePlace r.client t (accepted q s) = some u ∧
     classify ((placeOf u r.client).getD { }) r.tag (reqDigest q) = TagClass.inProgress) ∧
    (∃ (op : Nat) (r : Req) (q : Req) (t : Nat) (s : State) (u : State) (o : Nat) (stale : Bool),
     q = withArg s { r with opcode := op } ∧ r.forward = false ∧ takePlace r.client t (accepted q s) = some u ∧
     classify ((placeOf u r.client).getD { }) r.tag (reqDigest q) = TagClass.conflict (some o) stale) ∧
    (∃ (op : Nat) (r : Req) (q : Req) (t : Nat) (s : State) (u : State) (c : Completion),
     q = withArg s { r with opcode := op } ∧ r.forward = false ∧ takePlace r.client t (accepted q s) = some u ∧
     classify ((placeOf u r.client).getD { }) r.tag (reqDigest q) = TagClass.repeatOf c) ∧
    (∃ (op : Nat) (r : Req) (q : Req) (t : Nat) (s : State) (u : State) (spec : CmdSpec) (st : Nat) (d : Nat),
     q = withArg s { r with opcode := op } ∧ r.forward = false ∧ takePlace r.client t (accepted q s) = some u ∧
     cmdSpec op = some spec ∧ classify ((placeOf u r.client).getD { }) r.tag (reqDigest q) = TagClass.new ∧
     entryCheck spec q (enterTag r.client r.tag (reqDigest q) (!atAcceptance spec q) u) = some (st, d)) ∧
    (∃ (op : Nat) (r : Req) (q : Req) (t : Nat) (s : State) (u : State),
     q = withArg s { r with opcode := op } ∧ r.forward = false ∧ takePlace r.client t (accepted q s) = some u ∧
     cmdSpec op = none ∧ classify ((placeOf u r.client).getD { }) r.tag (reqDigest q) = TagClass.new) ∧
    (∃ (p : ClientPlace) (tag : Nat) (d : Nat) (e : CacheEntry),
     tag < 65536 ∧ p.newest < 65536 ∧ e ∈ p.entries ∧ 1 ≤ d ∧ d ≤ 32767 ∧ tag = (p.newest + d) % 65536) ∧
    (∃ (p : ClientPlace) (tag : Nat) (d : Nat) (e : CacheEntry),
     tag < 65536 ∧ p.newest < 65536 ∧ e ∈ p.entries ∧ 64 ≤ d ∧ d ≤ 32768 ∧ tag = (p.newest + 65536 - d) % 65536) ∧
    (∃ (p : ClientPlace) (tag : Nat) (digest : Nat) (d : Nat) (e : CacheEntry),
     tag < 65536 ∧ p.newest < 65536 ∧ e ∈ p.entries ∧ d < 64 ∧ tag = (p.newest + 65536 - d) % 65536 ∧
     (List.find? (fun (x : CacheEntry) => x.tag == tag) p.entries = some e) ∧ e.digest ≠ digest) ∧
    (∃ (p : ClientPlace) (tag : Nat) (digest : Nat) (d : Nat) (e : CacheEntry) (c : Completion),
     tag < 65536 ∧ p.newest < 65536 ∧ e ∈ p.entries ∧ d < 64 ∧ tag = (p.newest + 65536 - d) % 65536 ∧
     (List.find? (fun (x : CacheEntry) => x.tag == tag) p.entries = some e) ∧ e.digest = digest ∧ e.stored = true ∧
     e.done = some c) ∧
    (∃ (p : ClientPlace) (tag : Nat) (digest : Nat) (d : Nat) (e : CacheEntry),
     tag < 65536 ∧ p.newest < 65536 ∧ e ∈ p.entries ∧ d < 64 ∧ tag = (p.newest + 65536 - d) % 65536 ∧
     (List.find? (fun (x : CacheEntry) => x.tag == tag) p.entries = some e) ∧ e.digest = digest ∧ e.stored = true ∧
     e.done = none) ∧
    (∃ (p : ClientPlace) (tag : Nat) (digest : Nat) (d : Nat) (e : CacheEntry),
     tag < 65536 ∧ p.newest < 65536 ∧ e ∈ p.entries ∧ d < 64 ∧ tag = (p.newest + 65536 - d) % 65536 ∧
     (List.find? (fun (x : CacheEntry) => x.tag == tag) p.entries = some e) ∧ e.digest = digest ∧ e.stored = false) :=
  ⟨⟨(1 : Nat), (reqOf [] [] : Req), ({ (reqOf [] [] : Req) with opcode := 1 } : Req), ({ up with cages.fetched := List.replicate 256 (reqOf [] []) } : State), by decide +kernel⟩,
   ⟨(0 : Nat), (reqOf [] [] : Req), _, State.reset, rfl, by decide +kernel⟩,
   ⟨(0 : Nat), (reqOf [] [] : Req), _, upb, rfl, by decide +kernel⟩,
   ⟨(0 : Nat), ({ (reqOf [] []) with host := true } : Req), _, upb, rfl, by decide +kernel⟩,
   ⟨(1 : Nat), ({ reqOf [] [] with argAddr := 0x200000, arg := [1] } : Req), _, up, rfl, by decide +kernel⟩,
   ⟨(0 : Nat), ({ (reqOf [] []) with forward := true } : Req), _, upb, rfl, by decide +kernel⟩,
   ⟨(0 : Nat), ({ (((fun s => { s with forward := true }) (reqOf [] [] : Req))) with dest := 4095 } : Req), _, upb, rfl, by decide +kernel⟩,
   ⟨(1 : Nat), (reqOf [] [] : Req), _, (0 : Nat), ({ up with cages.places := [{ client := 1, newest := 1, entries := [{ tag := 1 }] }] } : State), ((takePlace (reqOf [] [] : Req).client (0 : Nat) (accepted (withArg ({ up with cages.places := [{ client := 1, newest := 1, entries := [{ tag := 1 }] }] } : State) { (reqOf [] [] : Req) with opcode := (1 : Nat) } : Req) ({ up with cages.places := [{ client := 1, newest := 1, entries := [{ tag := 1 }] }] } : State))).getD ({ up with cages.places := [{ client := 1, newest := 1, entries := [{ tag := 1 }] }] } : State) : State), false, rfl, by decide +kernel⟩,
   ⟨(1 : Nat), ({ reqOf [] [] with client := 99 } : Req), ({ ({ reqOf [] [] with client := 99 } : Req) with opcode := 1 } : Req), (0 : Nat), ({ up with cages.places := (upTo 32).map (fun i => { client := i + 1, entries := [{}] }) } : State), by decide +kernel⟩,
   ⟨(1 : Nat), (reqOf [] [] : Req), ({ (reqOf [] [] : Req) with opcode := 1 } : Req), (0 : Nat), ({ up with cages.places := [{ client := 1, newest := 1, entries := [{ tag := 1, digest := reqDigest ({ (reqOf [] [] : Req) with opcode := 1 } : Req) }] }] } : State), ((takePlace (reqOf [] [] : Req).client (0 : Nat) (accepted ({ (reqOf [] [] : Req) with opcode := 1 } : Req) ({ up with cages.places := [{ client := 1, newest := 1, entries := [{ tag := 1, digest := reqDigest ({ (reqOf [] [] : Req) with opcode := 1 } : Req) }] }] } : State))).getD ({ up with cages.places := [{ client := 1, newest := 1, entries := [{ tag := 1, digest := reqDigest ({ (reqOf [] [] : Req) with opcode := 1 } : Req) }] }] } : State) : State), by decide +kernel⟩,
   ⟨(1 : Nat), (reqOf [] [] : Req), ({ (reqOf [] [] : Req) with opcode := 1 } : Req), (0 : Nat), ({ up with cages.places := [{ client := 1, newest := 1, entries := [{ tag := 1, done := some {} }] }] } : State), ((takePlace (reqOf [] [] : Req).client (0 : Nat) (accepted ({ (reqOf [] [] : Req) with opcode := 1 } : Req) ({ up with cages.places := [{ client := 1, newest := 1, entries := [{ tag := 1, done := some {} }] }] } : State))).getD ({ up with cages.places := [{ client := 1, newest := 1, entries := [{ tag := 1, done := some {} }] }] } : State) : State), (0 : Nat), false, by decide +kernel⟩,
   ⟨(1 : Nat), (reqOf [] [] : Req), ({ (reqOf [] [] : Req) with opcode := 1 } : Req), (0 : Nat), ({ up with cages.places := [{ client := 1, newest := 1, entries := [{ tag := 1, digest := reqDigest ({ (reqOf [] [] : Req) with opcode := 1 } : Req), done := some {} }] }] } : State), ((takePlace (reqOf [] [] : Req).client (0 : Nat) (accepted ({ (reqOf [] [] : Req) with opcode := 1 } : Req) ({ up with cages.places := [{ client := 1, newest := 1, entries := [{ tag := 1, digest := reqDigest ({ (reqOf [] [] : Req) with opcode := 1 } : Req), done := some {} }] }] } : State))).getD ({ up with cages.places := [{ client := 1, newest := 1, entries := [{ tag := 1, digest := reqDigest ({ (reqOf [] [] : Req) with opcode := 1 } : Req), done := some {} }] }] } : State) : State), ({} : Completion), by decide +kernel⟩,
   ⟨(0x0402 : Nat), ({ reqOf [] [] with rsv := true } : Req), _, (0 : Nat), up, ((takePlace ({ reqOf [] [] with rsv := true } : Req).client (0 : Nat) (accepted (withArg up { ({ reqOf [] [] with rsv := true } : Req) with opcode := (0x0402 : Nat) } : Req) up)).getD up : State), ((cmdSpec 0x0402).getD { op := 0 } : CmdSpec), stBadArg, (1 : Nat), rfl, by decide +kernel⟩,
   ⟨(0x0FFF : Nat), (reqOf [] [] : Req), ({ (reqOf [] [] : Req) with opcode := 0x0FFF } : Req), (0 : Nat), up, ((takePlace (reqOf [] [] : Req).client (0 : Nat) (accepted ({ (reqOf [] [] : Req) with opcode := 0x0FFF } : Req) up)).getD up : State), by decide +kernel⟩,
   ⟨({ newest := 65535, entries := [{}] } : ClientPlace), (32766 : Nat), (32767 : Nat), ({} : CacheEntry), by decide +kernel⟩,
   ⟨({ newest := 5, entries := [{}] } : ClientPlace), (65477 : Nat), (64 : Nat), ({} : CacheEntry), by decide +kernel⟩,
   ⟨({ entries := [({} : CacheEntry)] } : ClientPlace), (((((fun s => { s with entries := [({} : CacheEntry)] }) ({} : ClientPlace)) : ClientPlace).newest + 65536 - (0 : Nat)) % 65536 : Nat), (1 : Nat), (0 : Nat), ({} : CacheEntry), by decide +kernel⟩,
   ⟨({ entries := [(((fun s => { s with done := some ({} : Completion) }) (((fun s => { s with stored := true }) (((fun s => { s with digest := (0 : Nat) }) ({} : CacheEntry)) : CacheEntry)) : CacheEntry)) : CacheEntry)] } : ClientPlace), (((((fun s => { s with entries := [(((fun s => { s with done := some ({} : Completion) }) (((fun s => { s with stored := true }) (((fun s => { s with digest := (0 : Nat) }) ({} : CacheEntry)) : CacheEntry)) : CacheEntry)) : CacheEntry)] }) ({} : ClientPlace)) : ClientPlace).newest + 65536 - (0 : Nat)) % 65536 : Nat), (0 : Nat), (0 : Nat), ({ (((fun s => { s with stored := true }) (((fun s => { s with digest := (0 : Nat) }) ({} : CacheEntry)) : CacheEntry))) with done := some ({} : Completion) } : CacheEntry), ({} : Completion), by decide +kernel⟩,
   ⟨({ entries := [(((fun s => { s with done := none }) (((fun s => { s with stored := true }) (((fun s => { s with digest := (0 : Nat) }) ({} : CacheEntry)) : CacheEntry)) : CacheEntry)) : CacheEntry)] } : ClientPlace), (((((fun s => { s with entries := [(((fun s => { s with done := none }) (((fun s => { s with stored := true }) (((fun s => { s with digest := (0 : Nat) }) ({} : CacheEntry)) : CacheEntry)) : CacheEntry)) : CacheEntry)] }) ({} : ClientPlace)) : ClientPlace).newest + 65536 - (0 : Nat)) % 65536 : Nat), (0 : Nat), (0 : Nat), ({ (((fun s => { s with stored := true }) (((fun s => { s with digest := (0 : Nat) }) ({} : CacheEntry)) : CacheEntry))) with done := none } : CacheEntry), by decide +kernel⟩,
   ⟨({ entries := [(((fun s => { s with stored := false }) (((fun s => { s with digest := (0 : Nat) }) ({} : CacheEntry)) : CacheEntry)) : CacheEntry)] } : ClientPlace), (((((fun s => { s with entries := [(((fun s => { s with stored := false }) (((fun s => { s with digest := (0 : Nat) }) ({} : CacheEntry)) : CacheEntry)) : CacheEntry)] }) ({} : ClientPlace)) : ClientPlace).newest + 65536 - (0 : Nat)) % 65536 : Nat), (0 : Nat), (0 : Nat), ({ (((fun s => { s with digest := (0 : Nat) }) ({} : CacheEntry))) with stored := false } : CacheEntry), by decide +kernel⟩⟩

theorem witness_ResetState :
    (∃ (n : Nat),
     n < 64) ∧
    (∃ (n : Nat),
     n < 8) ∧
    (∃ (k : Nat),
     k < 4) ∧
    (∃ (n : Nat),
     n < 1024) ∧
    (∃ (t : Nat),
     t < 34) ∧
    (∃ (c : Nat),
     c < 16) :=
  ⟨⟨(63 : Nat), by decide +kernel⟩,
   ⟨(7 : Nat), by decide +kernel⟩,
   ⟨(3 : Nat), by decide +kernel⟩,
   ⟨(1023 : Nat), by decide +kernel⟩,
   ⟨(33 : Nat), by decide +kernel⟩,
   ⟨(15 : Nat), by decide +kernel⟩⟩

theorem witness_Resets :
    (∃ (s : State),
     s.shift.held = Held.none ∧ supplyOn s vioM = true) ∧
    (∃ (s : State),
     s.shift.held ≠ Held.none) ∧
    (∃ (s : State) (v : Nat) (agent : Nat),
     s.shift.held = Held.none ∧ v % 256 = 165 ∧ agentReaches s agent = true ∧ (agent = 0 ∨ s.shift.onShift ≠ 3)) ∧
    (∃ (s : State) (v : Nat) (agent : Nat),
     (v % 256 ≠ 165 ∨ agentReaches s agent = false ∨ agent ≠ 0 ∧ s.shift.onShift = 3)) :=
  ⟨⟨({ up with shift.held := Held.none } : State), by decide +kernel⟩,
   ⟨State.reset, by decide +kernel⟩,
   ⟨({ upb with shift.held := Held.none } : State), (165 : Nat), (0 : Nat), by decide +kernel⟩,
   ⟨upb, (0 : Nat), (0 : Nat), by decide +kernel⟩⟩

theorem witness_SealingAndPrompt :
    (∃ (typ : Nat) (s : State),
     (∀ (p : RxPkt), p ∈ s.lanes.delivered → hType p.bytes ≠ typ)) ∧
    (∃ (typ : Nat) (s : State) (p : List RxPkt) (q : List RxPkt) (x : RxPkt) (r : List RxPkt) (v : State),
     (∀ (x : RxPkt), x ∈ p → hType x.bytes ≠ typ) ∧ (∀ (y : RxPkt), y ∈ r → hType y.bytes ≠ typ) ∧
     v = { s with lanes.delivered := p ++ r } ∧ s.lanes.delivered = p ++ q ∧ q = x :: r ∧ hType x.bytes = typ ∧
     foreign v x.bytes = false ∧ misroute v x.bytes = 0) ∧
    (∃ (typ : Nat) (s : State) (p : List RxPkt) (q : List RxPkt) (x : RxPkt) (r : List RxPkt) (v : State),
     q = x :: r ∧ s.lanes.delivered = p ++ q ∧ (∀ (x : RxPkt), x ∈ p → hType x.bytes ≠ typ) ∧ hType x.bytes = typ ∧
     (∀ (y : RxPkt), y ∈ r → hType y.bytes ≠ typ) ∧
     (v =
  { pending := s.pending, freeCount := s.freeCount,
    lanes :=
      have __src := s.lanes;
      { lane := __src.lane, delivered := p ++ r, records := __src.records },
    seam := s.seam, hop := s.hop, aba := s.aba, tal := s.tal, beams := s.beams, assay := s.assay, ayr := s.ayr, trig := s.trig, hst := s.hst, pit := s.pit, tu := s.tu, cages := s.cages, bell := s.bell, wnd := s.wnd, pwr := s.pwr, shift := s.shift, mon := s.mon, con := s.con, bun := s.bun, sys := s.sys }) ∧
     foreign v x.bytes = true) ∧
    (∃ (s : State) (j : Nat),
     slotFull s (slotAt s j) = true ∧ (slotAt s j).window = true ∧ lowerSealed s j = true) ∧
    (∃ (s : State) (j : Nat),
     slotFull s (slotAt s j) = true ∧ ((slotAt s j).window = false ∨ lowerSealed s j = false)) ∧
    (∃ (s : State) (j : Nat),
     slotFull s (slotAt s j) = false) ∧
    (∃ (s : State) (w : State) (j : Nat),
     s = judgeWaiting 1 takeData w ∧ s.hop.running = true ∧ (slotAt s j).pos = j ∧ (slotAt s j).state = SlotState.opened) ∧
    (∃ (s : State) (w : State) (j : Nat),
     s = judgeWaiting 1 takeData w ∧ s.hop.running = true ∧ (slotAt s j).pos = j ∧ (slotAt s j).state = SlotState.complete ∧
     lowerSealed s j = true) ∧
    (∃ (s : State) (j : Nat) (deadline : Bool) (k : Nat),
     s.hop.slots.length = 3 ∧ (sealRecord s (slotAt s j) deadline).missing ≠ 0 ∧ k % 3 ≠ j % 3) ∧
    (∃ (s : State) (j : Nat) (deadline : Bool),
     s.hop.slots.length = 3 ∧ (sealRecord s (slotAt s j) deadline).missing = 0 ∧
     (sealRecord s (slotAt s j) deadline).blankMask = 0) ∧
    (∃ (s : State) (lane : Nat) (b : List Byte) (s' : State),
     takeDelivered lane 2 s = some (b, s') ∧ foreign s' b = false ∧ misroute s' b = 0 ∧
     promptLate s'.hop (hIndex b / 64) = true) ∧
    (∃ (s : State) (lane : Nat) (b : List Byte) (s' : State) (x : PbBlock),
     takeDelivered lane 2 s = some (b, s') ∧ foreign s' b = false ∧ misroute s' b = 0 ∧
     promptLate s'.hop (hIndex b / 64) = false ∧
     (List.find? (fun (x : PbBlock) => x.num == hIndex b / 64) s'.hop.blocks = some x) ∧
     x.pairs.contains { channel := hChannel b, group := hGroup b } = true) ∧
    (∃ (s : State) (lane : Nat) (b : List Byte) (s' : State) (x : PbBlock),
     takeDelivered lane 2 s = some (b, s') ∧ foreign s' b = false ∧ misroute s' b = 0 ∧
     promptLate s'.hop (hIndex b / 64) = false ∧
     (List.find? (fun (x : PbBlock) => x.num == hIndex b / 64) s'.hop.blocks = some x) ∧
     x.pairs.contains { channel := hChannel b, group := hGroup b } = false ∧ hBlank b ≠ 2 ∧ 512 ≤ s'.hop.cells) ∧
    (∃ (s : State) (lane : Nat) (b : List Byte) (s' : State) (x : PbBlock),
     takeDelivered lane 2 s = some (b, s') ∧ foreign s' b = false ∧ misroute s' b = 0 ∧
     promptLate s'.hop (hIndex b / 64) = false ∧
     (List.find? (fun (x : PbBlock) => x.num == hIndex b / 64) s'.hop.blocks = some x) ∧
     x.pairs.contains { channel := hChannel b, group := hGroup b } = false ∧ (hBlank b = 2 ∨ s'.hop.cells < 512)) ∧
    (∃ (s : State) (lane : Nat) (b : List Byte) (s' : State),
     takeDelivered lane 2 s = some (b, s') ∧ foreign s' b = false ∧ misroute s' b = 0 ∧
     promptLate s'.hop (hIndex b / 64) = false ∧
     (List.find? (fun (x : PbBlock) => x.num == hIndex b / 64) s'.hop.blocks = none) ∧ (hBlank b = 2 ∨ s'.hop.cells < 512)) ∧
    (∃ (s : State) (lane : Nat) (b : List Byte) (s' : State),
     takeDelivered lane 2 s = some (b, s') ∧ foreign s' b = false ∧ misroute s' b = 0 ∧
     promptLate s'.hop (hIndex b / 64) = false ∧
     (List.find? (fun (x : PbBlock) => x.num == hIndex b / 64) s'.hop.blocks = none) ∧ hBlank b ≠ 2 ∧ 512 ≤ s'.hop.cells) ∧
    (∃ (s : State) (w : State) (n : Nat),
     s = judgeWaiting 2 takePrompt w ∧ ((s.hop.blocks.any fun (b : PbBlock) => b.num == n && b.waiting) = true)) ∧
    (∃ (s : State) (w : State) (n : Nat),
     s = judgeWaiting 2 takePrompt w ∧ ((s.hop.blocks.any fun (b : PbBlock) => b.num == n && b.waiting) = false)) ∧
    (∃ (s : State) (n : Nat) (b : PbBlock),
     (List.find? (fun (b : PbBlock) => b.num == n) s.hop.blocks = some b)) ∧
    (∃ (s : State),
     dpRun s = true ∧ s.hop.running = true) ∧
    (∃ (s : State),
     dpRun s = true ∧ s.hop.running = false) :=
  ⟨⟨(0 : Nat), upb, by decide +kernel⟩,
   ⟨(1 : Nat), (deliver (dataPkt 1 1 0 0 0) upb : State), ([] : List RxPkt), ([{ lane := 0, bytes := dataPkt 1 1 0 0 0 }] : List RxPkt), ({ lane := 0, bytes := dataPkt 1 1 0 0 0 } : RxPkt), ([] : List RxPkt), _, (by exact fun o h => absurd h List.not_mem_nil), (by exact fun o h => absurd h List.not_mem_nil), rfl, by decide +kernel⟩,
   ⟨(0 : Nat), ({ upb with lanes.delivered := ([] : List RxPkt) ++ (({} : RxPkt) :: ([] : List RxPkt) : List RxPkt) } : State), ([] : List RxPkt), _, ({} : RxPkt), ([] : List RxPkt), upb, rfl, by decide +kernel⟩,
   ⟨((modSlot (0 : Nat) (fun x => { x with window := true }) (up)) : State), (0 : Nat), by decide +kernel⟩,
   ⟨up, (0 : Nat), by decide +kernel⟩,
   ⟨upb, (0 : Nat), by decide +kernel⟩,
   ⟨_, (modSlot 0 (fun x => { x with state := .opened, pos := 0 }) { upb with hop.running := true } : State), (0 : Nat), rfl, by decide +kernel⟩,
   ⟨_, (modSlot 0 (fun x => { x with state := .complete, pos := 0 }) { upb with hop.running := true } : State), (0 : Nat), rfl, by decide +kernel⟩,
   ⟨upb, (0 : Nat), false, (1 : Nat), by decide +kernel⟩,
   ⟨up, (0 : Nat), false, by decide +kernel⟩,
   ⟨({ deliver (dataPkt 2 1 0 0 0 : List Byte) upb with beams.prompt := some { channels := [0] }, hop.highest := some 0 } : State), (0 : Nat), (dataPkt 2 1 0 0 0 : List Byte), (tookOf 2 ({ deliver (dataPkt 2 1 0 0 0 : List Byte) upb with beams.prompt := some { channels := [0] }, hop.highest := some 0 } : State) : State), by decide +kernel⟩,
   ⟨({ deliver (dataPkt 2 1 0 0 0 : List Byte) upb with beams.prompt := some { channels := [0] }, hop.highest := some 0, hop.blocks := [({ pairs := [{}] } : PbBlock)] } : State), (0 : Nat), (dataPkt 2 1 0 0 0 : List Byte), (tookOf 2 ({ deliver (dataPkt 2 1 0 0 0 : List Byte) upb with beams.prompt := some { channels := [0] }, hop.highest := some 0, hop.blocks := [({ pairs := [{}] } : PbBlock)] } : State) : State), ({ pairs := [{}] } : PbBlock), by decide +kernel⟩,
   ⟨({ deliver promptPkt upb with beams.prompt := some { channels := [0] }, hop.highest := some 0, hop.blocks := [({} : PbBlock)], hop.cells := 512 } : State), (0 : Nat), promptPkt, (tookOf 2 ({ deliver promptPkt upb with beams.prompt := some { channels := [0] }, hop.highest := some 0, hop.blocks := [({} : PbBlock)], hop.cells := 512 } : State) : State), ({} : PbBlock), by decide +kernel⟩,
   ⟨({ deliver promptPkt upb with beams.prompt := some { channels := [0] }, hop.highest := some 0, hop.blocks := [({} : PbBlock)], hop.cells := 511 } : State), (0 : Nat), promptPkt, (tookOf 2 ({ deliver promptPkt upb with beams.prompt := some { channels := [0] }, hop.highest := some 0, hop.blocks := [({} : PbBlock)], hop.cells := 511 } : State) : State), ({} : PbBlock), by decide +kernel⟩,
   ⟨({ deliver promptPkt upb with beams.prompt := some { channels := [0] }, hop.cells := 511 } : State), (0 : Nat), promptPkt, (tookOf 2 ({ deliver promptPkt upb with beams.prompt := some { channels := [0] }, hop.cells := 511 } : State) : State), by decide +kernel⟩,
   ⟨({ deliver promptPkt upb with beams.prompt := some { channels := [0] }, hop.cells := 512 } : State), (0 : Nat), promptPkt, (tookOf 2 ({ deliver promptPkt upb with beams.prompt := some { channels := [0] }, hop.cells := 512 } : State) : State), by decide +kernel⟩,
   ⟨_, ({ upb with hop.blocks := [{ num := 3, waiting := true }] } : State), (3 : Nat), rfl, by decide +kernel⟩,
   ⟨_, upb, (0 : Nat), rfl, by decide +kernel⟩,
   ⟨({ upb with hop.blocks := [({} : PbBlock)] } : State), (0 : Nat), ({} : PbBlock), by decide +kernel⟩,
   ⟨({ up with hop.running := true } : State), by decide +kernel⟩,
   ⟨({ up with hop.running := false } : State), by decide +kernel⟩⟩

theorem witness_ShiftChanges :
    (∃ (s : State) (c : Nat) (reason : Nat),
     c < 2 ∧ s.shift.onShift = c ∧ s.shift.core.length = 2 ∧ coreAt s c = CoreState.onShift ∧
     coreAt s (1 - c) = CoreState.ready ∧ reason ≠ 1) ∧
    (∃ (s : State) (c : Nat),
     c < 2 ∧ s.shift.onShift = c ∧ s.shift.core.length = 2 ∧ coreAt s c = CoreState.onShift ∧
     coreAt s (1 - c) = CoreState.faulty) ∧
    (∃ (s : State) (ms : Nat),
     s.shift.onShift < 2 ∧ ms < s.shift.wdtLeft) ∧
    (∃ (s : State) (ms : Nat),
     s.shift.onShift < 2 ∧ s.shift.wdtLeft ≤ ms) ∧
    (∃ (s : State) (agent : Nat),
     agent ≠ s.shift.onShift + 1) ∧
    (∃ (s : State) (agent : Nat) (v : Nat),
     s.shift.onShift < 2 ∧ agent = s.shift.onShift + 1 ∧ v % 16 = 3) ∧
    (∃ (s : State) (agent : Nat) (v : Nat),
     s.shift.onShift < 2 ∧ agent = s.shift.onShift + 1 ∧ v % 16 = 6) ∧
    (∃ (s : State) (agent : Nat) (v : Nat),
     s.shift.onShift < 2 ∧ agent = s.shift.onShift + 1 ∧ (v % 16 = 0 ∨ 7 < v % 16)) ∧
    (∃ (s : State) (c : Nat),
     s.shift.incoming = some c) ∧
    (∃ (s : State) (bad : List LogFault) (o : OpenCmd) (x : Nat),
     bad = [LogFault.journal o.req.client o.req.tag x] ∧ s.cages.openCmds = [o] ∧ recordBad x (journalEntry o) = true) ∧
    (∃ (s : State),
     s.shift.incoming = none) ∧
    (∃ (s : State) (c : Nat),
     c < 2 ∧ s.shift.core.length = 2 ∧ coreAt s (1 - c) = CoreState.relinquished) ∧
    (∃ (s : State) (c : Nat),
     c < 2 ∧ s.shift.core.length = 2 ∧ coreAt s c = CoreState.repair ∧ s.shift.onShift < 2 ∧ s.shift.relinq.getD c 0 < 3) ∧
    (∃ (s : State) (k : Nat),
     k < 15 ∧ s.shift.onShift < 2 ∧ supplyOn s vioM = true ∧ s.hst.seq.getD k 0 ≠ 0 ∧
     s.shift.seqRec.getD k none ≠ some (s.hst.seq.getD k 0 / 2 ^ 32)) ∧
    (∃ (f : Flash),
     areaOk f = false) ∧
    (∃ (f : Flash),
     areaOk f = true ∧ (f.sectors.getD f.sector []).length < sectorSize f / 32) ∧
    (∃ (s : State),
     2 ≤ s.shift.onShift) :=
  ⟨⟨(((fun s => { s with shift.core := upd s.shift.core (1 - (1 : Nat)) (fun _ => CoreState.ready) }) (((fun s => { s with shift.core := upd s.shift.core (1 : Nat) (fun _ => CoreState.onShift) }) (((fun s => { s with shift.onShift := (1 : Nat) }) (up)))))) : State), (1 : Nat), (0 : Nat), by decide +kernel⟩,
   ⟨(((fun s => { s with shift.core := upd s.shift.core (1 - (1 : Nat)) (fun _ => CoreState.faulty) }) (((fun s => { s with shift.core := upd s.shift.core (1 : Nat) (fun _ => CoreState.onShift) }) (((fun s => { s with shift.onShift := (1 : Nat) }) (up)))))) : State), (1 : Nat), by decide +kernel⟩,
   ⟨up, (0 : Nat), by decide +kernel⟩,
   ⟨upb, (165 : Nat), by decide +kernel⟩,
   ⟨up, (0 : Nat), by decide +kernel⟩,
   ⟨up, (up.shift.onShift + 1 : Nat), (3 : Nat), by decide +kernel⟩,
   ⟨up, (up.shift.onShift + 1 : Nat), (6 : Nat), by decide +kernel⟩,
   ⟨upb, (upb.shift.onShift + 1 : Nat), (0 : Nat), by decide +kernel⟩,
   ⟨({ up with shift.incoming := some (0 : Nat) } : State), (0 : Nat), by decide +kernel⟩,
   ⟨({ upb with cages.openCmds := [({} : OpenCmd)] } : State), ([LogFault.journal ({} : OpenCmd).req.client ({} : OpenCmd).req.tag (1 : Nat)] : List LogFault), ({} : OpenCmd), (1 : Nat), by decide +kernel⟩,
   ⟨({ up with shift.incoming := none } : State), by decide +kernel⟩,
   ⟨(((fun s => { s with shift.core := upd s.shift.core (1 - (1 : Nat)) (fun _ => CoreState.relinquished) }) (up)) : State), (1 : Nat), by decide +kernel⟩,
   ⟨(((fun s => { s with shift.core := upd s.shift.core (1 : Nat) (fun _ => CoreState.repair) }) (up)) : State), (1 : Nat), by decide +kernel⟩,
   ⟨({ up with hst.seq := List.replicate 15 (2 ^ 32) } : State), (14 : Nat), by decide +kernel⟩,
   ⟨({ magic := 0 } : Flash), by decide +kernel⟩,
   ⟨({} : Flash), by decide +kernel⟩,
   ⟨State.reset, by decide +kernel⟩⟩

theorem witness_ShiftCommands :
    (∃ (r : Req) (t : Nat) (s : State) (u : State),
     Takes 3329 r t s u) ∧
    (∃ (r : Req) (t : Nat) (s : State) (u : State),
     Takes 3330 r t s u ∧ coreAt u (1 - u.shift.onShift) = CoreState.ready) ∧
    (∃ (r : Req) (t : Nat) (s : State) (u : State),
     Takes 3330 r t s u ∧ coreAt u (1 - u.shift.onShift) ≠ CoreState.ready) ∧
    (∃ (r : Req) (t : Nat) (s : State) (u : State),
     Takes 3331 r t s u ∧ b16 r 26 % 4 = 0 ∧ b16 r 24 + b16 r 26 ≤ 16384) ∧
    (∃ (r : Req) (t : Nat) (s : State) (u : State),
     Takes 3332 r t s u ∧ b32 r 24 = 1129075249) ∧
    (∃ (r : Req) (t : Nat) (s : State) (u : State),
     Takes 3332 r t s u ∧ b32 r 24 ≠ 1129075249) ∧
    (∃ (r : Req) (t : Nat) (s : State) (u : State),
     Takes 3333 r t s u ∧ b8 r 24 ≤ 1 ∧ dpRun u = true ∧ u.pwr.leaving = none ∧ u.pwr.returning = none) ∧
    (∃ (r : Req) (t : Nat) (s : State) (u : State),
     Takes 3334 r t s u ∧ dpRun u = true ∧ u.aba.state = AbaState.drained ∧ u.pwr.leaving = none ∧ u.pwr.returning = none) ∧
    (∃ (r : Req) (t : Nat) (s : State) (u : State),
     Takes 3334 r t s u ∧ u.sys.dp = DpState.quiesce ∧ tooHot u = false) ∧
    (∃ (r : Req) (t : Nat) (s : State) (u : State),
     Takes 259 r t s u ∧ b8 r 24 = 0 ∧ b32 r 28 = u.shift.boots) ∧
    (∃ (r : Req) (t : Nat) (s : State) (u : State),
     Takes 259 r t s u ∧ b8 r 24 = 1 ∧ b32 r 28 = u.shift.boots ∧ dpRun u = true ∧ u.pwr.leaving = none ∧
     u.pwr.returning = none ∧ tooHot u = false ∧ u.shift.resetDue = false) ∧
    (∃ (s : State),
     s.pwr.leaving = none) ∧
    (∃ (s : State),
     s.pwr.leaving = some DpMove.quiesce ∧ s.hst.flushing = false ∧ s.aba.state ≠ AbaState.draining ∧
     promotionsDone s = true ∧ pitIdle s.pit = true) ∧
    (∃ (s : State) (k : DpMove),
     s.pwr.leaving = some k ∧
     (s.hst.flushing = true ∨ s.aba.state = AbaState.draining ∨ promotionsDone s = false ∨ pitIdle s.pit = false)) ∧
    (∃ (s : State),
     s.pwr.leaving = some DpMove.restart ∧ s.hst.flushing = false ∧ s.aba.state ≠ AbaState.draining ∧
     promotionsDone s = true ∧ pitIdle s.pit = true) :=
  ⟨⟨(reqOf [] [] : Req), (0 : Nat), up, _, takes_of (by decide +kernel)⟩,
   ⟨(reqOf [] [] : Req), (0 : Nat), up, _, takes_of (by decide +kernel), by decide +kernel⟩,
   ⟨(reqOf [] [] : Req), (0 : Nat), ({ up with shift.core := [.onShift, .off] } : State), _, takes_of (by decide +kernel), by decide +kernel⟩,
   ⟨(reqOf [] [] : Req), (0 : Nat), up, _, takes_of (by decide +kernel), by decide +kernel⟩,
   ⟨(reqOf [(24, leBytes 4 1129075249)] [] : Req), (0 : Nat), up, _, takes_of (by decide +kernel), by decide +kernel⟩,
   ⟨(reqOf [(24, leBytes 4 0)] [] : Req), (0 : Nat), up, _, takes_of (by decide +kernel), by decide +kernel⟩,
   ⟨(reqOf [(24, leBytes 1 1)] [] : Req), (0 : Nat), ({ up with pwr.leaving := none, pwr.returning := none } : State), _, takes_of (by decide +kernel), by decide +kernel⟩,
   ⟨(reqOf [] [] : Req), (0 : Nat), ({ up with aba.state := AbaState.drained, pwr.leaving := none, pwr.returning := none } : State), _, takes_of (by decide +kernel), by decide +kernel⟩,
   ⟨(reqOf [] [] : Req), (0 : Nat), ({ upb with sys.dp := DpState.quiesce } : State), _, takes_of (by decide +kernel), by decide +kernel⟩,
   ⟨(reqOf [(24, leBytes 1 0)] [] : Req), (0 : Nat), up, _, takes_of (by decide +kernel), by decide +kernel⟩,
   ⟨(reqOf [(24, leBytes 1 1)] [] : Req), (0 : Nat), ({ up with pwr.leaving := none, pwr.returning := none, shift.resetDue := false } : State), _, takes_of (by decide +kernel), by decide +kernel⟩,
   ⟨({ up with pwr.leaving := none } : State), by decide +kernel⟩,
   ⟨({ upb with pwr.leaving := some DpMove.quiesce, hst.flushing := false } : State), by decide +kernel⟩,
   ⟨({ upb with pwr.leaving := some (.quiesce : DpMove), hst.flushing := true } : State), (.quiesce : DpMove), by decide +kernel⟩,
   ⟨({ upb with pwr.leaving := some DpMove.restart, hst.flushing := false } : State), by decide +kernel⟩⟩

theorem witness_StepRunsFront :
    (∃ (s : State) (c : Instr) (q : List Instr),
     s.pending = c :: q) ∧
    (∃ (s : State),
     s.pending = []) :=
  ⟨⟨({ upb with pending := (.pcieLinkDown : Instr) :: ([] : List Instr) } : State), (.pcieLinkDown : Instr), ([] : List Instr), by decide +kernel⟩,
   ⟨({ up with pending := [] } : State), by decide +kernel⟩⟩

theorem witness_TimingCommands :
    (∃ (r : Req) (t : Nat) (s : State) (u : State),
     Takes 2561 r t s u ∧ b8 r 24 = 0 ∧ b8 r 25 ≤ 1 ∧ b8 r 26 ≤ 4 ∧ b8 r 27 ≤ 4 ∧ 1 ≤ b32 r 28 ∧ b32 r 28 ≤ 500000 ∧
     r.arg = [] ∧ u.tu.selected = none ∧ (∀ (k : Nat), k < 7 → (candAt u.tu k).state ≠ CandState.qualified)) ∧
    (∃ (r : Req) (t : Nat) (s : State) (u : State),
     Takes 2562 r t s u ∧ b8 r 24 ≤ 20 ∧ b8 r 25 ≤ 5 ∧ b8 r 26 ≤ 20 ∧ b8 r 27 ≤ 20 ∧ b8 r 28 ≤ 20 ∧ b8 r 29 ≤ 5 ∧
     b8 r 30 ≤ 20 ∧ b8 r 31 ≤ 20 ∧ b8 r 32 = 255 ∧ b8 r 33 = 0 ∧ 1 ≤ b16 r 34 ∧ b16 r 34 ≤ 10000 ∧ 1 ≤ b32 r 36 ∧
     b32 r 36 ≤ 1000000 ∧ 1 ≤ b32 r 40 ∧ b32 r 40 ≤ 3600 ∧ 1000 ≤ b32 r 44 ∧ b32 r 44 ≤ 1000000000) ∧
    (∃ (r : Req) (t : Nat) (s : State) (u : State) (x : Int),
     Takes 2563 r t s u ∧ x = signed 32 (b32 r 24) ∧ b8 r 28 = 0 ∧ (u.tu.userOff + x).natAbs ≤ secUnits ∧
     u.tu.out = OutState.locked) ∧
    (∃ (r : Req) (t : Nat) (s : State) (u : State),
     Takes 2563 r t s u ∧ b8 r 28 = 0 ∧ secUnits < (u.tu.userOff + signed 32 (b32 r 24)).natAbs) ∧
    (∃ (r : Req) (t : Nat) (s : State) (u : State),
     Takes 2564 r t s u ∧ b8 r 24 = 0 ∧ u.tu.selected ≠ some 6) ∧
    (∃ (r : Req) (t : Nat) (s : State) (u : State),
     Takes 2564 r t s u ∧ b8 r 24 = 1 ∧ b32 r 38 ≤ 999999999 ∧ u.tu.selected = none ∧ u.hop.running = false) ∧
    (∃ (r : Req) (t : Nat) (s : State) (u : State),
     Takes 2564 r t s u ∧ b8 r 24 = 0 ∧ u.tu.selected = some 6) ∧
    (∃ (r : Req) (t : Nat) (s : State) (u : State),
     Takes 2565 r t s u) ∧
    (∃ (r : Req) (t : Nat) (s : State) (u : State),
     Takes 2566 r t s u ∧ b8 r 24 = u.tu.ptp.cfg.domain ∧ b8 r 24 ≤ 127 ∧ b8 r 25 = u.tu.ptp.cfg.majorSdo ∧ b8 r 25 ≤ 15 ∧
     b8 r 26 = u.tu.ptp.cfg.ports ∧ b8 r 26 < 4 ∧ b8 r 26 ≠ 0 ∧ b8 r 27 < 4 ∧ b8 r 27 ≠ 0 ∧ 2 ≤ b8 r 28 ∧ b8 r 28 ≤ 10 ∧
     b8 r 29 ≤ 1 ∧ b8 r 30 ≤ 1 ∧ 100 ≤ b32 r 32 ∧ b32 r 32 ≤ 1000000 ∧ u.tu.ptp.masters = [] ∧ u.tu.ptp.gm = none ∧
     u.tu.selected = none ∧ (∀ (k : Nat), k < 7 → (candAt u.tu k).state ≠ CandState.qualified)) ∧
    (∃ (r : Req) (t : Nat) (s : State) (u : State),
     Takes 2567 r t s u ∧ b8 r 24 = 0) ∧
    (∃ (r : Req) (t : Nat) (s : State) (u : State) (v : Tu),
     Takes 2567 r t s u ∧ b8 r 24 = 3 ∧ 1 ≤ b8 r 56 ∧ b8 r 56 ≤ 48 ∧ b8 r 57 ≤ 32 ∧ 10 ≤ b16 r 58 ∧ b16 r 58 ≤ 2880 ∧
     1 ≤ b32 r 60 ∧ b32 r 60 ≤ 100000 ∧ u.tu.out = OutState.locked ∧
     (v =
  recheck
    (have __src := u.tu;
    { frac := __src.frac, cands := __src.cands, revertive := __src.revertive, ppsWidth := __src.ppsWidth, clkA := __src.clkA, clkB := __src.clkB, out := __src.out, selected := __src.selected, u := __src.u, g := __src.g, userOff := __src.userOff, integ := __src.integ, freq := __src.freq, err := __src.err, lockNs := __src.lockNs, bigNs := __src.bigNs, departure := __src.departure, service := __src.service, acquire := __src.acquire, override := __src.override, slope := __src.slope, lockThr := __src.lockThr, lockTime := __src.lockTime, jumpThr := __src.jumpThr, frameWeak := __src.frameWeak, xoLost := __src.xoLost, setSec := __src.setSec, ppsOut := __src.ppsOut, clkOut := __src.clkOut, outHeld := __src.outHeld, hist := __src.hist, model := __src.model, holdLearn := b8 r 56, holdMin := b16 r 58, holdRes := b32 r 60, tempInput := b8 r 57, residual := __src.residual, loaded := __src.loaded, valid := __src.valid, rewound := __src.rewound, tempStale := __src.tempStale, temp := __src.temp, cause := __src.cause, irqEn := __src.irqEn, switches := __src.switches, holdoverS := __src.holdoverS, coarse := __src.coarse, steps := __src.steps, ptp := __src.ptp }))) :=
  ⟨⟨({ (reqOf [(24, leBytes 1 0), (25, leBytes 1 1), (26, leBytes 1 4), (27, leBytes 1 4), (28, leBytes 4 1)] []) with arg := [] } : Req), (0 : Nat), ({ upb with tu.selected := none } : State), _, takes_of (by decide +kernel), by decide +kernel⟩,
   ⟨(reqOf [(24, leBytes 1 20), (25, leBytes 1 5), (26, leBytes 1 20), (27, leBytes 1 20), (28, leBytes 1 20), (29, leBytes 1 5), (30, leBytes 1 20), (31, leBytes 1 20), (32, leBytes 1 255), (33, leBytes 1 0), (34, leBytes 2 1), (36, leBytes 4 1), (40, leBytes 4 1), (44, leBytes 4 1000)] [] : Req), (0 : Nat), up, _, takes_of (by decide +kernel), by decide +kernel⟩,
   ⟨(reqOf [(28, leBytes 1 0)] [] : Req), (0 : Nat), ({ up with tu.out := OutState.locked } : State), _, _, takes_of (by decide +kernel), rfl, by decide +kernel⟩,
   ⟨(reqOf [(24, leBytes 4 1)] [] : Req), (0 : Nat), ({ up with tu.userOff := secUnits } : State), _, takes_of (by decide +kernel), by decide +kernel⟩,
   ⟨(reqOf [(24, leBytes 1 0)] [] : Req), (0 : Nat), up, _, takes_of (by decide +kernel), by decide +kernel⟩,
   ⟨(reqOf [(24, leBytes 1 1), (38, leBytes 4 999999999)] [] : Req), (0 : Nat), ({ up with tu.selected := none, hop.running := false } : State), _, takes_of (by decide +kernel), by decide +kernel⟩,
   ⟨(reqOf [(24, leBytes 1 0)] [] : Req), (0 : Nat), ({ up with tu.selected := some 6 } : State), _, takes_of (by decide +kernel), by decide +kernel⟩,
   ⟨(reqOf [] [] : Req), (0 : Nat), up, _, takes_of (by decide +kernel)⟩,
   ⟨(reqOf [(26, leBytes 1 3), (27, leBytes 1 3), (28, leBytes 1 3), (29, leBytes 1 1), (30, leBytes 1 1), (32, leBytes 4 10000)] [] : Req), (0 : Nat), up, _, takes_of (by decide +kernel), by decide +kernel⟩,
   ⟨(reqOf [(24, leBytes 1 0)] [] : Req), (0 : Nat), up, _, takes_of (by decide +kernel), by decide +kernel⟩,
   ⟨(reqOf [(24, leBytes 1 3), (56, leBytes 1 48), (57, leBytes 1 32), (58, leBytes 2 2880), (60, leBytes 4 100000)] [] : Req), (0 : Nat), ({ up with tu.out := .locked } : State), _, (recheck { ((taken 2567 (reqOf [(24, leBytes 1 3), (56, leBytes 1 48), (57, leBytes 1 32), (58, leBytes 2 2880), (60, leBytes 4 100000)] [] : Req) (0 : Nat) ({ up with tu.out := .locked } : State)).getD ({ up with tu.out := .locked } : State) : State).tu with holdLearn := b8 (reqOf [(24, leBytes 1 3), (56, leBytes 1 48), (57, leBytes 1 32), (58, leBytes 2 2880), (60, leBytes 4 100000)] [] : Req) 56, holdMin := b16 (reqOf [(24, leBytes 1 3), (56, leBytes 1 48), (57, leBytes 1 32), (58, leBytes 2 2880), (60, leBytes 4 100000)] [] : Req) 58, holdRes := b32 (reqOf [(24, leBytes 1 3), (56, leBytes 1 48), (57, leBytes 1 32), (58, leBytes 2 2880), (60, leBytes 4 100000)] [] : Req) 60, tempInput := b8 (reqOf [(24, leBytes 1 3), (56, leBytes 1 48), (57, leBytes 1 32), (58, leBytes 2 2880), (60, leBytes 4 100000)] [] : Req) 57 } : Tu), takes_of (by decide +kernel), by decide +kernel⟩⟩

theorem witness_TimingReference :
    (∃ (u : Tu) (k : Nat) (i : Nat),
     bestCand u = some k ∧ i < 7 ∧ (candAt u i).state = CandState.qualified) ∧
    (∃ (u : Tu) (k : Nat),
     u.selected = some k ∧ (candAt u k).state = CandState.qualified ∧ bestCand u = some k) ∧
    (∃ (u : Tu) (k : Nat) (j : Nat),
     u.selected = some k ∧ (candAt u k).state = CandState.qualified ∧ bestCand u = some j ∧ j ≠ k ∧ u.revertive = false) ∧
    (∃ (u : Tu) (k : Nat) (j : Nat),
     u.selected = some k ∧ bestCand u = some j ∧ j ≠ k ∧ u.revertive = true) ∧
    (∃ (k : Nat),
     timeCand k = true) ∧
    (∃ (k : Nat),
     timeCand k = false) :=
  ⟨⟨({ cands := List.replicate 7 { state := .qualified } } : Tu), (0 : Nat), (0 : Nat), by decide +kernel⟩,
   ⟨({ cands := List.replicate 7 { state := .qualified }, selected := some 0 } : Tu), (0 : Nat), by decide +kernel⟩,
   ⟨({ cands := List.replicate 7 { state := .qualified }, selected := some 6, revertive := false } : Tu), (6 : Nat), (0 : Nat), by decide +kernel⟩,
   ⟨({ cands := List.replicate 7 { state := .qualified }, selected := some 6 } : Tu), (6 : Nat), (0 : Nat), by decide +kernel⟩,
   ⟨(2 : Nat), by decide +kernel⟩,
   ⟨(0 : Nat), by decide +kernel⟩⟩

theorem witness_TimingSignals :
    (∃ (s : State) (i : Nat),
     (candAt s.tu i).state = CandState.disabled) ∧
    (∃ (s : State) (i : Nat),
     i < 2 ∧ i < s.tu.cands.length ∧ (candAt s.tu i).state = CandState.qualified ∧ (candAt s.tu i).signal = true ∧
     (candAt s.tu i).resolved = true ∧ s.tu.selected ≠ some i) ∧
    (∃ (A : Int),
     0 < A) ∧
    (∃ (s : State) (i : Nat),
     i < 2 ∧ s.tu.cands.length = 7 ∧ (candAt s.tu i).state = CandState.qualified ∧ (candAt s.tu i).signal = true ∧
     s.tu.selected = none ∧ (∀ (k : Nat), k < 7 → k ≠ i → (candAt s.tu k).state ≠ CandState.qualified)) ∧
    (∃ (s : State) (i : Nat),
     i < 2 ∧ supplyOn s vioT = true ∧ s.tu.cands.length = 7 ∧ (candAt s.tu i).state = CandState.failed ∧
     s.tu.selected = none ∧ (∀ (k : Nat), k < 7 → (candAt s.tu k).state ≠ CandState.qualified)) ∧
    (∃ (s : State),
     supplyOn s vioT = true ∧ s.tu.cands.length = 7 ∧ (candAt s.tu 2).signal = true ∧ (candAt s.tu 2).misses = 0 ∧
     s.tu.selected = none ∧ (∀ (k : Nat), k < 7 → (candAt s.tu k).state ≠ CandState.qualified)) ∧
    (∃ (s : State),
     (s.tu.out = OutState.acquire ∨ s.tu.out = OutState.switching) ∧ s.tu.u = ↑s.tu.g ∧
     s.tu.lockTime * 1000000000 ≤ s.tu.lockNs) ∧
    (∃ (s : State),
     s.tu.out ≠ OutState.acquire ∧ s.tu.out ≠ OutState.switching) ∧
    (∃ (s : State),
     s.tu.xoLost = true) ∧
    (∃ (s : State),
     s.tu.xoLost = false ∧ s.tu.out = OutState.acquire ∧ s.tu.valid = false ∧ s.tu.loaded = false ∧ s.tu.residual = none) ∧
    (∃ (s : State),
     supplyOn s vioT = true ∧ s.tu.valid = false ∧
     (historyValid
    (have __src := s.tu;
    { frac := __src.frac, cands := __src.cands, revertive := __src.revertive, ppsWidth := __src.ppsWidth, clkA := __src.clkA, clkB := __src.clkB, out := __src.out, selected := __src.selected, u := __src.u, g := __src.g, userOff := __src.userOff, integ := __src.integ, freq := __src.freq, err := __src.err, lockNs := __src.lockNs, bigNs := __src.bigNs, departure := __src.departure, service := __src.service, acquire := __src.acquire, override := __src.override, slope := __src.slope, lockThr := __src.lockThr, lockTime := __src.lockTime, jumpThr := __src.jumpThr, frameWeak := __src.frameWeak, setSec := __src.setSec, ppsOut := __src.ppsOut, clkOut := __src.clkOut, outHeld := __src.outHeld, hist := __src.hist, model := __src.model, holdLearn := __src.holdLearn, holdMin := __src.holdMin, holdRes := __src.holdRes, tempInput := __src.tempInput, residual := __src.residual, loaded := __src.loaded, valid := __src.valid, rewound := __src.rewound, tempStale := __src.tempStale, temp := __src.temp, cause := __src.cause, irqEn := __src.irqEn, switches := __src.switches, holdoverS := __src.holdoverS, coarse := __src.coarse, steps := __src.steps, ptp := __src.ptp }) =
  false)) ∧
    (∃ (s : State),
     s.tu.out = OutState.locked) ∧
    (∃ (s : State) (ns : Nat),
     s.tu.out = OutState.freeRun ∧ s.tu.departure ≠ 0 ∧ ratAbs s.tu.departure ≤ ↑s.tu.slope * ↑ns * 65536 / 1000000000) ∧
    (∃ (s : State) (a : Announce),
     ptpTakes s.tu.ptp.cfg a.port a.domain a.majorSdo a.transport = false) ∧
    (∃ (s : State) (a : Announce),
     ptpTakes s.tu.ptp.cfg a.port a.domain a.majorSdo a.transport = true ∧ s.tu.ptp.masters = [] ∧ s.tu.ptp.gm = none ∧
     s.tu.cands.length = 7 ∧ (candAt s.tu 6).signal = false ∧
     (∀ (k : Nat), k < 7 → (candAt s.tu k).state ≠ CandState.qualified) ∧ s.tu.selected = none ∧ s.tu.ptp.utc = a.utc) ∧
    (∃ (s : State) (port : Nat) (sender : Nat),
     fromMaster s.tu port sender = false) ∧
    (∃ (s : State) (port : Nat) (sender : Nat),
     fromMaster s.tu port sender = true ∧ s.tu.ptp.delays = []) ∧
    (∃ (s : State) (port : Nat) (sender : Nat),
     fromMaster s.tu port sender = true ∧ s.tu.ptp.delays ≠ [] ∧ s.tu.ptp.accepted = [] ∧ (candAt s.tu 6).signal = false) ∧
    (∃ (s : State) (port : Nat) (sender : Nat) (t3 : Int) (m : Int),
     s.tu.ptp.reqT3 = some t3 ∧ s.tu.ptp.lastMs = some m ∧ fromMaster s.tu port sender = true) ∧
    (∃ (s : State) (seq : Nat),
     seq ≠ s.tu.ptp.reqSeq) ∧
    (∃ (s : State),
     s.tu.ptp.gm.isSome = true) ∧
    (∃ (s : State) (f : List Byte),
     s.tu.ptp.cfg.tcEnable = true ∧ (ptpAt f).isSome = true ∧ tcEvent f = true) ∧
    (∃ (s : State) (f : List Byte),
     s.tu.ptp.cfg.tcEnable = true ∧ (ptpAt f).isSome = true ∧ tcEvent f = false) ∧
    (∃ (s : State) (f : List Byte),
     (s.tu.ptp.cfg.tcEnable = false ∨ ptpAt f = none)) ∧
    (∃ (s : State),
     s.tu.ptp.cfg.tcEnable = false) ∧
    (∃ (f : List Byte),
     beAt f 12 2 = 35063 ∧ u8 f 14 % 16 ≤ 1) ∧
    (∃ (cr : Int) (f : List Byte) (p : Nat) (c : Nat) (new : List Byte),
     ptpAt f = some (p, some c) ∧ u8 f p % 16 ≤ 1 ∧ new = beBytes 8 (wrap 64 (signed 64 (beAt f (p + 8) 8) + cr))) :=
  ⟨⟨(((fun s => { s with tu.cands := upd s.tu.cands (0 : Nat) (fun x => { x with state := CandState.disabled }) }) (up)) : State), (0 : Nat), by decide +kernel⟩,
   ⟨(((fun s => { s with tu.cands := upd s.tu.cands (1 : Nat) (fun x => { x with resolved := true }) }) (((fun s => { s with tu.cands := upd s.tu.cands (1 : Nat) (fun x => { x with signal := true }) }) (((fun s => { s with tu.cands := upd s.tu.cands (1 : Nat) (fun x => { x with state := CandState.qualified }) }) (up)))))) : State), (1 : Nat), by decide +kernel⟩,
   ⟨(1 : Int), by decide +kernel⟩,
   ⟨({ ((fun s => { s with tu.cands := upd s.tu.cands (1 : Nat) (fun x => { x with signal := true }) }) (((fun s => { s with tu.cands := upd s.tu.cands (1 : Nat) (fun x => { x with state := CandState.qualified }) }) (upb)))) with tu.selected := none } : State), (1 : Nat), by decide +kernel⟩,
   ⟨({ ((fun s => { s with tu.cands := upd s.tu.cands (1 : Nat) (fun x => { x with state := CandState.failed }) }) (upb)) with tu.selected := none } : State), (1 : Nat), by decide +kernel⟩,
   ⟨({ ((fun s => { s with tu.cands := upd s.tu.cands 2 (fun x => { x with misses := 0 }) }) (((fun s => { s with tu.cands := upd s.tu.cands 2 (fun x => { x with signal := true }) }) (upb)))) with tu.selected := none } : State), by decide +kernel⟩,
   ⟨({ up with tu.out := .acquire, tu.lockNs := 30000000000 } : State), by decide +kernel⟩,
   ⟨up, by decide +kernel⟩,
   ⟨({ up with tu.xoLost := true } : State), by decide +kernel⟩,
   ⟨({ up with tu.xoLost := false, tu.out := OutState.acquire, tu.valid := false, tu.loaded := false, tu.residual := none } : State), by decide +kernel⟩,
   ⟨({ upb with tu.valid := false } : State), by decide +kernel⟩,
   ⟨({ up with tu.out := OutState.locked } : State), by decide +kernel⟩,
   ⟨({ upb with tu.out := OutState.freeRun, tu.departure := 1 } : State), (165 : Nat), by decide +kernel⟩,
   ⟨up, ({ port := 2 } : Announce), by decide +kernel⟩,
   ⟨({ ((fun s => { s with tu.cands := upd s.tu.cands 6 (fun x => { x with signal := false }) }) (((fun s => { s with tu.ptp.gm := none }) (((fun s => { s with tu.ptp.masters := [] }) (upb)))))) with tu.selected := none, tu.ptp.utc := ({} : Announce).utc } : State), ({} : Announce), by decide +kernel⟩,
   ⟨up, (0 : Nat), (0 : Nat), by decide +kernel⟩,
   ⟨({ up with tu.ptp.gm := some { port := 0, sender := 4 } } : State), (0 : Nat), (4 : Nat), by decide +kernel⟩,
   ⟨({ up with tu.ptp.gm := some { port := 0, sender := 4 }, tu.ptp.delays := [0] } : State), (0 : Nat), (4 : Nat), by decide +kernel⟩,
   ⟨({ up with tu.ptp.gm := some { port := 0, sender := 4 }, tu.ptp.reqT3 := some 1, tu.ptp.lastMs := some 2 } : State), (0 : Nat), (4 : Nat), (1 : Int), (2 : Int), by decide +kernel⟩,
   ⟨up, (1 : Nat), by decide +kernel⟩,
   ⟨({ up with tu.ptp.gm := some { port := 0, sender := 4 } } : State), by decide +kernel⟩,
   ⟨({ up with tu.ptp.cfg.tcEnable := true } : State), (ptpFrame 0 : List Byte), by decide +kernel⟩,
   ⟨({ up with tu.ptp.cfg.tcEnable := true } : State), (ptpFrame 2 : List Byte), by decide +kernel⟩,
   ⟨({ upb with tu.ptp.cfg.tcEnable := false } : State), ([] : List Byte), by decide +kernel⟩,
   ⟨({ up with tu.ptp.cfg.tcEnable := false } : State), by decide +kernel⟩,
   ⟨(ptpFrame 1 : List Byte), by decide +kernel⟩,
   ⟨(5 : Int), (udpFrame 319 : List Byte), (42 : Nat), (40 : Nat), (beBytes 8 (wrap 64 (signed 64 (beAt (udpFrame 319 : List Byte) ((42 : Nat) + 8) 8) + (5 : Int))) : List Byte), by decide +kernel⟩⟩

theorem witness_TriggerCandidates :
    (∃ (h : Hit) (c : Nat) (t : Trig),
     (bit t.armed c = false ∨ bit (t.conds.getD c { }).mask h.input = false)) ∧
    (∃ (h : Hit) (c : Nat) (t : Trig) (x : Hit),
     (∃ (d : Nat), d ∈ (t.conds.getD c { }).deadFrom ∧ d ≤ h.stamp ∧ h.stamp < d + (t.conds.getD c { }).dead) ∧
     bit t.armed c = true ∧ bit (t.conds.getD c { }).mask h.input = true ∧ x ∈ (searchCond h c t).hits ∧ x.order = h.order) :=
  ⟨⟨({} : Hit), (0 : Nat), ({} : Trig), by decide +kernel⟩,
   ⟨({ input := 3, stamp := 100, order := 5 } : Hit), (0 : Nat), ({ hits := [({ input := 3, stamp := 100, order := 5 } : Hit)], armed := 1, conds := [{ mask := 8, dead := 1, deadFrom := [100] }] } : Trig), ((searchCond ({ input := 3, stamp := 100, order := 5 } : Hit) (0 : Nat) ({ hits := [({ input := 3, stamp := 100, order := 5 } : Hit)], armed := 1, conds := [{ mask := 8, dead := 1, deadFrom := [100] }] } : Trig)).hits.headD {} : Hit), (by exact ⟨100, by decide +kernel⟩), by decide +kernel⟩⟩

theorem witness_TriggerControl :
    (∃ (n : Nat) (t : Trig),
     (t.outs.getD n { }).at_ = true) ∧
    (∃ (n : Nat) (t : Trig),
     (t.outs.getD n { }).pulses = [] ∧ n < t.outs.length) ∧
    (∃ (n : Nat) (tick : Nat) (t : Trig),
     16 ≤ (t.outs.getD n { }).pulses.length ∧ (∀ (p : Pulse), p ∈ (t.outs.getD n { }).pulses → p.stop < tick + 30) ∧
     (t.outs.getD n { }).at_ = false) ∧
    (∃ (s : State),
     dpRun s = true) ∧
    (∃ (s : State),
     dpRun s = false) ∧
    (∃ (r : Req) (t : Nat) (s : State) (u : State),
     Takes 1540 r t s u ∧ b8 r 24 = 0 ∧ b8 r 25 = 0 ∧ r.arg = [] ∧ b8 r 30 < 4 ∧ 1 ≤ b16 r 26 ∧ b16 r 26 ≤ 10000) ∧
    (∃ (r : Req) (t : Nat) (s : State) (u : State),
     Takes 1541 r t s u) ∧
    (∃ (r : Req) (u : State) (c : Nat),
     c < 8 ∧ u.trig.armed < 256 ∧ b8 r 24 < 256) ∧
    (∃ (r : Req) (t : Nat) (s : State) (u : State) (b : Bundle),
     Takes 1793 r t s u ∧ u.bun.active = some b ∧ captFrozen u = false ∧ b8 r 40 < 2 ∧ b8 r 41 < 2 ∧ b8 r 42 = 1) ∧
    (∃ (r : Req) (t : Nat) (s : State) (u : State) (b : Bundle),
     Takes 1793 r t s u ∧ u.bun.active = some b ∧ captFrozen u = true) ∧
    (∃ (r : Req) (t : Nat) (s : State) (u : State),
     Takes 1794 r t s u ∧ u.trig.capt.state = CaptState.idle) ∧
    (∃ (r : Req) (t : Nat) (s : State) (u : State),
     Takes 1794 r t s u ∧ u.trig.capt.state = CaptState.held ∧ u.trig.capt.firstChunk = 5 ∧ b64 r 24 = 8192 * 5 + 4096) ∧
    (∃ (r : Req) (t : Nat) (s : State) (u : State),
     Takes 1795 r t s u ∧ b8 r 24 < 2 ∧
     (u.trig.capt.state = CaptState.pending ∨ u.trig.capt.state = CaptState.held ∨ u.trig.capt.state = CaptState.done)) ∧
    (∃ (r : Req) (t : Nat) (s : State) (u : State),
     Takes 1795 r t s u ∧ b8 r 24 = 1 ∧ u.trig.capt.state = CaptState.readout) ∧
    (∃ (s : State),
     s.trig.capt.state = CaptState.readout ∧ s.trig.capt.toSend = [] ∧ s.trig.capt.toBuild = [] ∧
     s.trig.capt.discard = false ∧ s.trig.capt.cfg.autoRelease = false) :=
  ⟨⟨(0 : Nat), (((fun s => { s with outs := putAt s.outs ((0 : Nat)) (fun x => { x with at_ := true }) }) ({} : Trig)) : Trig), by decide +kernel⟩,
   ⟨(0 : Nat), ({} : Trig), by decide +kernel⟩,
   ⟨(0 : Nat), (0 : Nat), ({ outs := [{ pulses := List.replicate 16 { stop := 29 } }] } : Trig), by decide +kernel⟩,
   ⟨up, by decide +kernel⟩,
   ⟨({ up with sys.dp := .off } : State), by decide +kernel⟩,
   ⟨(reqOf [(24, leBytes 1 0), (25, leBytes 1 0), (26, leBytes 2 1), (30, leBytes 1 3)] [] : Req), (0 : Nat), up, _, takes_of (by decide +kernel), by decide +kernel⟩,
   ⟨(reqOf [] [] : Req), (0 : Nat), up, _, takes_of (by decide +kernel)⟩,
   ⟨(reqOf [(24, leBytes 1 255)] [] : Req), up, (7 : Nat), by decide +kernel⟩,
   ⟨(reqOf [(40, leBytes 1 1), (41, leBytes 1 1), (42, leBytes 1 1)] [] : Req), (0 : Nat), ({ up with bun.active := some ({} : Bundle) } : State), _, ({} : Bundle), takes_of (by decide +kernel), by decide +kernel⟩,
   ⟨(reqOf [] [] : Req), (0 : Nat), ({ upb with trig.capt.state := .held } : State), _, (({ upb with trig.capt.state := .held } : State).bun.active.getD {} : Bundle), takes_of (by decide +kernel), by decide +kernel⟩,
   ⟨(reqOf [] [] : Req), (0 : Nat), ({ upb with trig.capt.state := CaptState.idle } : State), _, takes_of (by decide +kernel), by decide +kernel⟩,
   ⟨(reqOf [(24, leBytes 8 (8192 * 5 + 4096))] [] : Req), (0 : Nat), ({ upb with trig.capt.state := .held, trig.capt.firstChunk := 5 } : State), _, takes_of (by decide +kernel), by decide +kernel⟩,
   ⟨(reqOf [(24, leBytes 1 1)] [] : Req), (0 : Nat), ({ upb with trig.capt.state := CaptState.pending } : State), _, takes_of (by decide +kernel), by decide +kernel⟩,
   ⟨(reqOf [(24, leBytes 1 1)] [] : Req), (0 : Nat), ({ upb with trig.capt.state := CaptState.readout } : State), _, takes_of (by decide +kernel), by decide +kernel⟩,
   ⟨({ up with trig.capt.state := CaptState.readout, trig.capt.toSend := [], trig.capt.toBuild := [], trig.capt.discard := false, trig.capt.cfg.autoRelease := false } : State), by decide +kernel⟩⟩

theorem witness_TriggerHandling :
    (∃ (s : State) (n : Nat) (held : Nat) (level : Bool),
     dpRun s = true ∧ n < 2 ∧ supplyOn s vioG = true ∧ held ≤ s.trig.filter.getD n 0 ∧ level ≠ s.trig.falling.getD n false) ∧
    (∃ (s : State) (n : Nat) (held : Nat) (level : Bool),
     dpRun s = true ∧ n < 2 ∧ supplyOn s vioG = true ∧ s.trig.filter.getD n 0 < held ∧ level = s.trig.falling.getD n false) ∧
    (∃ (s : State) (n : Nat) (held : Nat) (level : Bool) (b : Bundle),
     dpRun s = true ∧ n < 2 ∧ supplyOn s vioG = true ∧ s.trig.filter.getD n 0 < held ∧ level ≠ s.trig.falling.getD n false ∧
     s.bun.active = some b) ∧
    (∃ (s : State) (n : Nat) (q : TrigReq) (rest : List TrigReq),
     dpRun s = true ∧ n < 4 ∧ (ayrAt s n).requests = q :: rest ∧ s.trig.hits.length < 256 ∧ s.trig.armed = 0) ∧
    (∃ (s : State) (n : Nat) (q : TrigReq) (rest : List TrigReq),
     dpRun s = true ∧ n < 4 ∧ (ayrAt s n).requests = q :: rest ∧ 256 ≤ s.trig.hits.length) ∧
    (∃ (s : State) (cond : Nat) (c : Candidate),
     dpRun s = true ∧ (List.find? (fun (x : Candidate) => x.cond == cond) s.trig.candidates = some c) ∧
     cond < s.trig.conds.length ∧
     ((s.trig.hits.any fun (h : Hit) => bit (s.trig.conds.getD cond { }).vetoMask h.input && decide (stampDist h.stamp c.stamp ≤ (s.trig.conds.getD cond { }).vetoW)) = true)) ∧
    (∃ (s : State) (cond : Nat) (c : Candidate),
     dpRun s = true ∧ (List.find? (fun (x : Candidate) => x.cond == cond) s.trig.candidates = some c) ∧
     cond < s.trig.conds.length ∧
     ((s.trig.hits.any fun (h : Hit) => bit (s.trig.conds.getD cond { }).vetoMask h.input && decide (stampDist h.stamp c.stamp ≤ (s.trig.conds.getD cond { }).vetoW)) = false) ∧
     (s.trig.conds.getD cond { }).counter + 1 < (s.trig.conds.getD cond { }).prescale) ∧
    (∃ (s : State) (cond : Nat) (c : Candidate),
     dpRun s = true ∧ (List.find? (fun (x : Candidate) => x.cond == cond) s.trig.candidates = some c) ∧
     cond < s.trig.conds.length ∧
     ((s.trig.hits.any fun (h : Hit) => bit (s.trig.conds.getD cond { }).vetoMask h.input && decide (stampDist h.stamp c.stamp ≤ (s.trig.conds.getD cond { }).vetoW)) = false) ∧
     (s.trig.conds.getD cond { }).prescale ≤ (s.trig.conds.getD cond { }).counter + 1 ∧
     (s.trig.conds.getD cond { }).outputs = 0 ∧ (s.trig.conds.getD cond { }).freeze = false ∧
     (s.trig.conds.getD cond { }).record = false ∧ c.cond = cond) :=
  ⟨⟨up, (1 : Nat), (0 : Nat), true, by decide +kernel⟩,
   ⟨up, (1 : Nat), (1 : Nat), (up.trig.falling.getD (1 : Nat) false : Bool), by decide +kernel⟩,
   ⟨({ up with bun.active := some ({} : Bundle) } : State), (1 : Nat), (1 : Nat), true, ({} : Bundle), by decide +kernel⟩,
   ⟨({ (modAyr (3 : Nat) (fun x => { x with requests := ({} : TrigReq) :: ([] : List TrigReq) }) (up)) with trig.armed := 0 } : State), (3 : Nat), ({} : TrigReq), ([] : List TrigReq), by decide +kernel⟩,
   ⟨({ (modAyr (3 : Nat) (fun x => { x with requests := ({} : TrigReq) :: ([] : List TrigReq) }) (upb)) with trig.hits := List.replicate 256 default } : State), (3 : Nat), ({} : TrigReq), ([] : List TrigReq), by decide +kernel⟩,
   ⟨({ up with trig.candidates := [({ cond := 7, stamp := 100 } : Candidate)], trig.hits := [{ input := 3, stamp := 110 }], trig.conds := List.replicate 8 { vetoMask := 8, vetoW := 10 } } : State), (7 : Nat), ({ cond := 7, stamp := 100 } : Candidate), by decide +kernel⟩,
   ⟨({ up with trig.candidates := [({ cond := 7, stamp := 100 } : Candidate)], trig.hits := [{ input := 3, stamp := 111 }], trig.conds := List.replicate 8 { vetoMask := 8, vetoW := 10, prescale := 2 } } : State), (7 : Nat), ({ cond := 7, stamp := 100 } : Candidate), by decide +kernel⟩,
   ⟨({ up with trig.candidates := [({ cond := 7, stamp := 100 } : Candidate)], trig.conds := List.replicate 8 { prescale := 2, counter := 1 } } : State), (7 : Nat), ({ cond := 7, stamp := 100 } : Candidate), by decide +kernel⟩⟩

theorem witness_WinderChannel :
    (∃ (s : State),
     s.pwr.ctlSleep = true) ∧
    (∃ (s : State) (c : Nat) (v : Nat),
     s.pwr.ctlSleep = false ∧ c < 16 ∧ s.wnd.chan.length = 16 ∧ bit v 0 = true ∧ bit v 1 = true ∧
     ((wchAt s c).state = WndState.idle ∨ (wchAt s c).state = WndState.done ∨ (wchAt s c).state = WndState.error)) ∧
    (∃ (s : State) (c : Nat) (v : Nat),
     s.pwr.ctlSleep = false ∧ c < 16 ∧ s.wnd.chan.length = 16 ∧ bit v 0 = true ∧ bit v 1 = true ∧
     wndActive (wchAt s c) = true) ∧
    (∃ (s : State) (c : Nat) (v : Nat),
     s.pwr.ctlSleep = false ∧ c < 16 ∧ s.wnd.chan.length = 16 ∧ bit v 0 = false ∧ wndActive (wchAt s c) = true) ∧
    (∃ (s : State) (c : Nat) (v : Nat),
     s.pwr.ctlSleep = false ∧ c < 16 ∧ s.wnd.chan.length = 16 ∧ bit v 0 = false ∧ wndActive (wchAt s c) = false) ∧
    (∃ (s : State) (c : Nat) (i : WndInstr) (x : WndMove),
     AtWord c i s ∧ (instrTouches (wchAt s c) i = false ∨ dpReady s = true) ∧ i = WndInstr.move x) ∧
    (∃ (s : State) (c : Nat) (i : WndInstr) (target : Nat) (count : Nat) (ss : Int) (ds : Int),
     AtWord c i s ∧ (instrTouches (wchAt s c) i = false ∨ dpReady s = true) ∧ i = WndInstr.loop target count ss ds) ∧
    (∃ (s : State) (c : Nat) (i : WndInstr),
     AtWord c i s ∧ (instrTouches (wchAt s c) i = false ∨ dpReady s = true) ∧ isWait i = true) ∧
    (∃ (s : State) (c : Nat) (i : WndInstr) (last : Bool) (irq : Bool) (event : Bool) (target : Nat) (b : Nat) (stamp : Nat),
     AtWord c i s ∧ (instrTouches (wchAt s c) i = false ∨ dpReady s = true) ∧
     i = WndInstr.signal last irq event target b stamp) ∧
    (∃ (s : State) (c : Nat) (e : Instr),
     (e = Instr.move c ∨ e = Instr.winderLoop c ∨ e = Instr.winderWait c ∨ e = Instr.signal c) ∧ AtWord c WndInstr.illegal s) ∧
    (∃ (s : State) (c : Nat) (e : Instr) (i : WndInstr),
     (e = Instr.move c ∨ e = Instr.winderLoop c ∨ e = Instr.winderWait c ∨ e = Instr.signal c) ∧ AtWord c i s ∧
     i ≠ WndInstr.illegal ∧ instrTouches (wchAt s c) i = true ∧ dpReady s = false) ∧
    (∃ (s : State) (c : Nat) (e : Instr),
     (e = Instr.move c ∨ e = Instr.winderLoop c ∨ e = Instr.winderWait c ∨ e = Instr.signal c) ∧ c < 16 ∧
     s.pwr.ctlSleep = false ∧ (wchAt s c).state = WndState.running ∧ (wchAt s c).move = none ∧ wndFetch s (wchAt s c) = none) ∧
    (∃ (s : State) (c : Nat) (e : Instr),
     (e = Instr.move c ∨ e = Instr.winderLoop c ∨ e = Instr.winderWait c ∨ e = Instr.signal c) ∧
     (wchAt s c).state ≠ WndState.running) ∧
    (∃ (s : State) (c : Nat) (m : WndMove),
     moveLegal (wchAt s c) m = false) ∧
    (∃ (s : State) (c : Nat) (m : WndMove),
     moveLegal (wchAt s c) m = true ∧ inSpace m.src (effOffset m.src (wchAt s c).srcAdj) m.srcW = true ∧
     inSpace m.dst (effOffset m.dst (wchAt s c).dstAdj) m.dstW = true) ∧
    (∃ (s : State) (c : Nat) (m : WndMove),
     moveLegal (wchAt s c) m = true ∧ inSpace m.src (effOffset m.src (wchAt s c).srcAdj) m.srcW = false) ∧
    (∃ (m : WndMove),
     wndSpace m.src = 0) ∧
    (∃ (s : State),
     s.pwr.ctlSleep = false ∧ nextChannel s = none) ∧
    (∃ (s : State) (c : Nat) (o : Nat) (mask : Nat) (value : Nat),
     waitOf s c = some (WndInstr.waitPoll o mask value) ∧ o < 67108864 ∧ (dpOffset o = false ∨ dpReady s = true)) ∧
    (∃ (s : State) (c : Nat) (o : Nat) (mask : Nat) (value : Nat),
     waitOf s c = some (WndInstr.waitPoll o mask value) ∧ o < 67108864 ∧ dpOffset o = true ∧ dpReady s = false) ∧
    (∃ (s : State) (c : Nat) (ns : Nat) (d : Nat),
     waitOf s c = some (WndInstr.waitDelay d) ∧ d ≤ ns) ∧
    (∃ (s : State) (c : Nat) (ns : Nat) (d : Nat),
     waitOf s c = some (WndInstr.waitDelay d) ∧ ns < d) ∧
    (∃ (s : State) (c : Nat) (k : Nat),
     waitOf s c = some (WndInstr.waitEvent k) ∧ bit (wchAt s c).event k = true) ∧
    (∃ (s : State) (c : Nat) (k : Nat),
     waitOf s c = some (WndInstr.waitEvent k) ∧ bit (wchAt s c).event k = false) ∧
    (∃ (s : State) (c : Nat) (count : Nat),
     c < 16 ∧ s.wnd.chan.length = 16 ∧ (wchAt s c).loopAt = none ∧ 1 < count) ∧
    (∃ (s : State) (c : Nat),
     c < 16 ∧ s.wnd.chan.length = 16 ∧ (wchAt s c).loopAt = some (wchAt s c).pc ∧ 0 < (wchAt s c).loop) ∧
    (∃ (s : State) (c : Nat) (count : Nat),
     c < 16 ∧ s.wnd.chan.length = 16 ∧
     ((wchAt s c).loopAt = some (wchAt s c).pc ∧ (wchAt s c).loop = 0 ∨ (wchAt s c).loopAt = none ∧ count ≤ 1)) ∧
    (∃ (s : State) (c : Nat),
     c < 16 ∧ s.wnd.chan.length = 16 ∧ (wchAt s c).loopAt ≠ none ∧ (wchAt s c).loopAt ≠ some (wchAt s c).pc) ∧
    (∃ (s : State) (c : Nat) (irq : Bool),
     c < 16 ∧ s.wnd.chan.length = 16 ∧ irq = true) ∧
    (∃ (s : State) (c : Nat) (last : Bool),
     c < 16 ∧ s.wnd.chan.length = 16 ∧ last = true) ∧
    (∃ (s : State) (c : Nat) (last : Bool),
     c < 16 ∧ s.wnd.chan.length = 16 ∧ last = false) ∧
    (∃ (s : State) (c : Nat) (event : Bool) (e : Nat) (b : Nat),
     c < 16 ∧ s.wnd.chan.length = 16 ∧ event = true ∧ e < 16 ∧ b < 16) ∧
    (∃ (s : State) (c : Nat) (event : Bool) (e : Nat) (k : Nat),
     c < 16 ∧ s.wnd.chan.length = 16 ∧ k ≠ c ∧ (event = false ∨ k ≠ e)) :=
  ⟨⟨({ up with pwr.ctlSleep := true } : State), by decide +kernel⟩,
   ⟨((modWch (15 : Nat) (fun x => { x with state := WndState.idle }) (up)) : State), (15 : Nat), (3 : Nat), by decide +kernel⟩,
   ⟨(modWch 2 (fun c => { c with state := .running }) up : State), (2 : Nat), (3 : Nat), by decide +kernel⟩,
   ⟨(modWch 2 (fun c => { c with state := .waiting }) up : State), (2 : Nat), (2 : Nat), by decide +kernel⟩,
   ⟨up, (15 : Nat), (0 : Nat), by decide +kernel⟩,
   ⟨(wndWith .running wordMove : State), (2 : Nat), (.move ({ srcW := 4, dstW := 4, len := 16, src := 2 ^ 40 + 256, dst := 4096 } : WndMove) : WndInstr), ({ srcW := 4, dstW := 4, len := 16, src := 2 ^ 40 + 256, dst := 4096 } : WndMove), by unfold AtWord; decide +kernel, by decide +kernel⟩,
   ⟨(wndWith .running wordLoop : State), (2 : Nat), (.loop (0 : Nat) (8 : Nat) (0 : Int) (0 : Int) : WndInstr), (0 : Nat), (8 : Nat), (0 : Int), (0 : Int), by unfold AtWord; decide +kernel, by decide +kernel⟩,
   ⟨(wndWith .running (wordEvent 3) : State), (2 : Nat), (.waitEvent 3 : WndInstr), by unfold AtWord; decide +kernel, by decide +kernel⟩,
   ⟨(wndWith .running (4 + 2 ^ 8 + 3 * 2 ^ 20) : State), (2 : Nat), (.signal true false false (0 : Nat) (3 : Nat) (0 : Nat) : WndInstr), true, false, false, (0 : Nat), (3 : Nat), (0 : Nat), by unfold AtWord; decide +kernel, by decide +kernel⟩,
   ⟨(wndWith .running 0 : State), (2 : Nat), (.move (2 : Nat) : Instr), (by exact .inl rfl), by unfold AtWord; decide +kernel⟩,
   ⟨({ wndWith .running wordMove with sys.dp := .off } : State), (2 : Nat), (.winderLoop (2 : Nat) : Instr), (.move { srcW := 4, dstW := 4, len := 16, src := 2 ^ 40 + 256, dst := 4096 } : WndInstr), (by exact .inr (.inl rfl)), by unfold AtWord; decide +kernel, by decide +kernel⟩,
   ⟨(modWch 2 (fun c => { c with prog := 0x400000 }) (wndWith .running 0) : State), (2 : Nat), (.signal (2 : Nat) : Instr), (by exact .inr (.inr (.inr rfl))), by decide +kernel⟩,
   ⟨up, (2 : Nat), (.winderWait (2 : Nat) : Instr), (by exact .inr (.inr (.inl rfl))), by decide +kernel⟩,
   ⟨up, (2 : Nat), ({ srcW := 4, len := 3 } : WndMove), by decide +kernel⟩,
   ⟨up, (0 : Nat), ({} : WndMove), by decide +kernel⟩,
   ⟨up, (0 : Nat), ({ src := 4 * 2 ^ 40 } : WndMove), by decide +kernel⟩,
   ⟨({} : WndMove), by decide +kernel⟩,
   ⟨({ up with pwr.ctlSleep := false } : State), by decide +kernel⟩,
   ⟨(wndWith .waiting (wordPoll 0x30000) : State), (2 : Nat), (0x30000 : Nat), (1 : Nat), (1 : Nat), by decide +kernel⟩,
   ⟨({ wndWith .waiting (wordPoll 0x50000) with sys.dp := .off } : State), (2 : Nat), (0x50000 : Nat), (1 : Nat), (1 : Nat), by decide +kernel⟩,
   ⟨(wndWith .waiting (wordDelay 100) : State), (2 : Nat), (100 : Nat), (100 : Nat), by decide +kernel⟩,
   ⟨(wndWith .waiting (wordDelay 100) : State), (2 : Nat), (99 : Nat), (100 : Nat), by decide +kernel⟩,
   ⟨(modWch 2 (fun c => { c with event := 8 }) (wndWith .waiting (wordEvent 3)) : State), (2 : Nat), (3 : Nat), by decide +kernel⟩,
   ⟨(wndWith .waiting (wordEvent 3) : State), (2 : Nat), (3 : Nat), by decide +kernel⟩,
   ⟨((modWch (15 : Nat) (fun x => { x with loopAt := none }) (up)) : State), (15 : Nat), (2 : Nat), by decide +kernel⟩,
   ⟨(modWch 2 (fun c => { c with loopAt := some 0, loop := 1 }) up : State), (2 : Nat), by decide +kernel⟩,
   ⟨up, (2 : Nat), (1 : Nat), by decide +kernel⟩,
   ⟨(modWch 2 (fun c => { c with loopAt := some 3 }) up : State), (2 : Nat), by decide +kernel⟩,
   ⟨up, (15 : Nat), true, by decide +kernel⟩,
   ⟨up, (15 : Nat), true, by decide +kernel⟩,
   ⟨up, (15 : Nat), false, by decide +kernel⟩,
   ⟨up, (15 : Nat), true, (15 : Nat), (15 : Nat), by decide +kernel⟩,
   ⟨up, (15 : Nat), false, (0 : Nat), (0 : Nat), by decide +kernel⟩⟩

end

end Sys2Proof.Tests
end

section
/-! The reset state: what its lists of units, the Bell and its memories show (00 R8, 14 R331). -/

namespace Sys2Proof.Machine

/-- A list of default units shows the default unit at every number, beyond its end too. -/
theorem getD_replicate_self {α : Type} (len n : Nat) (d : α) : (List.replicate len d).getD n d = d := by
  rw [List.getD_eq_getElem?_getD, List.getElem?_getD_replicate_default_eq]

theorem laneAt_reset (n : Nat) : laneAt State.reset n = {} := getD_replicate_self 64 n _

theorem cageAt_reset (n : Nat) : cageAt State.reset n = {} := getD_replicate_self 8 n _

theorem ayrAt_reset (a : Nat) : ayrAt State.reset a = {} := getD_replicate_self 4 a _

theorem wchAt_reset (c : Nat) : wchAt State.reset c = {} := getD_replicate_self 16 c _

/-- Each of the four bytes of a priority word of the reset state is 0x80 (15 Table 15.3). -/
theorem prioOf_reset {n : Nat} (hn : n < 1024) : prioOf State.reset.bell n = 0x80 := by
  have hword : State.reset.bell.prio.getD (n / 4) 0 = 0x80808080 := List.getD_replicate _ (by omega)
  have hbyte : ∀ i, i < 4 → 0x80808080 / 2 ^ (8 * i) % 256 = 0x80 := by decide
  rw [prioOf, hword, hbyte _ (Nat.mod_lt n (by decide))]

theorem thresh_reset {t : Nat} (ht : t < 34) : State.reset.bell.thresh.getD t 0 = 255 := List.getD_replicate _ ht

theorem ayrOk_empty : ayrOk {} := ⟨rfl, rfl⟩

/-- No memory of the reset state lists an address. -/
theorem memOk_reset : MemOk State.reset := by
  refine ⟨⟨rfl, rfl, fun c hc => ?_⟩, fun m hm => ?_⟩
  · rw [List.eq_of_mem_replicate hc]
    exact ayrOk_empty
  · rw [List.eq_of_mem_replicate (n := 2) hm]
    rfl

/-- Settles O58: every list of units is a list of default units, and the other values stand in the reset state itself. -/
theorem resetState : Obligations.ResetState := by
  unfold Obligations.ResetState
  refine ⟨⟨?shift, ?sys, ?lanes, ?cages, ?queues, ?assayers, ⟨rfl, rfl, @prioOf_reset, @thresh_reset⟩, ?channels, ?bundles,
    ?rest⟩, memOk_reset, rfl, rfl⟩
  case shift => exact ⟨rfl, rfl, rfl, rfl, rfl, rfl, rfl⟩
  case sys => exact ⟨rfl, rfl, rfl, rfl, rfl⟩
  case lanes => intro n _; simp [laneAt_reset]
  case cages => intro n _; simp [cageAt_reset]
  case queues => exact ⟨rfl, rfl, rfl, rfl⟩
  case assayers => intro k _; simp [ayrAt_reset]
  case channels => intro c _; simp [wchAt_reset]
  case bundles => exact ⟨rfl, rfl, rfl⟩
  case rest => exact ⟨⟨rfl, rfl⟩, rfl, rfl, rfl⟩

end Sys2Proof.Machine
end

section
/-! Register accesses: which offsets are shared SRAM or wide quantities, what a word over the bus reads and leaves, and
where a Suhel core's own addresses lead (00 R4, R5, R9; 15 R344, R345). -/

namespace Sys2Proof.Machine

/-! Little-endian words in memory. -/

theorem leAt_cons_succ (b : Byte) (l : List Byte) (i n : Nat) : leAt (b :: l) (i + 1) n = leAt l i n := by
  induction n generalizing i with
  | zero => rfl
  | succ n ih => simp [leAt, u8, ih]

theorem leAt_leBytes (n v : Nat) (hv : v < 256 ^ n) : leAt (leBytes n v) 0 n = v := by
  induction n generalizing v with
  | zero => simp at hv; simp [leAt, hv]
  | succ n ih =>
    have hrest : leAt (leBytes n (v / 256)) 0 n = v / 256 := ih _ (by rw [pow_succ] at hv; omega)
    have hlow : u8 (leBytes (n + 1) v) 0 = v % 256 := by simp [u8, leBytes]
    rw [leAt, hlow, leBytes, leAt_cons_succ, hrest]
    omega

theorem length_leBytes (n v : Nat) : (leBytes n v).length = n := by
  induction n generalizing v with
  | zero => rfl
  | succ n ih => simp [leBytes, ih]

/-- The bytes just stored are read back. -/
theorem memRead_memWrite_same (m : List Host.Cell) (a : Nat) (l : List Byte) (w : Memory.wf m = true) :
    memRead (memWrite m a l) a l.length = l := by
  refine List.ext_getElem (by simp [memRead, upTo]) fun i _ hi => ?_
  simp [memRead, upTo, memByte_memWrite_in m a l i w hi, hi]

/-- A word stored in a memory in canonical form is read back. -/
theorem leAt_memRead_memWrite (m : List Host.Cell) (a n v : Nat) (w : Memory.wf m = true) (hv : v < 256 ^ n) :
    leAt (memRead (memWrite m a (leBytes n v)) a n) 0 n = v := by
  have hbytes := memRead_memWrite_same m a (leBytes n v) w
  rw [length_leBytes] at hbytes
  rw [hbytes, leAt_leBytes n v hv]

/-! DEV_ACCESS_ERR (14 R341). -/

theorem accessErr_first {s : State} (kind agent o : Nat) (h : s.shift.accErr = false) :
    accessErr kind agent o s = { s with shift := { s.shift with
      accErr := true, accKind := kind, accAgent := agent, accOff := o % 2 ^ 26, cause := setBits s.shift.cause [5] } } := by
  simp [accessErr, devCause, modShift, h]

/-- A later error leaves what DEV_ACCESS_ERR holds of the first. -/
theorem accessErr_later {s : State} (kind agent o : Nat) (h : s.shift.accErr = true) :
    accessErr kind agent o s = { s with shift := { s.shift with cause := setBits s.shift.cause [5] } } := by
  simp [accessErr, devCause, modShift, h]

/-! The agents of the bus matrix. -/

theorem agentReaches_host (s : State) : agentReaches s 0 = true := rfl

theorem ne_host_of_kept_out {s : State} {agent : Nat} (h : agentReaches s agent = false) : agent ≠ 0 := by
  rintro rfl
  simp [agentReaches_host] at h

theorem busError_of_kept_out {s : State} {agent : Nat} (o : Nat) (h : agentReaches s agent = false) :
    busError s agent o = true := by
  simp [busError, h]

/-- Only a host access wakes CTL. -/
theorem wakeFor_of_ne_host {agent : Nat} (o : Nat) (s : State) (h : agent ≠ 0) : wakeFor agent o s = s :=
  if_neg fun hw => h hw.1

theorem wakeFor_of_awake {s : State} (agent o : Nat) (h : s.pwr.ctlSleep = false) : wakeFor agent o s = s := by
  simp [wakeFor, h]

theorem busWrite_of_kept_out {s : State} {agent : Nat} (o v t : Nat) (h : agentReaches s agent = false) :
    busWrite agent o v t s = s := by
  simp [busWrite, wakeFor_of_ne_host o s (ne_host_of_kept_out h), h]

theorem busRead_of_kept_out {s : State} {agent : Nat} (o : Nat) (h : agentReaches s agent = false) :
    busRead agent o s = (0, s) := by
  simp [busRead, wakeFor_of_ne_host o s (ne_host_of_kept_out h), h]

section
variable {s : State} {agent o : Nat} (hw : wakeFor agent o s = s) (hr : agentReaches s agent = true)
include hw hr

theorem busWrite_unaligned (v t : Nat) (ho : o % 4 ≠ 0) : busWrite agent o v t s = accessErr 2 agent o s := by
  simp [busWrite, hw, hr, ho]

theorem busRead_unaligned (ho : o % 4 ≠ 0) : busRead agent o s = (0, accessErr 2 agent o s) := by
  simp [busRead, hw, hr, ho]

/-- The boot ledger's window takes no write: KIND 3, a forbidden agent. -/
theorem busWrite_ledger (v t : Nat) (ho : o % 4 = 0) (hlo : 0x1000 ≤ o) (hhi : o < 0x5000) :
    busWrite agent o v t s = accessErr 3 agent o s := by
  simp [busWrite, hw, hr, ho, hhi, Nat.not_lt.mpr hlo]

end

/-! Where the wide quantities lie (00 R9). -/

/-- Every wide quantity lies below the shared SRAM, and none among the registers of the Bell or of the monitor, whose reads
may have an effect of their own. -/
theorem wideWords_pos_range {o : Nat} (h : 0 < wideWords o) :
    o < 0x200000 ∧ (o < 0x20000 ∨ 0x30000 ≤ o) ∧ (o < 0x60000 ∨ 0x70000 ≤ o) := by
  revert h
  unfold wideWords
  extract_lets two
  clear_value two
  repeat' refine iteInduction (motive := fun n => 0 < n → _) (fun _ => ?_) (fun _ => ?_)
  all_goals omega

/-- The only quantity of more than two words is TU_TIME. -/
theorem wideWords_le_two {o : Nat} (h : o ≠ 0x40010) : wideWords o ≤ 2 := by
  unfold wideWords
  extract_lets two
  have htwo : ∀ b, two b ≤ 2 := by decide
  clear_value two
  repeat' refine iteInduction (motive := (· ≤ 2)) (fun _ => ?_) (fun _ => ?_)
  all_goals simp [htwo]
  exact h ‹o = 0x40010›

/-! Shared SRAM. -/

theorem dpOffset_sram {o : Nat} (h : 0x1000000 ≤ o) : dpOffset o = false := by
  simp [dpOffset, dpRanges]
  omega

theorem wideHigh_sram {o : Nat} (h : 0x1000000 ≤ o) : wideHigh o = none := by
  have hnone : ∀ k ∈ [1, 2, 3], wideWords (o - 4 * k) = 0 := fun k hk =>
    Nat.eq_zero_of_not_pos fun hpos => by
      have := (wideWords_pos_range hpos).1
      simp at hk
      omega
  simp only [List.forall_mem_cons] at hnone
  simp [wideHigh, hnone]

/-- A word over the bus into the shared SRAM window: the host is kept out of the last 64 KiB. -/
theorem busWrite_sram {s : State} {agent o : Nat} (v t : Nat) (hw : wakeFor agent o s = s)
    (hr : agentReaches s agent = true) (ho : o % 4 = 0) (hlo : 0x1000000 ≤ o) (hhi : o < 0x1400000) :
    busWrite agent o v t s = if agent = 0 ∧ 0x13F0000 ≤ o then discardInput s
      else { s with sys := { s.sys with sram := memWrite s.sys.sram (o - 0x1000000) (leBytes 4 v) } } := by
  simp only [busWrite, hw, hr, ho, dpOffset_sram hlo]
  rw [if_neg (by simp), if_neg (by simp)]
  iterate 10 rw [if_neg (by omega)]
  rw [if_neg (by simp), if_pos ⟨hlo, hhi⟩]

theorem regRead_sram (s : State) {o : Nat} (hlo : 0x1000000 ≤ o) (hhi : o < 0x1400000) :
    regRead s o = leAt (memRead s.sys.sram (o - 0x1000000) 4) 0 4 := by
  simp only [regRead, wideHigh_sram hlo, regNow, dpOffset_sram hlo]
  iterate 10 rw [if_neg (by omega)]
  rw [if_neg (by simp), if_pos ⟨hlo, hhi⟩]

/-- A read has its register's value unless it claims from the Bell or takes from a monitor FIFO. -/
theorem busRead_register {s : State} {agent o : Nat} (hw : wakeFor agent o s = s) (hr : agentReaches s agent = true)
    (ho : o % 4 = 0) (hclaim : o < 0x20000 ∨ 0x30000 ≤ o) (hfifo : o < 0x60000 ∨ 0x70000 ≤ o) :
    busRead agent o s = (regRead s o, latchWide o s) := by
  simp only [busRead, hw, hr, ho]
  rw [if_neg (by simp), if_neg (by simp), if_neg (by omega), if_neg (by omega)]

/-- An agent other than the host reads the word that shared SRAM holds. -/
theorem busRead_sram {s : State} {agent o : Nat} (ha : agent ≠ 0) (hr : agentReaches s agent = true) (ho : o % 4 = 0)
    (hlo : 0x1000000 ≤ o) (hhi : o < 0x1400000) :
    (busRead agent o s).1 = leAt (memRead s.sys.sram (o - 0x1000000) 4) 0 4 := by
  rw [busRead_register (wakeFor_of_ne_host o s ha) hr ho (by omega) (by omega), regRead_sram s hlo hhi]

/-! Quantities wider than 32 bits (00 R9). -/

/-- A higher word belongs to the quantity whose lowest word it follows. -/
theorem wideHigh_add {o k : Nat} (hk : 0 < k) (hlt : k < wideWords o) : wideHigh (o + 4 * k) = some (o, k) := by
  by_cases hone : k = 1
  · subst hone
    simp [wideHigh, hlt]
  · have htime : o = 0x40010 := by
      by_contra hne
      have := wideWords_le_two hne
      omega
    subst htime
    have hfour : wideWords 0x40010 = 4 := by decide
    have hcases : k = 2 ∨ k = 3 := by omega
    rcases hcases with rfl | rfl <;> decide

/-- What a read of the lowest word keeps of the higher ones. -/
def wideSnap (s : State) (o : Nat) : Nat × List Nat :=
  (o, (upTo (wideWords o - 1)).map (fun i => regNow s (o + 4 * (i + 1))))

theorem latchWide_eq {s : State} {o : Nat} (hpos : 0 < wideWords o) (hdp : dpOffset o = false ∨ dpRun s = true) :
    latchWide o s = { s with shift := { s.shift with
      snaps := s.shift.snaps.filter (fun y => decide (y.1 ≠ o)) ++ [wideSnap s o] } } := by
  have hon : ¬ (wideWords o = 0 ∨ (dpOffset o ∧ !dpRun s)) := by
    rcases hdp with h | h <;> simp [h] <;> omega
  rw [latchWide, if_neg hon]
  rfl

theorem find_latched (l : List (Nat × List Nat)) (o : Nat) (x : List Nat) :
    (l.filter (fun y => decide (y.1 ≠ o)) ++ [(o, x)]).find? (fun y => y.1 == o) = some (o, x) := by
  have hnone : (l.filter (fun y => decide (y.1 ≠ o))).find? (fun y => y.1 == o) = none := by simp
  rw [List.find?_append, hnone]
  simp

/-- After the latch a higher word reads as it stood when the lowest was read, whatever has happened since. -/
theorem regRead_latched {s u : State} {o k : Nat} (hdp : dpOffset o = false ∨ dpRun s = true) (hk : 0 < k)
    (hlt : k < wideWords o) (hu : u.shift.snaps = (latchWide o s).shift.snaps) :
    regRead u (o + 4 * k) = regNow s (o + 4 * k) := by
  have hget : (wideSnap s o).2.getD (k - 1) 0 = regNow s (o + 4 * k) := by
    have hlast : k - 1 < wideWords o - 1 := by omega
    simp [wideSnap, upTo, hlast, Nat.sub_add_cancel hk]
  have hfind : u.shift.snaps.find? (fun y => y.1 == o) = some (wideSnap s o) := by
    rw [hu, latchWide_eq (by omega) hdp]
    exact find_latched ..
  simp only [regRead, wideHigh_add hk hlt, hfind, hget]

theorem busRead_wide {s : State} {agent o : Nat} (hw : wakeFor agent o s = s) (hr : agentReaches s agent = true)
    (ho : o % 4 = 0) (hpos : 0 < wideWords o) : busRead agent o s = (regRead s o, latchWide o s) :=
  have ⟨_, hclaim, hfifo⟩ := wideWords_pos_range hpos
  busRead_register hw hr ho hclaim hfifo

/-! The Suhel address space (15 Table 15.1). -/

theorem suhelAt_coreLocal (s : State) (core : Nat) {x : Nat} (h : x < 0x20000) :
    suhelAt s core (0x200000 + x) = .coreLocal x := by
  unfold suhelAt
  rw [if_neg (by omega), if_neg (by omega), if_pos (by omega), Nat.add_sub_cancel_left]

theorem suhelAt_sram (s : State) (core : Nat) {x : Nat} (h : x < 0x400000) :
    suhelAt s core (0x10000000 + x) = .sram x := by
  unfold suhelAt
  iterate 5 rw [if_neg (by omega)]
  rw [if_pos (by omega), Nat.add_sub_cancel_left]

theorem suhelAt_window (s : State) (core : Nat) {x : Nat} (h : x < 0x4000000) :
    suhelAt s core (0x40000000 + x) = .window x := by
  unfold suhelAt
  iterate 6 rw [if_neg (by omega)]
  rw [if_pos (by omega), Nat.add_sub_cancel_left]

theorem suhelAt_pit (s : State) (core : Nat) {x : Nat} (h : x < 0x40000000) :
    suhelAt s core (0x80000000 + x) = .pit (2 ^ 30 * s.pwr.aperture.getD core 0 + x) := by
  unfold suhelAt
  iterate 7 rw [if_neg (by omega)]
  rw [if_pos (by omega), Nat.add_sub_cancel_left]

/-- A core is agent 1 or 2. -/
theorem regWrite_suhel (s : State) {core : Nat} (x v t : Nat) (hc : core < 2) :
    regWrite (core + 1) (.suhel x) v t s = suhelWrite (core + 1) x (v % 2 ^ 32) t s :=
  if_pos (by omega)

theorem regWrite_suhel_other {agent : Nat} (s : State) (x v t : Nat) (ha : agent = 0 ∨ 3 ≤ agent) :
    regWrite agent (.suhel x) v t s = s :=
  if_neg (by omega)

section
variable {s : State} {core : Nat} (v t : Nat) (hc : core < 2)
include hc

theorem regWrite_coreLocal {x : Nat} (hx : x < 0x20000)
    (hon : agentReaches s (core + 1) = true ∨ coreAt s core = .repair) :
    regWrite (core + 1) (.suhel (0x200000 + x)) v t s = answerBus (core + 1) 0 false { s with shift := { s.shift with
      coreMem := upd s.shift.coreMem core (fun m => memWrite m x (leBytes 4 (v % 2 ^ 32))) } } := by
  have hreach : (agentReaches s (core + 1) || decide (coreAt s core = .repair)) = true := by simpa using hon
  simp [regWrite_suhel s _ v t hc, suhelWrite, suhelAt_coreLocal s core hx, hreach, modShift]

theorem regWrite_window {x : Nat} (hx : x < 0x4000000) :
    regWrite (core + 1) (.suhel (0x40000000 + x)) v t s = regWrite (core + 1) (.bar0 x) v t s := by
  have hmod : x % 2 ^ 26 = x := Nat.mod_eq_of_lt hx
  rw [regWrite_suhel s _ v t hc]
  simp only [suhelWrite, Nat.add_sub_cancel, suhelAt_window s core hx, regWrite, hmod]

theorem regWrite_sram_kept_out {x : Nat} (hx : x < 0x400000) (hout : agentReaches s (core + 1) = false) :
    regWrite (core + 1) (.suhel (0x10000000 + x)) v t s = answerBus (core + 1) 0 true s := by
  simp [regWrite_suhel s _ v t hc, suhelWrite, suhelAt_sram s core hx, hout]

variable (hr : agentReaches s (core + 1) = true)
include hr

theorem regWrite_aperture : regWrite (core + 1) (.suhel 0x300004) v t s = answerBus (core + 1) 0 false { s with
    pwr := { s.pwr with aperture := upd s.pwr.aperture core (fun _ => v % 2 ^ 32 % 64) } } := by
  simp [regWrite_suhel s _ v t hc, suhelWrite, suhelAt, hr, modPwr]

theorem regWrite_remap : regWrite (core + 1) (.suhel 0x300000) v t s = answerBus (core + 1) 0 false { s with
    pwr := { s.pwr with remap := upd s.pwr.remap core (fun _ => bit (v % 2 ^ 32) 0) } } := by
  simp [regWrite_suhel s _ v t hc, suhelWrite, suhelAt, hr, remapWrite, modPwr]

theorem regWrite_sram {x : Nat} (hx : x < 0x400000) :
    regWrite (core + 1) (.suhel (0x10000000 + x)) v t s = answerBus (core + 1) 0 false { s with
      sys := { s.sys with sram := memWrite s.sys.sram x (leBytes 4 (v % 2 ^ 32)) } } := by
  simp [regWrite_suhel s _ v t hc, suhelWrite, suhelAt_sram s core hx, hr]

theorem regWrite_pit {x : Nat} (hx : x < 0x40000000) : regWrite (core + 1) (.suhel (0x80000000 + x)) v t s =
    suhelPit (core + 1) (2 ^ 30 * s.pwr.aperture.getD core 0 + x) (v % 2 ^ 32) s := by
  simp [regWrite_suhel s _ v t hc, suhelWrite, suhelAt_pit s core hx, hr]

end

/-! The register commands of the block. -/

theorem exec_registerWrite (agent : Nat) (a : RegAddr) (v t : Nat) (s : State) : exec (.registerWrite agent a v t) s =
    .next (if released s then withBell (regWrite agent a v t) s else s) := rfl

theorem exec_illegalRegisterAccess (agent o kind : Nat) (s : State) : exec (.illegalRegisterAccess agent o kind) s =
    .next (if released s ∧ kind < 3 ∧ o < 0x1000000 then
        if agentReaches s agent then answerBus agent 0 false (withBell (accessErr kind agent o) s)
        else answerBus agent 0 true s
      else s) := rfl

theorem exec_wideQuantityLowRead (agent o : Nat) (s : State) : exec (.wideQuantityLowRead agent o) s =
    .next (if released s ∧ o % 4 = 0 ∧ 0 < wideWords o then
        answerBus agent (busRead agent o s).1 (busError s agent o) (busRead agent o s).2
      else s) := rfl

theorem exec_wideQuantityHighWrite (agent o v t : Nat) (s : State) : exec (.wideQuantityHighWrite agent o v t) s =
    .next (if released s ∧ wideHighRw o then withBell (busAccess agent o (v % 2 ^ 32) t) s else s) := rfl

theorem exec_illegalRegisterAccess_ignored {s : State} {o kind : Nat} (agent : Nat)
    (h : released s = false ∨ 3 ≤ kind ∨ 0x1000000 ≤ o) : exec (.illegalRegisterAccess agent o kind) s = .next s := by
  rw [exec_illegalRegisterAccess, if_neg (by grind)]

theorem exec_wideQuantityLowRead_ignored {s : State} {o : Nat} (agent : Nat)
    (h : released s = false ∨ o % 4 ≠ 0 ∨ wideWords o = 0) : exec (.wideQuantityLowRead agent o) s = .next s := by
  rw [exec_wideQuantityLowRead, if_neg (by grind)]

theorem exec_wideQuantityHighWrite_ignored {s : State} {o : Nat} (agent v t : Nat)
    (h : released s = false ∨ wideHighRw o = false) : exec (.wideQuantityHighWrite agent o v t) s = .next s := by
  rw [exec_wideQuantityHighWrite, if_neg (by grind)]

/-- An agent other than the host stores a word in shared SRAM and reads it back. -/
theorem busWrite_sram_reads_back {s : State} {agent o v : Nat} (t : Nat) (ha : agent ≠ 0)
    (hr : agentReaches s agent = true) (ho : o % 4 = 0) (hlo : 0x1000000 ≤ o) (hhi : o < 0x1400000) (hv : v < 2 ^ 32)
    (hm : Memory.wf s.sys.sram = true) :
    busWrite agent o v t s = { s with
      sys := { s.sys with sram := memWrite s.sys.sram (o - 0x1000000) (leBytes 4 v) } } ∧
    (busRead agent o (busWrite agent o v t s)).1 = v := by
  have hwrite := busWrite_sram v t (wakeFor_of_ne_host o s ha) hr ho hlo hhi
  rw [if_neg fun h => ha h.1] at hwrite
  refine ⟨hwrite, ?_⟩
  rw [hwrite, busRead_sram ha (by exact hr) ho hlo hhi]
  exact leAt_memRead_memWrite s.sys.sram (o - 0x1000000) 4 v hm hv

/-- A word through the pit aperture passes port P5 while DP runs. -/
theorem suhelPit_running {s : State} (agent v : Nat) {a : Nat} (hdp : dpRun s = true) (ha : addressOk a 4 = true) :
    suhelPit agent a v s = answerBus agent 0 false (servePort 5 4 (pitWrite a (leBytes 4 v) s)) := by
  simp [suhelPit, hdp, ha]

theorem suhelPit_stopped {s : State} (agent a v : Nat) (hdp : dpRun s = false) :
    suhelPit agent a v s = answerBus agent 0 true s := by
  simp [suhelPit, hdp]

/-- Settles O49, clause by clause from the lemmas on the bus matrix, shared SRAM, the Suhel space and wide quantities. -/
theorem registerAccess : Obligations.RegisterAccess := by
  unfold Obligations.RegisterAccess
  intro s agent o kind v t core x a
  refine ⟨?written, ?writeHeld, rfl, regWrite_suhel_other s x v t, ?suhel,
    fun hc hx hon => regWrite_coreLocal v t hc hx hon, ?keptOut, ?hostSram,
    fun h => ⟨busWrite_of_kept_out o v t h, busRead_of_kept_out o h⟩, ?unaligned, ?ledger, busWrite_sram_reads_back t,
    ?illegal, ?illegalKeptOut, exec_illegalRegisterAccess_ignored agent, accessErr_first kind agent o,
    accessErr_later kind agent o, ?lowRead, ?lowReadKeptOut, exec_wideQuantityLowRead_ignored agent, ?latch, ?highWrite,
    exec_wideQuantityHighWrite_ignored agent v t⟩
  case written => intro h; rw [exec_registerWrite, if_pos h]
  case writeHeld => intro h; rw [exec_registerWrite, if_neg (by simp [h])]
  case suhel =>
    intro hc hr
    refine ⟨regWrite_aperture v t hc hr, regWrite_remap v t hc hr, regWrite_window v t hc, regWrite_sram v t hc hr, ?_, ?_⟩
    · intro hx hdp ha
      rw [regWrite_pit v t hc hr hx, suhelPit_running _ _ hdp ha]
    · intro hx hdp
      rw [regWrite_pit v t hc hr hx, suhelPit_stopped _ _ _ hdp]
  case keptOut =>
    intro hc hout hx
    exact ⟨regWrite_sram_kept_out v t hc hx hout, busError_of_kept_out x hout⟩
  case hostSram =>
    intro hawake hlo hhi ho
    rw [busWrite_sram v t (wakeFor_of_awake 0 o hawake) (agentReaches_host s) ho (by omega) hhi, if_pos ⟨rfl, hlo⟩]
    rfl
  case unaligned =>
    intro ha hr ho
    have hw := wakeFor_of_ne_host o s ha
    exact ⟨busWrite_unaligned hw hr v t ho, busRead_unaligned hw hr ho⟩
  case ledger =>
    intro ha hr ho hlo hhi
    exact busWrite_ledger (wakeFor_of_ne_host o s ha) hr v t ho hlo hhi
  case illegal =>
    intro hs hk ho hr
    rw [exec_illegalRegisterAccess, if_pos ⟨hs, hk, ho⟩, if_pos hr]
  case illegalKeptOut =>
    intro hs hk ho hout
    rw [exec_illegalRegisterAccess, if_pos ⟨hs, hk, ho⟩, if_neg (by simp [hout])]
  case lowRead =>
    intro hs ho hpos hr hwake
    have hw : wakeFor agent o s = s := hwake.elim (wakeFor_of_ne_host o s) (wakeFor_of_awake agent o)
    rw [exec_wideQuantityLowRead, if_pos ⟨hs, ho, hpos⟩, busRead_wide hw hr ho hpos]
  case lowReadKeptOut =>
    intro hs ho hpos hout
    rw [exec_wideQuantityLowRead, if_pos ⟨hs, ho, hpos⟩, busRead_of_kept_out o hout, busError_of_kept_out o hout]
  case latch =>
    intro hpos hdp
    refine ⟨?_, fun k u hk hlt hu => regRead_latched hdp hk hlt hu⟩
    rw [latchWide_eq hpos hdp]
  case highWrite =>
    intro hs hrw
    rw [exec_wideQuantityHighWrite, if_pos ⟨hs, hrw⟩]
    rfl

end Sys2Proof.Machine
end

section
/-! Lane ports: what each lane event and lane command does (02). -/

namespace Sys2Proof.Machine

/-! Most lane events are, by definition, `.next (if guard then whenRun s t else s)`. The next lemmas say what such an event
does, and apply to `exec` of the event itself. -/

theorem whenRun_running {s : State} (t : State) (h : dpRun s = true) : whenRun s t = t := if_pos h

theorem whenRun_stopped {s : State} (t : State) (h : dpRun s = false) : whenRun s t = s := if_neg (by simp [h])

section
variable {s t : State} {c : Prop} {_ : Decidable c} {n : Nat} {f g : Lane → Lane}

theorem event_acts (hrun : dpRun s = true) (hc : c) :
    (.next (if c then whenRun s t else s) : Host.Outcome State Fault Refusal) = .next t := by
  rw [if_pos hc, whenRun_running t hrun]

/-- The change of a lane may be stated as it stands on the lane at hand. -/
theorem event_acts_on_lane (hrun : dpRun s = true) (hc : c) (h : f (laneAt s n) = g (laneAt s n)) :
    (.next (if c then whenRun s (modLane n f s) else s) : Host.Outcome State Fault Refusal) = .next (modLane n g s) := by
  rw [event_acts hrun hc, modLane_congr n f g s h]

theorem event_ignored (hc : ¬ c) :
    (.next (if c then whenRun s t else s) : Host.Outcome State Fault Refusal) = .next s := by
  rw [if_neg hc]

theorem event_stopped (h : dpRun s = false) :
    (.next (if c then whenRun s t else s) : Host.Outcome State Fault Refusal) = .next s := by
  rw [whenRun_stopped t h, ite_self]

end

/-! Detectors and packets cut short (R35, R36, R39). -/

theorem cutIf_eq (inPkt : Bool) (l : Lane) : cutIf inPkt l =
    if inPkt = false then l
    else if l.pktErr = true then { l with pktErr := false, crcErr := sat32 (l.crcErr + 1), cause := setBits l.cause [6] }
    else { l with abortCnt := sat32 (l.abortCnt + 1), cause := setBits l.cause [7] } := by
  cases inPkt <;> rfl

/-- A packet cut short changes its error mark, one of two counters and the cause bits of its lane. -/
theorem cutIf_frame (inPkt : Bool) (l : Lane) :
    ∃ e c a k, cutIf inPkt l = { l with pktErr := e, crcErr := c, abortCnt := a, cause := k } := by
  rw [cutIf_eq]
  split
  · exact ⟨_, _, _, _, rfl⟩
  · split <;> exact ⟨_, _, _, _, rfl⟩

@[simp] theorem cutIf_los (inPkt : Bool) (l : Lane) : (cutIf inPkt l).los = l.los := by
  obtain ⟨e, c, a, k, h⟩ := cutIf_frame inPkt l
  rw [h]

@[simp] theorem cutIf_lol (inPkt : Bool) (l : Lane) : (cutIf inPkt l).lol = l.lol := by
  obtain ⟨e, c, a, k, h⟩ := cutIf_frame inPkt l
  rw [h]

theorem assertLol_of_locked {l : Lane} (h : l.lol = false) : assertLol l = { l with
    lol := true, lolCnt := sat32 (l.lolCnt + 1), aligned := false, errWords := []
    rxState := if l.rxState = .up then .relock else l.rxState, cause := setBits l.cause [1] } := by
  simp [assertLol, h, laneCause]

theorem assertLol_of_unlocked {l : Lane} (h : l.lol = true) : assertLol l = l := if_pos h

/-- Loss of signal is a loss of lock too, unless lock is lost already. -/
theorem assertLos_of_signal {l : Lane} (h : l.los = false) :
    assertLos l = assertLol { l with los := true, losCnt := sat32 (l.losCnt + 1), cause := setBits l.cause [0] } := by
  simp [assertLos, h, laneCause]

/-! Word alignment (R28). -/

theorem alignsWord_iff (w : List RxChar) : alignsWord w = true ↔
    w.length = 4 ∧ isCtl 0xBC (w.getD 0 {}) = true ∧
      ((∀ c ∈ w.drop 1, isData 0xB5 c = true) ∨ (∀ c ∈ w.drop 1, isCtl 0x1C c = true) ∨
       (isData 0x4A (w.getD 1 {}) = true ∧ ∀ c ∈ w.drop 2, c.valid = true ∧ c.ctl = false)) := by
  simp only [alignsWord, Bool.and_eq_true, Bool.or_eq_true, List.all_eq_true, beq_iff_eq, Bool.not_eq_true', and_assoc,
    or_assoc]

/-- The eight words received last are IDLE, SKIP or TRAIN. -/
theorem eightAlign_iff (words : List (List RxChar)) :
    (decide (8 ≤ words.length) && (words.drop (words.length - 8)).all alignsWord) = true ↔
      8 ≤ words.length ∧ ∀ w ∈ words.drop (words.length - 8), alignsWord w = true := by
  simp only [Bool.and_eq_true, decide_eq_true_eq, List.all_eq_true]

/-- With the datapath down no lane event does anything. -/
theorem laneEvents_stopped {s : State} (h : dpRun s = false) (n : Nat) (inPkt ok : Bool) (a b : Nat)
    (ws : List (List RxChar)) (bs crc : List Byte) (how : RxEnd) :
    ∀ e ∈ [Instr.rxTrain n a b, .rxSkip n a, .elasticEvent n inPkt, .wordAlignment n ws, .laneCounterClear n, .losAssert n inPkt,
        .losDeassert n, .lolAssert n inPkt, .lolDeassert n, .relockAttempt n ok, .rxPacket n how bs crc a, .rateTrialSuccess n,
        .rateTrialFail n, .savedRateAttemptEnd n, .txTrainDone n, .txSkipSend n a, .txTrainSend n a, .txTrainReport n a,
        .txFault n, .txSerialiserRelock n], exec e s = .next s := by
  have ungated (t : State) : (.next (whenRun s t) : Host.Outcome State Fault Refusal) = .next s := by
    rw [whenRun_stopped t h]
  simp only [List.forall_mem_cons]
  exact ⟨event_stopped h, event_stopped h, event_stopped h, event_stopped h, ungated _, event_stopped h, event_stopped h,
    event_stopped h, event_stopped h, event_stopped h, event_stopped h, event_stopped h, event_stopped h, event_stopped h,
    event_stopped h, ungated _, ungated _, ungated _, event_stopped h, event_stopped h, by simp⟩

/-- Settles O1, event by event: each guard is met, and the lane changes as its rule says. -/
theorem laneReception : Obligations.LaneReception := by
  unfold Obligations.LaneReception
  intro s n cut hcut
  obtain rfl : cut = cutIf := hcut.trans (funext₂ fun b l => (cutIf_eq b l).symm)
  refine ⟨fun hrun => ⟨?train, ?report, ?skip, ?elastic, ?aligned, ?unaligned, ?clear, ?los, ?losUnlocked, ?losEnd, ?lol,
    ?lolEnd, ?lolHeld, ?relock, ?relockFails⟩, fun h => laneEvents_stopped h n, alignsWord_iff⟩
  case train => exact fun info lane hrx hrep => event_acts hrun (by simp [hrx, hrep])
  case report => exact fun info lane hrep => event_ignored (by simp [hrep])
  case skip => exact fun fill hrx => event_acts hrun hrx
  case elastic => exact fun inPkt hrx => event_acts hrun hrx
  case aligned =>
    intro words hrx hlos hlen hall
    refine event_acts hrun ?_
    rw [Bool.and_assoc, Bool.and_eq_true, eightAlign_iff]
    exact ⟨by simp [hrx, hlos], hlen, hall⟩
  case unaligned =>
    intro words hbad
    refine event_ignored ?_
    rw [Bool.and_assoc, Bool.and_eq_true, eightAlign_iff]
    rintro ⟨-, hlen, hall⟩
    rcases hbad with hshort | ⟨w, hw, hnot⟩
    · omega
    · simp [hall w hw] at hnot
  case clear => exact congrArg _ (whenRun_running _ hrun)
  case los =>
    intro inPkt hrx hlos hlol
    refine event_acts_on_lane hrun (by simp [hrx, hlos]) ?_
    rw [assertLos_of_signal (by simpa using hlos), assertLol_of_locked (by simpa using hlol)]
  case losUnlocked =>
    intro inPkt hrx hlos hlol
    refine event_acts_on_lane hrun (by simp [hrx, hlos]) ?_
    rw [assertLos_of_signal (by simpa using hlos), assertLol_of_unlocked (by simpa using hlol)]
  case losEnd => exact fun hlos hon => event_acts hrun (by simp [hlos, hon])
  case lol =>
    intro inPkt hrx hlol
    refine event_acts_on_lane hrun (by simp [hrx, hlol]) ?_
    rw [assertLol_of_locked (by simpa using hlol)]
  case lolEnd => exact fun hlol hal hlos => event_acts hrun (by simp [hlol, hal, hlos])
  case lolHeld => exact fun hlos => event_ignored (by simp [hlos])
  case relock => exact fun hst hlos => event_acts hrun (by simp [hst, hlos])
  case relockFails => exact event_ignored (by simp)

/-! One lane of the 64. -/

/-- An enabled lane is one of those that the state lists: any other reads as the default one. -/
theorem lane_listed_of_enabled {s : State} {n : Nat} (h : (laneAt s n).rxEnabled = true) : n < s.lanes.lane.length :=
  lt_length_of_getD _ n {} (fun l => l.rxEnabled = true) h (by decide)

theorem laneAt_modLane_self {s : State} {n : Nat} (f : Lane → Lane) (hn : n < s.lanes.lane.length) :
    laneAt (modLane n f s) n = f (laneAt s n) := by
  rw [laneAt_modLane, if_pos ⟨rfl, hn⟩]

theorem laneAt_modLane_ne {n k : Nat} (f : Lane → Lane) (s : State) (hk : k ≠ n) :
    laneAt (modLane n f s) k = laneAt s k := by
  rw [laneAt_modLane, if_neg fun h => hk h.1]

/-! Character errors (R28, R35, R36). -/

theorem codeFault_iff (word : List RxChar) (pos : Nat) : codeFault word pos = true ↔
    (word.getD pos {}).valid = false ∨ ((word.getD pos {}).ctl = true ∧
      ((word.getD pos {}).byte ∉ [0xBC, 0x1C, 0xFB, 0xFD, 0xFE] ∨
       (pos ≠ 0 ∧ ¬(isCtl 0x1C (word.getD pos {}) = true ∧ isCtl 0xBC (word.getD 0 {}) = true)))) := by
  simp only [codeFault, Bool.or_eq_true, Bool.and_eq_true, Bool.not_eq_true', decide_eq_true_eq, List.contains_eq_mem,
    Bool.eq_false_iff, ne_eq]

/-- The recent code errors of a lane that lie within 16 words of word `w`. -/
def recentErrors (w : Nat) (l : Lane) : List Nat := l.errWords.filter (fun x => decide (w < x + 16))

/-- What a code error counts, and a disparity error with it. -/
def countCodeError (disp inPkt : Bool) (l : Lane) : Lane := { l with
  codeErr := sat32 (l.codeErr + 1), dispErr := if disp then sat32 (l.dispErr + 1) else l.dispErr
  pktErr := l.pktErr || inPkt
  cause := if disp then setBits (setBits l.cause [4]) [5] else setBits l.cause [4] }

theorem charError_of_few {w : Nat} (disp inPkt : Bool) {l : Lane} (h : (recentErrors w l).length < 3) :
    charError w true disp inPkt l = { countCodeError disp inPkt l with errWords := recentErrors w l ++ [w] } := by
  have hwin : ¬ 4 ≤ (recentErrors w l ++ [w]).length := by simp; omega
  cases disp <;> exact if_neg hwin

/-- The fourth code error within 16 words loses word alignment, and the packet that was arriving. -/
theorem charError_of_fourth {w : Nat} (disp inPkt : Bool) {l : Lane} (h : 3 ≤ (recentErrors w l).length) :
    charError w true disp inPkt l =
      assertLol (cutIf inPkt { countCodeError disp inPkt l with aligned := false, errWords := [] }) := by
  have hwin : 4 ≤ (recentErrors w l ++ [w]).length := by simp; omega
  cases disp <;> exact if_pos hwin

/-- A packet cut short counts in CRC_ERR where it held a character error. -/
theorem cutIf_crcErr {inPkt : Bool} {l : Lane} (h : inPkt = true → l.pktErr = true) :
    (cutIf inPkt l).crcErr = if inPkt then sat32 (l.crcErr + 1) else l.crcErr := by
  cases inPkt with
  | false => rfl
  | true => simp [cutIf_eq, h rfl]

/-- What a lane shows after it has lost lock, and with it a packet that was arriving. -/
theorem assertLol_cutIf {inPkt : Bool} {l : Lane} (h : l.lol = false) :
    (assertLol (cutIf inPkt l)).aligned = false ∧ (assertLol (cutIf inPkt l)).lol = true ∧
    (assertLol (cutIf inPkt l)).errWords = [] ∧ (assertLol (cutIf inPkt l)).codeErr = l.codeErr ∧
    (assertLol (cutIf inPkt l)).lolCnt = sat32 (l.lolCnt + 1) ∧
    (assertLol (cutIf inPkt l)).rxState = (if l.rxState = .up then .relock else l.rxState) ∧
    (assertLol (cutIf inPkt l)).crcErr = (cutIf inPkt l).crcErr := by
  rw [assertLol_of_locked (by simpa using h)]
  obtain ⟨e, c, a, k, hcut⟩ := cutIf_frame inPkt l
  rw [hcut]
  exact ⟨rfl, rfl, rfl, rfl, rfl, rfl, rfl⟩

/-! The end of a packet (R36, R47, Table 2.5), and the order of those delivered (R72). -/

/-- No packet of the list comes after `p`: a higher-numbered lane of the same instant. -/
theorem none_after_of_lane_le {p : RxPkt} {l : List RxPkt} (h : ∀ q ∈ l, q.time = p.time → q.lane ≤ p.lane) :
    ∀ q ∈ l, (!(q.time == p.time && decide (p.lane < q.lane))) = true := by
  intro q hq
  simpa [← imp_iff_not_or] using h q hq

theorem joinDelivered_last {p : RxPkt} {l : List RxPkt} (h : ∀ q ∈ l, q.time = p.time → q.lane ≤ p.lane) :
    joinDelivered p l = l ++ [p] := by
  rw [joinDelivered, List.takeWhile_eq_self_iff.mpr (none_after_of_lane_le h), List.dropWhile_eq_nil_iff.mpr (none_after_of_lane_le h),
    List.append_nil]

theorem joinDelivered_before {p q : RxPkt} {l : List RxPkt} (r : List RxPkt)
    (h : ∀ x ∈ l, x.time = p.time → x.lane ≤ p.lane) (htime : q.time = p.time) (hlane : p.lane < q.lane) :
    joinDelivered p (l ++ q :: r) = l ++ p :: q :: r := by
  rw [joinDelivered, List.takeWhile_append_of_pos (none_after_of_lane_le h), List.dropWhile_append_of_pos (none_after_of_lane_le h)]
  simp [htime, hlane]

theorem packetGood_iff (how : RxEnd) (bytes crc : List Byte) (l : Lane) : packetGood how bytes crc l = true ↔
    how = .eop ∧ l.pktErr = false ∧ bytes.length + 4 ≤ 8228 ∧ leAt crc 0 4 = crc32 bytes := by
  simp only [packetGood, Bool.and_eq_true, decide_eq_true_eq, Bool.not_eq_true', and_assoc]
  exact Iff.rfl

theorem packetCrc_iff (how : RxEnd) (bytes : List Byte) (l : Lane) : packetCrc how bytes l = true ↔
    l.pktErr = true ∨ (how = .eop ∧ bytes.length + 4 ≤ 8228) := by
  simp only [packetCrc, Bool.or_eq_true, Bool.and_eq_true, decide_eq_true_eq]
  exact Iff.rfl

theorem deliver_wellFormed {n t : Nat} {bytes : List Byte} (s : State) (h : malformed bytes = false) :
    deliver n t bytes s = { s with lanes := { s.lanes with
      lane := upd s.lanes.lane n (fun l => { l with rxPkt := sat64 (l.rxPkt + 1) })
      delivered := joinDelivered { lane := n, time := t, bytes := bytes } s.lanes.delivered } } :=
  if_neg (by simp [h])

theorem deliver_malformed {n t : Nat} {bytes : List Byte} (s : State) (h : malformed bytes = true) :
    deliver n t bytes s = { s with
      lanes := { s.lanes with lane := upd s.lanes.lane n (fun l => { l with rxPkt := sat64 (l.rxPkt + 1) }) }
      hop := { s.hop with malformed := sat32 (s.hop.malformed + 1), cause := setBits s.hop.cause [3] } } :=
  if_pos h

section
variable {s : State} {n : Nat} (hrun : dpRun s = true) (hrx : (laneAt s n).rxEnabled = true)
include hrun hrx

theorem exec_rxPacket_good {how : RxEnd} {bytes crc : List Byte} (t : Nat)
    (h : packetGood how bytes crc (laneAt s n) = true) : exec (.rxPacket n how bytes crc t) s =
      .next (if (laneAt s n).rxState = .up then deliver n t bytes s else s) :=
  (event_acts hrun hrx).trans (congrArg _ (if_pos h))

theorem exec_rxPacket_bad {how : RxEnd} {bytes crc : List Byte} (t : Nat)
    (h : ¬ packetGood how bytes crc (laneAt s n) = true) : exec (.rxPacket n how bytes crc t) s =
      .next (modLane n (countBad how bytes) s) :=
  (event_acts hrun hrx).trans (congrArg _ (if_neg h))

end

/-- Settles O2: each character error and each end of a packet is one of the cases of the lemmas above. -/
theorem lanePacketOutcomes : Obligations.LanePacketOutcomes := by
  unfold Obligations.LanePacketOutcomes
  refine ⟨codeFault_iff, fun p l => ⟨joinDelivered_last, fun q r => joinDelivered_before r⟩, ?_⟩
  intro s n hrun hrx
  have hn := lane_listed_of_enabled hrx
  refine ⟨?few, ?fourth, ?noFault, ?good, ?crc, ?abort⟩
  case few =>
    intro w pos word disp inPkt hfault hfew
    refine event_acts_on_lane hrun (by simp [hrx, hfault]) ?_
    rw [hfault, charError_of_few disp inPkt hfew]
    rfl
  case fourth =>
    intro w pos word disp inPkt hfault hlol hfour
    have hlane := laneAt_modLane_self (charError w (codeFault word pos) disp inPkt) hn
    rw [hfault, charError_of_fourth disp inPkt hfour] at hlane
    obtain ⟨hal, hlol', herr, hcode, hcnt, hst, hcrc⟩ := assertLol_cutIf (inPkt := inPkt)
      (l := { countCodeError disp inPkt (laneAt s n) with aligned := false, errWords := [] }) hlol
    refine ⟨_, event_acts hrun (by simp [hrx, hfault]), ?_⟩
    rw [hfault, hlane]
    exact ⟨hal, hlol', herr, hcode, hcnt, hst, hcrc.trans (cutIf_crcErr (by simp +contextual [countCodeError])),
      fun k hk => laneAt_modLane_ne _ s hk, rfl⟩
  case noFault =>
    intro w pos word inPkt hok
    refine ⟨event_acts_on_lane hrun (by simp [hrx]) ?_, event_ignored (by simp [hok])⟩
    rw [hok]
    rfl
  case good =>
    intro bytes crc t herr hlen hsum
    have hgood := exec_rxPacket_good hrun hrx t ((packetGood_iff .eop ..).mpr ⟨rfl, herr, hlen, hsum⟩)
    refine ⟨fun hup hwell => ?_, fun hup hbad => ?_, fun hup => ?_⟩
    · rw [hgood, if_pos hup, deliver_wellFormed s hwell]
    · rw [hgood, if_pos hup, deliver_malformed s hbad]
    · rw [hgood, if_neg hup]
  case crc =>
    intro how bytes crc t hbad
    have hcrc : packetCrc how bytes (laneAt s n) = true := by rw [packetCrc_iff]; tauto
    rw [exec_rxPacket_bad hrun hrx t (by rw [packetGood_iff]; grind)]
    exact congrArg _ (modLane_congr n _ _ s (if_pos hcrc))
  case abort =>
    intro how bytes crc t herr hbad
    have hcrc : ¬ packetCrc how bytes (laneAt s n) = true := by rw [packetCrc_iff]; grind
    rw [exec_rxPacket_bad hrun hrx t (by rw [packetGood_iff]; grind)]
    exact congrArg _ (modLane_congr n _ _ s (if_neg hcrc))

end Sys2Proof.Machine
end

section
/-! Bring-up of a receive lane: the rate ladder, ADAPT, and the end of LANE_BRINGUP (02 Table 2.7). -/

namespace Sys2Proof.Machine

theorem modLane_modLane (n : Nat) (f g : Lane → Lane) (s : State) :
    modLane n g (modLane n f s) = modLane n (g ∘ f) s := by
  simp only [modLane, upd, List.modify_modify_eq]

/-- A lane in another state than OFF is one of those that the state lists. -/
theorem lane_listed_of_state {s : State} {n : Nat} {st : RxState} (h : (laneAt s n).rxState = st) (hst : st ≠ .off) :
    n < s.lanes.lane.length :=
  lt_length_of_getD _ n {} (fun l => l.rxState = st) h fun h => hst h.symm

/-! The rungs of the ladder. -/

/-- The PEER fields are cleared only on entry to SEARCH from another state (R32). -/
theorem goOnSearching_of_search {l : Lane} (h : l.rxState = .search) : goOnSearching l = l := if_pos h

theorem goOnSearching_of_adapt {l : Lane} (h : l.rxState = .adapt) : goOnSearching l = enterSearch l :=
  if_neg (by simp [h])

theorem goOnSearching_rxState (l : Lane) : (goOnSearching l).rxState = .search := by
  unfold goOnSearching
  split
  · assumption
  · rfl

theorem nextRung_of_pos {l : Lane} (h : 0 < l.rxRate) :
    nextRung l = { goOnSearching l with bringup := .ladder, rxRate := l.rxRate - 1 } :=
  if_neg h.ne'

theorem nextRung_of_lowest {l : Lane} (h : l.rxRate = 0) :
    nextRung l = { l with rxState := .failed, bringup := .none, cause := setBits l.cause [3] } :=
  if_pos h

section
variable {s : State} {n : Nat} (hn : n < s.lanes.lane.length)
include hn

theorem laneAt_nextRung : laneAt (modLane n nextRung s) n = nextRung (laneAt s n) := laneAt_modLane_self _ hn

/-- A lane that goes on searching keeps its record. -/
theorem failRecord_nextRung_of_pos (h : 0 < (laneAt s n).rxRate) :
    failRecord n (modLane n nextRung s) = modLane n nextRung s := by
  refine if_neg ?_
  rw [laneAt_nextRung hn, nextRung_of_pos h]
  simp [goOnSearching_rxState]

/-- After the lowest rung the lane is FAILED and its record no longer valid. -/
theorem failRecord_nextRung_of_lowest (h : (laneAt s n).rxRate = 0) : failRecord n (modLane n nextRung s) =
    setLaneRec n (fun r => { r with valid := false })
      (modLane n (fun l => { l with rxState := .failed, bringup := .none, cause := setBits l.cause [3] }) s) := by
  have hfailed : (laneAt (modLane n nextRung s) n).rxState = .failed := by
    rw [laneAt_nextRung hn, nextRung_of_lowest h]
  exact (if_pos hfailed).trans (congrArg _ (modLane_congr n _ _ s (nextRung_of_lowest h)))

end

/-! LANE_BRINGUP ends (16 Table 16.10). -/

theorem laneSettled_iff (l : Lane) : laneSettled l = true ↔ l.rxState ≠ .search ∧ l.rxState ≠ .adapt := by
  simp only [laneSettled, Bool.and_eq_true, decide_eq_true_eq]

/-- The command is a LANE_BRINGUP whose lanes have settled. -/
def bringupOver (s : State) (o : OpenCmd) : Bool :=
  isOp 0x0301 o && (bitsSet 64 o.key).all (fun n => laneSettled (laneAt s n))

theorem bringupOver_iff (s : State) (o : OpenCmd) : bringupOver s o = true ↔
    o.req.opcode = 0x0301 ∧ ∀ k ∈ bitsSet 64 o.key, (laneAt s k).rxState ≠ .search ∧ (laneAt s k).rxState ≠ .adapt := by
  simp only [bringupOver, isOp, Bool.and_eq_true, beq_iff_eq, List.all_eq_true, laneSettled_iff]

theorem finishBringups_none {s : State} (h : ∀ o ∈ s.cages.openCmds, bringupOver s o = false) : finishBringups s = s :=
  finishOpen_none _ _ _ s h

/-- The only open command, committed already, ends. -/
theorem finishOpen_single {p : OpenCmd → Bool} {s : State} {o : OpenCmd} (mk : OpenCmd → Reply) (t : Nat)
    (hopen : s.cages.openCmds = [o]) (hp : p o = true) (hph : o.phase = .committed) :
    finishOpen p mk t s = conclude o.req o.order o.commitTime (mk o) { s with cages := { s.cages with openCmds := [] } } := by
  simp [finishOpen, hopen, hp, hph, modCages]

/-! ADAPT. -/

theorem enterUp_setEq (ctle : Nat) (taps : List Int) : enterUp ∘ setEq ctle taps = fun l => { setEq ctle taps l with
    rxState := .up, bringup := .none, frozen := l.freezeReq, cause := setBits l.cause [2] } := rfl

/-- The lane goes back to SEARCH, to the next lower rung. -/
theorem nextRung_setEq {l : Lane} (ctle : Nat) (taps : List Int) (hst : l.rxState = .adapt) (h : 0 < l.rxRate) :
    nextRung (setEq ctle taps l) = { setEq ctle taps l with
      rxState := .search, peerValid := false, peerLane := 0, peerMax := 0, peerInfo := 0, frozen := false
      bringup := .ladder, rxRate := l.rxRate - 1 } := by
  rw [nextRung_of_pos (l := setEq ctle taps l) h, goOnSearching_of_adapt (l := setEq ctle taps l) hst]
  rfl

theorem startLadder_setEq {l : Lane} (ctle : Nat) (taps : List Int) (hst : l.rxState = .adapt) :
    startLadder (setEq ctle taps l) = { setEq ctle taps l with
      rxState := .search, peerValid := false, peerLane := 0, peerMax := 0, peerInfo := 0, frozen := false
      bringup := .ladder, rxRate := 3 } := by
  rw [startLadder, goOnSearching_of_adapt (l := setEq ctle taps l) hst]
  rfl

section
variable {s : State} {n : Nat} (hrun : dpRun s = true) (hst : (laneAt s n).rxState = .adapt) (ctle : Nat) (taps : List Int)
include hrun hst

/-- The record holds the adapted values and the rate of the lane. -/
theorem exec_adaptEnd_clean : exec (.adaptEnd n true ctle taps) s =
    .next (finishBringups (setLaneRec n (fun _ => { valid := true, tap1 := clampI (-128) 127 (taps.getD 0 0)
                                                    ctle := min ctle 15, rate := (laneAt s n).rxRate })
      (modLane n (enterUp ∘ setEq ctle taps) s))) := by
  refine (event_acts hrun hst).trans ?_
  dsimp only
  rw [laneAt_modLane_self _ (lane_listed_of_state hst (by decide)), ← modLane_modLane]
  rfl

theorem exec_adaptEnd_saved (h : (laneAt s n).bringup = .saved) : exec (.adaptEnd n false ctle taps) s =
    .next (modLane n (startLadder ∘ setEq ctle taps) s) := by
  refine (event_acts hrun hst).trans ?_
  dsimp only
  rw [laneAt_modLane_self _ (lane_listed_of_state hst (by decide)), ← modLane_modLane]
  exact congrArg _ (if_pos h)

theorem exec_adaptEnd_ladder (h : (laneAt s n).bringup ≠ .saved) : exec (.adaptEnd n false ctle taps) s =
    .next (finishBringups (failRecord n (modLane n nextRung (modLane n (setEq ctle taps) s)))) := by
  refine (event_acts hrun hst).trans ?_
  dsimp only
  rw [laneAt_modLane_self _ (lane_listed_of_state hst (by decide))]
  exact congrArg _ (if_neg h)

end

/-- Settles O3: each event of a bring-up takes the lane to the rung, state or record that the lemmas above name. -/
theorem laneBringupLadder : Obligations.LaneBringupLadder := by
  unfold Obligations.LaneBringupLadder
  intro s n hrun
  refine ⟨?success, ?lower, ?lowest, ?saved, ?clean, ?adaptSaved, ?adaptLower, ?adapts, ?frozen, ?values, ?waits, ?ends⟩
  case success => exact fun hst hlos => event_acts hrun (by simp [hst, hlos])
  case lower =>
    intro hst hbr hrate
    refine (event_acts hrun ⟨hst, hbr⟩).trans ?_
    rw [failRecord_nextRung_of_pos (lane_listed_of_state hst (by decide)) hrate]
    refine congrArg _ (congrArg finishBringups (modLane_congr n _ _ s ?_))
    rw [nextRung_of_pos hrate, goOnSearching_of_search hst]
  case lowest =>
    intro hst hbr hrate
    have hn := lane_listed_of_state hst (by decide)
    exact (event_acts hrun ⟨hst, hbr⟩).trans
      (congrArg _ (congrArg finishBringups (failRecord_nextRung_of_lowest hn hrate)))
  case saved =>
    intro hst hbr
    refine ⟨event_ignored (by simp [hbr]), event_acts_on_lane hrun ⟨hst, hbr⟩ ?_⟩
    rw [startLadder, goOnSearching_of_search hst]
  case clean =>
    intro ctle taps hst
    rw [exec_adaptEnd_clean hrun hst, enterUp_setEq]
  case adaptSaved =>
    intro ctle taps hst hbr
    rw [exec_adaptEnd_saved hrun hst ctle taps hbr]
    exact congrArg _ (modLane_congr n _ _ s (startLadder_setEq ctle taps hst))
  case adaptLower =>
    intro ctle taps hst hbr hrate
    have hn := lane_listed_of_state hst (by decide)
    rw [exec_adaptEnd_ladder hrun hst ctle taps hbr,
      failRecord_nextRung_of_pos (by simpa using hn) (by rw [laneAt_modLane_self _ hn]; exact hrate), modLane_modLane]
    exact congrArg _ (congrArg finishBringups (modLane_congr n _ _ s (nextRung_setEq ctle taps hst hrate)))
  case adapts => exact fun ctle taps hst hfr hup hdown => event_acts hrun ⟨hst, by simp [hfr], hup, hdown⟩
  case frozen => exact fun ctle taps hfr => event_ignored (by simp [hfr])
  case values => exact fun ctle taps l => ⟨rfl, rfl, rfl, rfl, rfl, rfl, rfl, rfl⟩
  case waits =>
    intro hopen
    refine finishBringups_none fun o ho => Bool.eq_false_iff.mpr fun hover => ?_
    obtain ⟨hop, hsettled⟩ := (bringupOver_iff s o).mp hover
    obtain ⟨k, hk, hbusy⟩ := hopen o ho hop
    obtain ⟨hsearch, hadapt⟩ := hsettled k hk
    exact hbusy.elim hsearch hadapt
  case ends =>
    intro o hopen hph hop hsettled
    exact finishOpen_single _ _ hopen ((bringupOver_iff s o).mpr ⟨hop, hsettled⟩) hph

end Sys2Proof.Machine
end

section
/-! Transmit lanes, and the lane commands (02 R24 to R40; 16 Table 16.10). -/

namespace Sys2Proof.Machine

/-! Ordered sets sent (R29, R30). -/

/-- An event without a guard of its own, its change stated as it stands on the lane at hand. -/
theorem whenRun_on_lane {s : State} {n : Nat} {f g : Lane → Lane} (hrun : dpRun s = true)
    (h : f (laneAt s n) = g (laneAt s n)) :
    (.next (whenRun s (modLane n f s)) : Host.Outcome State Fault Refusal) = .next (modLane n g s) := by
  rw [whenRun_running _ hrun, modLane_congr n f g s h]

/-- The words sent do not move a lane off a boundary or onto one. -/
theorem txBoundary_txWords_iff (w : Nat) (l : Lane) :
    txBoundary (txWords w l) = true ↔ l.txUp = true ∧ l.txCur = none := by
  rw [← Option.isNone_iff_eq_none, ← Bool.and_eq_true]
  exact Iff.rfl

/-- After `w` more words a RETURN lane's report is due. -/
theorem reportDue_iff (w : Nat) (l : Lane) :
    (txBoundary (txWords w l) && decide ((txWords w l).txRole = 3) && decide (256 ≤ (txWords w l).sinceTrain)) = true ↔
      (l.txUp = true ∧ l.txCur = none) ∧ l.txRole = 3 ∧ 256 ≤ l.sinceTrain + w := by
  simp only [Bool.and_eq_true, txBoundary_txWords_iff, decide_eq_true_eq, and_assoc]
  exact Iff.rfl

theorem trainInfo_fields {rate : Nat} (report ready : Bool) (h : rate < 4) :
    bits (trainInfo rate report ready) 6 2 = rate ∧ bits (trainInfo rate report ready) 4 2 = 3 ∧
      bit (trainInfo rate report ready) 3 = report ∧ bit (trainInfo rate report ready) 2 = ready ∧
      bits (trainInfo rate report ready) 0 2 = 0 := by
  have hall : ∀ rate < 4, ∀ report ready : Bool,
      bits (trainInfo rate report ready) 6 2 = rate ∧ bits (trainInfo rate report ready) 4 2 = 3 ∧
        bit (trainInfo rate report ready) 3 = report ∧ bit (trainInfo rate report ready) 2 = ready ∧
        bits (trainInfo rate report ready) 0 2 = 0 := by decide
  exact hall rate h report ready

/-! The receive lane that a RETURN lane reports next (R29). -/

theorem find_upTo_some {n k : Nat} {p : Nat → Bool} :
    (upTo n).find? p = some k ↔ k < n ∧ p k = true ∧ ∀ j, j < k → p j = false := by
  simp only [upTo, List.find?_range_eq_some, List.mem_range, Bool.not_eq_true']
  tauto

theorem nextReport_none (s : State) : nextReport s none = (upTo 64).find? (fun n => (laneAt s n).rxEnabled) :=
  List.head?_filter

theorem nextReport_some (s : State) (l : Nat) : nextReport s (some l) =
    ((upTo 64).find? (fun n => (laneAt s n).rxEnabled && decide (l < n))).or
      ((upTo 64).find? (fun n => (laneAt s n).rxEnabled)) := by
  simp [nextReport, List.head?_filter, List.find?_filter]

/-- The next enabled lane above the last one, or the lowest one when there is none above. -/
theorem nextReport_after {s : State} {l k : Nat} (h : nextReport s (some l) = some k) :
    k < 64 ∧ (laneAt s k).rxEnabled = true ∧
      ((l < k ∧ ∀ j, l < j → j < k → (laneAt s j).rxEnabled = false) ∨
        (k ≤ l ∧ ∀ j, j < 64 → (l < j ∨ j < k) → (laneAt s j).rxEnabled = false)) := by
  rw [nextReport_some, Option.or_eq_some_iff] at h
  rcases h with habove | ⟨hnone, hfirst⟩
  · obtain ⟨hk, hen, hbelow⟩ := find_upTo_some.mp habove
    obtain ⟨hen, hlk⟩ : (laneAt s k).rxEnabled = true ∧ l < k := by simpa using hen
    refine ⟨hk, hen, .inl ⟨hlk, fun j hlj hjk => ?_⟩⟩
    simpa [hlj] using hbelow j hjk
  · obtain ⟨hk, hen, hbelow⟩ := find_upTo_some.mp hfirst
    have habove : ∀ j, j < 64 → l < j → (laneAt s j).rxEnabled = false := by
      intro j hj hlj
      simpa [hlj] using List.find?_range_eq_none.mp hnone j hj
    have hkl : k ≤ l := by
      by_contra hlt
      simp [habove k hk (by omega)] at hen
    exact ⟨hk, hen, .inr ⟨hkl, fun j hj hout => hout.elim (habove j hj) (hbelow j)⟩⟩

theorem nextReport_enabled {s : State} {last : Option Nat} {k : Nat} (h : nextReport s last = some k) :
    k < 64 ∧ (laneAt s k).rxEnabled = true := by
  cases last with
  | none =>
    obtain ⟨hk, hen, -⟩ := find_upTo_some.mp ((nextReport_none s).symm.trans h)
    exact ⟨hk, hen⟩
  | some l =>
    obtain ⟨hk, hen, -⟩ := nextReport_after h
    exact ⟨hk, hen⟩

theorem exec_txLaneTurnOff_ignored {s : State} {n : Nat}
    (h : (laneAt s n).txNext = none ∨ (laneAt s n).txCur ≠ none) :
    exec (.txLaneTurnOff n) s = .next s := by
  show execTxLaneTurnOff n s = _
  rcases h with h | h
  · simp only [execTxLaneTurnOff, h]
  · have hsome : ¬ (laneAt s n).txCur.isNone = true := by simpa using h
    simp only [execTxLaneTurnOff, if_neg hsome]
    split <;> rfl

section
variable {s : State} {n : Nat} (hrun : dpRun s = true)
include hrun

theorem exec_txTrainReport_sent {w k : Nat} (hup : (laneAt s n).txUp = true) (hcur : (laneAt s n).txCur = none)
    (hrole : (laneAt s n).txRole = 3) (hw : 256 ≤ (laneAt s n).sinceTrain + w)
    (hk : nextReport s (laneAt s n).lastReport = some k) :
    exec (.txTrainReport n w) s = .next (modLane n (fun l => { txWords w l with
      sinceTrain := 0, lastReport := some k
      lastTrain := some (trainInfo l.txRate true (decide ((laneAt s k).rxState = .up)), k) }) s) := by
  refine whenRun_on_lane hrun ?_
  have hk' : nextReport s (txWords w (laneAt s n)).lastReport = some k := hk
  have hdue := (reportDue_iff w (laneAt s n)).mpr ⟨⟨hup, hcur⟩, hrole, hw⟩
  simp only [hk', if_pos hdue]
  rfl

theorem exec_txTrainReport_notSent {w : Nat}
    (h : (laneAt s n).txUp = false ∨ (laneAt s n).txCur ≠ none ∨ (laneAt s n).sinceTrain + w < 256) :
    exec (.txTrainReport n w) s = .next (modLane n (txWords w) s) := by
  refine whenRun_on_lane hrun ?_
  have hnotDue := mt (reportDue_iff w (laneAt s n)).mp (by grind)
  dsimp only
  split
  · rw [if_neg hnotDue]
  · rfl

/-! A lane leaves its role, comes into service, or loses its serialiser (R27, R37, R40). -/

theorem exec_txLaneTurnOff_free {role rate : Nat} (hnext : (laneAt s n).txNext = some (role, rate))
    (hcur : (laneAt s n).txCur = none) :
    exec (.txLaneTurnOff n) s = .next (afterTxChange s (modLane n (takeRole role rate) s)) := by
  show execTxLaneTurnOff n s = _
  simp only [execTxLaneTurnOff, hnext, hcur, Option.isNone_none, if_pos, whenRun_running _ hrun]

theorem exec_txTrainDone_trained (htr : (laneAt s n).txTraining = true) (hf : (laneAt s n).txFault = false) :
    exec (.txTrainDone n) s = .next (afterTxChange s (freeLane n (modLane n (endTraining n) s))) :=
  event_acts hrun (by simp [htr, hf])

/-- The lane without its serialiser. -/
def faulted (l : Lane) : Lane :=
  { l with txFault := true, txUp := false, txTraining := false, txCur := none, cause := setBits l.cause [9] }

section
variable (hrole : (laneAt s n).txRole ≠ 0) (hf : (laneAt s n).txFault = false)
include hrole hf

theorem exec_txFault_idle (hcur : (laneAt s n).txCur = none) :
    exec (.txFault n) s = .next (afterTxChange s (modLane n faulted s)) := by
  refine (event_acts hrun ⟨hrole, by simp [hf]⟩).trans ?_
  rw [hcur]
  rfl

/-- A packet of a RETURN lane goes back to the front of the lane's own queue. -/
theorem exec_txFault_return {p : TxPkt} (hret : (laneAt s n).txRole = 3) (hcur : (laneAt s n).txCur = some p) :
    exec (.txFault n) s =
      .next (afterTxChange s (modLane n faulted (modLane n (fun l => { l with txCtl := p.bytes :: l.txCtl }) s))) := by
  refine (event_acts hrun ⟨hrole, by simp [hf]⟩).trans ?_
  rw [hcur]
  exact congrArg (fun u => Host.Outcome.next (afterTxChange s (modLane n faulted u))) (if_pos hret)

/-- A packet of a path goes back to the Hoist. -/
theorem exec_txFault_path {p : TxPkt} (hret : (laneAt s n).txRole ≠ 3) (hcur : (laneAt s n).txCur = some p) :
    exec (.txFault n) s = .next (afterTxChange s (modLane n faulted (requeue (laneAt s n).txRole p s))) := by
  refine (event_acts hrun ⟨hrole, by simp [hf]⟩).trans ?_
  rw [hcur]
  exact congrArg (fun u => Host.Outcome.next (afterTxChange s (modLane n faulted u))) (if_neg hret)

end

end

/-! One entry of LANE_ASSIGN (R26, R27): its receive half, then its transmit half. -/

/-- What RX_EN does to a lane. -/
def assignRx (rec : LaneRec) (rx : Bool) (l : Lane) : Lane :=
  if rx && !l.rxEnabled then startBringup false false rec { l with rxEnabled := true }
  else if !rx && l.rxEnabled then { cutIf l.pktErr l with rxEnabled := false, rxState := .off, bringup := .none }
  else l

/-- What TX_ROLE and TX_RATE do to a lane. -/
def assignTx (role rate : Nat) (l : Lane) : Lane :=
  if (role = l.txRole ∧ rate = l.txRate ∨ role = 0 ∧ l.txRole = 0) then { l with txNext := none, txRate := rate }
  else if l.txCur.isSome then { l with txNext := some (role, rate) }
  else takeRole role rate l

theorem assignLane_eq (rec : LaneRec) (e : Nat) (l : Lane) :
    assignLane rec e l = assignTx (bits e 8 2) (bits e 12 2) (assignRx rec (bit e 0) l) := rfl

theorem startBringup_saved {rec : LaneRec} (freeze : Bool) (l : Lane) (h : rec.valid = true) :
    startBringup false freeze rec l = { enterSearch { l with freezeReq := freeze } with
      bringup := .saved, rxRate := rec.rate, ctle := rec.ctle, tap1 := rec.tap1 } :=
  if_pos (by simp [h])

theorem startBringup_ladder {rec : LaneRec} (freeze : Bool) (l : Lane) (h : rec.valid = false) :
    startBringup false freeze rec l = startLadder (enterSearch { l with freezeReq := freeze }) :=
  if_neg (by simp [h])

theorem assignRx_enables (rec : LaneRec) {l : Lane} (h : l.rxEnabled = false) :
    assignRx rec true l = startBringup false false rec { l with rxEnabled := true } :=
  if_pos (by simp [h])

theorem assignRx_keeps_enabled (rec : LaneRec) {l : Lane} (h : l.rxEnabled = true) : assignRx rec true l = l := by
  simp [assignRx, h]

theorem assignRx_disables (rec : LaneRec) {l : Lane} (h : l.rxEnabled = true) : assignRx rec false l =
    { cutIf l.pktErr l with rxEnabled := false, rxState := .off, bringup := .none } := by
  simp [assignRx, h]

theorem assignRx_keeps_disabled (rec : LaneRec) {l : Lane} (h : l.rxEnabled = false) : assignRx rec false l = l := by
  simp [assignRx, h]

/-- The receive half leaves the transmit lane as it was. -/
theorem assignRx_tx (rec : LaneRec) (rx : Bool) (l : Lane) :
    (assignRx rec rx l).txRole = l.txRole ∧ (assignRx rec rx l).txRate = l.txRate ∧
    (assignRx rec rx l).txUp = l.txUp ∧ (assignRx rec rx l).txCur = l.txCur ∧
    (assignRx rec rx l).txFault = l.txFault := by
  cases rx <;> cases hen : l.rxEnabled
  · simp [assignRx_keeps_disabled rec hen]
  · obtain ⟨e, c, a, k, hcut⟩ := cutIf_frame l.pktErr l
    simp [assignRx_disables rec hen, hcut]
  · rw [assignRx_enables rec hen]
    cases hv : rec.valid
    · rw [startBringup_ladder _ _ hv]
      exact ⟨rfl, rfl, rfl, rfl, rfl⟩
    · rw [startBringup_saved _ _ hv]
      exact ⟨rfl, rfl, rfl, rfl, rfl⟩
  · simp [assignRx_keeps_enabled rec hen]

/-- The transmit half leaves the receive lane as it was. -/
theorem assignTx_frame (role rate : Nat) (l : Lane) : ∃ ro ra up tr nx ct a b c, assignTx role rate l = { l with
    txRole := ro, txRate := ra, txUp := up, txTraining := tr, txNext := nx, txCtl := ct, sinceSkip := a, sinceTrain0 := b
    sinceTrain := c } := by
  unfold assignTx takeRole
  split
  · exact ⟨_, _, _, _, _, _, _, _, _, rfl⟩
  · split <;> exact ⟨_, _, _, _, _, _, _, _, _, rfl⟩

theorem assignTx_same {role rate : Nat} {l : Lane} (hrole : role = l.txRole) (hrate : rate = l.txRate) :
    assignTx role rate l = { l with txNext := none, txRate := rate } :=
  if_pos (.inl ⟨hrole, hrate⟩)

section
variable {role rate : Nat} {l : Lane} (h : role ≠ l.txRole ∨ (rate ≠ l.txRate ∧ l.txRole ≠ 0))
include h

/-- A lane that is sending finishes its packet first. -/
theorem assignTx_sending (hcur : l.txCur ≠ none) : assignTx role rate l = { l with txNext := some (role, rate) } :=
  (if_neg (by omega)).trans (if_pos (Option.isSome_iff_ne_none.mpr hcur))

theorem assignTx_free (hcur : l.txCur = none) : assignTx role rate l = takeRole role rate l :=
  (if_neg (by omega)).trans (if_neg (by simp [hcur]))

end

section
variable (rec : LaneRec) (e : Nat) (l : Lane)

/-- The receive lane after an entry is what the receive half makes of it. -/
theorem assignLane_rx : (assignLane rec e l).rxEnabled = (assignRx rec (bit e 0) l).rxEnabled ∧
    (assignLane rec e l).rxState = (assignRx rec (bit e 0) l).rxState ∧
    (assignLane rec e l).bringup = (assignRx rec (bit e 0) l).bringup ∧
    (assignLane rec e l).rxRate = (assignRx rec (bit e 0) l).rxRate ∧
    (assignLane rec e l).peerValid = (assignRx rec (bit e 0) l).peerValid ∧
    (assignLane rec e l).ctle = (assignRx rec (bit e 0) l).ctle ∧
    (assignLane rec e l).tap1 = (assignRx rec (bit e 0) l).tap1 := by
  rw [assignLane_eq]
  obtain ⟨ro, ra, up, tr, nx, ct, a, b, c, htx⟩ :=
    assignTx_frame (bits e 8 2) (bits e 12 2) (assignRx rec (bit e 0) l)
  rw [htx]
  exact ⟨rfl, rfl, rfl, rfl, rfl, rfl, rfl⟩

/-- RX_EN on a lane that was off: bring-up starts, from the record where it is valid. -/
theorem assignLane_enables (hrx : bit e 0 = true) (hoff : l.rxEnabled = false) :
    (assignLane rec e l).rxEnabled = true ∧ (assignLane rec e l).rxState = .search ∧
    (assignLane rec e l).peerValid = false ∧ (rec.valid = true → (assignLane rec e l).bringup = .saved ∧
      (assignLane rec e l).rxRate = rec.rate ∧ (assignLane rec e l).ctle = rec.ctle ∧
      (assignLane rec e l).tap1 = rec.tap1) ∧
    (rec.valid = false → (assignLane rec e l).bringup = .ladder ∧ (assignLane rec e l).rxRate = 3) := by
  obtain ⟨hen, hst, hbr, hrate, hpeer, hctle, htap⟩ := assignLane_rx rec e l
  rw [hen, hst, hbr, hrate, hpeer, hctle, htap, hrx, assignRx_enables rec hoff]
  cases hv : rec.valid
  · rw [startBringup_ladder _ _ hv]
    exact ⟨rfl, rfl, rfl, nofun, fun _ => ⟨rfl, rfl⟩⟩
  · rw [startBringup_saved _ _ hv]
    exact ⟨rfl, rfl, rfl, fun _ => ⟨rfl, rfl, rfl, rfl⟩, nofun⟩

/-- An enabled lane that stays enabled stays as it is, FAILED included (log 112). -/
theorem assignLane_stays_enabled (hrx : bit e 0 = true) (hon : l.rxEnabled = true) :
    (assignLane rec e l).rxEnabled = true ∧ (assignLane rec e l).rxState = l.rxState ∧
    (assignLane rec e l).bringup = l.bringup ∧ (assignLane rec e l).rxRate = l.rxRate := by
  obtain ⟨hen, hst, hbr, hrate, -⟩ := assignLane_rx rec e l
  rw [hen, hst, hbr, hrate, hrx, assignRx_keeps_enabled rec hon]
  exact ⟨hon, rfl, rfl, rfl⟩

theorem assignLane_disables (hrx : bit e 0 = false) :
    (assignLane rec e l).rxEnabled = false ∧ (l.rxEnabled = true → (assignLane rec e l).rxState = .off) := by
  obtain ⟨hen, hst, -⟩ := assignLane_rx rec e l
  rw [hen, hst, hrx]
  cases hon : l.rxEnabled
  · rw [assignRx_keeps_disabled rec hon]
    exact ⟨hon, nofun⟩
  · rw [assignRx_disables rec hon]
    exact ⟨rfl, fun _ => rfl⟩

theorem assignLane_same_role (hrole : bits e 8 2 = l.txRole) (hrate : bits e 12 2 = l.txRate) :
    (assignLane rec e l).txRole = l.txRole ∧ (assignLane rec e l).txUp = l.txUp ∧
    (assignLane rec e l).txNext = none := by
  obtain ⟨hrole', hrate', hup', -⟩ := assignRx_tx rec (bit e 0) l
  rw [assignLane_eq, assignTx_same (hrole.trans hrole'.symm) (hrate.trans hrate'.symm)]
  exact ⟨hrole', hup', rfl⟩

/-- A lane that changes its role does so at once, or after the packet it is sending. -/
theorem assignLane_new_role (h : bits e 8 2 ≠ l.txRole ∨ (bits e 12 2 ≠ l.txRate ∧ l.txRole ≠ 0)) :
    (l.txCur ≠ none → (assignLane rec e l).txNext = some (bits e 8 2, bits e 12 2) ∧
      (assignLane rec e l).txRole = l.txRole ∧ (assignLane rec e l).txUp = l.txUp) ∧
    (l.txCur = none → (assignLane rec e l).txRole = bits e 8 2 ∧ (assignLane rec e l).txRate = bits e 12 2 ∧
      (assignLane rec e l).txUp = false ∧
      (assignLane rec e l).txTraining = (decide (bits e 8 2 ≠ 0) && !l.txFault)) := by
  obtain ⟨hrole, hrate, hup, hcur, hf⟩ := assignRx_tx rec (bit e 0) l
  rw [← hrole, ← hrate] at h
  rw [assignLane_eq, ← hcur]
  refine ⟨fun hsend => ?_, fun hfree => ?_⟩
  · rw [assignTx_sending h hsend]
    exact ⟨rfl, hrole, hup⟩
  · rw [assignTx_free h hfree, ← hf]
    exact ⟨rfl, rfl, rfl, rfl⟩

end

/-! The meanings of the lane commands, for a request whose reserved bits are clear. -/

section
variable {r : Req} (t : Nat) (s : State)

/-- The lanes as the argument of LANE_ASSIGN assigns them. -/
def assigned (r : Req) (s : State) : State := { s with
  lanes := { s.lanes with lane := s.lanes.lane.zipIdx.map (fun p => assignLane (laneRecAt s p.2) (assignEntry r.arg p.2) p.1) }
  hst := { s.hst with dual := bit (b8 r 24) 0 } }

section
variable (hz : ∀ n, n < 64 → assignEntry r.arg n &&& 0xFFFFCCFE = 0) (hb : b8 r 24 < 2)
include hz hb

theorem assign_reservedClear :
    ¬ ((upTo 64).any (fun n => decide (assignEntry r.arg n &&& 0xFFFFCCFE ≠ 0)) || decide (b8 r 24 / 2 ≠ 0)) = true := by
  have hlanes : (upTo 64).any (fun n => decide (assignEntry r.arg n &&& 0xFFFFCCFE ≠ 0)) = false := by
    simp only [upTo, List.any_eq_false, List.mem_range, decide_eq_true_eq, not_not]
    exact hz
  rw [hlanes, Bool.false_or, decide_eq_true_eq]
  omega

/-- R24. -/
theorem laneAssign_refused (h : roleRates r.arg 1 = [] ∨ sameRates (roleRates r.arg 1) = false ∨
    sameRates (roleRates r.arg 2) = false ∨ (bit (b8 r 24) 0 = true ∧ roleRates r.arg 2 = [])) :
    laneAssign r t s = badRange s := by
  have hbad : ((roleRates r.arg 1).isEmpty || !sameRates (roleRates r.arg 1) || !sameRates (roleRates r.arg 2) ||
      (bit (b8 r 24) 0 && (roleRates r.arg 2).isEmpty)) = true := by
    rcases h with h | h | h | ⟨h, h'⟩ <;> simp [*]
  exact (if_neg (assign_reservedClear hz hb)).trans (if_pos hbad)

theorem laneAssign_accepted (hA : roleRates r.arg 1 ≠ []) (hsameA : sameRates (roleRates r.arg 1) = true)
    (hsameB : sameRates (roleRates r.arg 2) = true) (hB : bit (b8 r 24) 0 = true → roleRates r.arg 2 ≠ []) :
    laneAssign r t s = answer (afterTxChange s (assigned r s))
      (fields [(24, leBytes 8 (laneMask (afterTxChange s (assigned r s)) (·.rxEnabled))),
        (32, leBytes 8 (laneMask (afterTxChange s (assigned r s)) (·.txUp)))]) := by
  have hgood : ¬ ((roleRates r.arg 1).isEmpty || !sameRates (roleRates r.arg 1) || !sameRates (roleRates r.arg 2) ||
      (bit (b8 r 24) 0 && (roleRates r.arg 2).isEmpty)) = true := by
    simpa [hA, hsameA, hsameB] using hB
  exact (if_neg (assign_reservedClear hz hb)).trans (if_neg hgood)

end

theorem laneBringup_accepted (hb : b8 r 32 < 4) (hne : bitsSet 64 (b64 r 24) ≠ [])
    (hen : ∀ n ∈ bitsSet 64 (b64 r 24), (laneAt s n).rxEnabled = true) : laneBringup r t s =
      { st := (bitsSet 64 (b64 r 24)).foldl (fun v n => modLane n
          (startBringup (bit (b8 r 32) 1) (bit (b8 r 32) 0) (laneRecAt v n)) v) s
        key := b64 r 24, stay := some .committed } := by
  have hall : ¬ (bitsSet 64 (b64 r 24)).any (fun n => !(laneAt s n).rxEnabled) = true := by simpa using hen
  have hstay : (if (bitsSet 64 (b64 r 24)).isEmpty then none else some CmdPhase.committed) = some .committed :=
    if_neg (by simpa using hne)
  unfold laneBringup
  dsimp only
  rw [if_neg (by omega), if_neg hall, hstay]

/-- A lane that is not enabled cannot be brought up. -/
theorem laneBringup_refused (hb : b8 r 32 < 4)
    (hoff : ∃ n ∈ bitsSet 64 (b64 r 24), (laneAt s n).rxEnabled = false) : laneBringup r t s = badRange s := by
  have hany : (bitsSet 64 (b64 r 24)).any (fun n => !(laneAt s n).rxEnabled) = true := by simpa using hoff
  exact (if_neg (by omega)).trans (if_pos hany)

theorem laneStatus_lane (hsel : b8 r 24 = 0) (hlane : b8 r 25 < 64) : laneStatus r t s =
    answer s (fields [(24, leBytes 4 (laneStat (laneAt s (b8 r 25)))), (28, leBytes 4 (laneAt s (b8 r 25)).cause),
      (32, leBytes 4 (laneAt s (b8 r 25)).codeErr), (36, leBytes 4 (laneAt s (b8 r 25)).crcErr),
      (40, leBytes 4 (laneAt s (b8 r 25)).abortCnt), (44, leBytes 4 (laneAt s (b8 r 25)).elasticCnt),
      (48, leBytes 8 (laneAt s (b8 r 25)).rxPkt), (56, leBytes 8 (laneAt s (b8 r 25)).txPktCnt)]) :=
  (if_pos hsel).trans (if_neg (by omega))

theorem laneStatus_party (hsel : b8 r 24 = 1) (hid : b16 r 26 < 4096) : laneStatus r t s =
    answer s (fields [(24, leBytes 4 (partyAt s (b16 r 26)).retrans), (28, leBytes 4 (partyAt s (b16 r 26)).dups),
      (32, leBytes 4 (partyAt s (b16 r 26)).discards), (36, leBytes 1 (b2n (!(partyAt s (b16 r 26)).unreachable)))]) :=
  (if_neg (by omega)).trans ((if_pos hsel).trans (if_neg (by omega)))

end

/-- Settles O5: the entry passes its checks, and LANE_ASSIGN's own meaning answers BAD_ARG on the state as it stands. -/
theorem laneAssignRefused : Obligations.LaneAssignRefused := by
  unfold Obligations.LaneAssignRefused
  intro r t s u htakes hz hb hbad
  exact ⟨_, takes_ended laneAssign htakes (laneAssign_refused (r := { r with opcode := 0x0303 }) t u hz hb hbad)⟩

/-- Settles O4: the events of a transmit lane, an entry of LANE_ASSIGN, and the three lane commands. -/
theorem laneTransmission : Obligations.LaneTransmission := by
  unfold Obligations.LaneTransmission
  refine ⟨fun s n hrun => ⟨?turnOff, ?stays, ?trained, ?skip, ?train, ?report, ?noReport, ?info, ?next, ?faultIdle,
    ?faultReturn, ?faultPath, ?requeued, ?relock⟩, fun rec e l => ?entry, fun r t s u => ⟨?assign, ?bringup, ?refused,
    ?lane, ?party⟩⟩
  case turnOff => exact fun role rate hnext hcur => exec_txLaneTurnOff_free hrun hnext hcur
  case stays => exact exec_txLaneTurnOff_ignored
  case trained =>
    intro htr hf
    rw [exec_txTrainDone_trained hrun htr hf, freeLane, modLane_modLane]
    rfl
  case skip =>
    intro w hup hcur hw
    refine whenRun_on_lane hrun ((if_pos ?_).trans rfl)
    rw [Bool.and_eq_true, txBoundary_txWords_iff, decide_eq_true_eq]
    exact ⟨⟨hup, hcur⟩, hw⟩
  case train =>
    intro w hup hcur hw
    refine whenRun_on_lane hrun ((if_pos ?_).trans rfl)
    rw [Bool.and_eq_true, txBoundary_txWords_iff, decide_eq_true_eq]
    exact ⟨⟨hup, hcur⟩, hw⟩
  case report => exact fun w k hup hcur hrole hw hk => exec_txTrainReport_sent hrun hup hcur hrole hw hk
  case noReport => exact fun w h => exec_txTrainReport_notSent hrun h
  case info => exact fun rate report ready h => trainInfo_fields report ready h
  case next =>
    intro last k h
    obtain ⟨hk, hen⟩ := nextReport_enabled h
    refine ⟨hk, hen, fun l hl => ?_⟩
    subst hl
    exact (nextReport_after h).2.2
  case faultIdle => exact fun hrole hf hcur => exec_txFault_idle hrun hrole hf hcur
  case faultReturn =>
    intro p hret hf hcur
    rw [exec_txFault_return hrun (by omega) hf hret hcur, modLane_modLane]
    rfl
  case faultPath => exact fun p hrole hf hcur => exec_txFault_path hrun (by omega) hf (by omega) hcur
  case requeued => exact fun num bytes => ⟨rfl, rfl⟩
  case relock => exact fun hf hon => event_acts hrun (by simp [hf, hon])
  case entry =>
    exact ⟨assignLane_enables rec e l, assignLane_stays_enabled rec e l, assignLane_disables rec e l,
      assignLane_same_role rec e l, assignLane_new_role rec e l⟩
  case assign =>
    intro htakes hz hb hA hsameA hsameB hB
    exact ⟨_, rfl, takes_ended laneAssign htakes
      (laneAssign_accepted (r := { r with opcode := 0x0303 }) t u hz hb hA hsameA hsameB hB)⟩
  case bringup =>
    intro htakes hb hne hen
    exact takes_stays laneBringup htakes (laneBringup_accepted (r := { r with opcode := 0x0301 }) t u hb hne hen)
  case refused =>
    intro htakes hb hoff
    exact ⟨_, takes_ended laneBringup htakes (laneBringup_refused (r := { r with opcode := 0x0301 }) t u hb hoff)⟩
  case lane =>
    intro htakes hsel hlane
    exact takes_ended laneStatus htakes (laneStatus_lane (r := { r with opcode := 0x0302 }) t u hsel hlane)
  case party =>
    intro htakes hsel hid
    exact takes_ended laneStatus htakes (laneStatus_party (r := { r with opcode := 0x0302 }) t u hsel hid)

end Sys2Proof.Machine
end

section
/-! CONTROL: a packet taken from its lane, acknowledgements, and what is sent to a receiver (03 R61 to R64). -/

namespace Sys2Proof.Machine

/-! The packet that a lane delivered first (04 R72). -/

/-- It is of the type asked for; a sample packet is also the first one delivered by any lane. -/
theorem takeDelivered_some {lane typ : Nat} {s s' : State} {b : List Byte} (h : takeDelivered lane typ s = some (b, s')) :
    ∃ p, s.lanes.delivered.find? (fun q => q.lane == lane) = some p ∧ p.bytes = b ∧ hType b = typ ∧
      (isSample p = true → s.lanes.delivered.find? isSample = some p) ∧
      s' = { s with lanes := { s.lanes with delivered := s.lanes.delivered.erase p } } := by
  unfold takeDelivered at h
  split at h
  next p hp =>
    split at h
    next hok =>
      obtain ⟨htyp, hfirst⟩ := hok
      cases h
      exact ⟨p, hp, rfl, htyp, fun hs => hfirst.resolve_left (by simp [hs]), rfl⟩
    next => cases h
  next => cases h

/-! Acknowledgements (R63). -/

theorem releaseAcked_other {session ackSession : Nat} (ack : Nat) (p : Party) (h : ackSession ≠ session) :
    releaseAcked session ackSession ack p = p := if_neg h

/-- The messages that an acknowledgement leaves in the window. -/
def unacked (ack : Nat) (w : List CtlMsg) : List CtlMsg := w.filter (fun m => seqAfter m.seq ack || !m.sent)

theorem releaseAcked_same (session ack : Nat) (p : Party) : releaseAcked session session ack p =
    if (unacked ack p.window).length < p.window.length then
      { p with window := unacked ack p.window, resends := 0, unreachable := false }
    else p := if_pos rfl

/-- An acknowledgement that releases nothing leaves the window whole. -/
theorem releaseAcked_window (session ackSession ack : Nat) (p : Party) :
    (releaseAcked session ackSession ack p).window =
      if ackSession = session then unacked ack p.window else p.window := by
  by_cases hs : ackSession = session
  · subst hs
    rw [releaseAcked_same, if_pos rfl]
    split
    next => rfl
    next hall =>
      have hlen : (unacked ack p.window).length = p.window.length := by
        have := List.length_filter_le (fun m => seqAfter m.seq ack || !m.sent) p.window
        unfold unacked at hall ⊢
        omega
      exact (List.filter_eq_self.mpr (List.length_filter_eq_length_iff.mp hlen)).symm
  · rw [releaseAcked_other ack p hs, if_neg hs]

/-- A release is progress. -/
theorem releaseAcked_progress {session ackSession ack : Nat} {p : Party}
    (h : (releaseAcked session ackSession ack p).window.length < p.window.length) :
    (releaseAcked session ackSession ack p).resends = 0 ∧ (releaseAcked session ackSession ack p).unreachable = false := by
  by_cases hs : ackSession = session
  · subst hs
    rw [releaseAcked_window, if_pos rfl] at h
    rw [releaseAcked_same, if_pos h]
    exact ⟨rfl, rfl⟩
  · rw [releaseAcked_other ack p hs] at h
    exact absurd h (Nat.lt_irrefl _)

section
variable {s s' : State} {lane : Nat} {b : List Byte} (htake : takeDelivered lane 3 s = some (b, s'))
  (hmsg : hMessage b = false)
include htake hmsg

theorem exec_controlAck_own (hown : ownId s = some (hDest b)) (hack : hAckValid b = true) :
    exec (.controlAck lane) s =
      .next (setParty (releaseAcked s.seam.session (hAckSession b) (hAck b) (partyAt s' (hSource b))) s') := by
  show execControlAck lane s = _
  simp only [execControlAck, htake, hmsg, hown, hack, ne_eq, not_true, if_true, if_false, Bool.false_eq_true]

theorem exec_controlAck_foreign (hown : ownId s ≠ some (hDest b)) :
    exec (.controlAck lane) s = .next (destDiscard s') := by
  show execControlAck lane s = _
  simp only [execControlAck, htake, hmsg, if_false, Bool.false_eq_true, if_pos hown]

end

/-! The way of a packet to a receiver (R64). -/

theorem mem_returnLanes {s : State} {id n : Nat} (hn : n < 64) : n ∈ returnLanes s id ↔
    (laneAt s n).txRole = 3 ∧ (laneAt s n).txUp = true ∧ ∀ r, routeOf s id = some r → bit r.mask n = true := by
  unfold returnLanes
  split
  next r hr => simp [upTo, hn, hr, and_assoc]
  next hr => simp [upTo, hn, hr]

theorem nodup_returnLanes (s : State) (id : Nat) : (returnLanes s id).Nodup := by
  unfold returnLanes
  split <;> exact List.nodup_range.filter _

/-- A packet joins the CONTROL queue of each of the lanes. -/
def queueOn (pkt : List Byte) (ls : List Nat) (s : State) : State :=
  ls.foldl (fun s n => modLane n (fun l => { l with txCtl := l.txCtl ++ [pkt] }) s) s

theorem queueOn_cons (pkt : List Byte) (n : Nat) (ls : List Nat) (s : State) :
    queueOn pkt (n :: ls) s = queueOn pkt ls (modLane n (fun l => { l with txCtl := l.txCtl ++ [pkt] }) s) := rfl

theorem queueOn_frame (pkt : List Byte) (ls : List Nat) (s : State) :
    queueOn pkt ls s = { s with lanes := (queueOn pkt ls s).lanes } := by
  induction ls generalizing s with
  | nil => rfl
  | cons n ls ih =>
    rw [queueOn_cons, ih]
    rfl

theorem txCtl_queueOn (pkt : List Byte) {ls : List Nat} (hnd : ls.Nodup) (s : State) (n : Nat) :
    (laneAt (queueOn pkt ls s) n).txCtl =
      if n ∈ ls ∧ n < s.lanes.lane.length then (laneAt s n).txCtl ++ [pkt] else (laneAt s n).txCtl := by
  induction ls generalizing s with
  | nil => simp [queueOn]
  | cons k ls ih =>
    obtain ⟨hk, hnd⟩ := List.nodup_cons.mp hnd
    rw [queueOn_cons, ih hnd, laneAt_modLane, modLane_lanes, length_upd]
    by_cases hnk : n = k
    · subst hnk
      by_cases hn : n < s.lanes.lane.length <;> simp [hk, hn]
    · simp [hnk]

section
variable {s : State} {id : Nat} (pkt : List Byte)

theorem launch_upstream_none (hup : upstreamSource s id = true) (hls : returnLanes s id = []) : launch id pkt s = none := by
  simp [launch, hup, hls]

theorem launch_upstream (hup : upstreamSource s id = true) (hls : returnLanes s id ≠ []) :
    launch id pkt s = some (queueOn pkt (returnLanes s id) s) :=
  (if_pos hup).trans (if_neg (by simpa using hls))

theorem launch_paths (hup : upstreamSource s id = false)
    (hpath : pathUp s 0 = true ∨ (s.hst.dual = true ∧ pathUp s 1 = true)) :
    launch id pkt s = some { s with hst := { s.hst with
      ctlA := if pathUp s 0 = true then s.hst.ctlA ++ [pkt] else s.hst.ctlA
      ctlB := if s.hst.dual = true ∧ pathUp s 1 = true then s.hst.ctlB ++ [pkt] else s.hst.ctlB } } := by
  have hany : (pathUp s 0 || (s.hst.dual && pathUp s 1)) = true := by simpa using hpath
  refine (if_neg (by simp [hup])).trans ((if_pos hany).trans ?_)
  simp only [modHst, Bool.and_eq_true]

theorem launch_paths_none (hup : upstreamSource s id = false) (hA : pathUp s 0 = false)
    (hB : s.hst.dual = false ∨ pathUp s 1 = false) : launch id pkt s = none := by
  rcases hB with hB | hB <;> simp [launch, hup, hA, hB]

end

/-! What the device sends to a party, and when it gives up on it (R63, R64). -/

section
variable {s : State} {id : Nat}

theorem exec_pureAckSend_due {v : State} (hrun : dpRun s = true) (hdue : (partyAt s id).ackDue = true)
    (hgo : launch id (controlPacket (ownSource s) (epochNow s) id s.seam.session (partyAt s id).nextSeq false
      (ackOf (partyAt s id)) none) s = some v) :
    exec (.pureAckSend id) s = .next (setParty { partyAt s id with ackDue := false } v) := by
  show execPureAckSend id s = _
  simp only [execPureAckSend, hrun, hdue, hgo, Bool.and_self, if_true]

theorem exec_pureAckSend_noLane (hno : ∀ pkt, launch id pkt s = none) : exec (.pureAckSend id) s = .next s := by
  show execPureAckSend id s = _
  simp only [execPureAckSend, hno, ite_self]

theorem exec_controlSend_next {m : CtlMsg} {v : State} (hrun : dpRun s = true) (hm : nextToSend (partyAt s id) = some m)
    (hgo : launch id (controlPacket (ownSource s) (epochNow s) id s.seam.session m.seq m.sync (ackOf (partyAt s id))
      (some m.msg)) s = some v) :
    exec (.controlSend id) s = .next (setParty { partyAt s id with
      ackDue := false, window := (partyAt s id).window.map (fun x =>
        if x = m then { x with sent := true, queued := false } else x) } v) := by
  show execControlSend id s = _
  simp only [execControlSend, hm, hrun, hgo, if_true]

theorem exec_controlSend_noLane (hno : ∀ pkt, launch id pkt s = none) : exec (.controlSend id) s = .next s := by
  show execControlSend id s = _
  simp only [execControlSend, hno, ite_self]
  split <;> rfl

theorem failForwards_none {t : Nat} (h : ∀ f ∈ s.cages.forwards, f.peer ≠ id) : failForwards id t s = s := by
  have hnone : s.cages.forwards.filter (fun f => f.peer == id) = [] := by simpa using h
  simp only [failForwards, hnone, List.foldl_nil]

/-- The only request that waits for the party ends with TIMEOUT. -/
theorem failForwards_single {t : Nat} {f : Forwarded} (hf : s.cages.forwards = [f]) (hpeer : f.peer = id) :
    failForwards id t s = answerOnly f.req t { status := stTimeout, detail := 11 } stTimeout
      { s with cages := { s.cages with forwards := [] } } := by
  simp [failForwards, hf, hpeer, modCages]

section
variable (t : Nat) (hrun : dpRun s = true) (hw : (partyAt s id).window ≠ [])
include hrun hw

theorem exec_controlRetransmit_again (h : (partyAt s id).resends < 8 ∨ (partyAt s id).unreachable = true) :
    exec (.controlRetransmit id t) s = .next (setParty { partyAt s id with
      resends := (partyAt s id).resends + 1
      retrans := sat32 ((partyAt s id).retrans + (((partyAt s id).window.take 16).filter (·.sent)).length)
      window := (partyAt s id).window.zipIdx.map (fun x => if x.2 < 16 then { x.1 with queued := true } else x.1) } s) := by
  have hmore : ¬ (8 ≤ (partyAt s id).resends ∧ (!(partyAt s id).unreachable) = true) := by
    rcases h with h | h
    · omega
    · simp [h]
  exact congrArg _ ((if_pos (by simp [hrun, hw])).trans (if_neg hmore))

theorem exec_controlRetransmit_gaveUp (h : 8 ≤ (partyAt s id).resends) (hu : (partyAt s id).unreachable = false) :
    exec (.controlRetransmit id t) s =
      .next (failForwards id t (setParty { partyAt s id with unreachable := true } s)) :=
  congrArg _ ((if_pos (by simp [hrun, hw])).trans (if_pos ⟨h, by simp [hu]⟩))

end

end

/-- Settles O7: the acknowledgements, the ways of a packet, what is sent and resent, and the release of the window. -/
theorem controlWindow : Obligations.ControlWindow := by
  unfold Obligations.ControlWindow
  refine ⟨fun s => ⟨?ack, ?ackForeign, ?ways, ?pureAck, ?send, ?noLane, ?again, ?gaveUp⟩,
    fun session ackSession ack p => ⟨releaseAcked_window .., releaseAcked_progress, releaseAcked_other ack p⟩⟩
  case ack => exact fun lane b s' htake hmsg hown hack => exec_controlAck_own htake hmsg hown hack
  case ackForeign => exact fun lane b s' htake hmsg hown => exec_controlAck_foreign htake hmsg hown
  case ways =>
    refine fun id pkt => ⟨fun n hn => mem_returnLanes hn, launch_upstream_none pkt, fun hup hls => ?_,
      launch_paths pkt, launch_paths_none pkt⟩
    exact ⟨_, launch_upstream pkt hup hls, queueOn_frame .., txCtl_queueOn pkt (nodup_returnLanes s id) s⟩
  case pureAck => exact fun id v hrun hdue hgo => exec_pureAckSend_due hrun hdue hgo
  case send => exact fun id m v hrun hm hgo => exec_controlSend_next hrun hm hgo
  case noLane => exact fun id hno => ⟨exec_controlSend_noLane hno, exec_pureAckSend_noLane hno⟩
  case again => exact fun id t hrun hw h => exec_controlRetransmit_again t hrun hw h
  case gaveUp =>
    intro id t hrun hw h hu
    rw [exec_controlRetransmit_gaveUp t hrun hw h hu]
    refine ⟨fun hno => ?_, fun f v hf hpeer hv => ?_⟩
    · rw [failForwards_none (by exact hno)]
    · rw [← hv, failForwards_single (by rw [hv]; exact hf) hpeer]

end Sys2Proof.Machine
end

section
/-! CONTROL: a message received, the inbox, and what firmware does with each KIND (03 R61 to R64, R453). -/

namespace Sys2Proof.Machine

/-! What the receiver does with a message (R62). -/

section
variable {p : Party} {sync : Bool} {session seq : Nat}

theorem rxClass_current (h : p.session = some session) : rxClass p sync session seq =
    if seq = p.expected then .expected else if seqAfter p.expected seq then .duplicate else .discard := by
  simp [rxClass, h]

theorem rxClass_sync (h : p.session ≠ some session) : rxClass p true session seq = .expected := by
  simp [rxClass, h]

/-- In a session that is neither current nor new. -/
theorem rxClass_stale (h : p.session ≠ some session) : rxClass p false session seq = .discard := by
  simp [rxClass, h]

end

/-- The sender's party once the acknowledgement that the message carries has been used. -/
def ackedSender (b : List Byte) (s : State) : Party :=
  if hAckValid b then releaseAcked s.seam.session (hAckSession b) (hAck b) (partyAt s (hSource b))
  else partyAt s (hSource b)

/-- The party in the session of a message that it is to take. -/
def inSession (b : List Byte) (p : Party) : Party :=
  if p.session = some (hSession b) then p
  else { p with session := some (hSession b), expected := hSeq b, lastRx := none }

/-- The message is put in the inbox, and the next one is expected. -/
def acceptMessage (b : List Byte) (p : Party) (s : State) : State :=
  let v := setParty { p with expected := (hSeq b + 1) % 2 ^ 32, lastRx := some (hSeq b), ackDue := true } s
  { v with seam := { v.seam with inbox := v.seam.inbox ++ [(p.id, hPayload b)] } }

theorem takeMessage_eq (b : List Byte) (t : Nat) (s : State) : takeMessage b t s =
    match rxClass (ackedSender b s) (hSync b) (hSession b) (hSeq b) with
    | .expected =>
      if s.seam.inbox.length < 64 then serveInbox t (acceptMessage b (inSession b (ackedSender b s)) s)
      else setParty (inSession b (ackedSender b s)) s
    | .duplicate => setParty { ackedSender b s with dups := sat32 ((ackedSender b s).dups + 1), ackDue := true } s
    | .discard => setParty { ackedSender b s with discards := sat32 ((ackedSender b s).discards + 1) } s := rfl

section
variable {s : State} {b : List Byte} {p : Party} (t : Nat) (hp : p = ackedSender b s)
include hp

theorem takeMessage_duplicate (h : rxClass p (hSync b) (hSession b) (hSeq b) = .duplicate) :
    takeMessage b t s = setParty { p with dups := sat32 (p.dups + 1), ackDue := true } s := by
  subst hp
  rw [takeMessage_eq, h]

theorem takeMessage_discard (h : rxClass p (hSync b) (hSession b) (hSeq b) = .discard) :
    takeMessage b t s = setParty { p with discards := sat32 (p.discards + 1) } s := by
  subst hp
  rw [takeMessage_eq, h]

theorem takeMessage_accept (h : rxClass p (hSync b) (hSession b) (hSeq b) = .expected)
    (hroom : s.seam.inbox.length < 64) :
    takeMessage b t s = serveInbox t (acceptMessage b (inSession b p) s) := by
  subst hp
  rw [takeMessage_eq, h]
  exact if_pos hroom

theorem takeMessage_full (h : rxClass p (hSync b) (hSession b) (hSeq b) = .expected)
    (hfull : 64 ≤ s.seam.inbox.length) : takeMessage b t s = setParty (inSession b p) s := by
  subst hp
  rw [takeMessage_eq, h]
  exact if_neg (by omega)

end

theorem inSession_current {b : List Byte} {p : Party} (h : p.session = some (hSession b)) : inSession b p = p := if_pos h

theorem inSession_new {b : List Byte} {p : Party} (h : p.session ≠ some (hSession b)) :
    inSession b p = { p with session := some (hSession b), expected := hSeq b, lastRx := none } := if_neg h

section
variable {s s' : State} {lane : Nat} {b : List Byte} (t : Nat) (htake : takeDelivered lane 3 s = some (b, s'))
  (hmsg : hMessage b = true)
include htake hmsg

theorem exec_controlMessage_foreign (hown : ownId s ≠ some (hDest b)) :
    exec (.controlMessage lane t) s = .next (destDiscard s') := by
  show execControlMessage lane t s = _
  simp only [execControlMessage, htake, hmsg, Bool.not_true, Bool.false_eq_true, if_false, if_pos hown]

theorem exec_controlMessage_own (hown : ownId s = some (hDest b)) :
    exec (.controlMessage lane t) s = .next (takeMessage b t s') := by
  show execControlMessage lane t s = _
  simp only [execControlMessage, htake, hmsg, Bool.not_true, Bool.false_eq_true, if_false, if_neg (not_not.mpr hown)]

end

/-! The inbox (R62). -/

/-- With no core on shift the messages wait. -/
theorem serveInbox_waits {s : State} (t : Nat) (h : 2 ≤ s.shift.onShift) : serveInbox t s = s := if_neg (by omega)

theorem serveInbox_onShift {s : State} (t : Nat) (h : s.shift.onShift < 2) : serveInbox t s =
    s.seam.inbox.foldl (fun v m => actOnKind m.1 t m.2 v) { s with seam := { s.seam with inbox := [] } } := if_pos h

theorem serveInbox_empty {s : State} (t : Nat) (h : s.seam.inbox = []) : serveInbox t s = s := by
  by_cases hon : s.shift.onShift < 2
  · rw [serveInbox_onShift t hon, h, List.foldl_nil]
    exact congrArg (fun i => { s with seam := { s.seam with inbox := i } }) h.symm
  · exact serveInbox_waits t (by omega)

/-! What firmware does with a message of each KIND (Table 3.8, R453). -/

theorem u8_drop (m : List Byte) (k i : Nat) : u8 (m.drop k) i = u8 m (k + i) := by
  simp [u8, List.getD_eq_getElem?_getD, List.getElem?_drop]

theorem leAt_drop (m : List Byte) (k i n : Nat) : leAt (m.drop k) i n = leAt m (k + i) n := by
  induction n generalizing i with
  | zero => rfl
  | succ n ih => rw [leAt, leAt, u8_drop, ih, Nat.add_assoc]

theorem u16_drop (m : List Byte) (k i : Nat) : u16 (m.drop k) i = u16 m (k + i) := leAt_drop m k i 2

section
variable {peer : Nat} {m : List Byte} {s : State} (t : Nat)

theorem actOnKind_user (h : u16 m 0 = 32) : actOnKind peer t m s = showUser m s := by
  simp only [actOnKind, h]

theorem actOnKind_unlisted (h1 : u16 m 0 ≠ 1) (h2 : u16 m 0 ≠ 2) (h32 : u16 m 0 ≠ 32) :
    actOnKind peer t m s = kindDiscard s := by
  unfold actOnKind
  split
  next h => exact absurd h h1
  next h => exact absurd h h2
  next h => exact absurd h h32
  next => rfl

theorem actOnKind_unanswered (h : u16 m 0 = 2) (hno : answered s peer (completionOfBytes (m.drop 8)) = none) :
    actOnKind peer t m s = kindDiscard s := by
  simp only [actOnKind, h, hno]

theorem actOnKind_answer {f : Forwarded} (h : u16 m 0 = 2)
    (hf : answered s peer (completionOfBytes (m.drop 8)) = some f) :
    actOnKind peer t m s = postForwarded f (completionOfBytes (m.drop 8)) s := by
  simp only [actOnKind, h, hf]

/-- The request of a CAGE_REQUEST message: of cage 7, without an argument or a result block. -/
def cageRequest (peer : Nat) (m : List Byte) : Req :=
  { reqOfBytes 7 (m.drop 8) [] with
    peer := peer, resMax := 0, badLen := decide (u32 (m.drop 8) 16 ≠ 0) || decide (u32 (m.drop 8) 20 ≠ 0) }

theorem actOnKind_request (h : u16 m 0 = 1) : actOnKind peer t m s = arrive (cageRequest peer m) t s := by
  simp only [actOnKind, h, cageRequest]

end

theorem arrive_of_room {r : Req} {s : State} (t : Nat) (h : hasRoom s r.cage = true) : arrive r t s =
    modCages (fun g => { g with fetched := g.fetched ++ [r] }) (modCage r.cage (fun c => { c with busy := false }) s) :=
  if_pos h

/-- A completion answers a request sent to that peer, of its opcode, TAG and client. -/
theorem answered_some {s : State} {peer : Nat} {c : Completion} {f : Forwarded} (h : answered s peer c = some f) :
    f.peer = peer ∧ f.req.opcode = c.opcode ∧ f.req.tag = c.tag ∧ f.req.client = c.client := by
  have hmatch := List.find?_some h
  simpa [and_assoc] using hmatch

/-- Settles O6: the outcomes of a received message, the inbox, and each KIND. -/
theorem controlMessages : Obligations.ControlMessages := by
  unfold Obligations.ControlMessages
  refine ⟨fun s s' lane t b htake hmsg => ⟨exec_controlMessage_foreign t htake hmsg, fun hown p hp => ?received⟩,
    fun s t => ⟨serveInbox_waits t, serveInbox_empty t, serveInbox_onShift t⟩,
    fun peer t m s => ⟨?user, actOnKind_unlisted t, actOnKind_unanswered t, ?answer, ?request⟩⟩
  case received =>
    rw [exec_controlMessage_own t htake hmsg hown]
    refine ⟨?duplicate, ?beyond, ?stale, ?next, ?full, ?newSession⟩
    case duplicate =>
      intro hse hne hafter
      rw [takeMessage_duplicate t hp (by rw [rxClass_current hse, if_neg hne, if_pos hafter])]
    case beyond =>
      intro hse hne hafter
      rw [takeMessage_discard t hp (by rw [rxClass_current hse, if_neg hne, if_neg (by simp [hafter])])]
    case stale =>
      intro hse hsync
      rw [takeMessage_discard t hp (by rw [hsync, rxClass_stale hse])]
    case next =>
      intro hse hseq hroom
      refine ⟨_, rfl, ?_⟩
      rw [takeMessage_accept t hp (by rw [rxClass_current hse, if_pos hseq]) hroom, inSession_current hse]
      rfl
    case full =>
      intro hse hseq hfull
      rw [takeMessage_full t hp (by rw [rxClass_current hse, if_pos hseq]) hfull, inSession_current hse]
    case newSession =>
      intro hse hsync hroom
      refine ⟨_, rfl, ?_⟩
      rw [takeMessage_accept t hp (by rw [hsync, rxClass_sync hse]) hroom, inSession_new hse]
      rfl
  case user => exact fun h => ⟨_, _, rfl, rfl, actOnKind_user t h⟩
  case answer =>
    intro f h hf
    obtain ⟨hpeer, hop, htag, hclient⟩ := answered_some hf
    rw [actOnKind_answer t h hf]
    exact ⟨hpeer, hop.trans (u16_drop m 8 0), htag.trans (u16_drop m 8 2), hclient.trans (u16_drop m 8 4),
      _, rfl, rfl, u8_drop m 8 6, rfl, rfl, rfl, rfl⟩
  case request =>
    intro h hroom
    have hbody : (cageRequest peer m).body = padTo 40 (m.drop 32) := congrArg (padTo 40) List.drop_drop
    rw [actOnKind_request t h, arrive_of_room (r := cageRequest peer m) t hroom]
    exact ⟨cageRequest peer m, rfl, rfl, rfl, hbody, rfl, rfl⟩

end Sys2Proof.Machine
end

section
/-! DATA packets: the bundle that judges one, and the position and slot it is taken for (03 R55; 04 R71 to R73, Tables 4.3
and 4.4). -/

namespace Sys2Proof.Machine

theorem exec_dataPacket {s s' : State} {lane : Nat} {b : List Byte} (h : takeDelivered lane 1 s = some (b, s')) :
    exec (.dataPacket lane) s = .next ((judge s' b).getD (takeData b s')) := by
  show execDataPacket lane s = _
  simp only [execDataPacket, h]

/-! Foreign and misrouted packets (R55, Table 4.4). -/

section
variable {s : State} {b : List Byte}

theorem foreign_noBundle (h : bundleAt s (hIndex b) = none) : foreign s b = false := by
  simp [foreign, h]

theorem misroute_noBundle (h : bundleAt s (hIndex b) = none) : misroute s b = 1 := by
  simp [misroute, h]

section
variable {u : Bundle} (h : bundleAt s (hIndex b) = some u)
include h

theorem foreign_iff : foreign s b = true ↔ hEpoch b ≠ u.epoch := by
  simp [foreign, h]

/-- The reasons of Table 4.4, the lowest first (log 105). -/
theorem misroute_eq : misroute s b =
    if bit u.groups (hGroup b) = false then 1
    else if hSource b ∉ u.permit.getD (hGroup b) [] then 2
    else if u.channels ≤ hChannel b then 3
    else if hType b = 2 ∧ hChannel b ∉ ((promptFor s (hIndex b / 64)).map (·.channels)).getD [] then 4
    else 0 := by
  simp only [misroute, h, Bool.not_eq_true', List.contains_eq_mem, decide_eq_false_iff_not]

end

/-! Orders 2 and 3 of Table 4.3. -/

theorem judge_foreign (h : foreign s b = true) : judge s b = some (modHop (fun x => hopCause 1 { x with
    foreign := sat32 (x.foreign + 1), lastForeign := some (hSource b, hEpoch b) }) s) := if_pos h

theorem judge_misrouted (hf : foreign s b = false) (h : misroute s b ≠ 0) :
    judge s b = some (modHop (fun x => hopCause 2 { x with
      misroute := sat32 (x.misroute + 1), lastMisroute := (misroute s b, hGroup b, hSource b, hChannel b) }) s) :=
  (if_neg (by simp [hf])).trans (if_pos h)

theorem judge_passes (hf : foreign s b = false) (h : misroute s b = 0) : judge s b = none :=
  (if_neg (by simp [hf])).trans (if_neg (not_not.mpr h))

/-! Orders 4 to 7 of Table 4.3. -/

def countEarly (s : State) : State := modHop (fun h => hopCause 4 { h with early := sat32 (h.early + 1) }) s

def countLate (s : State) : State := modHop (fun h => hopCause 5 { h with late := sat32 (h.late + 1) }) s

def countDup (s : State) : State := modHop (fun h => hopCause 6 { h with dup := sat32 (h.dup + 1) }) s

/-- The packet's block is FILLED already. -/
def blockFilled (s : State) (b : List Byte) : Bool :=
  (slotAt s (dataPos s b)).placed.any (fun p => p.group == hGroup b && p.block == dataBlock b)

theorem takeData_stopped (h : s.hop.running = false) : takeData b s = countLate s := if_pos (by simp [h])

section
variable (hrun : s.hop.running = true)
include hrun

theorem takeData_beforeFirst (h : dataPos s b < s.hop.first) : takeData b s = countLate s :=
  (if_neg (by simp [hrun])).trans (if_pos h)

variable (hfirst : s.hop.first ≤ dataPos s b)
include hfirst

theorem takeData_early (h : s.hop.nextOpen ≤ dataPos s b) : takeData b s = countEarly s :=
  (if_neg (by simp [hrun])).trans ((if_neg (by omega)).trans (if_pos h))

variable (hopen : dataPos s b < s.hop.nextOpen)
include hopen

theorem takeData_slotReused (h : (slotAt s (dataPos s b)).pos ≠ dataPos s b) : takeData b s = countLate s :=
  (if_neg (by simp [hrun])).trans ((if_neg (by omega)).trans ((if_neg (by omega)).trans (if_pos h)))

/-- The slot holds the packet's position: what happens depends on the slot's state. -/
theorem takeData_inSlot (hpos : (slotAt s (dataPos s b)).pos = dataPos s b) : takeData b s =
    if (slotAt s (dataPos s b)).state = .opened then (if blockFilled s b then countDup s else placeData b s)
    else if (slotAt s (dataPos s b)).state = .complete then countDup s
    else countLate s := by
  refine (if_neg (by simp [hrun])).trans ((if_neg (by omega)).trans ((if_neg (by omega)).trans
    ((if_neg (not_not.mpr hpos)).trans ?_)))
  cases (slotAt s (dataPos s b)).state <;> rfl

end

/-- The position is not served, was served in an earlier use of its slot, or its slot has sealed. -/
theorem takeData_late (h : s.hop.running = false ∨ dataPos s b < s.hop.first ∨ (dataPos s b < s.hop.nextOpen ∧
    ((slotAt s (dataPos s b)).pos ≠ dataPos s b ∨ (slotAt s (dataPos s b)).state = .sealed ∨
      (slotAt s (dataPos s b)).state = .consuming))) : takeData b s = countLate s := by
  cases hrun : s.hop.running with
  | false => exact takeData_stopped hrun
  | true =>
    rcases Nat.lt_or_ge (dataPos s b) s.hop.first with hbefore | hfirst
    · exact takeData_beforeFirst hrun hbefore
    · obtain ⟨hopen, hslot⟩ : dataPos s b < s.hop.nextOpen ∧ _ := (h.resolve_left (by simp [hrun])).resolve_left (by omega)
      by_cases hpos : (slotAt s (dataPos s b)).pos = dataPos s b
      · rw [takeData_inSlot hrun hfirst hopen hpos]
        rcases hslot.resolve_left (not_not.mpr hpos) with hst | hst <;> simp [hst]
      · exact takeData_slotReused hrun hfirst hopen hpos

end

/-- Settles O8: the packet taken, the outcomes in the order of Table 4.3, and the reasons of Table 4.4. -/
theorem dataPacketJudged : Obligations.DataPacketJudged := by
  unfold Obligations.DataPacketJudged
  refine ⟨fun s s' lane typ b htake => ?taken, fun s s' lane b htake => ?judged, fun s b => ⟨?noBundle, ?bundle⟩⟩
  case taken =>
    obtain ⟨p, hfind, hbytes, htyp, hfirst, hs'⟩ := takeDelivered_some htake
    refine ⟨p, List.mem_of_find?_eq_some hfind, by simpa using List.find?_some hfind, hbytes, htyp, hfind,
      fun hsample => hfirst ?_, hs'⟩
    simpa [isSample, hbytes, htyp] using hsample
  case judged =>
    rw [exec_dataPacket htake]
    refine ⟨fun hf => ?foreign, fun hf hm => ?misrouted, fun hf hm => ?passed⟩
    case foreign => rw [judge_foreign hf]; rfl
    case misrouted => rw [judge_misrouted hf hm]; rfl
    case passed =>
      rw [judge_passes hf hm, Option.getD_none]
      refine ⟨fun hrun hfirst hnext => ?early, fun h => ?late, fun hrun hfirst hopen hpos hdup => ?dup,
        fun hrun hfirst hopen hpos hst hfree => ?placed⟩
      case early => rw [takeData_early hrun hfirst hnext]; rfl
      case late => rw [takeData_late h]; rfl
      case dup =>
        rw [takeData_inSlot hrun hfirst hopen hpos]
        rcases hdup with hst | ⟨hst, hfilled⟩
        · rw [if_neg (by simp [hst]), if_pos hst]
          rfl
        · rw [if_pos hst, if_pos (by exact hfilled)]
          rfl
      case placed =>
        rw [takeData_inSlot hrun hfirst hopen hpos, if_pos hst, if_neg (by exact Bool.eq_false_iff.mp hfree)]
        exact ⟨_, rfl, rfl⟩
  case noBundle => exact fun h => ⟨foreign_noBundle h, misroute_noBundle h⟩
  case bundle =>
    intro u h
    rw [misroute_eq h]
    refine ⟨foreign_iff h, fun hg => if_pos hg, fun hg hsrc => ?source, fun hg hsrc hch => ?channel,
      fun hg hsrc hch => ?prompt⟩
    case source => rw [if_neg (by simp [hg]), if_pos hsrc]
    case channel => rw [if_neg (by simp [hg]), if_neg (not_not.mpr hsrc), if_pos hch]
    case prompt => rw [if_neg (by simp [hg]), if_neg (not_not.mpr hsrc), if_neg (by omega)]

end Sys2Proof.Machine
end

section
/-! Hopper slots: sealing, the packets judged first, and the chunk boundary (04 R71, R74 to R77, Tables 4.1 and 4.2). -/

namespace Sys2Proof.Machine

/-! Packets that wait for an instant (R71, R72). -/

section
variable {typ : Nat} {f : List Byte → State → State} {s : State}

theorem judgeWaiting_none (h : ∀ p ∈ s.lanes.delivered, hType p.bytes ≠ typ) : judgeWaiting typ f s = s := by
  have hmatch : s.lanes.delivered.filter (fun p => hType p.bytes == typ) = [] := by
    simpa [List.filter_eq_nil_iff] using h
  have hrest : s.lanes.delivered.filter (fun p => hType p.bytes != typ) = s.lanes.delivered := by
    simpa [List.filter_eq_self] using h
  rw [judgeWaiting, hmatch, hrest]
  rfl

/-- The one packet of the type leaves the list and is judged. -/
theorem judgeWaiting_one {p r : List RxPkt} {x : RxPkt} (hdel : s.lanes.delivered = p ++ x :: r)
    (hp : ∀ y ∈ p, hType y.bytes ≠ typ) (hx : hType x.bytes = typ) (hr : ∀ y ∈ r, hType y.bytes ≠ typ) :
    judgeWaiting typ f s = (judge { s with lanes := { s.lanes with delivered := p ++ r } } x.bytes).getD
      (f x.bytes { s with lanes := { s.lanes with delivered := p ++ r } }) := by
  have hmatch : s.lanes.delivered.filter (fun p => hType p.bytes == typ) = [x] := by
    rw [hdel, List.filter_append, List.filter_cons_of_pos (by simp [hx]), List.filter_eq_nil_iff.mpr (by simpa using hp),
      List.filter_eq_nil_iff.mpr (by simpa using hr), List.nil_append]
  have hrest : s.lanes.delivered.filter (fun p => hType p.bytes != typ) = p ++ r := by
    rw [hdel, List.filter_append, List.filter_cons_of_neg (by simp [hx]), List.filter_eq_self.mpr (by simpa using hp),
      List.filter_eq_self.mpr (by simpa using hr)]
  rw [judgeWaiting, hmatch, hrest]
  rfl

end

/-! One slot of the three. -/

theorem slotAt_modSlot {s : State} (h : s.hop.slots.length = 3) (j k : Nat) (f : Slot → Slot) :
    slotAt (modSlot j f s) k = if k % 3 = j % 3 then f (slotAt s j) else slotAt s k := by
  refine (getD_upd s.hop.slots (j % 3) (k % 3) f {}).trans ?_
  rw [h]
  simp only [show j % 3 < 3 by omega, and_true]
  rfl

/-! A seal (R74, R76, R77). -/

section
variable (j : Nat) (deadline : Bool) (s : State)

/-- The slot as its seal leaves it. -/
def markSealed : State := modSlot j (fun sl => { sl with state := .sealed, record := sealRecord s (slotAt s j) deadline }) s

/-- The counters of a seal with missing blocks. -/
def countShort (h : Hopper) : Hopper :=
  hopCause 0 { h with
    fill := sat64 (h.fill + (sealRecord s (slotAt s j) deadline).missing)
    sealShort := sat64 (h.sealShort + 1)
    grpMiss := (groupsFor s j).foldl (fun l g => upd l g (fun n => sat32 (n + missingOf (slotAt s j) g))) h.grpMiss }

def countFull (h : Hopper) : Hopper := { h with sealFull := sat64 (h.sealFull + 1) }

/-- The STAT record of a seal (11 Table 11.4). -/
def noteSeal (t : State) : State :=
  noteStat 2 (sealRecord s (slotAt s j) deadline).missing j
    ((sealRecord s (slotAt s j) deadline).missMask + 2 ^ 32 * (sealRecord s (slotAt s j) deadline).blankMask)
    (8192 * chunkOf s j) t

theorem sealSlot_eq : sealSlot j deadline s =
    if (sealRecord s (slotAt s j) deadline).missing = 0 then
      if (sealRecord s (slotAt s j) deadline).blankMask = 0 then modHop countFull (markSealed j deadline s)
      else noteSeal j deadline s (modHop countFull (markSealed j deadline s))
    else noteSeal j deadline s (modHop (countShort j deadline s) (markSealed j deadline s)) := by
  by_cases hm : (sealRecord s (slotAt s j) deadline).missing = 0
  · by_cases hb : (sealRecord s (slotAt s j) deadline).blankMask = 0
    · simp only [sealSlot, hm, hb, and_self, if_true]
      rfl
    · simp only [sealSlot, hm, hb, and_false, if_true, if_false, noteSeal]
      rfl
  · simp only [sealSlot, hm, false_and, if_false]
    rfl

variable {j deadline s}

theorem sealSlot_short (h : (sealRecord s (slotAt s j) deadline).missing ≠ 0) :
    sealSlot j deadline s = noteSeal j deadline s (modHop (countShort j deadline s) (markSealed j deadline s)) :=
  (sealSlot_eq j deadline s).trans (if_neg h)

theorem sealSlot_full (h : (sealRecord s (slotAt s j) deadline).missing = 0)
    (hb : (sealRecord s (slotAt s j) deadline).blankMask = 0) :
    sealSlot j deadline s = modHop countFull (markSealed j deadline s) :=
  (sealSlot_eq j deadline s).trans ((if_pos h).trans (if_pos hb))

variable (j deadline s)

@[simp] theorem sealSlot_aba : (sealSlot j deadline s).aba = s.aba := by
  rw [sealSlot_eq]
  split_ifs <;> rfl

@[simp] theorem sealSlot_nextOpen : (sealSlot j deadline s).hop.nextOpen = s.hop.nextOpen := by
  rw [sealSlot_eq]
  split_ifs <;> rfl

theorem sealSlot_slots : (sealSlot j deadline s).hop.slots = (markSealed j deadline s).hop.slots := by
  rw [sealSlot_eq]
  split_ifs <;> rfl

variable {s}

theorem slotAt_sealSlot (h : s.hop.slots.length = 3) (k : Nat) : slotAt (sealSlot j deadline s) k =
    if k % 3 = j % 3 then { slotAt s j with state := .sealed, record := sealRecord s (slotAt s j) deadline }
    else slotAt s k := by
  rw [slotAt, sealSlot_slots]
  exact slotAt_modSlot h j k _

theorem slotAt_sealSlot_other (h : s.hop.slots.length = 3) {k : Nat} (hk : k % 3 ≠ j % 3) :
    slotAt (sealSlot j deadline s) k = slotAt s k :=
  (slotAt_sealSlot j deadline h k).trans (if_neg hk)

theorem slotAt_sealSlot_same (h : s.hop.slots.length = 3) : slotAt (sealSlot j deadline s) j =
    { slotAt s j with state := .sealed, record := sealRecord s (slotAt s j) deadline } :=
  (slotAt_sealSlot j deadline h j).trans (if_pos rfl)

end

/-! When a slot seals (R74, Table 4.2 step 3). -/

section
variable {s : State} {j : Nat}

theorem settleSlot_seals (hfull : slotFull s (slotAt s j) = true) (hw : (slotAt s j).window = true)
    (hlow : lowerSealed s j = true) : settleSlot j s = sealSlot j false s :=
  (if_pos hfull).trans (if_pos (by simp [hw, hlow]))

theorem settleSlot_waits (hfull : slotFull s (slotAt s j) = true)
    (h : (slotAt s j).window = false ∨ lowerSealed s j = false) :
    settleSlot j s = modSlot j (fun sl => { sl with state := .complete }) s :=
  (if_pos hfull).trans (if_neg (by rcases h with h | h <;> simp [h]))

theorem settleSlot_notFull (h : slotFull s (slotAt s j) = false) : settleSlot j s = s := if_neg (by simp [h])

theorem exec_sealWindowOpen (j : Nat) (w : State) :
    exec (.sealWindowOpen j) w = .next (openWindow j (judgeWaiting 1 takeData w)) := rfl

section
variable (hrun : s.hop.running = true) (hpos : (slotAt s j).pos = j)
include hrun hpos

theorem openWindow_opened (hst : (slotAt s j).state = .opened) :
    openWindow j s = modSlot j (fun x => { x with window := true }) s := by
  simp [openWindow, hrun, hpos, hst]

theorem openWindow_complete (hst : (slotAt s j).state = .complete) (hlow : lowerSealed s j = true) :
    openWindow j s = sealSlot j false (modSlot j (fun x => { x with window := true }) s) := by
  simp [openWindow, hrun, hpos, hst, hlow]

end

theorem deadline_opened (hpos : (slotAt s j).pos = j) (hst : (slotAt s j).state = .opened) :
    deadline j s = sealSlot j (!slotFull s (slotAt s j)) s := if_pos ⟨hpos, .inl hst⟩

end

/-! The Abacus at a boundary (05 R108; 01 R13). -/

theorem takeResume_eq (s : State) : takeResume s = if s.aba.resumePending = true then
    { s with aba := { s.aba with resumePending := false, state := .running } } else s := rfl

@[simp] theorem takeResume_hop (s : State) : (takeResume s).hop = s.hop := by
  rw [takeResume_eq]
  split <;> rfl

theorem takeResume_unlessSealedDrained (j : Nat) (s : State) : (if sealedDrained j s = true then s else takeResume s) =
    if s.aba.resumePending = true ∧ ((slotAt s j).pos ≠ j ∨ (slotAt s j).state ≠ .sealed) then
      { s with aba := { s.aba with resumePending := false, state := .running } } else s := by
  have hsd : sealedDrained j s = true ↔
      s.aba.resumePending = true ∧ (slotAt s j).pos = j ∧ (slotAt s j).state = .sealed := by
    simp [sealedDrained, and_assoc]
  by_cases hp : s.aba.resumePending = true
  · by_cases hs : (slotAt s j).pos = j ∧ (slotAt s j).state = .sealed
    · rw [if_pos (hsd.mpr ⟨hp, hs⟩), if_neg (fun h => not_and_or.mpr h.2 hs)]
    · rw [if_neg (fun h => hs (hsd.mp h).2), if_pos ⟨hp, not_and_or.mp hs⟩, takeResume_eq, if_pos hp]
  · rw [if_neg (fun h => hp (hsd.mp h).1), if_neg (fun h => hp h.1)]
    exact (takeResume_eq s).trans (if_neg hp)

/-! A slot opens, and the one before it may seal (Table 4.2 step 1, R74). -/

/-- The last steps of a chunk boundary: the slot of position `n` opens, and a complete slot of the position before it whose
window has opened seals. -/
def openAndSettle (n : Nat) (s : State) : State :=
  if s.hop.first + 1 ≤ n then
    if (slotAt (openSlot n s) (n - 1)).pos = n - 1 ∧ (slotAt (openSlot n s) (n - 1)).state = .complete ∧
        (slotAt (openSlot n s) (n - 1)).window = true
    then sealSlot (n - 1) false (openSlot n s) else openSlot n s
  else openSlot n s

theorem openSlot_length (n : Nat) (s : State) : (openSlot n s).hop.slots.length = s.hop.slots.length :=
  length_upd _ _ _

theorem slotAt_openSlot {s : State} (h : s.hop.slots.length = 3) (n k : Nat) :
    slotAt (openSlot n s) k = if k % 3 = n % 3 then { state := .opened, pos := n } else slotAt s k :=
  slotAt_modSlot h n k _

/-- Only the slot of the position before can seal as one opens. -/
theorem openAndSettle_cases (n : Nat) (s : State) : openAndSettle n s = openSlot n s ∨
    (1 ≤ n ∧ openAndSettle n s = sealSlot (n - 1) false (openSlot n s)) := by
  unfold openAndSettle
  split_ifs with hfirst hcomplete
  · exact .inr ⟨by omega, rfl⟩
  · exact .inl rfl
  · exact .inl rfl

theorem openAndSettle_nextOpen (n : Nat) (s : State) : (openAndSettle n s).hop.nextOpen = n + 1 := by
  obtain h | ⟨-, h⟩ := openAndSettle_cases n s
  · rw [h]
    rfl
  · rw [h, sealSlot_nextOpen]
    rfl

theorem openAndSettle_aba (n : Nat) (s : State) : (openAndSettle n s).aba = s.aba := by
  obtain h | ⟨-, h⟩ := openAndSettle_cases n s
  · rw [h]
    rfl
  · rw [h, sealSlot_aba]
    rfl

section
variable {n : Nat} {s : State} (hlen : s.hop.slots.length = 3)
include hlen

theorem slotAt_openAndSettle {k : Nat} (hk : 1 ≤ n → k % 3 ≠ (n - 1) % 3) :
    slotAt (openAndSettle n s) k = if k % 3 = n % 3 then { state := .opened, pos := n } else slotAt s k := by
  rw [← slotAt_openSlot hlen]
  obtain h | ⟨hn, h⟩ := openAndSettle_cases n s
  · rw [h]
  · rw [h, slotAt_sealSlot_other _ _ ((openSlot_length n s).trans hlen) (hk hn)]

theorem slotAt_openAndSettle_opens : slotAt (openAndSettle n s) n = { state := .opened, pos := n } :=
  (slotAt_openAndSettle hlen (by omega)).trans (if_pos rfl)

theorem slotAt_openAndSettle_next : slotAt (openAndSettle n s) (n + 1) = slotAt s (n + 1) :=
  (slotAt_openAndSettle hlen (by omega)).trans (if_neg (by omega))

theorem openAndSettle_seals (hn : 1 ≤ n) (hfirst : s.hop.first + 1 ≤ n) (hpos : (slotAt s (n - 1)).pos = n - 1)
    (hst : (slotAt s (n - 1)).state = .complete) (hw : (slotAt s (n - 1)).window = true) :
    (slotAt (openAndSettle n s) (n - 1)).state = .sealed := by
  have hslot : slotAt (openSlot n s) (n - 1) = slotAt s (n - 1) :=
    (slotAt_openSlot hlen n (n - 1)).trans (if_neg (by omega))
  have hseal : openAndSettle n s = sealSlot (n - 1) false (openSlot n s) := by
    simp only [openAndSettle, if_pos hfirst, hslot, hpos, hst, hw, and_self, if_true]
  rw [hseal, slotAt_sealSlot_same _ _ ((openSlot_length n s).trans hlen)]

end

/-! The chunk boundary (Table 4.2). -/

/-- Each step of a boundary that is the next one, from the state that the step before it left. -/
theorem exec_chunkBoundary {s c d e u x : State} {opens : Nat} {admitted stalls : List Nat} {t : Nat}
    (hrun : s.hop.running = true) (hnext : s.hop.nextOpen = opens)
    (hc : c = boundaryFrames admitted stalls (boundaryClears (judgeWaiting 1 takeData s)))
    (hd : d = if c.hop.first + 3 ≤ opens then endPosition (opens - 3) c else c)
    (he : e = if sealedDrained (opens - 2) d = true then d else takeResume d)
    (hu : u = if e.hop.first + 2 ≤ opens then beginPosition (opens - 2) t (deadline (opens - 2) e) else e)
    (hx : x = takeResume u) : exec (.chunkBoundary opens admitted stalls t) s = .next (openAndSettle opens x) := by
  subst hx hu he hd hc
  exact congrArg Host.Outcome.next (if_pos ⟨hrun, hnext.symm⟩)

theorem exec_chunkBoundary_notNext {s : State} {opens : Nat} (admitted stalls : List Nat) (t : Nat)
    (h : s.hop.running = false ∨ s.hop.nextOpen ≠ opens) :
    exec (.chunkBoundary opens admitted stalls t) s = .next s := by
  refine congrArg Host.Outcome.next (if_neg fun hnext => ?_)
  obtain ⟨hrun, hopens⟩ := hnext
  exact h.elim (fun hstop => by simp [hstop] at hrun) (fun hne => hne hopens.symm)

/-! A position whose consumption cannot begin, its time passing with the Abacus drained (05 R108). -/

section
variable (s : State) (j : Nat)

theorem captBegin_frame : (captBegin j s).hop = s.hop ∧ (captBegin j s).aba = s.aba ∧ (captBegin j s).tal = s.tal := by
  unfold captBegin
  split
  · split <;> exact ⟨rfl, rfl, rfl⟩
  · exact ⟨rfl, rfl, rfl⟩

/-- What retires generations touches the beams alone. -/
theorem retireGens_frame (k : Nat) : (retireGens k s).hop = s.hop ∧ (retireGens k s).aba = s.aba ∧
    (retireGens k s).tal = s.tal := by
  unfold retireGens
  dsimp only
  split <;> exact ⟨rfl, rfl, rfl⟩

/-- Generations are retired at the first position of a chunk (07 R143). -/
def retireAtChunk : State := if channelOf s j = 0 then retireGens (chunkOf s j) s else s

theorem retireAtChunk_frame : (retireAtChunk s j).hop = s.hop ∧ (retireAtChunk s j).aba = s.aba ∧
    (retireAtChunk s j).tal = s.tal := by
  unfold retireAtChunk
  split
  · exact retireGens_frame s _
  · exact ⟨rfl, rfl, rfl⟩

theorem beginPosition_notConsumed (t : Nat) (hno : consumes s = false) (hchg : s.bun.changeover = none)
    (hsched : s.aba.nextSched = none) :
    beginPosition j t s = captBegin j (retireAtChunk s j) := by
  have htake : takeChangeover j t s = s := by simp [takeChangeover, hchg]
  have hswitch : switchSched j s = s := by simp [switchSched, hsched]
  have hidle : consumes (retireAtChunk s j) = false := by
    obtain ⟨-, haba, -⟩ := retireAtChunk_frame s j
    rwa [consumes, haba]
  rw [beginPosition, htake, hswitch]
  exact congrArg (captBegin j) (if_neg (by exact Bool.eq_false_iff.mp hidle))

end

/-- Settles O10: the boundary's steps in their order, and what the opening of a slot leaves. -/
theorem chunkBoundaryOrder : Obligations.ChunkBoundaryOrder := by
  unfold Obligations.ChunkBoundaryOrder
  refine fun s opens admitted stalls t => ⟨?next, exec_chunkBoundary_notNext admitted stalls t,
    fun j => deadline_opened, ?notConsumed⟩
  case next =>
    intro hrun hnext c d e u x hc hd he hu hx
    rw [← takeResume_unlessSealedDrained] at he
    rw [← takeResume_eq] at hx
    have hhop : x.hop = u.hop := hx ▸ takeResume_hop u
    have hslot : ∀ k, slotAt x k = slotAt u k := fun k => by rw [slotAt, hhop, slotAt]
    refine ⟨_, exec_chunkBoundary hrun hnext hc hd he hu hx, openAndSettle_nextOpen opens x, openAndSettle_aba opens x, ?_⟩
    rw [← hhop]
    simp only [← hslot]
    exact fun hlen => ⟨slotAt_openAndSettle_opens hlen, slotAt_openAndSettle_next hlen, openAndSettle_seals hlen⟩
  case notConsumed =>
    intro j hno hchg hsched
    rw [beginPosition_notConsumed s j t hno hchg hsched]
    obtain ⟨hhop, haba, htal⟩ := captBegin_frame (retireAtChunk s j) j
    rw [hhop, haba, htal]
    exact retireAtChunk_frame s j

end Sys2Proof.Machine
end

section
/-! The prompt buffer: packets by block, the wait of an open block, its close, and the Hopper's counter clear (04 R79 to
R83). -/

namespace Sys2Proof.Machine

/-! PROMPT packets that passed orders 1 to 3 (R79, R80). -/

theorem exec_promptPacket {s s' : State} {lane : Nat} {b : List Byte} (h : takeDelivered lane 2 s = some (b, s'))
    (hf : foreign s' b = false) (hm : misroute s' b = 0) : exec (.promptPacket lane) s = .next (takePrompt b s') := by
  have hexec : exec (.promptPacket lane) s = .next ((judge s' b).getD (takePrompt b s')) := by
    show execPromptPacket lane s = _
    simp only [execPromptPacket, h]
  rw [hexec, judge_passes hf hm, Option.getD_none]

/-- With no block open, every block up to the highest opened counts as closed (log 118). -/
theorem promptLate_iff (h : Hopper) (n : Nat) :
    promptLate h n = true ↔ (∃ k, h.highest = some k ∧ n ≤ k) ∧ ∀ b ∈ h.blocks, b.num ≠ n := by
  cases hk : h.highest <;> simp [promptLate, hk]

def countPbLate (s : State) : State := modHop (fun h => hopCause 8 { h with pbLate := sat32 (h.pbLate + 1) }) s

def countPbDup (s : State) : State := modHop (fun h => { h with pbDup := sat32 (h.pbDup + 1) }) s

def countPbOverflow (s : State) : State :=
  modHop (fun h => hopCause 9 { h with pbOverflow := sat32 (h.pbOverflow + 1) }) s

/-- The packet needs a cell, and none of the 512 is free (R79). -/
def noCell (b : List Byte) (s : State) : Bool := decide (hBlank b ≠ 2) && decide (512 ≤ s.hop.cells)

section
variable {s : State} {b : List Byte}

theorem noCell_true (hb : hBlank b ≠ 2) (hc : 512 ≤ s.hop.cells) : noCell b s = true := by simp [noCell, hb, hc]

theorem noCell_false (h : hBlank b = 2 ∨ s.hop.cells < 512) : noCell b s = false := by
  rcases h with h | h <;> simp [noCell, h]

theorem takePrompt_late (h : promptLate s.hop (hIndex b / 64) = true) : takePrompt b s = countPbLate s := if_pos h

section
variable (hlate : promptLate s.hop (hIndex b / 64) = false)
include hlate

theorem takePrompt_inBlock {x : PbBlock} (hopen : s.hop.blocks.find? (fun x => x.num == hIndex b / 64) = some x) :
    takePrompt b s = if x.pairs.contains { channel := hChannel b, group := hGroup b } = true then countPbDup s
      else if noCell b s = true then countPbOverflow s else placePrompt b (hIndex b / 64) s := by
  simp only [takePrompt, hlate, hopen]
  rfl

/-- A packet without a cell opens no block (log 119). -/
theorem takePrompt_newBlock (hnone : s.hop.blocks.find? (fun x => x.num == hIndex b / 64) = none) :
    takePrompt b s = if noCell b s = true then countPbOverflow s
      else placePrompt b (hIndex b / 64) (openBlock (hIndex b / 64) s) := by
  simp only [takePrompt, hlate, hnone]
  rfl

end
end

/-! The wait and the close of an open block (R82). -/

theorem exec_promptWaitExpiry (n : Nat) (w : State) : exec (.promptWaitExpiry n) w =
    .next (if (judgeWaiting 2 takePrompt w).hop.blocks.any (fun b => b.num == n && b.waiting) = true then
      closeBlock n (judgeWaiting 2 takePrompt w) else judgeWaiting 2 takePrompt w) := rfl

/-- What an open block lacks. -/
def lackingPairs (s : State) (n : Nat) (b : PbBlock) : List PbPair :=
  (promptPairs s n).filter (fun p => !b.pairs.contains p)

/-- The Hopper after the close of block `n` that lacked `miss`. -/
def countClose (n : Nat) (miss : List PbPair) (h : Hopper) : Hopper :=
  { h with
    blocks := h.blocks.filter (fun b => decide (b.num ≠ n))
    pbShort := if miss = [] then h.pbShort else sat32 (h.pbShort + 1)
    pbMissing := if miss = [] then h.pbMissing else sat32 (h.pbMissing + miss.length)
    cause := if miss = [] then h.cause else setBits h.cause [7] }

theorem countClose_eq (n : Nat) (miss : List PbPair) (h : Hopper) : countClose n miss h =
    if miss.isEmpty = true then { h with blocks := h.blocks.filter (fun b => decide (b.num ≠ n)) }
    else hopCause 7 { h with
      blocks := h.blocks.filter (fun b => decide (b.num ≠ n))
      pbShort := sat32 (h.pbShort + 1), pbMissing := sat32 (h.pbMissing + miss.length) } := by
  cases miss <;> rfl

theorem closeBlock_eq {s : State} {n : Nat} {b : PbBlock} (hb : s.hop.blocks.find? (fun b => b.num == n) = some b) :
    closeBlock n s = passClose { num := n, missing := lackingPairs s n b }
      (modHop (countClose n (lackingPairs s n b)) s) := by
  simp only [closeBlock, hb, modHop, countClose_eq]
  rfl

/-- The prompt beams have a job with the close record. -/
theorem passClose_job (c : PbClose) (s : State) :
    ∃ x, x ∈ (passClose c s).beams.jobs ∧ x.num = c.num ∧ x.closed = some c := by
  by_cases h : s.beams.jobs.any (fun j => j.num == c.num) = true
  · obtain ⟨j, hj, hnum⟩ := List.any_eq_true.mp h
    have hjnum : j.num = c.num := by simpa using hnum
    refine ⟨{ j with closed := some c }, ?_, hjnum, rfl⟩
    simp only [passClose, modBeams_beams, if_pos h]
    exact List.mem_map.mpr ⟨j, hj, if_pos hjnum⟩
  · refine ⟨{ num := c.num, closed := some c, params := (promptFor s c.num).getD {} }, ?_, rfl, rfl⟩
    simp only [passClose, modBeams_beams, if_neg h]
    exact List.mem_append_right _ (List.mem_singleton_self _)

/-! The counter clear (R83, R451). -/

theorem exec_hopCounterClear {s : State} (h : dpRun s = true) : exec .hopCounterClear s =
    .next (modHop (fun h => if h.running = true then { h with clearPending := true } else clearHop h) s) :=
  congrArg Host.Outcome.next (if_pos h)

/-- Settles O9: packets judged at an instant, the seal of a slot, and the prompt buffer. -/
theorem sealingAndPrompt : Obligations.SealingAndPrompt := by
  unfold Obligations.SealingAndPrompt
  refine ⟨fun typ f s => ⟨judgeWaiting_none, ?judged⟩,
    fun s w j => ⟨settleSlot_seals, settleSlot_waits, settleSlot_notFull, ?window, ?short, ?full⟩,
    fun s w => ⟨?packet, promptLate_iff, ?expiry, ?close, ?clearLater, ?clearNow⟩⟩
  case judged =>
    intro p q hdel hp x r hq hx hr v hv
    rw [judgeWaiting_one (hq ▸ hdel) hp hx hr, ← hv]
    exact ⟨fun hf hm => by rw [judge_passes hf hm, Option.getD_none], fun hf => by rw [judge_foreign hf]; rfl⟩
  case window =>
    intro hs hrun hpos
    rw [exec_sealWindowOpen, ← hs]
    exact ⟨fun hst => by rw [openWindow_opened hrun hpos hst],
      fun hst hlow => by rw [openWindow_complete hrun hpos hst hlow]⟩
  case short =>
    intro deadline hlen hmiss
    dsimp only
    rw [slotAt_sealSlot_same j deadline hlen]
    refine ⟨rfl, rfl, fun k hk => slotAt_sealSlot_other j deadline hlen hk, ?_⟩
    rw [sealSlot_short hmiss]
    exact ⟨rfl, rfl, rfl, rfl, List.length_append, rfl⟩
  case full =>
    intro deadline hlen hmiss hblank
    dsimp only
    rw [slotAt_sealSlot_same j deadline hlen, sealSlot_full hmiss hblank]
    exact ⟨rfl, rfl, rfl, rfl, rfl⟩
  case packet =>
    intro lane b s' htake hf hm
    rw [exec_promptPacket htake hf hm]
    refine ⟨fun hlate => ?late, fun x hlate hopen => ?inBlock, fun hlate hnone => ?newBlock⟩
    case late => rw [takePrompt_late hlate]; rfl
    case inBlock =>
      rw [takePrompt_inBlock hlate hopen]
      refine ⟨fun hdup => ?dup, fun hnew hblank hcells => ?overflow, fun hnew hcell => ?placed⟩
      case dup => rw [if_pos hdup]; rfl
      case overflow => rw [if_neg (by exact Bool.eq_false_iff.mp hnew), if_pos (noCell_true hblank hcells)]; rfl
      case placed => rw [if_neg (by exact Bool.eq_false_iff.mp hnew), if_neg (by simp [noCell_false hcell])]
    case newBlock =>
      rw [takePrompt_newBlock hlate hnone]
      refine ⟨fun hcell => ?opens, fun hblank hcells => ?dropped⟩
      case opens => rw [if_neg (by simp [noCell_false hcell])]
      case dropped => rw [if_pos (noCell_true hblank hcells)]; rfl
  case expiry =>
    intro n hs
    rw [exec_promptWaitExpiry, ← hs]
    exact ⟨fun hwait => by rw [if_pos hwait], fun hno => by rw [if_neg (Bool.eq_false_iff.mp hno)]⟩
  case close =>
    intro n b hb
    exact ⟨_, closeBlock_eq hb, rfl, rfl, rfl, rfl, passClose_job _ _, rfl⟩
  case clearLater =>
    intro hdp hrun
    rw [exec_hopCounterClear hdp, modHop, if_pos hrun]
  case clearNow =>
    intro hdp hstop
    rw [exec_hopCounterClear hdp, modHop, if_neg (Bool.eq_false_iff.mp hstop)]
    rfl

end Sys2Proof.Machine
end

section
/-! What a preemption costs its frame (05 R101). -/

namespace Sys2Proof.Machine

theorem sliceDone_iff (s : State) (f : Frame) : sliceDone s f = true ↔ f.runs = [] ∨ s.aba.state ≠ .running := by
  simp only [sliceDone, Bool.or_eq_true, List.isEmpty_iff, decide_eq_true_eq]

/-- A frame has admitted part of its slice when a run of it has ended, or its current run has begun. -/
theorem hasAdmitted_iff (f : Frame) (admitted : Nat) :
    hasAdmitted f admitted = true ↔ f.fresh = false ∨ ∃ r rest, f.runs = r :: rest ∧ r.lo < admitted := by
  unfold hasAdmitted
  cases f.runs with
  | nil => simp
  | cons r rest => simp

/-- What the interruption of a run costs: only a correlation run has beads to save. -/
def interruptCost (n : Nat) : WorkItem → Nat × Bool
  | .beam _ _ => (128 * n + 272, false)
  | .pair _ _ => (128 * n + 400, true)

section
variable {s : State} {f : Frame} {admitted : Nat} (n : Nat)

/-- No run of the slice is interrupted: nothing of it has been admitted, or all of it. -/
theorem preemptCost_outside (h : sliceDone s f = true ∨ hasAdmitted f admitted = false) :
    preemptCost s f admitted n = (128 * n + 136, false) := by
  refine if_pos ?_
  rcases h with h | h
  · rw [h, Bool.true_or]
  · rw [h, Bool.not_false, Bool.or_true]

section
variable {r : Run} {rest : List Run} (hdone : sliceDone s f = false) (hadm : hasAdmitted f admitted = true)
  (hruns : f.runs = r :: rest)
include hdone hadm hruns

theorem preemptCost_of_run : preemptCost s f admitted n =
    if admitted ≤ r.lo ∨ f.stalled ∨ r.hi ≤ admitted then (128 * n + 144, false) else interruptCost n r.item := by
  unfold preemptCost
  rw [hdone, hadm, hruns]
  rfl

/-- Between two runs, or stalled at the end of one. -/
theorem preemptCost_atEnd (h : admitted ≤ r.lo ∨ r.hi ≤ admitted ∨ f.stalled = true) :
    preemptCost s f admitted n = (128 * n + 144, false) := by
  rw [preemptCost_of_run n hdone hadm hruns, if_pos (by tauto)]

theorem preemptCost_within (hlo : r.lo < admitted) (hhi : admitted < r.hi) (hst : f.stalled = false) :
    preemptCost s f admitted n = interruptCost n r.item := by
  rw [preemptCost_of_run n hdone hadm hruns, if_neg (by simp only [hst, Bool.false_eq_true, false_or]; omega)]

end

end

/-- Settles O12, by where the preemption falls: outside a run, at the end of one, or within one of either kind. -/
theorem preemptionCost : Obligations.PreemptionCost := by
  unfold Obligations.PreemptionCost
  intro s f admitted n
  refine ⟨preemptCost_outside n, fun hdone hadm r rest hruns => ⟨preemptCost_atEnd n hdone hadm hruns, ?within⟩,
    sliceDone_iff s f, hasAdmitted_iff f admitted⟩
  case within =>
    intro hlo hhi hst
    rw [preemptCost_within n hdone hadm hruns hlo hhi hst]
    exact ⟨fun set rk hitem => by rw [hitem, interruptCost], fun a b hitem => by rw [hitem, interruptCost]⟩

end Sys2Proof.Machine
end

section
/-! The Abacus's frames: the frame map, a bead's words, runs and their shadow beads, bead-store errors (05 R90 to R94, R104,
R109). -/

namespace Sys2Proof.Machine

/-! The frame map (R90). -/

theorem frameFit_iff (pass mask p : Nat) : frameFit pass mask p = true ↔ bit pass p = true ∧ bit mask p = false := by
  simp only [frameFit, Bool.and_eq_true, Bool.not_eq_true']

theorem frameServes_unfit {pass mask p : Nat} (h : frameFit pass mask p = false) : frameServes pass mask p = none :=
  if_pos (by rw [h]; rfl)

theorem frameServes_regular (pass mask g : Nat) {k : Nat} (hk : k < 8) : frameServes pass mask (9 * g + k) =
    if frameFit pass mask (9 * g + k) = true then some (8 * g + k) else none := by
  by_cases hfit : frameFit pass mask (9 * g + k) = true
  · have hg : (9 * g + k) / 9 = g := by omega
    have hmod : (9 * g + k) % 9 = k := by omega
    simp only [frameServes, hfit, hg, hmod, hk, Bool.not_true, Bool.false_eq_true, if_true, if_false]
  · rw [if_neg hfit, frameServes_unfit (Bool.eq_false_iff.mpr hfit)]

section
variable {pass mask g : Nat} (hfit : frameFit pass mask (9 * g + 8) = true)
include hfit

/-- A fit spare looks for the lowest unfit frame of its gallery. -/
theorem frameServes_spare : frameServes pass mask (9 * g + 8) =
    ((upTo 8).find? (fun i => !frameFit pass mask (9 * g + i))).map (fun i => 8 * g + i) := by
  have hg : (9 * g + 8) / 9 = g := by omega
  have hmod : (9 * g + 8) % 9 = 8 := by omega
  simp only [frameServes, hfit, hg, hmod, Bool.not_true, Bool.false_eq_true, lt_irrefl, if_false]

theorem frameServes_spare_idle (hall : ∀ i, i < 8 → frameFit pass mask (9 * g + i) = true) :
    frameServes pass mask (9 * g + 8) = none := by
  have hnone : (upTo 8).find? (fun i => !frameFit pass mask (9 * g + i)) = none := by
    simp only [upTo, List.find?_eq_none, List.mem_range, Bool.not_eq_true', Bool.not_eq_false]
    exact hall
  rw [frameServes_spare hfit, hnone, Option.map_none]

theorem frameServes_spare_stands_in {k : Nat} (hk : k < 8) (hbad : frameFit pass mask (9 * g + k) = false)
    (hlow : ∀ i, i < k → frameFit pass mask (9 * g + i) = true) :
    frameServes pass mask (9 * g + 8) = some (8 * g + k) := by
  have hfound : (upTo 8).find? (fun i => !frameFit pass mask (9 * g + i)) = some k := by
    simp only [upTo, List.find?_range_eq_some, List.mem_range, Bool.not_eq_true', Bool.not_not]
    exact ⟨hbad, hk, hlow⟩
  rw [frameServes_spare hfit, hfound, Option.map_some]

end

/-! The words of a cell's bead (R104). -/

theorem wrap_lt (w : Nat) (z : Int) : wrap w z < 2 ^ w := by
  have hpos : (0 : Int) < 2 ^ w := by positivity
  have hlt := Int.emod_lt_of_pos z hpos
  rw [wrap, Int.toNat_lt (Int.emod_nonneg z hpos.ne')]
  exact_mod_cast hlt

/-- A number that a two's-complement field can hold is read back from it. -/
theorem signed_wrap {w : Nat} {z : Int} (hlo : -(2 ^ w) ≤ z) (hhi : z < 2 ^ w) : signed (w + 1) (wrap (w + 1) z) = z := by
  have hdouble : (2 : Int) ^ (w + 1) = 2 * 2 ^ w := by ring
  have hcast : ((2 ^ (w + 1) : Nat) : Int) = 2 * 2 ^ w := by push_cast; ring
  rcases lt_or_ge z 0 with hneg | hnonneg
  · have hwrap : (wrap (w + 1) z : Int) = z + 2 * 2 ^ w := by
      rw [wrap, hdouble, ← Int.add_emod_right, Int.emod_eq_of_lt (by omega) (by omega), Int.toNat_of_nonneg (by omega)]
    rw [signed, if_pos (by omega)]
    omega
  · have hwrap : (wrap (w + 1) z : Int) = z := by
      rw [wrap, hdouble, Int.emod_eq_of_lt hnonneg (by omega), Int.toNat_of_nonneg hnonneg]
    rw [signed, if_neg (by omega)]
    exact hwrap

theorem length_beadWords (m : Mode) (b : Bead) : (beadWords m b).length = if m = .w8f then 2 else 1 := by
  cases m <;> rfl

/-- A bead of W4F or X4 work: one word. -/
theorem wordsBead_beadWords_narrow {m : Mode} {b : Bead} (hm : m ≠ .w8f) (hcount : b.count < 2 ^ 14)
    (hre : -(2 ^ 23) ≤ b.re ∧ b.re < 2 ^ 23) (him : -(2 ^ 23) ≤ b.im ∧ b.im < 2 ^ 23) :
    wordsBead m (beadWords m b) 0 = b := by
  have hword : ∀ x y c : Nat, x < 2 ^ 24 → y < 2 ^ 24 → c < 2 ^ 14 → ∀ n, n = (2 ^ 40 * x + 2 ^ 16 * y + c % 2 ^ 14) % 2 ^ 64 →
      n / 2 ^ 40 = x ∧ n / 2 ^ 16 % 2 ^ 24 = y ∧ n % 2 ^ 14 = c := by omega
  obtain ⟨hx, hy, hc⟩ := hword _ _ _ (wrap_lt 24 b.re) (wrap_lt 24 b.im) hcount _ rfl
  have hbead : wordsBead m (beadWords m b) 0 =
      ({ re := signed 24 (wrap 24 b.re), im := signed 24 (wrap 24 b.im), count := b.count } : Bead) := by
    cases m with
    | w8f => exact absurd rfl hm
    | w4f | x4 => simp only [wordsBead, beadWords, List.getD_cons_zero, BitVec.toNat_ofNat, hx, hy, hc]
  rw [hbead, signed_wrap hre.1 hre.2, signed_wrap him.1 him.2]

/-- A bead of W8F work: two words. -/
theorem wordsBead_beadWords_wide {b : Bead} (hcount : b.count < 2 ^ 14) (hre : -(2 ^ 47) ≤ b.re ∧ b.re < 2 ^ 47)
    (him : -(2 ^ 47) ≤ b.im ∧ b.im < 2 ^ 47) : wordsBead .w8f (beadWords .w8f b) 0 = b := by
  have hword : ∀ x c : Nat, x < 2 ^ 48 → c < 2 ^ 14 → ∀ n, n = (2 ^ 16 * x + c % 2 ^ 14) % 2 ^ 64 →
      n / 2 ^ 16 = x ∧ n % 2 ^ 14 = c := by omega
  have hsecond : ∀ y : Nat, y < 2 ^ 48 → 2 ^ 16 * y % 2 ^ 64 / 2 ^ 16 = y := by omega
  obtain ⟨hx, hc⟩ := hword _ _ (wrap_lt 48 b.re) hcount _ rfl
  have hbead : wordsBead .w8f (beadWords .w8f b) 0 =
      ({ re := signed 48 (wrap 48 b.re), im := signed 48 (wrap 48 b.im), count := b.count } : Bead) := by
    simp only [wordsBead, beadWords, Nat.mul_zero, Nat.zero_add, List.getD_cons_zero, List.getD_cons_succ,
      BitVec.toNat_ofNat, hx, hc, hsecond _ (wrap_lt 48 b.im)]
  rw [hbead, signed_wrap hre.1 hre.2, signed_wrap him.1 him.2]

/-! One frame of the list. -/

theorem frameAt_of_frames {s t : State} {k : Nat} {f : Frame → Frame} (h : t.aba.frames = upd s.aba.frames k f) (j : Nat) :
    frameAt t j = if k = j then (frameAt s j).map f else frameAt s j := by
  unfold frameAt
  rw [h, upd, List.getElem?_modify]
  split <;> simp

/-! The end of a run (R93, R94). -/

theorem runsOn_iff (s : State) (f : Frame) : runsOn s f = true ↔ s.aba.state = .running ∧ s.aba.consuming = true ∧
    f.preempt = none ∧ f.stalled = false ∧ f.weightStall = false ∧ f.carried = [] := by
  simp only [runsOn, Bool.and_eq_true, decide_eq_true_eq, Option.isNone_iff_eq_none, Bool.not_eq_true', List.isEmpty_iff,
    and_assoc]

section
variable {s : State} {k : Nat} {f : Frame} (hf : frameAt s k = some f)
include hf

theorem exec_runHandover_acts (hon : runsOn s f = true) (hruns : f.runs ≠ []) :
    exec (.runHandover k) s = .next (endRun k s) := by
  show execRunHandover k s = _
  simp only [execRunHandover, hf, hon, List.isEmpty_eq_false_iff.mpr hruns, Bool.not_false, Bool.and_true, if_true]

theorem exec_runHandover_ignored (hon : runsOn s f = false) : exec (.runHandover k) s = .next s := by
  show execRunHandover k s = _
  simp only [execRunHandover, hf, hon, Bool.false_and, Bool.false_eq_true, if_false]

section
variable {r : Run} {rest : List Run} (hruns : f.runs = r :: rest)
include hruns

theorem endRun_pair {a b : Nat} (hitem : r.item = .pair a b) (hshadow : f.shadow = none) :
    endRun k s = startRun k (modFrame k (fun f => { f with
      shadow := some { run := r, upTo := r.hi, beads := pairBeads s r a b r.hi }, runs := rest, fresh := false
      stalled := false }) s) := by
  have hof : shadowOf s r r.hi = { run := r, upTo := r.hi, beads := pairBeads s r a b r.hi } := by rw [shadowOf, hitem]
  simp only [endRun, hf, hruns, hitem, hshadow, hof, Option.isSome_none, Bool.false_eq_true, if_false]

/-- With its shadow beads still full the frame stalls. -/
theorem endRun_pair_stalls {a b : Nat} (hitem : r.item = .pair a b) (hshadow : f.shadow ≠ none) :
    endRun k s = { s with aba := { s.aba with
      frames := upd s.aba.frames k (fun f => { f with stalled := true }), cause := setBits s.aba.cause [2] } } := by
  simp only [endRun, hf, hruns, hitem, Option.isSome_iff_ne_none.mpr hshadow, if_true]
  rfl

theorem endRun_beam {set rk : Nat} (hitem : r.item = .beam set rk) :
    endRun k s = startRun k (modFrame k (fun f => { f with runs := rest, fresh := false })
      (beamRunDone r.pos set rk r.lo r.hi r.hi s)) := by
  simp only [endRun, hf, hruns, hitem]

end

/-! Shadow beads that empty (R94, R106, R123). -/

section
variable {sh : Shadow} (hsh : f.shadow = some sh) (cycles : Nat)
include hsh

theorem exec_shadowEmptied_waits
    (hroom : stagingRoom s (modeAt s (chunkOf s sh.run.pos)) (f.logical / 8) (shadowBytes s sh) = false) :
    exec (.shadowEmptied k cycles) s = .next s := by
  show execShadowEmptied k cycles s = _
  simp only [execShadowEmptied, hf, hsh, hroom, Bool.not_false, if_true]

section
variable {u v : State}
  (hroom : stagingRoom s (modeAt s (chunkOf s sh.run.pos)) (f.logical / 8) (shadowBytes s sh) = true)
  (hu : u = stageShadow f.logical sh s)
  (hv : v = modFrame k (fun g => { g with
    shadow := f.second.map (fun x => { x with beads := contextBeads u x.run f.ctx1 }), second := none, ctx1 := []
    stalled := false }) u)
include hroom hu hv

theorem exec_shadowEmptied_running (hst : f.stalled = false) : exec (.shadowEmptied k cycles) s =
    .next { v with aba := { v.aba with stallCycles := sat64 v.aba.stallCycles } } := by
  subst hv hu
  show execShadowEmptied k cycles s = _
  simp only [execShadowEmptied, hf, hsh, hroom, hst, Bool.not_true, Bool.false_eq_true, if_false]
  rfl

/-- The stall ends, and the run that waited hands its beads over. -/
theorem exec_shadowEmptied_stalled (hst : f.stalled = true) : exec (.shadowEmptied k cycles) s =
    .next (endRun k { v with aba := { v.aba with stallCycles := sat64 (v.aba.stallCycles + cycles) } }) := by
  subst hv hu
  show execShadowEmptied k cycles s = _
  simp only [execShadowEmptied, hf, hsh, hroom, hst, Bool.not_true, Bool.false_eq_true, if_false, if_true]
  rfl

end

end

end

/-! Bead-store errors (R92). -/

/-- The physical frame that serves a logical one changes. -/
def modPhys (logical : Nat) (g : PhysFrame → PhysFrame) (s : State) : State :=
  match physOf s logical with
  | some p => modAba (fun a => { a with phys := upd a.phys p g }) s
  | none => s

theorem modPhys_served {s : State} {logical p : Nat} (g : PhysFrame → PhysFrame) (h : physOf s logical = some p) :
    modPhys logical g s = { s with aba := { s.aba with phys := upd s.aba.phys p g } } := by
  rw [modPhys, h]; rfl

theorem modPhys_frame (logical : Nat) (g : PhysFrame → PhysFrame) (s : State) :
    ∃ ph, modPhys logical g s = { s with aba := { s.aba with phys := ph } } := by
  unfold modPhys
  split
  · exact ⟨_, rfl⟩
  · exact ⟨s.aba.phys, rfl⟩

theorem markFault_frame (logical : Nat) (s : State) :
    ∃ m, markFault logical s = { s with sys := { s.sys with faultMask := m } } := by
  unfold markFault
  split
  · exact ⟨_, rfl⟩
  · exact ⟨s.sys.faultMask, rfl⟩

@[simp] theorem bit_setBits_self (c k : Nat) : bit (setBits c [k]) k = true := by
  simp [bit, setBits, maskOf]

/-- `g` is frame `f` without the sums of its saved context `ctx`; everything else that it holds is kept. -/
def LosesSums (ctx : Nat) (f g : Frame) : Prop :=
  g.shadow = f.shadow ∧ g.preempt = f.preempt ∧ g.held = f.held ∧
  (ctx = 0 → g.ctx0 = f.ctx0.map (fun _ => 0) ∧ g.ctx1 = f.ctx1 ∧ g.second = f.second) ∧
  (ctx ≠ 0 → g.ctx1 = f.ctx1.map (fun _ => 0) ∧ g.ctx0 = f.ctx0 ∧ g.runs = f.runs)

theorem contextSaved_preempted {f : Frame} (h : contextSaved f 0 = true) :
    ∃ p r rest, f.preempt = some p ∧ f.runs = r :: rest := by
  rw [contextSaved, if_pos rfl] at h
  cases hp : f.preempt with
  | none => rw [hp] at h; exact absurd h Bool.false_ne_true
  | some p =>
    rw [hp, Bool.and_eq_true, Bool.not_eq_true', List.isEmpty_eq_false_iff] at h
    obtain ⟨r, rest, hruns⟩ := List.exists_cons_of_ne_nil h.2
    exact ⟨p, r, rest, rfl, hruns⟩

theorem contextSaved_drained {f : Frame} {ctx : Nat} (hctx : ctx ≠ 0) (h : contextSaved f ctx = true) :
    ∃ sh, f.second = some sh := by
  rw [contextSaved, if_neg hctx] at h
  exact Option.isSome_iff_exists.mp h

section
variable {s : State} {k : Nat} {f : Frame} (hf : frameAt s k = some f)
include hf

/-- Only the frame changes, and of it only the context lost. -/
theorem loseContext_frame {ctx : Nat} (h : contextSaved f ctx = true) :
    ∃ g, (loseContext k ctx s).1 = modFrame k g s ∧ LosesSums ctx f (g f) := by
  by_cases hctx : ctx = 0
  · subst hctx
    obtain ⟨p, r, rest, hp, hruns⟩ := contextSaved_preempted h
    simp only [loseContext, hf, hp, hruns, if_true]
    exact ⟨_, rfl, rfl, rfl, rfl, fun _ => ⟨rfl, rfl, rfl⟩, fun hne => absurd rfl hne⟩
  · obtain ⟨sh, hsh⟩ := contextSaved_drained hctx h
    simp only [loseContext, hf, hsh, if_neg hctx]
    exact ⟨_, rfl, rfl, rfl, rfl, fun h0 => absurd h0 hctx, fun _ => ⟨rfl, rfl, rfl⟩⟩

theorem exec_beadStoreError_corrected (ctx : Nat) : exec (.beadStoreError k ctx false) s =
    .next (modPhys f.logical (fun p => { p with
      ceCount := min 0xFFFF (p.ceCount + 1), cause := setBits p.cause [0] }) s) := by
  show execBeadStoreError k ctx false s = _
  simp only [execBeadStoreError, hf, Bool.not_false, if_true]
  rfl

theorem exec_beadStoreError_unsaved {ctx : Nat} (h : contextSaved f ctx = false) :
    exec (.beadStoreError k ctx true) s = .next s := by
  show execBeadStoreError k ctx true s = _
  simp only [execBeadStoreError, hf, h, Bool.not_true, Bool.false_eq_true, if_false]

theorem exec_beadStoreError_saved {ctx : Nat} (h : contextSaved f ctx = true) :
    exec (.beadStoreError k ctx true) s =
      let v := modAba (fun a => abaCause 5 { a with beadUe := sat32 (a.beadUe + 1) }) (markFault f.logical
        (modPhys f.logical (fun p => { p with cause := setBits p.cause [1] }) (loseContext k ctx s).1))
      .next (noteStat 3 (loseContext k ctx s).2.1 (loseContext k ctx s).2.2 0
        (8192 * chunkOf v (loseContext k ctx s).2.2) v) := by
  show execBeadStoreError k ctx true s = _
  simp only [execBeadStoreError, hf, h, Bool.not_true, Bool.false_eq_true, if_false, if_true]
  rfl

/-- An uncorrectable error loses the sums of the context that it struck, and is counted and reported. -/
theorem exec_beadStoreError_loses {ctx : Nat} (h : contextSaved f ctx = true) :
    ∃ t g, exec (.beadStoreError k ctx true) s = .next t ∧ t.aba.frames = upd s.aba.frames k g ∧ LosesSums ctx f (g f) ∧
      t.aba.beadUe = sat32 (s.aba.beadUe + 1) ∧ bit t.aba.cause 5 = true ∧
      t.hst.stat.length = s.hst.stat.length + 1 ∧ t = { s with aba := t.aba, sys := t.sys, hst := t.hst } := by
  obtain ⟨g, hlose, hsums⟩ := loseContext_frame hf h
  obtain ⟨ph, hphys⟩ := modPhys_frame f.logical (fun p => { p with cause := setBits p.cause [1] }) (modFrame k g s)
  obtain ⟨m, hmark⟩ := markFault_frame f.logical { modFrame k g s with aba := { (modFrame k g s).aba with phys := ph } }
  refine ⟨_, g, exec_beadStoreError_saved hf h, ?_⟩
  rw [hlose, hphys, hmark]
  exact ⟨rfl, hsums, rfl, bit_setBits_self _ 5, List.length_append, rfl⟩

end

/-! The counter clear (R109, R451). -/

theorem exec_abaCounterClear {s : State} (h : dpRun s = true) : exec .abaCounterClear s =
    .next (modAba (fun a => if s.hop.running = true then { a with clearPending := true } else clearAba a) s) :=
  congrArg Host.Outcome.next (if_pos h)

/-- Settles O11: the frame map, the words of a cell, and what each event does to a served frame. -/
theorem frameUse : Obligations.FrameUse := by
  unfold Obligations.FrameUse
  refine ⟨fun pass mask g _ => ⟨fun _ hk => frameServes_regular pass mask g hk, frameServes_unfit,
      frameServes_spare_idle, fun _ hk hfit => frameServes_spare_stands_in hfit hk, frameFit_iff pass mask⟩,
    fun m b hcount hnarrow hwide => ⟨?words, length_beadWords m b⟩,
    fun s k f hf => ⟨exec_runHandover_acts hf, exec_runHandover_ignored hf, runsOn_iff s f,
      fun _ _ _ _ hruns => endRun_pair hf hruns, fun _ _ _ _ hruns => endRun_pair_stalls hf hruns,
      fun _ _ _ _ hruns => endRun_beam hf hruns,
      fun sh cycles hsh => ⟨exec_shadowEmptied_waits hf hsh cycles, fun hroom u v hu hv =>
        ⟨exec_shadowEmptied_running hf hsh cycles hroom hu hv, exec_shadowEmptied_stalled hf hsh cycles hroom hu hv⟩⟩,
      fun p ctx hp => ?corrected, fun ctx hsaved => ?lost, fun _ => exec_beadStoreError_unsaved hf,
      fun hdp hrun => ?clearLater, fun hdp hstop => ?clearNow⟩⟩
  case words =>
    by_cases hm : m = .w8f
    · subst hm
      obtain ⟨hre, hre', him⟩ := hwide rfl
      exact wordsBead_beadWords_wide hcount ⟨hre, hre'⟩ him
    · obtain ⟨hre, hre', him⟩ := hnarrow hm
      exact wordsBead_beadWords_narrow hm hcount ⟨hre, hre'⟩ him
  case corrected => rw [exec_beadStoreError_corrected hf ctx, modPhys_served _ hp]
  case lost =>
    obtain ⟨t, g, ht, hframes, hsums, hue, hcause, hstat, hframe⟩ := exec_beadStoreError_loses hf hsaved
    refine ⟨t, ht, hue, hcause, hstat, fun g' hg' => ?_, fun j hj => ?_, hframe⟩
    · rw [frameAt_of_frames hframes, if_pos rfl, hf, Option.map_some, Option.some.injEq] at hg'
      exact hg' ▸ hsums
    · rw [frameAt_of_frames hframes, if_neg (Ne.symm hj)]
  case clearLater => rw [exec_abaCounterClear hdp, modAba, if_pos hrun]
  case clearNow =>
    rw [exec_abaCounterClear hdp, modAba, if_neg (Bool.eq_false_iff.mp hstop)]
    rfl

end Sys2Proof.Machine
end

section
/-! The tallies: a line promoted between the first and the last promotion of its integration, finished records posted to
the Hoist, the dump ring, and the counter clear (06 R116 to R119, R124, R126, R130, R131, R134, R135, R451, R452). -/

namespace Sys2Proof.Machine

/-! The event of a promotion engine (R124). -/

section
variable {s : State} {g : Nat} {inflight : List Nat}

theorem exec_linePromotion_promotes {l : StagedLine} {b : Bundle} {j : PromJob} (hl : nextLine s g = some l)
    (hb : s.bun.active = some b) (hj : jobAt s l.pos = some j) :
    exec (.linePromotion g false inflight) s = .next (modTal (inFlight inflight) (promote b j l s)) := by
  show execLinePromotion g false inflight s = _
  simp only [execLinePromotion, hl, hb, hj, Bool.false_eq_true, if_false]

theorem exec_linePromotion_idle {ue : Bool} (h : nextLine s g = none) :
    exec (.linePromotion g ue inflight) s = .next s := by
  show execLinePromotion g ue inflight s = _
  simp only [execLinePromotion, h]

end

/-! Where a line lies, what it holds, and what is written back (R116 to R119). -/

/-- Visibilities of a line. -/
def lineCount (b : Bundle) (l : StagedLine) : Nat := (lineVis b).getD l.pair 0

/-- Address of a line in its channel record, and of its count line. -/
def tallyLineAddr (b : Bundle) (j : PromJob) (l : StagedLine) : Nat :=
  recordAddr b j.integ.sched j.channel + lineOffset b j.integ.sched.format l.pair
def countLineAddr (b : Bundle) (j : PromJob) (l : StagedLine) : Nat :=
  countAddr b j.integ.sched j.channel + countOffset b l.pair

/-- What the tally holds of a line, and of its count line. -/
def heldLine (s : State) (b : Bundle) (j : PromJob) (l : StagedLine) : List Byte :=
  (pitRead s (tallyLineAddr b j l) (lineBytes j.integ.sched.format (lineCount b l))).1
def heldCounts (s : State) (b : Bundle) (j : PromJob) (l : StagedLine) : List Byte :=
  (pitRead s (countLineAddr b j l) (4 * lineCount b l)).1

/-- The line with its beads added, and whether it was rescaled; and its count line. -/
def addedLine (s : State) (b : Bundle) (j : PromJob) (l : StagedLine) : List Byte × Bool :=
  promoteLine j.integ.sched.format (heldLine s b j l) l.beads
def addedCounts (s : State) (b : Bundle) (j : PromJob) (l : StagedLine) : List Byte :=
  promoteCounts (heldCounts s b j l) l.beads

/-- The line written back to its own place, and its count line where the schedule has a count plane. -/
def writeBack (b : Bundle) (j : PromJob) (l : StagedLine) (s : State) : State :=
  let v := pitWrite (tallyLineAddr b j l) (addedLine s b j l).1 s
  if j.integ.sched.countPlane = true then pitWrite (countLineAddr b j l) (addedCounts s b j l) v else v

/-- Bytes that a promotion moves each way between the engine and pit memory. -/
def movedBytes (b : Bundle) (j : PromJob) (l : StagedLine) : Nat :=
  lineBytes j.integ.sched.format (lineCount b l) + if j.integ.sched.countPlane = true then 4 * lineCount b l else 0

/-- The job with one line less to promote, and with the bytes that the line's places held (R134). -/
def jobAfterLine (s : State) (b : Bundle) (j : PromJob) (l : StagedLine) : PromJob :=
  { j with
    linesLeft := j.linesLeft - 1, absent := j.absent + l.absent
    undo := (tallyLineAddr b j l, heldLine s b j l) ::
      (if j.integ.sched.countPlane = true then [(countLineAddr b j l, heldCounts s b j l)] else []) ++ j.undo }

/-- The line has left the staging, and its `n` visibilities and a rescale are counted. -/
def countLine (l : StagedLine) (n : Nat) (rescaled : Bool) : Tally → Tally := fun a => { a with
  staging := a.staging.erase l, promo := sat64 (a.promo + n)
  rescale := if rescaled = true then sat32 (a.rescale + 1) else a.rescale
  cause := setBits a.cause (if rescaled = true then [4] else []) }

theorem pitRead_undamaged {s : State} (h : s.pit.damaged = []) (a n : Nat) : (pitRead s a n).2 = false := by
  simp [pitRead, pitGet, h]

/-- A line that is neither fresh, nor of the last cycle, nor the position's last. -/
theorem promote_between {s : State} {b : Bundle} {j : PromJob} {l : StagedLine} (hbegun : j.begun = true)
    (hfresh : j.fresh = false) (hlast : j.last = false) (hleft : 1 < j.linesLeft) (hline : l.damaged = false)
    (hpit : s.pit.damaged = []) :
    promote b j l s = setJob (jobAfterLine s b j l) (modTal (countLine l (lineCount b l) (addedLine s b j l).2)
      (servePort 0 (movedBytes b j l + movedBytes b j l) (writeBack b j l s))) := by
  have hread := pitRead_undamaged hpit
  have hmore : j.linesLeft - 1 ≠ 0 := by omega
  cases hplane : j.integ.sched.countPlane <;>
    simp only [promote, beginJob, writeBack, movedBytes, jobAfterLine, hbegun, hfresh, hlast, hline, hread, hmore, hplane,
      Bool.or_self, Bool.false_or, Bool.false_and, Bool.not_true, Bool.not_false, Bool.false_eq_true,
      if_true, if_false, List.append_nil] <;> rfl

section
variable (b : Bundle) (j : PromJob) (l : StagedLine) (s : State)

theorem writeBack_frame : writeBack b j l s = { s with pit := (writeBack b j l s).pit } := by
  unfold writeBack
  split <;> rfl

theorem writeBack_mem : (writeBack b j l s).pit.mem =
    if j.integ.sched.countPlane = true then
      memWrite (memWrite s.pit.mem (tallyLineAddr b j l) (addedLine s b j l).1) (countLineAddr b j l) (addedCounts s b j l)
    else memWrite s.pit.mem (tallyLineAddr b j l) (addedLine s b j l).1 := by
  unfold writeBack
  split <;> rfl

/-- A byte of neither place keeps its value. -/
theorem memByte_writeBack_outside {x : Nat} (hwf : Memory.wf s.pit.mem = true)
    (hline : x < tallyLineAddr b j l ∨ tallyLineAddr b j l + (addedLine s b j l).1.length ≤ x)
    (hcount : j.integ.sched.countPlane = false ∨ x < countLineAddr b j l ∨
      countLineAddr b j l + (addedCounts s b j l).length ≤ x) :
    memByte (writeBack b j l s).pit.mem x = memByte s.pit.mem x := by
  rw [writeBack_mem]
  split
  case isTrue hplane =>
    have hout := hcount.resolve_left (by simp [hplane])
    rw [memByte_memWrite_out _ _ _ _ (memWrite_wf _ _ _ hwf) hout, memByte_memWrite_out _ _ _ _ hwf hline]
  case isFalse => exact memByte_memWrite_out _ _ _ _ hwf hline

end

/-- A job set anew stands in the place of the one of its position. -/
theorem jobAt_setJob {s : State} {p : Nat} {j j' : PromJob} (hj : jobAt s p = some j) (hpos : j'.pos = j.pos) :
    jobAt (setJob j' s) p = some j' := by
  have hkeeps : ((fun x : PromJob => x.pos == p) ∘ fun x => if x.pos = j'.pos then j' else x) = fun x => x.pos == p := by
    funext x
    by_cases hx : x.pos = j'.pos <;> simp [hx]
  show (s.tal.jobs.map fun x => if x.pos = j'.pos then j' else x).find? (fun x => x.pos == p) = some j'
  rw [List.find?_map, hkeeps, show s.tal.jobs.find? (fun x => x.pos == p) = some j from hj, Option.map_some, if_pos hpos.symm]

/-- Everything that a promotion between the first and the last changes (R124, R126, R134). -/
theorem exec_linePromotion_between {s : State} {g : Nat} {l : StagedLine} {b : Bundle} {j : PromJob} (inflight : List Nat)
    (hl : nextLine s g = some l) (hb : s.bun.active = some b) (hj : jobAt s l.pos = some j) (hbegun : j.begun = true) (hfresh : j.fresh = false) (hlast : j.last = false)
    (hleft : 1 < j.linesLeft) (hline : l.damaged = false) (hpit : s.pit.damaged = []) :
    ∃ t, exec (.linePromotion g false inflight) s = .next t ∧ t.pit.mem = (writeBack b j l s).pit.mem ∧
      t.tal.staging = s.tal.staging.erase l ∧ t.tal.promo = sat64 (s.tal.promo + lineCount b l) ∧
      t.tal.damaged = s.tal.damaged ∧ t.tal.galInflight = (upTo 4).map (fun q => min 65536 (inflight.getD q 0)) ∧
      t.tal.inflightPeak = max s.tal.inflightPeak t.tal.galInflight.sum ∧
      jobAt t l.pos = some (jobAfterLine s b j l) ∧ t = { s with tal := t.tal, pit := t.pit } := by
  have hexec := exec_linePromotion_promotes (inflight := inflight) hl hb hj
  rw [promote_between hbegun hfresh hlast hleft hline hpit, writeBack_frame b j l s] at hexec
  exact ⟨_, hexec, rfl, rfl, rfl, rfl, rfl, rfl, jobAt_setJob (j := j) hj rfl, rfl⟩

/-! Finished records pass to the Hoist (R130, R135). -/

section
variable {s : State} {r : RingRec} (hr : s.tal.ring.find? (fun r => !r.posted) = some r)
include hr

theorem exec_dumpRecordPosted_written (hw : r.written = true) : exec .dumpRecordPosted s = .next { s with
    hst := { s.hst with units := s.hst.units ++ [.dump { r with posted := true } 0] }
    tal := { s.tal with
      ring := s.tal.ring.map (fun x => if x = r then { r with posted := true } else x)
      dumps := sat32 (s.tal.dumps + 1)
      cause := if r.final then setBits s.tal.cause [0] else s.tal.cause } } := by
  show execDumpRecordPosted s = _
  simp only [execDumpRecordPosted, hr, hw, if_true]
  rfl

theorem exec_dumpRecordPosted_unfinished (hw : r.written = false) : exec .dumpRecordPosted s = .next s := by
  show execDumpRecordPosted s = _
  simp only [execDumpRecordPosted, hr, hw, Bool.false_eq_true, if_false]

end

/-! The ring of a schedule (R131, R452). -/

/-- A ring taken up changes no record, no count and no byte. -/
theorem adoptRing_keeps (sc : IntegSched) (s : State) : (adoptRing sc s).tal.ring = s.tal.ring ∧
    (adoptRing sc s).tal.dumpLost = s.tal.dumpLost ∧ (adoptRing sc s).pit = s.pit := by
  unfold adoptRing
  split <;> exact ⟨rfl, rfl, rfl⟩

section
variable {s : State} {sc : IntegSched}

theorem adoptRing_same (hbase : s.tal.ringBase = sc.ringBase) (hcap : s.tal.ringCap = sc.ringRecords) :
    adoptRing sc s = s := if_pos ⟨hbase, hcap⟩

theorem adoptRing_other (h : s.tal.ringBase ≠ sc.ringBase ∨ s.tal.ringCap ≠ sc.ringRecords) :
    adoptRing sc s = { s with tal := { s.tal with
      ringBase := sc.ringBase, ringCap := sc.ringRecords, ringHead := 0
      ringTail := if s.tal.ring = [] then 0 else s.tal.ringTail } } := by
  have hne : ¬ (s.tal.ringBase = sc.ringBase ∧ s.tal.ringCap = sc.ringRecords) := by tauto
  simp only [adoptRing, if_neg hne, modTal, List.isEmpty_iff]

variable (b : Bundle) {it : Integ} (c : Nat) (j : PromJob)

theorem ringTest_room (h : ringUsed (adoptRing it.sched s) < (adoptRing it.sched s).tal.ringCap) :
    (ringTest b it c j s).1.lost = j.lost ∧ (ringTest b it c j s).2.tal.dumpLost = s.tal.dumpLost := by
  obtain ⟨-, hlost, -⟩ := adoptRing_keeps it.sched s
  rw [show ringTest b it c j s = _ from if_neg (Nat.not_le.mpr h)]
  exact ⟨rfl, hlost⟩

theorem ringTest_full (h : (adoptRing it.sched s).tal.ringCap ≤ ringUsed (adoptRing it.sched s)) :
    (ringTest b it c j s).1.lost = true ∧ (ringTest b it c j s).2.tal.dumpLost = sat32 (s.tal.dumpLost + 1) ∧
    (ringTest b it c j s).2.tal.ring = s.tal.ring ∧ (ringTest b it c j s).2.pit = s.pit := by
  obtain ⟨hring, hlost, hpit⟩ := adoptRing_keeps it.sched s
  rw [show ringTest b it c j s = _ from if_pos h]
  exact ⟨rfl, congrArg (fun n => sat32 (n + 1)) hlost, hring, hpit⟩

end

/-! The counter clear (R135, R451). -/

theorem exec_talCounterClear {s : State} (h : dpRun s = true) : exec .talCounterClear s =
    .next (modTal (fun a => if s.hop.running = true then { a with clearPending := true } else clearTal a) s) :=
  congrArg Host.Outcome.next (if_pos h)

/-- Settles O16: a promotion in the middle of an integration, from the state that it leaves, and the dump ring. -/
theorem integrationLines : Obligations.IntegrationLines := by
  unfold Obligations.IntegrationLines
  refine ⟨?promotion, fun s g ue inflight => exec_linePromotion_idle, fun s => ⟨fun _ => exec_dumpRecordPosted_written,
    fun _ => exec_dumpRecordPosted_unfinished, fun _ => adoptRing_same, fun _ => adoptRing_other,
    fun b _ c j => ringTest_room b c j, fun b _ c j => ringTest_full b c j, fun hdp hrun => ?clearLater,
    fun hdp hstop => ?clearNow⟩⟩
  case promotion =>
    intro s g inflight l b j hwf hl hb hj hbegun hfresh hlast hleft hline hpit
    obtain ⟨t, hexec, hmem, hstaging, hpromo, hdamaged, hgal, hpeak, hjob, hframe⟩ :=
      exec_linePromotion_between inflight hl hb hj hbegun hfresh hlast hleft hline hpit
    refine ⟨t, hexec, hmem.trans (writeBack_mem b j l s), fun x hx hcount => ?_, hstaging, hpromo, hdamaged, hgal, hpeak,
      hjob, hframe⟩
    rw [hmem, memByte_writeBack_outside b j l s hwf hx hcount]
  case clearLater => rw [exec_talCounterClear hdp, modTal, if_pos hrun]
  case clearNow =>
    rw [exec_talCounterClear hdp, modTal, if_neg (Bool.eq_false_iff.mp hstop)]
    rfl

end Sys2Proof.Machine
end

section
/-! The beams: a component of a beam sum requantised, and a position's blocks handed to the Hoist (07 R149, R150). -/

namespace Sys2Proof.Machine

/-! Requantisation of one component (R149). -/

section
variable (shift : Nat) (v : Int)

/-- 8-bit output keeps to ±127. -/
theorem requant_wide : (requant shift false v).1 = max (-127) (min 127 (divHalfEven v (2 ^ shift))) := rfl

/-- 4-bit output keeps to ±7. -/
theorem requant_narrow : (requant shift true v).1 = max (-7) (min 7 (divHalfEven v (2 ^ shift))) := rfl

/-- A saturation is a component that is not its rounded sum. -/
theorem requant_saturates (w : Bool) :
    (requant shift w v).2 = if (requant shift w v).1 = divHalfEven v (2 ^ shift) then 0 else 1 := rfl

theorem requant_wide_ne_blank : (requant shift false v).1 ≠ -128 := by
  have hlow : -127 ≤ (requant shift false v).1 := le_max_left _ _
  omega

theorem requant_narrow_ne_blank : (requant shift true v).1 ≠ -8 := by
  have hlow : -7 ≤ (requant shift true v).1 := le_max_left _ _
  omega

end

/-! The handover of a position's blocks (R150). -/

/-- Units handed one after another stand behind the Hoist's units in that order. -/
theorem foldl_handUnit (f : Nat → HUnit) (ks : List Nat) (s : State) : ks.foldl (fun t k => handUnit (f k) t) s =
    { s with hst := { s.hst with units := s.hst.units ++ ks.map f } } := by
  induction ks generalizing s with
  | nil => rw [List.foldl_nil, List.map_nil, List.append_nil]
  | cons k ks ih =>
    rw [List.foldl_cons, ih, List.map_cons, List.append_cons]
    rfl

/-- The cause bit of a saturated component, set where there is one, changes nothing but the cause register. -/
theorem noteBeamSats_eq (n : Nat) (s : State) : (if n = 0 then s else modBeams (beamCause 0) s) =
    modBeams (fun b => { b with cause := if n = 0 then b.cause else setBits b.cause [0] }) s := by
  split <;> rfl

/-- Everything that the handover of the first position not yet handed over changes, once all its units have ended. -/
theorem exec_beamBlocksHandover_hands {s : State} {bp : BeamPos}
    (hfirst : s.beams.pos.find? (fun p => !p.handed) = some bp) (hdone : bp.seen = bp.setParams.length * bp.ranks * 8192) :
    exec (.beamBlocksHandover bp.pos) s = .next { s with
      hst := { s.hst with units := s.hst.units ++
        (upTo bp.setParams.length).map (fun k => .pkts (2 + k) ((upTo 128).map (beamPacket bp k))) }
      beams := { s.beams with
        blocks := sat64 (s.beams.blocks + 128 * bp.setParams.length)
        beamSat := sat32 (s.beams.beamSat + ((upTo bp.setParams.length).map (beamSats bp)).sum)
        cause := if ((upTo bp.setParams.length).map (beamSats bp)).sum = 0 then s.beams.cause else setBits s.beams.cause [0]
        pos := (s.beams.pos.map (fun p => if p.pos = bp.pos then { p with handed := true } else p)).filter
          (fun p => !(p.handed && p.summed)) } } := by
  show execBeamBlocksHandover bp.pos s = _
  simp only [execBeamBlocksHandover, hfirst, hdone, and_self, if_true, foldl_handUnit, noteBeamSats_eq]
  simp only [dropBeamPos, modBeamPos, modBeams]

/-- Settles O18: the requantised component lies within ±127 or ±7, and the counts and packets are read off the handover's
effect. -/
theorem beamRequantised : Obligations.BeamRequantised := by
  unfold Obligations.BeamRequantised
  refine ⟨fun shift v => ⟨requant_wide shift v, requant_narrow shift v, requant_saturates shift v,
    requant_wide_ne_blank shift v, requant_narrow_ne_blank shift v⟩, fun s bp hfirst hdone => ?handover⟩
  case handover => exact ⟨_, exec_beamBlocksHandover_hands hfirst hdone, rfl, rfl, rfl, rfl⟩

end Sys2Proof.Machine
end

section
/-! The Assay chain: samples that join a series' queue, the slot of a series, and the commands of the chain (08). -/

namespace Sys2Proof.Machine

/-! A sample is handed over to a series (R164). -/

section
variable {s : State} {n : Nat} (stamp : Nat) (v : Int)

theorem handOver_disabled (hoff : (seriesAt s n).params.enable = false) : handOver n stamp v s = s :=
  if_pos (by simp [hoff])

theorem handOver_full (hon : (seriesAt s n).params.enable = true) (hfull : 256 ≤ (seriesAt s n).queue.length) :
    handOver n stamp v s = modAssay (fun a => assayCause 1 { a with qdrop := sat32 (a.qdrop + 1) }) s :=
  (if_neg (by simp [hon])).trans (if_pos hfull)

theorem handOver_room (hon : (seriesAt s n).params.enable = true) (hroom : (seriesAt s n).queue.length < 256) :
    handOver n stamp v s =
      modSeries n (fun sr => { sr with queue := sr.queue ++ [{ stamp := stamp, value := v }] }) s :=
  (if_neg (by simp [hon])).trans (if_neg (by omega))

end

/-! Events join the Assayers' queues (R176). -/

/-- `t` is `s` but for the event queues, their lost marks and counters, and the cause register. -/
def EventsOnly (s t : State) : Prop :=
  ∃ queues lost events evqLost cause, t = modAssay (fun a => { a with
    queues := queues, lost := lost, events := events, evqLost := evqLost, cause := cause }) s

theorem EventsOnly.refl (s : State) : EventsOnly s s := ⟨_, _, _, _, _, rfl⟩

theorem EventsOnly.trans {s t u : State} (hst : EventsOnly s t) (htu : EventsOnly t u) : EventsOnly s u := by
  obtain ⟨_, _, _, _, _, rfl⟩ := hst
  obtain ⟨_, _, _, _, _, rfl⟩ := htu
  exact ⟨_, _, _, _, _, rfl⟩

theorem EventsOnly.foldl {α : Type} {f : State → α → State} (h : ∀ u x, EventsOnly u (f u x)) (l : List α)
    (s : State) : EventsOnly s (l.foldl f s) :=
  List.foldlRecOn l f (EventsOnly.refl s) (fun t hst x _ => hst.trans (h t x))

theorem queueEvent_eventsOnly (mask : Nat) (e : AssayEvent) (s : State) : EventsOnly s (queueEvent mask e s) := by
  have hcounted : EventsOnly s (modAssay (fun a => { a with events := sat64 (a.events + 1) }) s) := ⟨_, _, _, _, _, rfl⟩
  refine hcounted.trans (EventsOnly.foldl (fun u k => ?_) _ _)
  split
  · exact ⟨_, _, _, _, _, rfl⟩
  · exact ⟨_, _, _, _, _, rfl⟩

/-! The slot of a series (R164, R167, R174, R180). -/

theorem seriesAt_modSeries (n k : Nat) (f : Series → Series) (s : State) :
    seriesAt (modSeries n f s) k = if k = n ∧ n < s.assay.series.length then f (seriesAt s n) else seriesAt s k :=
  getD_upd _ _ _ _ _

/-- The probe registers take nothing from the chain itself. -/
theorem updateProbe_keeps (n : Nat) (a : Assay) : (updateProbe n a).series = a.series ∧ (updateProbe n a).slot = a.slot ∧
    (updateProbe n a).tours = a.tours ∧ (updateProbe n a).gap = a.gap ∧ (updateProbe n a).sat = a.sat := by
  unfold updateProbe
  split
  · split
    · exact ⟨rfl, rfl, rfl, rfl, rfl⟩
    · exact ⟨rfl, rfl, rfl, rfl, rfl⟩
  · exact ⟨rfl, rfl, rfl, rfl, rfl⟩

theorem assaySat_eq (n : Nat) (s : State) : assaySat n s = modAssay (fun a => { a with
    sat := if n = 0 then a.sat else sat32 (a.sat + n)
    cause := if n = 0 then a.cause else setBits a.cause [2] }) s := by
  unfold assaySat
  split <;> rfl

/-- The gaps that a slot took are counted. -/
def noteGaps (n : Nat) (s : State) : State :=
  if n = 0 then s else modAssay (fun a => assayCause 0 { a with gap := sat32 (a.gap + n) }) s

theorem noteGaps_eq (n : Nat) (s : State) : noteGaps n s = modAssay (fun a => { a with
    gap := if n = 0 then a.gap else sat32 (a.gap + n)
    cause := if n = 0 then a.cause else setBits a.cause [0] }) s := by
  unfold noteGaps
  split <;> rfl

/-- What the samples that the slot of series `n` processes do to the series, one after another through the chain. -/
def slotWork (s : State) (n : Nat) : ChainWork :=
  let sr := seriesAt s n
  let k := if sr.params.enable = true then min 64 (min sr.snap sr.queue.length) else 0
  (sr.queue.take k).foldl (chainSample n s.assay.banks) { sr := { sr with queue := sr.queue.drop k, snap := 0 } }

/-- The work of a slot taken over: the series, its counts and its events, but neither the probe nor the next slot. -/
def takeWork (n : Nat) (w : ChainWork) (s : State) : State :=
  w.ev.foldl (fun u e => queueEvent (seriesAt s n).params.mask e u)
    (noteGaps w.gaps (assaySat w.sats (modSeries n (fun _ => w.sr) s)))

theorem takeWork_eventsOnly (n : Nat) (w : ChainWork) (s : State) :
    EventsOnly (modAssay (fun a => { a with
      series := upd a.series n (fun _ => w.sr)
      sat := if w.sats = 0 then a.sat else sat32 (a.sat + w.sats)
      gap := if w.gaps = 0 then a.gap else sat32 (a.gap + w.gaps) }) s) (takeWork n w s) := by
  rw [takeWork, noteGaps_eq, assaySat_eq]
  refine EventsOnly.trans ?_ (EventsOnly.foldl (fun u e => queueEvent_eventsOnly _ e u) _ _)
  exact ⟨_, _, _, _, _, rfl⟩

theorem exec_seriesSlot_inTurn {s : State} {n : Nat} (hn : n < 1024) (hrun : s.assay.running = true)
    (hslot : s.assay.slot = n) : exec (.seriesSlot n) s =
      .next (modAssay (fun a => updateProbe n { a with slot := n + 1 }) (takeWork n (slotWork s n) s)) :=
  congrArg Host.Outcome.next (if_pos (by simp [hrun, hslot, hn]))

theorem exec_seriesSlot_outOfTurn {s : State} {n : Nat} (hslot : s.assay.slot ≠ n) : exec (.seriesSlot n) s = .next s :=
  congrArg Host.Outcome.next (if_neg (by simp [hslot]))

/-- Settles O22: the slot takes over the work of its own series, and the queue's three cases are those of the handover. -/
theorem assaySamples : Obligations.AssaySamples := by
  unfold Obligations.AssaySamples
  refine ⟨fun s n hn hlen => ⟨?inTurn, exec_seriesSlot_outOfTurn⟩, fun s n stamp v =>
    ⟨handOver_room stamp v, handOver_full stamp v, handOver_disabled stamp v⟩⟩
  case inTurn =>
    intro hrun hslot sr k w hsr hk hw
    have hwork : w = slotWork s n := by rw [hw, hk, hsr, slotWork]
    obtain ⟨queues, lost, events, evqLost, cause, htaken⟩ := takeWork_eventsOnly n w s
    have hseries : ∀ m, seriesAt (modSeries n (fun _ => w.sr) s) m = if m = n then w.sr else seriesAt s m := by
      intro m
      rw [seriesAt_modSeries, hlen]
      simp only [hn, and_true]
    obtain ⟨kseries, kslot, ktours, kgap, ksat⟩ := updateProbe_keeps n { (takeWork n w s).assay with slot := n + 1 }
    have hexec := exec_seriesSlot_inTurn hn hrun hslot
    rw [← hwork] at hexec
    refine ⟨_, hexec, ?_, fun m hm => ?_, kslot, ?_, ?_, ?_, ?_⟩
    · rw [seriesAt, modAssay_assay, kseries, htaken]
      exact (hseries n).trans (if_pos rfl)
    · rw [seriesAt, modAssay_assay, kseries, htaken]
      exact (hseries m).trans (if_neg hm)
    · rw [modAssay_assay, ktours, htaken]
      rfl
    · rw [modAssay_assay, kgap, htaken]
      rfl
    · rw [modAssay_assay, ksat, htaken]
      rfl
    · rw [htaken]
      rfl

/-! ASSAY_CONFIG (R173, R177). -/

section
variable {s : State} {n stamp : Nat} (freeze : Bool)

theorem requestFreeze_inTime (h : ∀ m, (seriesAt s n).maxStamp = some m → m < stamp) : requestFreeze n stamp freeze s =
    modSeries n (fun sr => { sr with requests := sr.requests ++ [{ stamp := stamp, freeze := freeze }] }) s := by
  cases hmax : (seriesAt s n).maxStamp with
  | none => simp [requestFreeze, hmax]
  | some m => simp [requestFreeze, hmax, Nat.not_le.mpr (h m hmax)]

theorem requestFreeze_late {m : Nat} (hmax : (seriesAt s n).maxStamp = some m) (hlate : stamp ≤ m) :
    requestFreeze n stamp freeze s =
      modAssay (fun a => assayCause 4 { a with freezeLate := sat32 (a.freezeLate + 1) })
        (modSeries n (fun sr => { sr with requests := sr.requests ++ [{ stamp := 0, freeze := freeze }] }) s) := by
  simp [requestFreeze, hmax, hlate]

end

section
variable {r : Req} (t : Nat) {s : State}

theorem assayConfig_blocker (freeze : Bool) (hop : b8 r 24 = if freeze then 1 else 2) (h25 : b8 r 25 = 0)
    (h28 : b32 r 28 = 0) (harg : r.arg = []) (hn : b16 r 26 < 64) : assayConfig r t s =
      { st := requestFreeze (b16 r 26) (b64 r 32) freeze s } := by
  have hrange : ¬ 63 < b16 r 26 := by omega
  cases freeze with
  | true => simp [assayConfig, hop, h25, h28, harg, hrange]
  | false => simp [assayConfig, hop, h25, h28, harg, hrange]

/-- A CONFIGURE without series and bank records passes every check that its reserved bits and its group mask pass. -/
theorem assayConfig_noRecords (hop : b8 r 24 = 0) (h25 : b8 r 25 < 2) (h27 : b8 r 27 = 0) (hseries : b16 r 28 = 0)
    (hbanks : b8 r 30 = 0) (h31 : b8 r 31 = 0) (h32 : b64 r 32 = 0) (hlen : r.arg.length = maskBytes s)
    (hmask : maskFits (chans s) (leAt r.arg 0 (maskBytes s)) = true) : assayConfig r t s =
      { st := modAssay (fun a => { a with staged := a.staged ++ [{
          series := [], banks := [], command := !s.bun.applying
          group := if bit (b8 r 25) 0 = true then some (leAt r.arg 0 (maskBytes s), b8 r 26) else none }] }) s
        stay := some .staged } := by
  have hreserved : ¬ 1 < b8 r 25 := by omega
  have hsrs : ∀ arg o, seriesRecords arg o 0 = [] := fun _ _ => rfl
  have hbks : ∀ arg o, bankRecords arg o 0 = [] := fun _ _ => rfl
  cases hact : s.bun.active <;>
    simp [assayConfig, assayConfigure, hop, hreserved, h27, hseries, hbanks, h31, h32, hlen, hmask, hsrs, hbks, hact]

end

/-! The probe selection and the counter clear (R179, R180). -/

section
variable {s : State}

theorem exec_assayProbeSelWrite (n : Nat) (hdp : dpRun s = true) :
    exec (.assayProbeSelWrite n) s = .next (probeSelect n s) :=
  congrArg Host.Outcome.next (if_pos hdp)

theorem exec_assayCounterClear_waits (hdp : dpRun s = true) (hrun : s.assay.running = true)
    (hstarted : s.assay.started = true) :
    exec .assayCounterClear s = .next (modAssay (fun a => { a with clearPending := true }) s) := by
  have hclear : assayClear s = modAssay (fun a => { a with clearPending := true }) s := by
    simp only [assayClear, modAssay, hrun, hstarted, Bool.and_self, if_true]
  exact congrArg Host.Outcome.next ((if_pos hdp).trans hclear)

theorem exec_assayCounterClear_beforeTour (hdp : dpRun s = true) (hstarted : s.assay.started = false) :
    exec .assayCounterClear s = .next (modAssay clearAssay s) := by
  have hclear : assayClear s = modAssay clearAssay s := by
    simp only [assayClear, modAssay, hstarted, Bool.and_false, Bool.false_eq_true, if_false]
  exact congrArg Host.Outcome.next ((if_pos hdp).trans hclear)

end

/-- Settles O23: the requests of a blocker in time and late, a staged CONFIGURE, the probe selection, and the clear. -/
theorem assayCommands : Obligations.AssayCommands := by
  unfold Obligations.AssayCommands
  refine fun r t s u => ⟨?freeze, fun m => ?release, ?configure, exec_assayProbeSelWrite, exec_assayCounterClear_waits,
    exec_assayCounterClear_beforeTour⟩
  case freeze =>
    intro htakes hop h25 h28 harg hn hearly
    have hmeaning := assayConfig_blocker (r := { r with opcode := 0x0601 }) (s := u) t true hop h25 h28 harg hn
    exact takes_ended (k := 0) assayConfig htakes
      (hmeaning.trans (congrArg (Out.mk · {} none 0) (requestFreeze_inTime true hearly)))
  case release =>
    intro htakes hop h25 h28 harg hn hmax hlate
    have hmeaning := assayConfig_blocker (r := { r with opcode := 0x0601 }) (s := u) t false hop h25 h28 harg hn
    exact takes_ended (k := 0) assayConfig htakes
      (hmeaning.trans (congrArg (Out.mk · {} none 0) (requestFreeze_late false hmax hlate)))
  case configure =>
    intro htakes hop h25 h27 hseries hbanks h31 h32 hlen hmask
    exact takes_stays assayConfig htakes
      (assayConfig_noRecords (r := { r with opcode := 0x0601 }) t hop h25 h27 hseries hbanks h31 h32 hlen hmask)

end Sys2Proof.Machine
end
section
/-! The words of the Assayer instructions (R184, R185, Tables 9.2 to 9.4): the fields of a word that is put together out
of placed fields, and each format read back. -/

namespace Sys2Proof.Machine

/-! Fields of a word. -/

section
variable {w lo : Nat}

@[simp] theorem field_or (u v : W32) (lo w : Nat) : field (u ||| v) lo w = field u lo w ||| field v lo w :=
  BitVec.extractLsb'_or

theorem getLsbD_place (lo k : Nat) (x : BitVec w) :
    (place lo x).getLsbD k = (decide (k < 32) && !decide (k < lo) && x.getLsbD (k - lo)) := by
  by_cases hk : k < 32
  · simp [place, hk]
  · simp [hk, BitVec.getLsbD_of_ge _ k (Nat.not_lt.mp hk)]

/-- A field is read back where it was placed. -/
@[simp] theorem field_place_same (x : BitVec w) (h : lo + w ≤ 32) : field (place lo x) lo w = x := by
  apply BitVec.eq_of_getLsbD_eq
  intro i hi
  rw [field, BitVec.getLsbD_extractLsb', getLsbD_place]
  simp [hi, show lo + i < 32 by omega]

/-- A placed field leaves 0 below it and above it. -/
@[simp] theorem field_place_disjoint {lo' w' : Nat} (x : BitVec w) (h : lo + w ≤ lo' ∨ lo' + w' ≤ lo) :
    field (place lo x) lo' w' = 0 := by
  apply BitVec.eq_of_getLsbD_eq
  intro i hi
  rw [field, BitVec.getLsbD_extractLsb', getLsbD_place]
  rcases h with habove | hbelow
  · simp [BitVec.getLsbD_of_ge x (lo' + i - lo) (by omega)]
  · simp [show lo' + i < lo by omega]

@[simp] theorem opBits_eq (op : BitVec 6) : opBits op = place 26 op := rfl

@[simp] theorem zeroBits_eq (v : W32) (lo w : Nat) : zeroBits v lo w = decide (field v lo w = 0) := rfl

/-- A single bit is a field of one bit. -/
theorem getElem_eq_field (v : W32) (k : Nat) (h : k < 32) : v[k] = (field v k 1)[0] := by
  simp [field, BitVec.getLsbD_eq_getElem h]

@[simp] theorem getElem_zero_bitOf (b : Bool) : (bitOf b)[0] = b := by
  cases b
  · rfl
  · rfl

end

@[simp] theorem opIf_true (o : AyrOp) : opIf true o = some o := rfl

/-! Functions and registers read back from their codes. -/

@[simp] theorem aluOfFn_fn (f : AluFn) : aluOfFn f.fn.toNat = some f := by
  cases f <;> rfl

/-- FN 12 is ABS alone. -/
theorem AluFn.fn_ne_abs (f : AluFn) : f.fn.toNat ≠ 12 := by
  cases f <;> decide

@[simp] theorem loopRegOf_code (r : LoopReg) : loopRegOf r.code.toNat = r := by
  cases r <;> rfl

/-! The formats with a function field or an opcode for each function. -/

theorem decodeAyr_encode_alu (f : AluFn) (dd ds dt : BitVec 4) :
    decodeAyr (encodeAyr (.alu f dd ds dt)) = some (.alu f dd ds dt) := by
  simp [decodeAyr, decodeAlu, encodeAyr, f.fn_ne_abs]

theorem decodeAyr_encode_abs (dd ds : BitVec 4) : decodeAyr (encodeAyr (.abs dd ds)) = some (.abs dd ds) := by
  have hfn : (12 : W32) = place 0 (12 : BitVec 6) := rfl
  simp [decodeAyr, decodeAlu, encodeAyr, hfn]

theorem decodeAyr_encode_imm (f : ImmFn) (dd ds : BitVec 4) (i : BitVec 18) :
    decodeAyr (encodeAyr (.imm f dd ds i)) = some (.imm f dd ds i) := by
  cases f <;> simp [decodeAyr, decodeAlu, encodeAyr, ImmFn.op]

theorem decodeAyr_encode_shift (f : ShiftFn) (dd ds : BitVec 4) (sh : BitVec 5) :
    decodeAyr (encodeAyr (.shift f dd ds sh)) = some (.shift f dd ds sh) := by
  cases f <;> simp [decodeAyr, decodeAlu, encodeAyr, ShiftFn.op]

theorem decodeAyr_encode_mac (f : MacFn) (ds dt : BitVec 4) (hs ht lden : Bool) (al : BitVec 3) (dl : BitVec 4) :
    decodeAyr (encodeAyr (.mac f ds dt hs ht lden al dl)) = some (.mac f ds dt hs ht lden al dl) := by
  cases f <;> simp [decodeAyr, decodeAlu, encodeAyr, MacFn.fn, getElem_eq_field]

theorem decodeAyr_encode_mem (f : MemFn) (d : BitVec 4) (a : BitVec 3) (post : Bool) (off : BitVec 18) :
    decodeAyr (encodeAyr (.mem f d a post off)) = some (.mem f d a post off) := by
  cases f <;> simp [decodeAyr, decodeMem, encodeAyr, MemFn.op, getElem_eq_field]

theorem decodeAyr_encode_brc (f : BrFn) (d : BitVec 4) (target : BitVec 14) :
    decodeAyr (encodeAyr (.brc f d target)) = some (.brc f d target) := by
  cases f <;> simp [decodeAyr, decodeMem, encodeAyr, BrFn.op]

/-- Settles O29, format by format: the opcode chooses the table and the entry, and every other field lies apart from the
rest of the word. -/
theorem ayrEncoding : Obligations.AyrEncoding := by
  unfold Obligations.AyrEncoding
  intro op
  cases op with
  | alu f dd ds dt => exact decodeAyr_encode_alu f dd ds dt
  | abs dd ds => exact decodeAyr_encode_abs dd ds
  | imm f dd ds i => exact decodeAyr_encode_imm f dd ds i
  | shift f dd ds sh => exact decodeAyr_encode_shift f dd ds sh
  | mac f ds dt hs ht lden al dl => exact decodeAyr_encode_mac f ds dt hs ht lden al dl
  | mem f d a post off => exact decodeAyr_encode_mem f d a post off
  | brc f d target => exact decodeAyr_encode_brc f d target
  | movi | movhi | mova | mfah | mta | clra => simp [decodeAyr, decodeAlu, encodeAyr]
  | movai | adda | movda | movad | br | call | jr | loop | loopi => simp [decodeAyr, decodeMem, encodeAyr]
  | mtl | mfl | pin | pout | nop | ei | di | wait | reti | halt => simp [decodeAyr, decodeRest, encodeAyr]

end Sys2Proof.Machine
end
section
/-! What each Assayer instruction writes on a core that fetches straight on (R183, R186, Tables 9.3 and 9.4). -/

namespace Sys2Proof.Machine

/-! One instruction of such a core. -/

section
variable {c u : AyrCore} {op : AyrOp} {pin : W32}

theorem loopCheck_straight (h : straight c) : loopCheck c = (c, c.pc + 1) := by
  obtain ⟨_, _, _, hloop⟩ := h
  exact if_neg (fun hend => hend.2 (hloop hend.1))

theorem commitLoad_none (h : c.load = none) : commitLoad c = c := by
  simp only [commitLoad, h]

theorem ageMtl_nil (h : c.mtl = []) : ageMtl c = c := by
  have hsame : { c with mtl := [] } = c := by rw [← h]
  unfold ageMtl
  rw [h]
  exact hsame

/-- An MTL write has seen its first fetch. -/
theorem ageMtl_new {q : LoopReg} {v : W32} (h : c.mtl = [(q, v, 3)]) : ageMtl c = { c with mtl := [(q, v, 2)] } := by
  simp [ageMtl, h]

theorem ayrStep_inline (h : straight c) (hop : op.isBranch = false) : ayrStep op pin c = tickOnce (ageMtl {
    (ayrEffect op pin c { c with portOld := [] }).1 with
    pc := c.pc + 1, acc1 := c.acc, acc2 := c.acc1, prev1 := op.kind, prev2 := c.prev1, started := false }) := by
  have hlk := loopCheck_straight h
  obtain ⟨hload, _, hslots, _⟩ := h
  have hcommit : commitLoad { c with portOld := [] } = { c with portOld := [] } := commitLoad_none hload
  unfold ayrStep
  rw [hlk]
  dsimp only
  rw [hcommit, if_neg (by simp [hop]), if_pos hslots]
  split <;> rfl

theorem ayrStep_branch (h : straight c) (hop : op.isBranch = true) : ayrStep op pin c = tickOnce (ageMtl {
    (ayrEffect op pin c { c with portOld := [] }).1 with
    pc := c.pc + 1, acc1 := c.acc, acc2 := c.acc1, prev1 := op.kind, prev2 := c.prev1, started := false
    slots := 2, target := (ayrEffect op pin c { c with portOld := [] }).2 }) := by
  have hlk := loopCheck_straight h
  obtain ⟨hload, _, _, _⟩ := h
  have hcommit : commitLoad { c with portOld := [] } = { c with portOld := [] } := commitLoad_none hload
  unfold ayrStep
  rw [hlk]
  dsimp only
  rw [hcommit, if_pos hop]
  split <;> rfl

/-- An instruction that is no branch writes what its effect does, and fetch goes on behind it. -/
theorem ayrStep_writes (h : straight c) (hop : op.isBranch = false)
    (heff : (ayrEffect op pin c { c with portOld := [] }).1 = { u with portOld := [] }) (hmtl : u.mtl = []) :
    ayrStep op pin c = ayrNext op.kind c u := by
  rw [ayrStep_inline h hop, heff]
  exact congrArg tickOnce (ageMtl_nil hmtl)

/-- A branch leaves two delay slots before its target. -/
theorem ayrStep_jumps {target : Option (BitVec 14)} (h : straight c) (hop : op.isBranch = true)
    (heff : ayrEffect op pin c { c with portOld := [] } = ({ u with portOld := [] }, target)) (hmtl : u.mtl = []) :
    ayrStep op pin c = ayrNext op.kind c { u with slots := 2, target := target } := by
  rw [ayrStep_branch h hop, heff]
  exact congrArg tickOnce (ageMtl_nil hmtl)

end

theorem startLoop_noMtl {c : AyrCore} (count : W32) (stop : BitVec 14) (h : c.mtl = []) :
    startLoop count stop { c with portOld := [] } =
      ({ c with ls := c.pc + 3, le := stop, lc := count, portOld := [] }, if count = 0 then stop + 1 else c.pc + 3) := by
  simp [startLoop, h]

/-! The values (R183). -/

theorem aluVal_eq {f : AluFn} {x y v : W32} (h : (f = .add ∧ v = x + y) ∨ (f = .sub ∧ v = x - y) ∨ (f = .and ∧ v = x &&& y) ∨
    (f = .or ∧ v = x ||| y) ∨ (f = .xor ∧ v = x ^^^ y) ∨ (f = .shl ∧ v = x <<< (y.toNat % 32)) ∨
    (f = .shra ∧ v = x.sshiftRight (y.toNat % 32)) ∨ (f = .shrl ∧ v = x >>> (y.toNat % 32)) ∨
    (f = .slt ∧ v = if x.toInt < y.toInt then 1 else 0) ∨ (f = .sltu ∧ v = if x.toNat < y.toNat then 1 else 0) ∨
    (f = .min ∧ v = if x.toInt < y.toInt then x else y) ∨ (f = .max ∧ v = if x.toInt < y.toInt then y else x)) :
    v = aluVal f x y := by
  obtain ⟨rfl, rfl⟩ | ⟨rfl, rfl⟩ | ⟨rfl, rfl⟩ | ⟨rfl, rfl⟩ | ⟨rfl, rfl⟩ | ⟨rfl, rfl⟩ | ⟨rfl, rfl⟩ | ⟨rfl, rfl⟩ |
    ⟨rfl, rfl⟩ | ⟨rfl, rfl⟩ | ⟨rfl, rfl⟩ | ⟨rfl, rfl⟩ := h
  all_goals simp [aluVal, BitVec.slt, BitVec.ult]

theorem immVal_eq {f : ImmFn} {x v : W32} {i : BitVec 18} (h : (f = .add ∧ v = x + i.signExtend 32) ∨
    (f = .and ∧ v = x &&& i.zeroExtend 32) ∨ (f = .or ∧ v = x ||| i.zeroExtend 32) ∨
    (f = .xor ∧ v = x ^^^ i.zeroExtend 32)) : v = immVal f x i := by
  obtain ⟨rfl, rfl⟩ | ⟨rfl, rfl⟩ | ⟨rfl, rfl⟩ | ⟨rfl, rfl⟩ := h <;> rfl

theorem shiftVal_eq {f : ShiftFn} {x v : W32} {sh : BitVec 5} (h : (f = .shl ∧ v = x <<< sh.toNat) ∨
    (f = .shra ∧ v = x.sshiftRight sh.toNat) ∨ (f = .shrl ∧ v = x >>> sh.toNat)) : v = shiftVal f x sh := by
  obtain ⟨rfl, rfl⟩ | ⟨rfl, rfl⟩ | ⟨rfl, rfl⟩ := h <;> rfl

theorem macVal_eq {f : MacFn} {acc : BitVec 40} {p v : Int} (h : (f = .mul ∧ v = p) ∨ (f = .mac ∧ v = acc.toInt + p) ∨
    (f = .msu ∧ v = acc.toInt - p)) : v = macVal f acc p := by
  obtain ⟨rfl, rfl⟩ | ⟨rfl, rfl⟩ | ⟨rfl, rfl⟩ := h <;> rfl

theorem branchTaken_eq {f : BrFn} {x : W32} {b : Bool} (h : (f = .eqz ∧ b = decide (x = 0)) ∨
    (f = .nez ∧ b = decide (x ≠ 0)) ∨ (f = .ltz ∧ b = decide (x.toInt < 0)) ∨ (f = .gez ∧ b = decide (0 ≤ x.toInt))) :
    b = branchTaken f x := by
  obtain ⟨rfl, rfl⟩ | ⟨rfl, rfl⟩ | ⟨rfl, rfl⟩ | ⟨rfl, rfl⟩ := h <;> rfl

theorem getLoop_eq {c : AyrCore} {q : LoopReg} {v : W32} (h : (q = .lc ∧ v = c.lc) ∨ (q = .ls ∧ v = c.ls.zeroExtend 32) ∨
    (q = .le ∧ v = c.le.zeroExtend 32) ∨ (q = .epc ∧ v = c.epc.zeroExtend 32)) : v = getLoop c q := by
  obtain ⟨rfl, rfl⟩ | ⟨rfl, rfl⟩ | ⟨rfl, rfl⟩ | ⟨rfl, rfl⟩ := h <;> rfl

theorem movhi_val (v : BitVec 16) (x : W32) :
    v ++ x.extractLsb' 0 16 = BitVec.ofNat 32 (v.toNat * 2 ^ 16 + x.toNat % 2 ^ 16) := by
  apply BitVec.eq_of_toNat_eq
  rw [BitVec.toNat_append, ← Nat.shiftLeft_add_eq_or_of_lt (BitVec.isLt _)]
  simp [Nat.shiftLeft_eq]
  omega

theorem accWindow_eq (acc : BitVec 40) (sh : Nat) : accWindow acc sh = BitVec.ofInt 32 (acc.toInt / 2 ^ sh) := by
  calc (acc.sshiftRight sh).truncate 32
    _ = (acc.sshiftRight sh).signExtend 32 := (BitVec.signExtend_eq_setWidth_of_le _ (by decide)).symm
    _ = BitVec.ofInt 32 (acc.toInt / 2 ^ sh) := by
      rw [BitVec.signExtend, BitVec.toInt_sshiftRight, Int.shiftRight_eq_div_pow, Nat.cast_pow]
      rfl

theorem accHigh_eq (acc : BitVec 40) : accHigh acc = BitVec.ofInt 32 (acc.toInt / 2 ^ 32) := by
  have hhigh : (acc.extractLsb' 32 8).toInt = acc.toInt / 2 ^ 32 := by
    have hlt := acc.isLt
    simp only [BitVec.toInt_eq_toNat_bmod, BitVec.extractLsb'_toNat, Int.bmod]
    omega
  rw [accHigh, BitVec.signExtend, hhigh]

/-- Settles O25: the instructions that go on behind themselves, by the value that they write; then the branches. -/
theorem ayrResults : Obligations.AyrResults := by
  unfold Obligations.AyrResults
  intro c pin d dx dy ar i sh h x y n
  have hmtl : c.mtl = [] := h.2.1
  refine ⟨?alu, ?abs, ?imm, ?shift, ?movi, ?movhi, ?mac, ?mova, ?mfah, ?mta, ?clra, ?load, ?loadPost, ?store, ?movai, ?adda,
    ?movda, ?movad, ?br, ?brc, ?call, ?jr, ?loop, ?loopi, ?mtl, ?mfl, ?pin, ?pout, ?nop, ?ei, ?di, ?wait, ?reti⟩
  case alu => exact fun f v hv => aluVal_eq hv ▸ ayrStep_writes h rfl rfl hmtl
  case imm => exact fun f v hv => immVal_eq hv ▸ ayrStep_writes h rfl rfl hmtl
  case shift => exact fun f v hv => shiftVal_eq hv ▸ ayrStep_writes h rfl rfl hmtl
  case movhi => exact fun v => movhi_val v (getD_ c d) ▸ ayrStep_writes h rfl rfl hmtl
  case mac =>
    intro f hs ht dl v hv
    rw [macVal_eq hv]
    exact ⟨ayrStep_writes h rfl rfl hmtl, ayrStep_writes h rfl rfl hmtl⟩
  case mova => exact accWindow_eq c.acc2 sh.toNat ▸ ayrStep_writes h rfl rfl hmtl
  case mfah => exact accHigh_eq c.acc2 ▸ ayrStep_writes h rfl rfl hmtl
  case load =>
    rintro f v (⟨rfl, rfl⟩ | ⟨rfl, rfl⟩)
    · exact ayrStep_writes h rfl rfl hmtl
    · exact ayrStep_writes h rfl rfl hmtl
  case loadPost =>
    rintro f v (⟨rfl, rfl⟩ | ⟨rfl, rfl⟩)
    · exact ayrStep_writes h rfl rfl hmtl
    · exact ayrStep_writes h rfl rfl hmtl
  case store =>
    rintro post adr rfl
    have haddr : (if post = true then getA c ar else getA c ar + i.truncate 17) = (memAddr c ar post i).1 := by
      cases post <;> rfl
    rw [haddr, Nat.mul_comm _ 4, Nat.mul_comm _ 2]
    exact ⟨ayrStep_writes h rfl rfl hmtl, ayrStep_writes h rfl rfl hmtl⟩
  case mtl =>
    intro q
    rw [ayrStep_inline h rfl]
    exact congrArg tickOnce (ageMtl_new (congrArg (· ++ [(q, x, 3)]) hmtl))
  case mfl => exact fun q v hv => getLoop_eq hv ▸ ayrStep_writes h rfl rfl hmtl
  case brc =>
    intro f t b hb
    rw [branchTaken_eq hb]
    exact ayrStep_jumps h rfl rfl hmtl
  case loop =>
    exact fun stop => ayrStep_jumps (u := { c with ls := c.pc + 3, le := stop, lc := x }) h rfl
      (congrArg (Prod.map id some) (startLoop_noMtl x stop hmtl)) hmtl
  case loopi =>
    intro k stop
    have hzero : k.zeroExtend 32 = 0 ↔ k = 0 := by bv_omega
    have hstart := startLoop_noMtl (k.zeroExtend 32) stop hmtl
    simp only [hzero] at hstart
    exact ayrStep_jumps (u := { c with ls := c.pc + 3, le := stop, lc := k.zeroExtend 32 }) h rfl
      (congrArg (Prod.map id some) hstart) hmtl
  case br => exact fun t => ayrStep_jumps h rfl rfl hmtl
  case call => exact fun t => ayrStep_jumps h rfl rfl hmtl
  case jr => exact ayrStep_jumps (u := c) h rfl rfl hmtl
  case reti => exact ayrStep_jumps (u := { c with retiIe := true }) h rfl rfl hmtl
  case movi | movai => exact fun v => ayrStep_writes h rfl rfl hmtl
  case pin | pout => exact fun q => ayrStep_writes h rfl rfl hmtl
  case abs | mta | clra | adda | movda | movad | nop | ei | di | wait => exact ayrStep_writes h rfl rfl hmtl

end Sys2Proof.Machine
end
section
/-! A running Assayer executes the instruction at its PC (R184, R185, R189). -/

namespace Sys2Proof.Machine

/-- The instruction acts on its core alone, and the core runs on: no port access, and not HALT. -/
def AyrOp.staysInCore : AyrOp → Bool
  | .pin _ _ | .pout _ _ | .halt => false
  | _ => true

/-- A POUT has executed (`u`): its port acts, and a PIN one after it still sees the ports as they stood before. -/
def afterPout (a : Nat) (d : BitVec 4) (port now : Nat) (s u : State) : State :=
  modAyr a (fun k => { k with portOld := (affectedPorts port).map (fun x => (x, portValue u a x now)) })
    (portWrite a port (getD_ (ayrAt s a) d) u)

/-- What an instruction does that its core can execute. -/
def ayrAct (a : Nat) (op : AyrOp) (now : Nat) (s : State) : State :=
  match op with
  | .pin _ p => modAyr a (fun c => ayrStep op (pinValue s a p.toNat now) (pinLatch p.toNat now c)) s
  | .pout d p => afterPout a d p.toNat now s (modAyr a (ayrStep op 0) s)
  | .halt => missedStop a (modAyr a (fun c => ayrCause 0 { drainCore (ayrStep op 0 c) with state := .halted }) s)
  | _ => modAyr a (ayrStep op 0) s

section
variable {s : State} {a : Nat} {op : AyrOp}

theorem ayrRun_cannot (e : MemErr) (now : Nat) (h : ayrCan a op s = false) : ayrRun a op e now s = s :=
  if_pos (by simp [h])

/-- The instruction meets no memory error. -/
theorem ayrRun_noError (now : Nat) (h : ayrCan a op s = true) : ayrRun a op .none now s = ayrAct a op now s := by
  unfold ayrRun
  rw [if_neg (by simp [h]), if_neg (by simp), if_neg (by simp)]
  cases op <;> rfl

theorem ayrAct_staysInCore (now : Nat) (hop : op.staysInCore = true) :
    ayrAct a op now s = modAyr a (ayrStep op 0) s := by
  cases op with
  | pin | pout | halt => cases hop
  | _ => rfl

/-- The row of such an instruction, which names the core and the instruction's fields. -/
theorem row_staysInCore (h : ayrCan a op s = true) (hop : op.staysInCore = true) :
    (.next (ayrRun a op .none 0 s) : Host.Outcome State Fault Refusal) = .next (modAyr a (ayrStep op 0) s) :=
  congrArg Host.Outcome.next ((ayrRun_noError 0 h).trans (ayrAct_staysInCore 0 hop))

end

/-- Settles O24: every clause is that a core executes an instruction that stays within it, read at one row. -/
theorem ayrInstructions : Obligations.AyrInstructions := by
  unfold Obligations.AyrInstructions
  intro s a d x y ar p hs ht ld i sh t
  refine ⟨fun op e now h => ayrRun_cannot e now h, ?_⟩
  and_intros
  all_goals
    intros
    exact row_staysInCore ‹_› rfl

end Sys2Proof.Machine
end
section
/-! Assayer ports: PIN and POUT, HALT, and the ports that act (R194 to R199, Table 9.6). -/

namespace Sys2Proof.Machine

theorem modAyr_modAyr (a : Nat) (f g : AyrCore → AyrCore) (s : State) :
    modAyr a g (modAyr a f s) = modAyr a (g ∘ f) s := by
  simp only [modAyr, upd, List.modify_modify_eq]

theorem finishOpen_noOpen (p : OpenCmd → Bool) (mk : OpenCmd → Reply) (t : Nat) {s : State} (h : s.cages.openCmds = []) :
    finishOpen p mk t s = s := finishOpen_none p mk t s (by simp [h])

/-! What HALT and a fault share: a core that stops by itself (R192, Table 9.9). -/

theorem missedStop_noOpen {s : State} (a : Nat) (h : s.cages.openCmds = []) :
    missedStop a s = modAyr a (fun c => { c with stopPending := false, stopCycles := 0 }) s :=
  congrArg (modAyr a _) (finishOpen_noOpen _ _ _ h)

theorem missedStop_modAyr {s : State} (a : Nat) (f : AyrCore → AyrCore) (h : s.cages.openCmds = []) :
    missedStop a (modAyr a f s) = modAyr a ((fun c => { c with stopPending := false, stopCycles := 0 }) ∘ f) s :=
  (missedStop_noOpen (s := modAyr a f s) a h).trans (modAyr_modAyr a f _ s)

/-! Ports that act (R194 to R199). -/

section
variable {s : State} {a : Nat} {v : W32}

theorem injectValue_notOwned
    (h : (ayrAt s a).injSeries < (ayrAt s a).ownFirst ∨
      (ayrAt s a).ownFirst + (ayrAt s a).ownCount ≤ (ayrAt s a).injSeries) :
    injectValue a v s = modAyr a rejectAyr s := if_neg (by omega)

theorem injectValue_owned (hlo : (ayrAt s a).ownFirst ≤ (ayrAt s a).injSeries)
    (hhi : (ayrAt s a).injSeries < (ayrAt s a).ownFirst + (ayrAt s a).ownCount) (hfits : sat24 v.toInt = v.toInt) :
    injectValue a v s =
      let n := (ayrAt s a).injSeries
      let u := handOver n (ayrAt s a).injStamp v.toInt s
      modAyr a (fun k => { k with injStamp := (k.injStamp + stepOf n (seriesAt u n).params) % 2 ^ 64 }) u := by
  unfold injectValue
  dsimp only
  rw [if_pos ⟨hlo, hhi⟩, hfits]
  simp only [if_true]

theorem freezeSeries_watched (h : bit (seriesAt s (v.toNat % 64)).params.mask a = true) :
    freezeSeries a v s = requestFreeze (v.toNat % 64) (ayrAt s a).frzStamp (bit v.toNat 8) s := if_pos h

theorem modAyr_requestTrigger_room (h : (ayrAt s a).requests.length < 16) :
    modAyr a (requestTrigger v) s = modAyr a (fun k => { k with
      requests := k.requests ++ [{ line := v.toNat % 8, stamp := k.trqStamp, info := k.trqInfo }] }) s :=
  modAyr_congr _ _ _ _ (if_neg (by omega))

theorem modAyr_requestTrigger_full (h : 16 ≤ (ayrAt s a).requests.length) :
    modAyr a (requestTrigger v) s = modAyr a (fun k => { k with
      trqLost := sat32 (k.trqLost + 1), cause := setBits k.cause [3] }) s :=
  modAyr_congr _ _ _ _ (if_pos h)

theorem modAyr_sendOut_room (h : (ayrAt s a).outbox.length < 16) (hne : (ayrAt s a).outbox ≠ []) :
    modAyr a sendOut s = modAyr a (fun k => { k with outbox := k.outbox ++ [k.outStage] }) s :=
  modAyr_congr _ _ _ _ ((if_neg (by omega)).trans (if_neg (by simp [hne])))

theorem modAyr_sendOut_full (h : 16 ≤ (ayrAt s a).outbox.length) : modAyr a sendOut s = modAyr a (fun k => { k with
    msgLost := sat32 (k.msgLost + 1), cause := setBits k.cause [3] }) s :=
  modAyr_congr _ _ _ _ (if_pos h)

theorem spectrumNow_running {b : Bundle} (t : Nat) (hact : s.bun.active = some b) (hrun : s.hop.running = true) :
    spectrumNow s t = spectrumAt b (fullTime s t) := by
  simp [spectrumNow, hact, hrun]

end

/-- Settles O27: the rows are PIN, POUT and HALT, of which POUT acts by the port that it names. -/
theorem ayrPorts : Obligations.AyrPorts := by
  unfold Obligations.AyrPorts
  intro s a d p t _ c v u after
  have hpout (q : BitVec 8) (h : ayrCan a (.pout d q) s = true) :
      (.next (ayrRun a (.pout d q) .none 0 s) : Host.Outcome State Fault Refusal) =
        .next (afterPout a d q.toNat 0 s (modAyr a (ayrStep (.pout d q) 0) s)) :=
    congrArg Host.Outcome.next (ayrRun_noError 0 h)
  refine ⟨fun h => congrArg Host.Outcome.next (ayrRun_noError _ h), fun b => spectrumNow_running t, hpout p,
    fun h hopen => congrArg Host.Outcome.next ((ayrRun_noError 0 h).trans (missedStop_modAyr a _ hopen)),
    ?tickLoad, ?evFree, ?injValue, ?frz, ?trqGo, ?outSend, ?inFree, rfl, rfl,
    injectValue_notOwned, injectValue_owned, freezeSeries_watched, modAyr_requestTrigger_room, modAyr_requestTrigger_full,
    modAyr_sendOut_room, modAyr_sendOut_full, rfl⟩
  all_goals
    rintro rfl
    exact hpout _

end Sys2Proof.Machine
end
section
/-! The events of an Assayer core, its window, and ASSAYER_LOAD and ASSAYER_RUN (R187 to R192, R199 to R204). -/

namespace Sys2Proof.Machine

/-! One core of the four. -/

theorem ayrAt_modAyr_self {s : State} {a : Nat} (f : AyrCore → AyrCore) (h : a < s.ayr.length) :
    ayrAt (modAyr a f s) a = f (ayrAt s a) := by
  rw [ayrAt_modAyr, if_pos ⟨rfl, h⟩]

theorem ayrAt_modAyr_ne {a b : Nat} (f : AyrCore → AyrCore) (s : State) (h : b ≠ a) : ayrAt (modAyr a f s) b = ayrAt s b := by
  rw [ayrAt_modAyr, if_neg (fun hb => h hb.1)]

/-! What the completion of earlier instructions and the passing of cycles leave as it was. -/

section
variable (c : AyrCore)

theorem setLoop_frame (q : LoopReg) (v : W32) : ∃ lc ls le epc,
    setLoop q v c = { c with lc := lc, ls := ls, le := le, epc := epc } := by
  cases q <;> exact ⟨_, _, _, _, rfl⟩

theorem foldl_setLoop_frame (l : List (LoopReg × W32 × Nat)) : ∃ lc ls le epc,
    l.foldl (fun c m => setLoop m.1 m.2.1 c) c = { c with lc := lc, ls := ls, le := le, epc := epc } := by
  induction l generalizing c with
  | nil => exact ⟨_, _, _, _, rfl⟩
  | cons m l ih =>
    obtain ⟨lc, ls, le, epc, hset⟩ := setLoop_frame c m.1 m.2.1
    obtain ⟨lc', ls', le', epc', hrest⟩ := ih { c with lc := lc, ls := ls, le := le, epc := epc }
    exact ⟨lc', ls', le', epc', by rw [List.foldl_cons, hset, hrest]⟩

theorem commitLoad_frame : ∃ d, commitLoad c = { c with d := d, load := none } := by
  unfold commitLoad
  split
  · exact ⟨_, rfl⟩
  next h => exact ⟨c.d, by rw [← h]⟩

theorem drainCore_frame : ∃ d lc ls le epc, drainCore c = { c with
    d := d, lc := lc, ls := ls, le := le, epc := epc, load := none, mtl := [], acc1 := c.acc, acc2 := c.acc, portOld := [] } := by
  obtain ⟨d, hload⟩ := commitLoad_frame c
  obtain ⟨lc, ls, le, epc, hmtl⟩ := foldl_setLoop_frame { c with d := d, load := none } c.mtl
  refine ⟨d, lc, ls, le, epc, ?_⟩
  unfold drainCore
  rw [hload]
  dsimp only
  rw [hmtl]

theorem drainCore_keeps : (drainCore c).pc = c.pc ∧ (drainCore c).ie = c.ie ∧ (drainCore c).acc = c.acc ∧
    (drainCore c).mtl = [] := by
  obtain ⟨d, lc, ls, le, epc, hdrain⟩ := drainCore_frame c
  rw [hdrain]
  exact ⟨rfl, rfl, rfl, rfl⟩

end

/-! Interrupts, WAIT, TICK, ILLEGAL and stops. -/

theorem stopCore_noOpen {s : State} (a t : Nat) (forced : Bool) (hopen : s.cages.openCmds = []) : stopCore a t forced s =
    modAyr a (fun c => { (if forced then c else commitLoad c) with
      state := .stopped, forced := forced, stopPending := false, stopCycles := 0 }) s :=
  finishOpen_noOpen _ _ _ hopen

/-- A core whose WAIT ends runs on, or takes its interrupt first (R189, R191). -/
def wakeCore (c : AyrCore) : AyrCore :=
  if c.ie then { enterInterrupt c.pc c with state := .running } else { c with state := .running }

theorem wakeCore_disabled {k : AyrCore} (n : Nat) (h : k.ie = false) :
    wakeCore (tickMany n (drainCore k)) = { tickMany n (drainCore k) with state := .running } := by
  obtain ⟨_, hie, _, _⟩ := drainCore_keeps k
  exact if_neg (by simp [tickMany, hie, h])

theorem wakeCore_interrupts {k : AyrCore} (n : Nat) (h : k.ie = true) :
    let w := wakeCore (tickMany n (drainCore k))
    w.state = .running ∧ w.epc = k.pc ∧ w.mtl = [] ∧ w.acc2 = k.acc ∧ w.ie = false ∧ w.pc = 4 := by
  obtain ⟨hpc, hie, hacc, hmtl⟩ := drainCore_keeps k
  intro w
  have hw : w = { enterInterrupt (drainCore k).pc (tickMany n (drainCore k)) with state := .running } :=
    if_pos (hie.trans h)
  rw [hw]
  exact ⟨rfl, hpc, hmtl, hacc, rfl, rfl⟩

section
variable {s : State} {a t n : Nat} (hdp : dpRun s = true) (ha : a < 4)
include hdp ha

theorem exec_interruptEntry_taken (hst : (ayrAt s a).state = .running) (hint : intDue s a = true)
    (hstop : stopDue (ayrAt s a) = false) :
    exec (.interruptEntry a) s = .next (modAyr a (fun c => enterInterrupt c.pc (commitLoad c)) s) :=
  congrArg Host.Outcome.next (if_pos (by simp [hdp, ha, hst, hint, hstop]))

theorem exec_waitWake_wakes (hst : (ayrAt s a).state = .waiting)
    (hc : causePending (modAyr a (fun k => tickMany n (drainCore k)) s) a = true) :
    exec (.waitWake a n) s = .next (modAyr a (wakeCore ∘ fun k => tickMany n (drainCore k)) s) := by
  rw [← modAyr_modAyr]
  exact congrArg Host.Outcome.next ((if_neg (by simp [hdp, ha, hst])).trans (if_pos hc))

theorem exec_illegalInstruction_faults (hst : (ayrAt s a).state = .running)
    (hint : intDue s a = false) (hstop : stopDue (ayrAt s a) = false)
    (hill : ∀ op, decodeAyr (imemAt (ayrAt s a) (ayrAt s a).pc) = some op → illegalHere (ayrAt s a) op = true) :
    exec (.illegalInstruction a .none) s = .next (ayrFault a 1 s) := by
  show execIllegalInstruction a .none s = _
  unfold execIllegalInstruction
  dsimp only
  rw [if_neg (by simp [hdp, ha, hst, hint, hstop])]
  split
  · rfl
  next op hop => rw [if_pos (hill op hop)]

theorem exec_tickExpiry_expires (hst : (ayrAt s a).state = .waiting) (htick : (ayrAt s a).tick ≠ 0) :
    exec (.tickExpiry a) s = .next (modAyr a (fun c => tickMany c.tick c) s) :=
  congrArg Host.Outcome.next (if_pos (by simp [hdp, ha, hst, htick]))

theorem exec_assayerStopCommit_stops (hst : (ayrAt s a).state = .running ∨ (ayrAt s a).state = .waiting)
    (hpend : (ayrAt s a).stopPending = true) (hint : interruptible (ayrAt s a) = true) :
    exec (.assayerStopCommit a t) s = .next (stopCore a t false s) :=
  congrArg Host.Outcome.next (if_pos (by simp [hdp, ha, hst, hpend, hint]))

theorem exec_forcedStop_stops (hst : (ayrAt s a).state = .running ∨ (ayrAt s a).state = .waiting)
    (hpend : (ayrAt s a).stopPending = true) (hint : interruptible (ayrAt s a) = false)
    (hlong : 1024 ≤ (ayrAt s a).stopCycles) :
    exec (.forcedStop a t) s = .next (stopCore a t true s) :=
  congrArg Host.Outcome.next (if_pos (by simp [hdp, ha, hst, hpend, hint, hlong]))

end

/-! The window (R193, R199). -/

section
variable {s : State} {a off : Nat} {v : W32}

theorem modAyr_inSend_room (h : (ayrAt s a).inbox.length < 16) :
    modAyr a inSend s = modAyr a (fun k => { k with inbox := k.inbox ++ [k.inStage] }) s :=
  modAyr_congr _ _ _ _ (if_neg (by omega))

theorem modAyr_inSend_full (h : 16 ≤ (ayrAt s a).inbox.length) :
    modAyr a inSend s = modAyr a (fun k => { k with msgLost := sat32 (k.msgLost + 1) }) s :=
  modAyr_congr _ _ _ _ (if_pos h)

theorem exec_assayerWindowWrite (hdp : dpRun s = true) (halign : off % 4 = 0) :
    exec (.assayerWindowWrite a off v) s = .next (windowStore a off v s) :=
  congrArg Host.Outcome.next (if_pos (by simp [hdp, halign]))

theorem windowStore_imem (h : off < 0x10000) (hrun : (ayrAt s a).state ≠ .running) (hwait : (ayrAt s a).state ≠ .waiting) :
    windowStore a off v s = modAyr a (fun k => { k with imem := memSet haltWord k.imem (off / 4) v }) s :=
  modAyr_congr _ _ _ _ ((if_pos h).trans (if_neg (by simp [hrun, hwait])))

theorem windowStore_imem_running (h : off < 0x10000) (hrun : (ayrAt s a).state = .running) :
    windowStore a off v s = modAyr a rejectAyr s :=
  modAyr_congr _ _ _ _ ((if_pos h).trans (if_pos (Or.inl hrun)))

theorem windowStore_dmem (hlo : 0x10000 ≤ off) (hhi : off < 0x30000) :
    windowStore a off v s = modAyr a (setDmem (off - 0x10000) 4 v) s :=
  modAyr_congr _ _ _ _ ((if_neg (by omega)).trans (if_pos hhi))

end

/-! ASSAYER_LOAD and ASSAYER_RUN (R200 to R202). -/

theorem ayrReply_running {s : State} {a : Nat} (h : (ayrAt s a).state = .running) :
    ayrReply s a = fields [(24, leBytes 1 2), (25, leBytes 1 (b2n (ayrAt s a).forced))] := by
  rw [ayrReply, h]
  rfl

theorem startCore_fields {s : State} {a : Nat} (boot : Nat) (h : a < s.ayr.length) :
    let k := ayrAt (startCore a boot s) a
    k.state = .running ∧ k.forced = false ∧ k.pc = (ayrAt s a).entry ∧ k.d = List.replicate 16 0 ∧ k.acc = 0 ∧
      k.ie = false ∧ k.imem = (ayrAt s a).imem ∧ k.dmem = (ayrAt s a).dmem := by
  intro k
  have hk : k = _ := ayrAt_modAyr_self _ h
  rw [hk]
  exact ⟨rfl, rfl, rfl, rfl, rfl, rfl, rfl, rfl⟩

/-- A CONTINUE takes up a core where it stopped (Table 9.9). -/
def continued (k : AyrCore) : AyrCore := { k with state := .running, started := true, prev1 := {}, prev2 := {} }

section
variable {r : Req} (t : Nat) {s : State}

theorem assayerLoad_argument (ha : b8 r 24 < 4) (h25 : b8 r 25 = 0)
    (hown : ownOk s (b8 r 24) (b16 r 28) (b16 r 30) = true) (hrun : (ayrAt s (b8 r 24)).state ≠ .running)
    (hwait : (ayrAt s (b8 r 24)).state ≠ .waiting) (himage : imageOk r.arg = true)
    (hdigest : digest128 (r.arg.drop 64) = (r.arg.drop 20).take 16) :
    assayerLoad r t s = { st := modAyr (b8 r 24) (loadImage r.arg (b16 r 28) (b16 r 30)) s } := by
  simp [assayerLoad, takeImage, imageDigestOk, bit, answer, h25, hown, hrun, hwait, himage, hdigest, ha]

theorem assayerLoad_running (ha : b8 r 24 < 4) (h25 : b8 r 25 = 0)
    (hown : ownOk s (b8 r 24) (b16 r 28) (b16 r 30) = true) (hrun : (ayrAt s (b8 r 24)).state = .running) :
    assayerLoad r t s = notInState s := by
  simp [assayerLoad, bit, h25, hown, hrun, ha]

theorem assayerRun_start (ha : b8 r 24 < 4) (h25 : b8 r 25 = 0) (hst : (ayrAt s (b8 r 24)).state = .loaded ∨
      (ayrAt s (b8 r 24)).state = .stopped ∨ (ayrAt s (b8 r 24)).state = .halted ∨ (ayrAt s (b8 r 24)).state = .faulted) :
    assayerRun r t s = answer (startCore (b8 r 24) 0 s) (ayrReply (startCore (b8 r 24) 0 s) (b8 r 24)) := by
  unfold assayerRun
  rcases hst with h | h | h | h <;> simp [h25, h, ha]

theorem assayerRun_stop (ha : b8 r 24 < 4) (h25 : b8 r 25 = 1) (hst : (ayrAt s (b8 r 24)).state = .running)
    (hpend : (ayrAt s (b8 r 24)).stopPending = false) : assayerRun r t s =
      { st := modAyr (b8 r 24) (fun k => { k with stopPending := true, stopCycles := 0 }) s
        stay := some .staged, key := b8 r 24 } := by
  simp [assayerRun, h25, hst, hpend, ha]

theorem assayerRun_continue (ha : b8 r 24 < 4) (h25 : b8 r 25 = 2) (hst : (ayrAt s (b8 r 24)).state = .halted) :
    let u := modAyr (b8 r 24) continued s
    assayerRun r t s = answer u (ayrReply u (b8 r 24)) := by
  simp only [assayerRun, h25, hst, Nat.not_le.mpr ha]
  rfl

end

/-- Settles O28: the events of a core, each from what it does when it is due; then the outcomes of the two commands. -/
theorem ayrControl : Obligations.AyrControl := by
  unfold Obligations.AyrControl
  refine ⟨fun s a t n off v hdp ha hopen => ?_, fun r t s u => ?_⟩
  · intro c
    refine ⟨exec_interruptEntry_taken hdp ha, ?interrupts, ?wakes, ?illegal, ?tick, ?outFree, ?inSend, ?inFull, ?imem,
      ?imemRunning, ?dmem, ?clear, ?stop, ?forced⟩
    case interrupts =>
      intro hst hc hie hlen
      obtain ⟨hrunning, hepc, hmtl, hacc, hoff, hpc⟩ := wakeCore_interrupts n hie
      have hself := ayrAt_modAyr_self (wakeCore ∘ fun k => tickMany n (drainCore k)) hlen
      refine ⟨_, exec_waitWake_wakes hdp ha hst hc, ?_⟩
      rw [hself]
      exact ⟨hrunning, hepc, hmtl, hacc, hoff, hpc, fun b hb => ayrAt_modAyr_ne _ s hb, rfl⟩
    case wakes =>
      intro hst hc hie
      rw [exec_waitWake_wakes hdp ha hst hc]
      exact congrArg Host.Outcome.next (modAyr_congr _ _ _ _ (wakeCore_disabled n hie))
    case illegal =>
      intro hst hint hstop hill
      rw [exec_illegalInstruction_faults hdp ha hst hint hstop hill]
      exact congrArg Host.Outcome.next (missedStop_modAyr a _ hopen)
    case tick =>
      intro hst htick
      rw [exec_tickExpiry_expires hdp ha hst htick]
      refine ⟨congrArg Host.Outcome.next (modAyr_congr _ _ _ _ rfl), Nat.sub_self _, ?_⟩
      simp [tickMany, htick]
    case outFree => exact congrArg Host.Outcome.next (if_pos hdp)
    case inSend => exact fun h => congrArg Host.Outcome.next ((if_pos hdp).trans (modAyr_inSend_room h))
    case inFull => exact fun h => congrArg Host.Outcome.next ((if_pos hdp).trans (modAyr_inSend_full h))
    case imem =>
      intro halign h hrun hwait
      rw [exec_assayerWindowWrite hdp halign, windowStore_imem h hrun hwait]
    case imemRunning =>
      intro halign h hrun
      rw [exec_assayerWindowWrite hdp halign, windowStore_imem_running h hrun]
      rfl
    case dmem =>
      intro halign hlo hhi
      rw [exec_assayerWindowWrite hdp halign, windowStore_dmem hlo hhi]
      rfl
    case clear => exact congrArg Host.Outcome.next (if_pos hdp)
    case stop =>
      intro hst hpend hint
      rw [exec_assayerStopCommit_stops hdp ha hst hpend hint]
      exact congrArg Host.Outcome.next (stopCore_noOpen a t false hopen)
    case forced =>
      intro hst hpend hint hlong
      rw [exec_forcedStop_stops hdp ha hst hpend hint hlong]
      exact congrArg Host.Outcome.next (stopCore_noOpen a t true hopen)
  · refine ⟨?load, ?loadRunning, ?start, ?stop, ?goOn⟩
    case load =>
      intro htakes ha h25 hown hrun hwait himage hdigest
      exact takes_ended (k := 0) assayerLoad htakes
        (assayerLoad_argument (r := { r with opcode := 0x0602 }) t ha h25 hown hrun hwait himage hdigest)
    case loadRunning =>
      intro htakes ha h25 hown hrun
      exact takes_ended (k := 0) assayerLoad htakes
        (assayerLoad_running (r := { r with opcode := 0x0602 }) t ha h25 hown hrun)
    case start =>
      intro htakes ha h25 hlen hst
      obtain ⟨hrunning, hforced, hfields⟩ := startCore_fields 0 hlen
      have hmeaning := assayerRun_start (r := { r with opcode := 0x0603 }) t ha h25 hst
      have hreply := ayrReply_running hrunning
      rw [hforced] at hreply
      exact ⟨_, takes_ended (k := 0) assayerRun htakes (hmeaning.trans (congrArg (answer _) hreply)), rfl, hrunning, hfields⟩
    case stop =>
      intro htakes ha h25 hst hpend
      exact takes_stays assayerRun htakes (assayerRun_stop (r := { r with opcode := 0x0603 }) t ha h25 hst hpend)
    case goOn =>
      intro htakes ha h25 hst hlen
      have hmeaning := assayerRun_continue (r := { r with opcode := 0x0603 }) t ha h25 hst
      have hself := ayrAt_modAyr_self continued hlen
      have hreply := ayrReply_running (congrArg AyrCore.state hself)
      rw [congrArg AyrCore.forced hself] at hreply
      exact takes_ended (k := 0) assayerRun htakes (hmeaning.trans (congrArg (answer _) hreply))

end Sys2Proof.Machine
end

section
/-! Trigger hits and the decision on a candidate (10 R206 to R210). -/

namespace Sys2Proof.Machine

/-! Edges on TRIG_IN_n (R206). -/

section
variable {s : State} {n held : Nat} {level : Bool} (tick : Nat)
  (hdp : dpRun s = true) (hn : n < 2) (hvio : supplyOn s vioG = true)
include hdp hn hvio

theorem trigIn_observed : ¬ ((!dpRun s || decide (1 < n) || !supplyOn s vioG) = true) := by
  have hlast : ¬ 1 < n := by omega
  simp [hdp, hlast, hvio]

theorem exec_trigInEdge_glitch (hshort : held ≤ s.trig.filter.getD n 0) (hedge : level ≠ s.trig.falling.getD n false) :
    exec (.trigInEdge n level held tick) s = .next (modTrig (fun t => { t with inGlitch := sat32 (t.inGlitch + 1) }) s) :=
  congrArg Host.Outcome.next ((if_neg (trigIn_observed hdp hn hvio)).trans
    ((if_pos hshort).trans (if_pos (bne_iff_ne.mpr hedge))))

theorem exec_trigInEdge_released (hlong : s.trig.filter.getD n 0 < held) (hedge : level = s.trig.falling.getD n false) :
    exec (.trigInEdge n level held tick) s =
      .next (modTrig (fun t => { t with level := upd t.level n (fun _ => level) }) s) :=
  congrArg Host.Outcome.next ((if_neg (trigIn_observed hdp hn hvio)).trans
    ((if_neg (by omega)).trans (if_neg (by simp [hedge]))))

/-- The hit of an edge carries the array time 6 samples before the sample that first showed it: a sample is 0.8 ns, so
`4 * 65536 / 5` of array time in units of 2^-16 ns. -/
theorem exec_trigInEdge_hit {b : Bundle} (hlong : s.trig.filter.getD n 0 < held)
    (hedge : level ≠ s.trig.falling.getD n false) (hact : s.bun.active = some b) :
    exec (.trigInEdge n level held tick) s = .next (modTrig (fun t => { t with
      level := upd t.level n (fun _ => level)
      edges := t.edges ++ [(32 + n, spectrumAt b ((tick - 6) * 4 * 65536 / 5),
        (tick - 6) * 4 * 65536 / 5 / 65536 % 1000000000)] }) s) := by
  refine congrArg Host.Outcome.next ((if_neg (trigIn_observed hdp hn hvio)).trans
    ((if_neg (by omega)).trans ((if_pos (bne_iff_ne.mpr hedge)).trans ?_)))
  simp only [modTrig, hact]

end

/-! The store of hits (R207). -/

theorem searchCond_notArmed (h : Hit) {c : Nat} {t : Trig} (hoff : bit t.armed c = false) : searchCond h c t = t :=
  if_pos (by simp [hoff])

theorem foldl_searchCond_noneArmed (h : Hit) {t : Trig} (hnone : t.armed = 0) (cs : List Nat) :
    cs.foldl (fun u c => searchCond h c u) t = t := by
  induction cs with
  | nil => rfl
  | cons c cs ih => rw [List.foldl_cons, searchCond_notArmed h (by simp [hnone, bit]), ih]

section
variable {t : Trig} (input stamp info : Nat)

theorem takeHit_room_noneArmed (hroom : t.hits.length < 256) (hnone : t.armed = 0) : takeHit input stamp info t = { t with
    hits := t.hits ++ [{ input := input, stamp := stamp, info := info, order := t.nextOrder }]
    nextOrder := t.nextOrder + 1, hitCount := sat32 (t.hitCount + 1) } := by
  refine (if_neg (by omega)).trans (foldl_searchCond_noneArmed _ ?_ _)
  exact hnone

theorem takeHit_full (hfull : 256 ≤ t.hits.length) : takeHit input stamp info t =
    { t with hitLost := sat32 (t.hitLost + 1), cause := setBits t.cause [1] } :=
  if_pos hfull

end

/-- The arrival of the oldest trigger request of an Assayer, whatever the store then does with the hit. -/
theorem exec_hitArrival_request {s : State} {n : Nat} {q : TrigReq} {rest : List TrigReq} (hdp : dpRun s = true)
    (hn : n < 4) (hreq : (ayrAt s n).requests = q :: rest) : exec (.hitArrival n) s =
      .next { modAyr n (fun a => { a with requests := rest, trqSent := sat32 (a.trqSent + 1) }) s with
        trig := takeHit (8 * n + q.line) q.stamp q.info s.trig } := by
  show execHitArrival n s = _
  simp only [execHitArrival, hdp, hn, hreq, if_true, Bool.not_true, Bool.false_eq_true, if_false]
  rfl

/-! The decision on a candidate (R209, R210). -/

/-- A hit that vetoes candidate `c` of condition `cd` stands in the store. -/
def vetoStands (cd : Condition) (c : Candidate) (hits : List Hit) : Bool :=
  hits.any (fun h => bit cd.vetoMask h.input && decide (stampDist h.stamp c.stamp ≤ cd.vetoW))

/-- Candidate `c` leaves its list with no veto: its condition's prescale counter becomes `counter`, and the deadtime from
its stamp is in force. -/
def passVeto (cond counter : Nat) (c : Candidate) (t : Trig) : Trig := { t with
  candidates := t.candidates.erase c
  conds := upd t.conds cond (fun x => { x with counter := counter, deadFrom := x.deadFrom ++ [c.stamp] }) }

theorem passVeto_actions (cond counter k : Nat) (c : Candidate) (t : Trig) :
    ((passVeto cond counter c t).conds.getD k {}).outputs = (t.conds.getD k {}).outputs ∧
    ((passVeto cond counter c t).conds.getD k {}).freeze = (t.conds.getD k {}).freeze ∧
    ((passVeto cond counter c t).conds.getD k {}).record = (t.conds.getD k {}).record := by
  rw [show (passVeto cond counter c t).conds = upd t.conds cond _ from rfl, getD_upd]
  split
  next hk => obtain ⟨rfl, _⟩ := hk; exact ⟨rfl, rfl, rfl⟩
  · exact ⟨rfl, rfl, rfl⟩

/-- A firing that drives no output, freezes nothing and is not recorded takes a number and is counted (R210). -/
theorem fire_noAction {c : Candidate} {s : State} (tick : Nat) (hout : (s.trig.conds.getD c.cond {}).outputs = 0)
    (hfreeze : (s.trig.conds.getD c.cond {}).freeze = false) (hrec : (s.trig.conds.getD c.cond {}).record = false) :
    fire c tick s = modTrig (fun t => { t with
      cause := setBits t.cause [0], number := (t.number + 1) % 2 ^ 64, fired := sat64 (t.fired + 1)
      conds := upd t.conds c.cond (fun x => { x with fired := sat32 (x.fired + 1) }) }) s := by
  have hnone : bitsSet 4 0 = [] := by decide
  simp only [fire, hout, hfreeze, hrec, hnone, driveAll, Bool.false_eq_true, if_false]
  rfl

section
variable {s : State} {cond : Nat} {c : Candidate} (tick : Nat) (hdp : dpRun s = true)
  (hfirst : s.trig.candidates.find? (fun x => x.cond == cond) = some c)
include hdp hfirst

theorem exec_candidateDecision_vetoed (hveto : vetoStands (s.trig.conds.getD cond {}) c s.trig.hits = true) :
    exec (.candidateDecision cond tick) s = .next (modTrig (fun t => { t with
      candidates := t.candidates.erase c, vetoed := sat32 (t.vetoed + 1) }) s) := by
  show execCandidateDecision cond tick s = _
  simp only [execCandidateDecision, hfirst]
  exact congrArg Host.Outcome.next ((if_neg (by simp [hdp])).trans (if_pos hveto))

/-- With no veto the prescale counter decides; the deadtime begins whether the candidate fires or not. -/
theorem exec_candidateDecision_unvetoed (hveto : vetoStands (s.trig.conds.getD cond {}) c s.trig.hits = false) :
    exec (.candidateDecision cond tick) s = .next (
      if (s.trig.conds.getD cond {}).prescale ≤ (s.trig.conds.getD cond {}).counter + 1
      then fire c tick (modTrig (passVeto cond 0 c) s)
      else modTrig (fun t => { passVeto cond ((s.trig.conds.getD cond {}).counter + 1) c t with
        prescaled := sat32 (t.prescaled + 1) }) s) := by
  show execCandidateDecision cond tick s = _
  simp only [execCandidateDecision, hfirst]
  refine congrArg Host.Outcome.next ((if_neg (by simp [hdp])).trans ((if_neg (ne_true_of_eq_false hveto)).trans ?_))
  by_cases hpass : (s.trig.conds.getD cond {}).prescale ≤ (s.trig.conds.getD cond {}).counter + 1
  case pos =>
    simp only [hpass, decide_true, if_true]
    rfl
  case neg =>
    have hconds := modify_congr_getD s.trig.conds cond
      (fun x => { x with counter := x.counter + 1, deadFrom := x.deadFrom ++ [c.stamp] })
      (fun x => { x with counter := (s.trig.conds.getD cond {}).counter + 1, deadFrom := x.deadFrom ++ [c.stamp] }) {} rfl
    simp only [hpass, decide_false, Bool.false_eq_true, if_false, modTrig, passVeto, upd, hconds]

theorem exec_candidateDecision_prescaled (hveto : vetoStands (s.trig.conds.getD cond {}) c s.trig.hits = false)
    (hskip : (s.trig.conds.getD cond {}).counter + 1 < (s.trig.conds.getD cond {}).prescale) :
    exec (.candidateDecision cond tick) s = .next (modTrig (fun t => {
      passVeto cond ((s.trig.conds.getD cond {}).counter + 1) c t with prescaled := sat32 (t.prescaled + 1) }) s) := by
  rw [exec_candidateDecision_unvetoed tick hdp hfirst hveto, if_neg (by omega)]

theorem exec_candidateDecision_fires (hveto : vetoStands (s.trig.conds.getD cond {}) c s.trig.hits = false)
    (hpass : (s.trig.conds.getD cond {}).prescale ≤ (s.trig.conds.getD cond {}).counter + 1) :
    exec (.candidateDecision cond tick) s = .next (fire c tick (modTrig (passVeto cond 0 c) s)) := by
  rw [exec_candidateDecision_unvetoed tick hdp hfirst hveto, if_pos hpass]

end

/-- Settles O30: an edge, an arrival or a decision has one lemma for each of its outcomes. A candidate that fires changes
its condition twice, by the deadtime and by the count of firings. -/
theorem triggerHandling : Obligations.TriggerHandling := by
  unfold Obligations.TriggerHandling
  refine ⟨fun s n held tick level hdp => ⟨?glitch, ?released, ?edgeHit, ?arrives, ?lost, ?expires⟩,
    fun s cond tick c hdp hfirst _ => ⟨?vetoed, ?prescaled, ?fires⟩⟩
  case glitch => exact exec_trigInEdge_glitch tick hdp
  case released => exact exec_trigInEdge_released tick hdp
  case edgeHit => exact fun b hn hvio hlong hedge hact => exec_trigInEdge_hit tick hdp hn hvio hlong hedge hact
  case arrives =>
    intro q rest hn hreq hroom hnone
    rw [exec_hitArrival_request hdp hn hreq, takeHit_room_noneArmed _ _ _ hroom hnone]
  case lost =>
    intro q rest hn hreq hfull
    rw [exec_hitArrival_request hdp hn hreq, takeHit_full _ _ _ hfull]
  case expires => exact congrArg Host.Outcome.next (if_pos hdp)
  case vetoed => exact exec_candidateDecision_vetoed tick hdp hfirst
  case prescaled => exact exec_candidateDecision_prescaled tick hdp hfirst
  case fires =>
    rintro hveto hpass hout hfreeze hrec rfl
    obtain ⟨houtputs, hfreezes, hrecord⟩ := passVeto_actions c.cond 0 c.cond c s.trig
    rw [exec_candidateDecision_fires tick hdp hfirst hveto hpass,
      fire_noAction tick (houtputs.trans hout) (hfreezes.trans hfreeze) (hrecord.trans hrec)]
    simp only [modTrig, passVeto, upd, List.modify_modify_eq]
    rfl

end Sys2Proof.Machine
end

section
/-! Building of output packets (11 R226, R230 to R232, R234, R240, R241). -/

namespace Sys2Proof.Machine

/-! One packet joins the queue. -/

theorem endLossRun_noRuns {s : State} (stream : Nat) (h : s.hst.notBuiltRuns = []) : endLossRun stream s = s := by
  rw [endLossRun, h]
  rfl

/-- Whether the packets of a stream go on both paths, once packet `p` of it has been taken up (R234). -/
def bothPaths (p : HPkt) (h : Hoist) : Bool :=
  (if isFirst p = true then upd h.unitDual p.stream (fun _ => h.dual) else h.unitDual).getD p.stream false

theorem bothPaths_first {p : HPkt} {h : Hoist} (hfirst : isFirst p = true) (hs : p.stream < h.unitDual.length) :
    bothPaths p h = h.dual := by
  rw [bothPaths, if_pos hfirst, getD_upd, if_pos ⟨rfl, hs⟩]

/-- A packet as it stands in the queue when it has been built: numbered, and waiting. -/
def numbered (p : HPkt) (s : State) : HPkt :=
  { p with num := s.hst.nextNum, seq := s.hst.seq.getD p.stream 0, source := ownSource s, waitA := true
           waitB := bothPaths p s.hst
           charge := if streamClass p.stream = 0 then p.charge else p.payload.length }

theorem buildPkt_queue {s : State} (p : HPkt) (h : s.hst.notBuiltRuns = []) :
    (buildPkt p s).hst.queue = s.hst.queue ++ [numbered p s] ∧
    (buildPkt p s).hst.seq = upd s.hst.seq p.stream (fun n => (n + 1) % 2 ^ 48) := by
  rw [buildPkt, endLossRun_noRuns _ h]
  exact ⟨rfl, rfl⟩

/-! The only unit that waits. -/

theorem setUnit_only {s : State} {u : HUnit} (v : HUnit) (h : s.hst.units = [u]) :
    setUnit u (some v) s = { s with hst := { s.hst with units := [v] } } := by
  simp [setUnit, modHst, h]

section
variable {s : State} {u : HUnit} {k : Nat} {l : List HPkt} {x : HPkt}

theorem buildReady_room (hk : k ≠ 0) (hroom : queueRoom s ((l.map pktBytes).sum) = true) :
    buildReady u k l s = setUnit u none (l.foldl (fun s p => buildPkt p s) s) := by
  rw [buildReady, if_neg hk, if_pos hroom]

/-- With no room for it, a unit is lost as a whole; dump records and TRIG are not. -/
theorem buildReady_noRoom (hk : k ≠ 0) (hk12 : k ≠ 12) (hcapt : x.endsCapt = none)
    (hfull : queueRoom s (pktBytes x) = false) : buildReady u k [x] s = lose k x.ref (setUnit u none s) := by
  simp [buildReady, hk, hk12, hfull, hcapt]

/-- A TRIG unit waits for room. -/
theorem buildReady_waits (hfull : queueRoom s (pktBytes x) = false) : buildReady u 12 [x] s = s := by
  simp [buildReady, hfull]

theorem exec_packetBuild_pkts {b : Bundle} (hdp : dpRun s = true) (hfl : s.hst.flushing = false)
    (hact : s.bun.active = some b) (hunits : s.hst.units = [.pkts k l]) :
    exec (.packetBuild k) s = .next (buildReady (.pkts k l) k l s) := by
  show execPacketBuild k s = _
  have hfind : s.hst.units.find? (fun u => unitStream u == k) = some (.pkts k l) := by simp [hunits, unitStream]
  simp only [execPacketBuild, hdp, hfl, hfind, hact, Bool.not_true, Bool.or_self, Bool.false_eq_true, if_false]

theorem exec_crusherFrameDone_only {n : Nat} {j : CruJob} {js : List CruJob} {d c : Option Nat}
    (hunits : s.hst.units = [.crush n l (j :: js) d c]) : exec (.crusherFrameDone n) s = .next { s with
      hst := { s.hst with
        units := [.crush n (l ++ framePkts j.tmpl (crushFrame j.mode j.raw).1 (decide (j.tmpl.stream = 1))) js d c]
        cruIn := sat64 (s.hst.cruIn + j.raw.length), cruOut := sat64 (s.hst.cruOut + (crushFrame j.mode j.raw).1.length)
        cruStored := sat32 (s.hst.cruStored + (crushFrame j.mode j.raw).2) } } := by
  show execCrusherFrameDone n s = _
  simp only [execCrusherFrameDone, hunits, List.find?_cons, unitStream, BEq.rfl, Bool.and_self]
  exact congrArg Host.Outcome.next (setUnit_only _ hunits)

end

theorem lose_keepsQueue (stream ref : Nat) (s : State) : (lose stream ref s).hst.notBuilt = sat32 (s.hst.notBuilt + 1) ∧
    bit (lose stream ref s).hst.cause 4 = true ∧ (lose stream ref s).hst.queue = s.hst.queue :=
  ⟨rfl, bit_setBits_self _ 4, rfl⟩

/-! STAT packets (R232). -/

theorem noteDrops_none {path : Nat} {s : State} (h : s.hst.dropRun.getD path 0 = 0) : noteDrops path s = s :=
  if_pos (.inl h)

section
variable {s : State} (hdp : dpRun s = true) (hfl : s.hst.flushing = false)
include hdp hfl

theorem exec_statPacketBuild_elapsed (hstart : s.hst.started = true) (hdrop : s.hst.dropRun = [0, 0])
    (hstat : s.hst.stat ≠ []) : exec (.statPacketBuild true) s = .next
      (modHst (fun h => { h with stat := h.stat.drop 128 }) (buildPkt (statPkt s (s.hst.stat.take 128)) s)) := by
  show execStatPacketBuild true s = _
  have hdrops : noteDrops 1 (noteDrops 0 s) = s := by
    rw [noteDrops_none (path := 0) (by rw [hdrop]; rfl), noteDrops_none (by rw [hdrop]; rfl)]
  simp [execStatPacketBuild, hdp, hfl, hstart, hdrops, hstat]

theorem exec_statPacketBuild_waits (h : s.hst.stat.length < 128 ∨ s.hst.started = false) :
    exec (.statPacketBuild false) s = .next s := by
  show execStatPacketBuild false s = _
  refine congrArg Host.Outcome.next ?_
  cases hstart : s.hst.started
  case false => exact if_pos (by simp)
  case true =>
    have hfew : s.hst.stat.length < 128 := h.resolve_right (by simp [hstart])
    exact (if_neg (by simp [hdp, hfl])).trans (if_pos (by simp [hfew]))

end

end Sys2Proof.Machine
end

section
/-! Packets start on lanes, are sent, and are dropped (11 R233 to R239). -/

namespace Sys2Proof.Machine

/-! What goes next. -/

theorem laneTurn_iff (s : State) (n : Nat) : laneTurn s n = true ↔
    ∀ k < 64, (laneAt s k).txUp = true → (laneAt s k).txCur = none → (laneAt s k).txNext = none →
      (laneAt s k).txRole = (laneAt s n).txRole →
      ((laneAt s n).freed < (laneAt s k).freed ∨ ((laneAt s n).freed = (laneAt s k).freed ∧ n ≤ k)) := by
  simp only [laneTurn, upTo, List.all_eq_true, List.mem_range, Bool.or_eq_true, Bool.not_eq_eq_eq_not, Bool.not_true,
    ← Bool.not_eq_true, Bool.and_eq_true, Option.isNone_iff_eq_none, decide_eq_true_eq]
  exact forall₂_congr fun k _ => by tauto

theorem resendPkt_some {s : State} {path : Nat} {p : HPkt} (h : resendPkt s path = some p) :
    p ∈ s.hst.queue ∧ waitsOn path p = true ∧ redone path p = true :=
  ⟨List.mem_of_find?_eq_some h,
    Bool.and_eq_true_iff.mp (List.find?_some (p := fun q => waitsOn path q && redone path q) h)⟩

theorem firstOf_some {s : State} {path cls : Nat} {p : HPkt} (h : firstOf s path cls = some p) :
    p ∈ s.hst.queue ∧ waitsOn path p = true ∧ streamClass p.stream = cls := by
  obtain ⟨hwaits, hcls⟩ := Bool.and_eq_true_iff.mp
    (List.find?_some (p := fun q => waitsOn path q && streamClass q.stream == cls) h)
  exact ⟨List.mem_of_find?_eq_some h, hwaits, beq_iff_eq.mp hcls⟩

/-- What R239 chooses is within its allotment, or of a class that may go beyond it: DUMP and COUNT, or CAPT. -/
theorem pickPacket_some {s : State} {path : Nat} {p : HPkt} (h : pickPacket s path = some p) :
    p ∈ s.hst.queue ∧ waitsOn path p = true ∧
      (withinAllot s path (streamClass p.stream) = true ∨ streamClass p.stream = 0 ∨ streamClass p.stream = 4) := by
  unfold pickPacket at h
  split at h
  next q hq =>
    obtain rfl := Option.some.inj h
    obtain ⟨c, -, hc⟩ := List.mem_filterMap.mp (List.mem_of_mem_head? hq)
    obtain ⟨hallot, hfirst⟩ := Option.ite_none_right_eq_some.mp hc
    obtain ⟨hmem, hwaits, rfl⟩ := firstOf_some hfirst
    exact ⟨hmem, hwaits, .inl hallot⟩
  next =>
    obtain ⟨c, hc, hfirst⟩ := List.mem_filterMap.mp (List.mem_of_mem_head? h)
    obtain ⟨hmem, hwaits, rfl⟩ := firstOf_some hfirst
    exact ⟨hmem, hwaits, .inr (by simpa using hc)⟩

/-! A packet boundary of a lane (R239). -/

theorem startPkt_used (p : HPkt) (h : Hoist) : (startPkt 0 p h).used =
    upd h.used (streamClass p.stream) (fun x => if p.redoA = true then x else x + p.charge) := by
  have hcharge : (fun x => x + if p.redoA = true then 0 else p.charge) =
      fun x => if p.redoA = true then x else x + p.charge := by
    funext x
    split <;> rfl
  rw [← hcharge]
  show upd h.used (6 * 0 + streamClass p.stream) _ = _
  rw [Nat.mul_zero, Nat.zero_add]
  rfl

/-- Where no bytes have left the window, the use of the classes stays. -/
theorem agedUse_nil (path : Nat) (used : List Nat) :
    used.zipIdx.map (fun x => if x.2 / 6 = path then x.1 - ([] : List Nat).getD (x.2 % 6) 0 else x.1) = used := by
  simp

theorem modHst_self (s : State) : modHst (fun h => h) s = s := rfl

section
variable {s : State} {n : Nat} (now : Nat)

theorem exec_lanePacketStart_notFree (aged : List Nat) (h : (laneAt s n).txUp = false ∨ (laneAt s n).txCur.isSome = true) :
    exec (.lanePacketStart n aged now) s = .next s :=
  congrArg Host.Outcome.next (if_pos (by rcases h with h | h <;> simp [h]))

theorem lane_free (hdp : dpRun s = true) (hup : (laneAt s n).txUp = true) (hcur : (laneAt s n).txCur = none)
    (hnext : (laneAt s n).txNext = none) :
    (!dpRun s || !(laneAt s n).txUp || (laneAt s n).txCur.isSome || (laneAt s n).txNext.isSome) = false := by
  simp [hdp, hup, hcur, hnext]

variable (hfree : (!dpRun s || !(laneAt s n).txUp || (laneAt s n).txCur.isSome || (laneAt s n).txNext.isSome) = false)
include hfree

theorem exec_lanePacketStart_return (aged : List Nat) {p : List Byte} {rest : List (List Byte)}
    (hrole : (laneAt s n).txRole = 3) (hctl : (laneAt s n).txCtl = p :: rest) :
    exec (.lanePacketStart n aged now) s = .next (modLane n (fun x => { x with
      txCtl := rest, txCur := some { bytes := p } }) s) := by
  show execLanePacketStart n aged now s = _
  simp only [execLanePacketStart, hfree, hrole, hctl, Bool.false_eq_true, if_false, if_true]
  exact congrArg Host.Outcome.next (modLane_modLane _ _ _ _)

variable (hrole : (laneAt s n).txRole = 1)
include hrole

/-- A packet to be sent again goes before everything else (R236). -/
theorem exec_lanePacketStart_resend {p : HPkt} (hturn : laneTurn s n = true) (hre : resendPkt s 0 = some p) :
    exec (.lanePacketStart n [] now) s = .next (modLane n (fun x => { x with
        txCur := some { ctl := false, num := p.num, bytes := wireBytes 0 p } })
      { s with hst := startPkt 0 p s.hst }) := by
  show execLanePacketStart n [] now s = _
  simp only [execLanePacketStart, hfree, hrole, agedUse_nil, modHst_self, hturn, hre, Bool.false_eq_true, if_false, if_true]
  rfl

/-- Then the control packets of the lane's own; a BEACON takes its egress time. -/
theorem exec_lanePacketStart_laneCtl {p : List Byte} {rest : List (List Byte)} {u : State}
    (hno : laneTurn s n = false ∨ resendPkt s 0 = none) (hctl : (laneAt s n).txCtl = p :: rest)
    (hu : u = modLane n (fun x => { x with txCtl := rest }) s) : exec (.lanePacketStart n [] now) s = .next
      (modLane n (fun x => { x with txCur := some { bytes := (beaconEgress p now u).1 } }) (beaconEgress p now u).2) := by
  have hresend : (if laneTurn s n = true then resendPkt s 0 else none) = none := by
    rcases hno with h | h <;> simp [h]
  show execLanePacketStart n [] now s = _
  simp only [execLanePacketStart, hfree, hrole, agedUse_nil, modHst_self, hresend, hctl, Bool.false_eq_true, if_false]
  rw [hu]
  rfl

/-- Then the control packets of the path. -/
theorem exec_lanePacketStart_pathCtl {p : List Byte} {rest : List (List Byte)} (hturn : laneTurn s n = true)
    (hre : resendPkt s 0 = none) (hctl : (laneAt s n).txCtl = []) (hpath : s.hst.ctlA = p :: rest) :
    exec (.lanePacketStart n [] now) s = .next (modLane n (fun x => { x with txCur := some { bytes := p } })
      { s with hst := { s.hst with ctlA := rest } }) := by
  show execLanePacketStart n [] now s = _
  simp only [execLanePacketStart, hfree, hrole, agedUse_nil, modHst_self, hturn, hre, hctl, hpath,
    Bool.false_eq_true, if_false, if_true]
  rfl

/-- Then data, in the order of R239. -/
theorem exec_lanePacketStart_data {p : HPkt} (hturn : laneTurn s n = true) (hre : resendPkt s 0 = none)
    (hctl : (laneAt s n).txCtl = []) (hpath : s.hst.ctlA = []) (hpick : pickPacket s 0 = some p) :
    exec (.lanePacketStart n [] now) s = .next (modLane n (fun x => { x with
        txCur := some { ctl := false, num := p.num, bytes := wireBytes 0 p } })
      { s with hst := startPkt 0 p s.hst }) := by
  show execLanePacketStart n [] now s = _
  simp only [execLanePacketStart, hfree, hrole, agedUse_nil, modHst_self, hturn, hre, hctl, hpath, hpick,
    Bool.false_eq_true, if_false, if_true]
  rfl

theorem exec_lanePacketStart_notItsTurn (hturn : laneTurn s n = false) (hctl : (laneAt s n).txCtl = []) :
    exec (.lanePacketStart n [] now) s = .next s := by
  show execLanePacketStart n [] now s = _
  simp only [execLanePacketStart, hfree, hrole, agedUse_nil, modHst_self, hturn, hctl, Bool.false_eq_true, if_false, if_true]
  rfl

end

/-! A packet has been sent, and copies that are dropped (R226, R235). -/

theorem exec_packetSent_idle {s : State} {n : Nat} (h : (laneAt s n).txCur = none) : exec (.packetSent n) s = .next s := by
  show execPacketSent n s = _
  rw [execPacketSent, h]

/-- A CONTROL or BEACON packet that ends on path B is counted there, and changes nothing else of the Hoist. -/
theorem exec_packetSent_ctlB {s : State} {n : Nat} {p : TxPkt} (hdp : dpRun s = true) (hcur : (laneAt s n).txCur = some p)
    (hctl : p.ctl = true) (hrole : (laneAt s n).txRole = 2) : exec (.packetSent n) s =
      .next (modHst (fun h => { h with pktB := sat64 (h.pktB + 1) })
        (modLane n (fun x => { x with txCur := none, txPktCnt := sat64 (x.txPktCnt + 1) }) (freeLane n s))) := by
  show execPacketSent n s = _
  simp only [execPacketSent, hcur, hdp, hctl, hrole, Bool.not_true, Bool.false_eq_true, if_false, if_true]
  rfl

theorem copySent_found {h : Hoist} {num : Nat} {p : HPkt} (hfind : h.queue.find? (fun q => q.num == num) = some p)
    (hs : p.stream < h.lastSent.length) : (copySent 0 num h).lastSent.getD p.stream none = some (p.source, p.seq) ∧
      (copySent 0 num h).seq = h.seq := by
  rw [copySent, hfind]
  exact ⟨(getD_upd _ _ _ _ _).trans (if_pos ⟨rfl, hs⟩), rfl⟩

theorem lagging_pathA {p : HPkt} : lagging 0 p = true ↔ p.waitA = true ∧ p.sentB = true ∧ p.onB = false := by
  simp [lagging, and_assoc]

/-- A packet that is over leaves the queue that it is alone in; it ends no record. -/
theorem settleQueue_only {s : State} {p : HPkt} (hq : s.hst.queue = [p]) (hover : pktOver p = true)
    (hdump : p.endsDump = none) (hcapt : p.endsCapt = none) :
    settleQueue s = { s with hst := { s.hst with queue := [] } } := by
  simp [settleQueue, modHst, hq, hover, hdump, hcapt]

theorem dropCopies_only {s : State} {p : HPkt} {hit : HPkt → Bool} (hq : s.hst.queue = [p]) (hhit : hit p = true)
    (hover : pktOver { p with waitA := false } = true) (hdump : p.endsDump = none) (hcapt : p.endsCapt = none) :
    dropCopies 0 hit s = { s with hst := { s.hst with
      queue := [], copyDrop0 := sat32 (s.hst.copyDrop0 + 1), cause := setBits s.hst.cause [3]
      dropRun := upd s.hst.dropRun 0 (· + 1) } } := by
  have hone : (s.hst.queue.filter hit).length = 1 := by simp [hq, hhit]
  rw [dropCopies, hone]
  refine (settleQueue_only (p := { p with waitA := false }) ?_ hover hdump hcapt).trans rfl
  simp [modHst, hq, hhit]

theorem exec_copyDrop_pathDown {s : State} (path : Nat) (timed : List Nat) (h : pathUp s 0 = false ∨ pathUp s 1 = false) :
    exec (.copyDrop path timed) s = .next s :=
  congrArg Host.Outcome.next (if_neg (by rcases h with h | h <;> simp [h]))

/-- With both paths up the copies on path A that are timed out, or far behind, are dropped. -/
theorem exec_copyDrop_pathsUp {s : State} (timed : List Nat) (hdp : dpRun s = true) (hA : pathUp s 0 = true)
    (hB : pathUp s 1 = true) : exec (.copyDrop 0 timed) s = .next (dropCopies 0 (fun p =>
      lagging 0 p && (timed.contains p.num || decide (32768 ≤ laterSent s 0 p))) s) :=
  congrArg Host.Outcome.next (if_pos (by simp [hdp, hA, hB]))

/-- Settles O34: a unit has one lemma for each way in which it is built or not; a packet boundary goes through R239's order
once for each kind of packet; then the packets that are over. -/
theorem hoistPackets : Obligations.HoistPackets := by
  unfold Obligations.HoistPackets
  refine ⟨fun s p k b hdp hfl hact => ⟨?built, ?room, ?noRoom, ?waits, ?stat, ?statWaits, ?crushed⟩, ?_⟩
  case built =>
    intro hruns
    obtain ⟨hqueue, hseq⟩ := buildPkt_queue p hruns
    rw [hqueue]
    exact ⟨List.length_append, numbered p s, List.getLast?_concat, rfl, rfl, rfl, rfl, rfl, rfl, bothPaths_first,
      fun hcls => if_neg hcls, hseq⟩
  case room =>
    intro l hunits hk hroom
    rw [exec_packetBuild_pkts hdp hfl hact hunits, buildReady_room hk hroom]
  case noRoom =>
    intro x hunits hk hk12 hcapt hfull
    rw [exec_packetBuild_pkts hdp hfl hact hunits]
    exact ⟨congrArg Host.Outcome.next (buildReady_noRoom hk hk12 hcapt hfull), lose_keepsQueue k x.ref s⟩
  case waits =>
    intro x hunits hfull
    rw [exec_packetBuild_pkts hdp hfl hact hunits, buildReady_waits hfull]
  case stat =>
    intro hstart hdrop hstat
    exact ⟨exec_statPacketBuild_elapsed hdp hfl hstart hdrop hstat, rfl⟩
  case statWaits => exact exec_statPacketBuild_waits hdp hfl
  case crushed => exact fun n l j js d c hunits => exec_crusherFrameDone_only hunits
  rintro s n aged now l rfl hdp
  refine ⟨exec_lanePacketStart_notFree now aged, ?laneReturn, ?pathA, fun p => startPkt_used p s.hst, laneTurn_iff s n,
    fun p => resendPkt_some, fun p => pickPacket_some, ?sent, fun p num => copySent_found, exec_packetSent_idle,
    exec_copyDrop_pathDown 0 aged, ?dropped, ?flushEnds, fun hfl => congrArg Host.Outcome.next (if_neg (by simp [hfl]))⟩
  case laneReturn =>
    exact fun p rest hup hcur hnext => exec_lanePacketStart_return now (lane_free hdp hup hcur hnext) aged
  case pathA =>
    rintro hup hcur hnext hrole rfl
    have hfree := lane_free hdp hup hcur hnext
    refine ⟨?data, ?laneCtl, ?pathCtl, exec_lanePacketStart_notItsTurn now hfree hrole⟩
    case data =>
      rintro p hturn (hre | ⟨hre, hctl, hpath, hpick⟩)
      · exact exec_lanePacketStart_resend now hfree hrole hturn hre
      · exact exec_lanePacketStart_data now hfree hrole hturn hre hctl hpath hpick
    case laneCtl => exact fun p rest u => exec_lanePacketStart_laneCtl now hfree hrole
    case pathCtl => exact fun p rest => exec_lanePacketStart_pathCtl now hfree hrole
  case sent =>
    rintro p u hcur hctl hrole rfl
    exact exec_packetSent_ctlB hdp hcur hctl hrole
  case dropped =>
    rintro p hq hA hB hlag rfl hwaitB honA hdump hcapt
    obtain ⟨-, -, honB⟩ := lagging_pathA.mp hlag
    rw [exec_copyDrop_pathsUp _ hdp hA hB]
    exact congrArg Host.Outcome.next (dropCopies_only hq (by simp [hlag]) (by simp [pktOver, hwaitB, honA, honB]) hdump hcapt)
  case flushEnds => exact fun hfl => congrArg Host.Outcome.next (if_pos hfl)

end Sys2Proof.Machine
end

section
/-! The commands of the Hoist and the Crusher, the Expander's jobs, and the counter clear (11 R234, R238, R241,
R249 to R251). -/

namespace Sys2Proof.Machine

/-! HOIST_STREAMS, HOIST_PATHS and CRUSH_CONFIG. -/

section
variable {r : Req} (t : Nat) {s : State}

/-- With no bundle in force only the rates at the ports are asked about. -/
theorem hoistStreams_noBundle {a : List Nat} (hact : s.bun.active = none) (ha : a = [24, 28, 32, 36, 40, 44].map (b32 r))
    (hrates : ratesOk (modHst (fun h => { h with allot := a }) s) = true) : hoistStreams r t s =
      answer (setRates (modHst (fun h => { h with allot := a }) s)) (fields [(24, leBytes 4 (pathCapacity s 0 / 8)),
        (28, leBytes 4 (pathCapacity s 1 / 8)), (32, leBytes 4 a.sum)]) := by
  subst ha
  have hallot (f : Hoist → Hoist) : allotmentsOk (modHst f s) = true := by rw [allotmentsOk, modHst_bun, hact]
  simp only [hoistStreams, hact, hallot, hrates, Bool.and_self, Bool.or_true, if_true]

theorem hoistStreams_refused {a : List Nat} (happ : s.bun.applying = false) (ha : a = [24, 28, 32, 36, 40, 44].map (b32 r))
    (hallot : allotmentsOk (modHst (fun h => { h with allot := a }) s) = false) : hoistStreams r t s = admission s := by
  subst ha
  simp only [hoistStreams, happ, hallot, Bool.false_and, Bool.or_self, Bool.false_eq_true, if_false]

theorem hoistPaths_single (h24 : b8 r 24 = 0) :
    hoistPaths r t s = answer { s with hst := { s.hst with dual := false } } [] := by
  simp [hoistPaths, h24, bit, modHst]

theorem hoistPaths_noPathB (h24 : b8 r 24 = 1)
    (hB : ∀ l ∈ s.lanes.lane, (l.txNext.getD (l.txRole, l.txRate)).1 ≠ 2) : hoistPaths r t s = badRange s := by
  have hall : s.lanes.lane.all (fun l => decide ((l.txNext.getD (l.txRole, l.txRate)).1 ≠ 2)) = true := by simpa using hB
  simp only [hoistPaths, h24, hall]
  rfl

theorem crushConfig_admitted (h24 : b8 r 24 ≤ 2) (h25 : b8 r 25 ≤ 2) (hfit : s.bun.applying = true ∨
      (crusherOk s (b8 r 24) (b8 r 25) = true ∧
        allotmentsOk (modHst (fun h => { h with crushDump := b8 r 24, crushCapt := b8 r 25 }) s) = true)) :
    crushConfig r t s = answer (modHst (fun h => { h with crushDump := b8 r 24, crushCapt := b8 r 25 }) s) [] := by
  have hadmit : (s.bun.applying || (crusherOk s (b8 r 24) (b8 r 25) &&
      allotmentsOk (modHst (fun h => { h with crushDump := b8 r 24, crushCapt := b8 r 25 }) s))) = true := by
    simpa using hfit
  have hrange : ¬ (2 < b8 r 24 ∨ 2 < b8 r 25) := by omega
  simp only [crushConfig, hrange, hadmit, if_false, if_true]

end

/-! Expander jobs (R249, R250). -/

theorem exec_expanderJobStart_starts {s : State} (hjobs : s.hst.jobs ≠ []) (hidle : s.hst.expRunning = false)
    (hheld : s.shift.held = .none) (hawake : s.pwr.ctlSleep = false) :
    exec .expanderJobStart s = .next { s with hst := { s.hst with expRunning := true } } :=
  congrArg Host.Outcome.next (if_pos (by simp [execExpanderJobStart.firmwareUpX, hjobs, hidle, hheld, hawake]))

section
variable (j : ExpJob) (s : State)

theorem jobOutput_accepted {out : List Byte} {left : Nat} (hout : expandJob j = .ok out left)
    (hsize : j.expect = 0 ∨ out.length = j.expect) : jobOutput j s = { s with hst := { s.hst with expOut := out } } := by
  simp only [jobOutput, hout]
  exact if_neg (by tauto)

theorem jobOutput_refused (hno : ∀ out left, expandJob j = .ok out left → j.expect ≠ 0 ∧ out.length ≠ j.expect) :
    jobOutput j s = { s with
      hst := { s.hst with expOut := leBytes j.limit (freeVal (8 * j.limit) s) }, freeCount := s.freeCount + 1 } := by
  unfold jobOutput
  split
  case h_1 out left hout => exact if_pos (hno out left hout)
  case h_2 => rfl

@[simp] theorem jobOutput_cages : (jobOutput j s).cages = s.cages := by
  unfold jobOutput
  split
  · split <;> rfl
  · rfl

end

theorem expandJob_image {j : ExpJob} (h : j.use = 1) :
    expandJob j = if j.frame = true then expandFrame j.limit j.input else inflate j.limit j.input := by
  rw [expandJob, h]
  rfl

/-- A failed job ends its command; only ASSAYER_LOAD leaves something else behind. -/
theorem failedJob_notLoad {o : OpenCmd} (s : State) (h : o.req.opcode ≠ 0x0602) :
    failedJob o s = (s, { status := stHardware }) := by
  rw [failedJob, if_neg h]

section
variable {s : State} {j : ExpJob} {rest : List ExpJob} (ok : Bool) (t : Nat) (hrun : s.hst.expRunning = true)
  (hjobs : s.hst.jobs = j :: rest)
include hrun hjobs

/-- No open command owns the job. -/
theorem exec_expanderJobEnd_noOwner (hopen : s.cages.openCmds = []) : exec (.expanderJobEnd ok t) s =
    .next (jobOutput j { s with hst := { s.hst with jobs := rest, expRunning := false } }) := by
  show execExpanderJobEnd ok t s = _
  simp only [execExpanderJobEnd, hrun, hjobs, jobOutput_cages, modHst_cages, hopen, List.find?_nil, Bool.not_true,
    Bool.false_eq_true, if_false]
  rfl

theorem exec_expanderJobEnd_failed {o : OpenCmd}
    (howner : s.cages.openCmds.find? (fun o => o.req.client == j.client && o.req.tag == j.tag) = some o)
    (hop : o.req.opcode ≠ 0x0602) : exec (.expanderJobEnd false t) s =
      .next (finishOpen (fun p => p.req.client == j.client && p.req.tag == j.tag) (fun _ => { status := stHardware }) t
        (jobOutput j { s with hst := { s.hst with jobs := rest, expRunning := false } })) := by
  show execExpanderJobEnd false t s = _
  simp only [execExpanderJobEnd, hrun, hjobs, jobOutput_cages, modHst_cages, howner, failedJob_notLoad _ hop,
    Bool.not_false, Bool.true_or, Bool.not_true, Bool.false_eq_true, if_false, if_true]
  rfl

end

/-- Settles O35: each command from the outcome of its meaning, and each job from what it leaves at its destination. -/
theorem hoistCommands : Obligations.HoistCommands := by
  unfold Obligations.HoistCommands
  refine fun r t s u => ⟨?streams, ?streamsRefused, ?single, ?noPathB, ?crush, exec_expanderJobStart_starts, ?noOwner,
    fun j out left => jobOutput_accepted j s, fun j => jobOutput_refused j s, fun j => expandJob_image, ?failed,
    fun hdp => congrArg Host.Outcome.next (if_pos hdp)⟩
  case streams =>
    intro a htakes hact ha hrates
    exact takes_ended (k := 0) hoistStreams htakes (hoistStreams_noBundle (r := { r with opcode := 0x0801 }) t hact ha hrates)
  case streamsRefused =>
    intro a htakes happ ha hallot
    exact takes_ended (k := 0) hoistStreams htakes (hoistStreams_refused (r := { r with opcode := 0x0801 }) t happ ha hallot)
  case single =>
    intro htakes h24
    exact takes_ended (k := 0) hoistPaths htakes (hoistPaths_single (r := { r with opcode := 0x0802 }) t h24)
  case noPathB =>
    intro htakes h24 hB
    exact takes_ended (k := 0) hoistPaths htakes (hoistPaths_noPathB (r := { r with opcode := 0x0802 }) t h24 hB)
  case crush =>
    intro htakes h24 h25 hfit
    exact takes_ended (k := 0) crushConfig htakes (crushConfig_admitted (r := { r with opcode := 0x0803 }) t h24 h25 hfit)
  case noOwner => exact fun j rest ok hrun hjobs => exec_expanderJobEnd_noOwner ok t hrun hjobs
  case failed =>
    rintro j rest o ok hrun hjobs rfl howner hop
    exact exec_expanderJobEnd_failed t hrun hjobs howner hop

end Sys2Proof.Machine
end

section
/-! Every operation keeps every memory in its canonical form (12, 09, 15): one lemma per operation, which the operations built
on it use. An operation that touches no memory leaves `MemOk` as it stands; the others are the few that store bytes. -/

namespace Sys2Proof.Machine
open Sys2Proof

/-! The parts of the state that hold no memory. -/

section
variable (s : State)

@[simp] theorem modHop_memOk (f : Hopper → Hopper) : MemOk (modHop f s) ↔ MemOk s := Iff.rfl
@[simp] theorem modAba_memOk (f : Abacus → Abacus) : MemOk (modAba f s) ↔ MemOk s := Iff.rfl
@[simp] theorem modTal_memOk (f : Tally → Tally) : MemOk (modTal f s) ↔ MemOk s := Iff.rfl
@[simp] theorem modBeams_memOk (f : Beams → Beams) : MemOk (modBeams f s) ↔ MemOk s := Iff.rfl
@[simp] theorem modAssay_memOk (f : Assay → Assay) : MemOk (modAssay f s) ↔ MemOk s := Iff.rfl
@[simp] theorem modTrig_memOk (f : Trig → Trig) : MemOk (modTrig f s) ↔ MemOk s := Iff.rfl
@[simp] theorem modCapt_memOk (f : Capture → Capture) : MemOk (modCapt f s) ↔ MemOk s := Iff.rfl
@[simp] theorem modHst_memOk (f : Hoist → Hoist) : MemOk (modHst f s) ↔ MemOk s := Iff.rfl
@[simp] theorem modTu_memOk (f : Tu → Tu) : MemOk (modTu f s) ↔ MemOk s := Iff.rfl
@[simp] theorem modBell_memOk (f : Bell → Bell) : MemOk (modBell f s) ↔ MemOk s := Iff.rfl
@[simp] theorem modWnd_memOk (f : Winder → Winder) : MemOk (modWnd f s) ↔ MemOk s := Iff.rfl
@[simp] theorem modPwr_memOk (f : Pwr → Pwr) : MemOk (modPwr f s) ↔ MemOk s := Iff.rfl
@[simp] theorem modMon_memOk (f : Mon → Mon) : MemOk (modMon f s) ↔ MemOk s := Iff.rfl
@[simp] theorem modCon_memOk (f : Const → Const) : MemOk (modCon f s) ↔ MemOk s := Iff.rfl
@[simp] theorem modCages_memOk (f : Cages → Cages) : MemOk (modCages f s) ↔ MemOk s := Iff.rfl
@[simp] theorem modCage_memOk (n : Nat) (f : Cage → Cage) : MemOk (modCage n f s) ↔ MemOk s := Iff.rfl
@[simp] theorem modLane_memOk (n : Nat) (f : Lane → Lane) : MemOk (modLane n f s) ↔ MemOk s := Iff.rfl
@[simp] theorem freeNext_memOk : MemOk (freeNext s) ↔ MemOk s := Iff.rfl
@[simp] theorem noteStat_memOk (kind a0 a1 a2 ref : Nat) : MemOk (noteStat kind a0 a1 a2 ref s) ↔ MemOk s := Iff.rfl
@[simp] theorem modPit_memOk {f : Pit → Pit} (hf : (f s.pit).mem = s.pit.mem) : MemOk (modPit f s) ↔ MemOk s := by
  simp [MemOk, memsOk, hf]
@[simp] theorem modShift_memOk {f : Shift → Shift} (hf : (f s.shift).coreMem = s.shift.coreMem) :
    MemOk (modShift f s) ↔ MemOk s := by
  simp [MemOk, hf]

@[simp] theorem lanes_memOk (l : Lanes) : MemOk { s with lanes := l } ↔ MemOk s := Iff.rfl
@[simp] theorem seam_memOk (l : Seam) : MemOk { s with seam := l } ↔ MemOk s := Iff.rfl
@[simp] theorem bun_memOk (l : Bundles) : MemOk { s with bun := l } ↔ MemOk s := Iff.rfl
@[simp] theorem con_memOk (l : Const) : MemOk { s with con := l } ↔ MemOk s := Iff.rfl
@[simp] theorem hst_memOk (l : Hoist) : MemOk { s with hst := l } ↔ MemOk s := Iff.rfl
@[simp] theorem sys_memOk {l : Sys} (hl : l.sram = s.sys.sram) : MemOk { s with sys := l } ↔ MemOk s := by
  simp [MemOk, hl]
end

/-! Branches and repetitions. -/

@[simp] theorem ite_memOk (c : Prop) [Decidable c] (a b : State) :
    MemOk (if c then a else b) ↔ if c then MemOk a else MemOk b :=
  iff_of_eq (apply_ite MemOk c a b)

@[simp] theorem ite_out_memOk (c : Prop) [Decidable c] (a b : Out) :
    MemOk (if c then a else b).st ↔ if c then MemOk a.st else MemOk b.st :=
  iff_of_eq (apply_ite (fun o => MemOk o.st) c a b)

theorem foldl_memOk {α : Type} {g : State → α → State} (hg : ∀ s x, MemOk s → MemOk (g s x)) (l : List α) {s : State}
    (h : MemOk s) : MemOk (l.foldl g s) := by
  induction l generalizing s with
  | nil => exact h
  | cons a l ih => exact ih (hg s a h)

@[simp] theorem foldl_memOk_iff {α : Type} {g : State → α → State} (hg : ∀ s x, MemOk (g s x) ↔ MemOk s) (l : List α)
    (s : State) : MemOk (l.foldl g s) ↔ MemOk s := by
  induction l generalizing s with
  | nil => rfl
  | cons a l ih => exact (ih (g s a)).trans (hg s a)

@[simp] theorem whenRun_memOk {s t : State} (ht : MemOk t ↔ MemOk s) : MemOk (whenRun s t) ↔ MemOk s := by
  unfold whenRun
  split
  · exact ht
  · rfl

/-! The memories themselves. -/

theorem MemOk.sram {s : State} (h : MemOk s) : Memory.wf s.sys.sram = true := h.1.1
theorem MemOk.pit {s : State} (h : MemOk s) : Memory.wf s.pit.mem = true := h.1.2.1
theorem MemOk.ayr {s : State} (h : MemOk s) : ∀ c ∈ s.ayr, ayrOk c := h.1.2.2
theorem MemOk.core {s : State} (h : MemOk s) : ∀ m ∈ s.shift.coreMem, Memory.wf m = true := h.2

theorem forall_mem_upd {α : Type} {p : α → Prop} {l : List α} (n : Nat) {f : α → α} (hl : ∀ x ∈ l, p x) (hf :
    ∀ x, p x → p (f x)) :
    ∀ x ∈ upd l n f, p x := by
  intro x hx
  obtain ⟨i, hi, rfl⟩ := List.getElem_of_mem hx
  simp only [upd, List.getElem_modify]
  split
  · exact hf _ (hl _ (List.getElem_mem _))
  · exact hl _ (List.getElem_mem _)

theorem modAyr_memOk {s : State} (h : MemOk s) (a : Nat) {f : AyrCore → AyrCore} (hf : ∀ c, ayrOk c → ayrOk (f c)) :
    MemOk (modAyr a f s) :=
  ⟨⟨h.sram, h.pit, forall_mem_upd a h.ayr hf⟩, h.core⟩

/-- Bytes stored in shared SRAM. -/
theorem sramWrite_memOk {s : State} (h : MemOk s) (a : Nat) (l : List Byte) :
    MemOk { s with sys := { s.sys with sram := memWrite s.sys.sram a l } } :=
  ⟨⟨memWrite_wf _ a l h.sram, h.pit, h.ayr⟩, h.core⟩

@[simp] theorem pitWrite_memOk {s : State} (h : MemOk s) (a : Nat) (bs : List Byte) : MemOk (pitWrite a bs s) :=
  ⟨⟨h.sram, memWrite_wf _ a bs h.pit, h.ayr⟩, h.core⟩

/-! An Assayer's memories: only a store changes them (09 R185, R193). -/

section
variable (c : AyrCore)

theorem ayrOk_congr {c d : AyrCore} (hd : d.dmem = c.dmem) (hi : d.imem = c.imem) : ayrOk d ↔ ayrOk c := by
  rw [ayrOk, ayrOk, hd, hi]

theorem setDmem_ayrOk {c : AyrCore} (h : ayrOk c) (addr n : Nat) (v : W32) : ayrOk (setDmem addr n v c) :=
  ⟨memWrite_wf _ _ _ h.1, h.2⟩

theorem ayrCause_ayrOk {c : AyrCore} (k : Nat) (h : ayrOk c) : ayrOk (ayrCause k c) := h

theorem setLoop_ayrOk (r : LoopReg) (v : W32) : ayrOk (setLoop r v c) ↔ ayrOk c := by
  cases r <;> rfl

theorem setLoops_ayrOk (l : List (LoopReg × W32 × Nat)) :
    ayrOk (l.foldl (fun c m => setLoop m.1 m.2.1 c) c) ↔ ayrOk c :=
  by
  induction l generalizing c with
  | nil => rfl
  | cons m l ih => exact (ih _).trans (setLoop_ayrOk c m.1 m.2.1)

theorem commitLoad_ayrOk : ayrOk (commitLoad c) ↔ ayrOk c := by
  unfold commitLoad
  split <;> rfl

theorem drainCore_ayrOk : ayrOk (drainCore c) ↔ ayrOk c :=
  (setLoops_ayrOk _ _).trans (commitLoad_ayrOk c)

theorem ageMtl_ayrOk : ayrOk (ageMtl c) ↔ ayrOk c :=
  setLoops_ayrOk _ _

theorem loopCheck_ayrOk : ayrOk (loopCheck c).1 ↔ ayrOk c := by
  unfold loopCheck
  split <;> rfl

theorem pinLatch_ayrOk (port now : Nat) : ayrOk (pinLatch port now c) ↔ ayrOk c := by
  unfold pinLatch
  split <;> rfl

theorem requestTrigger_ayrOk (v : W32) : ayrOk (requestTrigger v c) ↔ ayrOk c := by
  unfold requestTrigger
  split <;> rfl

theorem sendOut_ayrOk : ayrOk (sendOut c) ↔ ayrOk c := by
  unfold sendOut
  split
  · rfl
  · dsimp only
    split <;> rfl

theorem inSend_ayrOk : ayrOk (inSend c) ↔ ayrOk c := by
  unfold inSend
  split <;> rfl

/-- A loaded image is written to empty memories (09 R200). -/
theorem loadImage_ayrOk (b : List Byte) (first count : Nat) : ayrOk (loadImage b first count c) := by
  have hfold : ∀ (l : List (Nat × W32)) m, memWfFrom haltWord 0 m = true →
      memWfFrom haltWord 0 (l.foldl (fun m w => memSet haltWord m w.1 w.2) m) = true := by
    intro l
    induction l with
    | nil => exact fun _ hm => hm
    | cons w l ih => exact fun m hm => ih _ (memSet_wfFrom m 0 w.1 w.2 (Nat.zero_le _) hm)
  exact ⟨memWrite_wf _ _ _ rfl, hfold _ _ rfl⟩

variable {c}

theorem ayrEffect_ayrOk (h : ayrOk c) (op : AyrOp) (pin : W32) (r : AyrCore) : ayrOk (ayrEffect op pin r c).1 := by
  cases op
  case mem f d a post off =>
    cases f
    case st => exact setDmem_ayrOk (c := setA _ _ c) h _ _ _
    case sth => exact setDmem_ayrOk (c := setA _ _ c) h _ _ _
    all_goals exact h
  case mac f ds dt hs ht lden al dl =>
    cases lden <;> exact h
  all_goals exact h

theorem ayrStep_ayrOk (h : ayrOk c) (op : AyrOp) (pin : W32) : ayrOk (ayrStep op pin c) := by
  have heffect := ayrEffect_ayrOk (c := commitLoad { (loopCheck c).1 with portOld := [] })
    ((commitLoad_ayrOk _).2 ((loopCheck_ayrOk c).2 h)) op pin (loopCheck c).1
  refine (ageMtl_ayrOk _).2 ?_
  dsimp only
  split
  · exact heffect
  split
  · exact heffect
  split
  · exact heffect
  · exact heffect
end

@[simp] theorem discardInput_memOk (s : State) : MemOk (discardInput s) ↔ MemOk s := Iff.rfl

@[simp] theorem answerBus_memOk (agent v : Nat) (err : Bool) (s : State) : MemOk (answerBus agent v err s) ↔ MemOk s :=
  Iff.rfl

@[simp] theorem servePort_memOk (p n : Nat) (s : State) : MemOk (servePort p n s) ↔ MemOk s := Iff.rfl

@[simp] theorem finishRecord_memOk (addr : Nat) (s : State) : MemOk (finishRecord addr s) ↔ MemOk s := Iff.rfl

theorem memOk_ite {c : Prop} [Decidable c] {a b : State} (ha : MemOk a) (hb : MemOk b) : MemOk (if c then a else b) :=
  by
  split
  · exact ha
  · exact hb

@[simp] theorem settleQueue_memOk (s : State) : MemOk (settleQueue s) ↔ MemOk s := by
  unfold settleQueue
  dsimp only
  split
  · rfl
  · rw [foldl_memOk_iff]
    · rfl
    · intro s p
      cases p.endsDump <;> cases p.endsCapt <;> simp

@[simp] theorem notePath_memOk (before : State) (path : Nat) (s : State) : MemOk (notePath before path s) ↔ MemOk s :=
  by
  unfold notePath
  split <;> simp

@[simp] theorem notePaths_memOk (before : State) (s : State) : MemOk (notePaths before s) ↔ MemOk s := by
  simp [notePaths]

@[simp] theorem refuse_memOk (status detail : Nat) (s : State) : MemOk (refuse s status detail).st ↔ MemOk s := Iff.rfl

@[simp] theorem badRange_memOk (s : State) : MemOk (badRange s).st ↔ MemOk s := Iff.rfl

@[simp] theorem badReserved_memOk (s : State) : MemOk (badReserved s).st ↔ MemOk s := Iff.rfl

@[simp] theorem badLen_memOk (s : State) : MemOk (badLen s).st ↔ MemOk s := Iff.rfl

@[simp] theorem admission_memOk (s : State) : MemOk (admission s).st ↔ MemOk s := Iff.rfl

@[simp] theorem notInState_memOk (s : State) : MemOk (notInState s).st ↔ MemOk s := Iff.rfl

@[simp] theorem answer_memOk (result : List Byte) (s : State) : MemOk (answer s result).st ↔ MemOk s := Iff.rfl

@[simp] theorem issue_memOk {s : State} (h : MemOk s) (r : Req) (c : Completion) : MemOk (issue r c s) := by
  unfold issue
  split
  · split
    · exact h
    · exact sramWrite_memOk h _ _
  · exact h

@[simp] theorem modPlace_memOk (client : Nat) (f : ClientPlace → ClientPlace) (s : State) :
    MemOk (modPlace client f s) ↔ MemOk s := Iff.rfl

theorem takePlace_memOk {s u : State} {client t : Nat} (e : takePlace client t s = some u) : MemOk u ↔ MemOk s := by
  unfold takePlace at e
  split at e
  · cases e
    rfl
  · dsimp only at e
    split at e
    · cases e
      rfl
    · split at e
      · cases e
        rfl
      · cases e

@[simp] theorem enterTag_memOk (client tag digest : Nat) (stored : Bool) (s : State) :
    MemOk (enterTag client tag digest stored s) ↔ MemOk s := Iff.rfl

@[simp] theorem cacheDone_memOk (client tag time : Nat) (c : Completion) (s : State) :
    MemOk (cacheDone client tag time c s) ↔ MemOk s := Iff.rfl

@[simp] theorem conclude_memOk {s : State} (h : MemOk s) (r : Req) (order time : Nat) (a : Reply) :
    MemOk (conclude r order time a s) := by simp [conclude, h]

@[simp] theorem nextCommit_memOk (s : State) : MemOk (nextCommit s) ↔ MemOk s := Iff.rfl

@[simp] theorem settle_memOk {o : Out} (h : MemOk o.st) (r : Req) (digest t : Nat) : MemOk (settle r digest t o) := by
  unfold settle
  dsimp only
  split <;> simp [h]

@[simp] theorem answerOnly_memOk {s : State} (h : MemOk s) (r : Req) (t : Nat) (a : Reply) (orig : Nat) :
    MemOk (answerOnly r t a orig s) := by simp [answerOnly, h]

@[simp] theorem accepted_memOk (r : Req) (s : State) : MemOk (accepted r s) ↔ MemOk s := Iff.rfl

@[simp] theorem setBusy_memOk (n : Nat) (s : State) : MemOk (setBusy n s) ↔ MemOk s := Iff.rfl

@[simp] theorem arrive_memOk {s : State} (h : MemOk s) (r : Req) (t : Nat) : MemOk (arrive r t s) := by simp [arrive, h]

@[simp] theorem setParty_memOk (p : Party) (s : State) : MemOk (setParty p s) ↔ MemOk s := Iff.rfl

@[simp] theorem queueMsg_memOk (id kind : Nat) (body : List Byte) (s : State) :
    MemOk (queueMsg id kind body s) ↔ MemOk s :=
  Iff.rfl

@[simp] theorem forwardReq_memOk (r : Req) (s : State) : MemOk (forwardReq r s) ↔ MemOk s := Iff.rfl

@[simp] theorem runNow_memOk {s : State} (h : MemOk s) (op : Nat) {f : Req → Nat → State → Out}
    (hf : ∀ r t s, MemOk s → MemOk (f r t s).st) (r : Req) (t : Nat) : MemOk (runNow op f r t s) := by
  unfold runNow
  dsimp only
  split
  · split <;> simp [h]
  split
  · simp [h]
  · rename_i v hplace
    have hv : MemOk v := (takePlace_memOk hplace).2 ((accepted_memOk _ _).2 h)
    split
    · exact hv
    · rw [modCage_memOk]
      split <;> simp [hv]
    · simp [hv]
    · split
      · simp [hv, refuse]
      · exact settle_memOk (hf _ _ _ ((enterTag_memOk _ _ _ _ _).2 hv)) _ _ _

@[simp] theorem runCommand_memOk {s : State} (h : MemOk s) (op : Nat) {f : Req → Nat → State → Out}
    (hf : ∀ r t s, MemOk s → MemOk (f r t s).st) (r : Req) (t : Nat) : MemOk (runCommand op f r t s) := by
  unfold runCommand
  split
  · split
    · simp [h]
    · exact arrive_memOk h _ _
  · split
    · exact h
    · exact runNow_memOk h op hf r t

@[simp] theorem finishOpen_memOk {s : State} (h : MemOk s) (p : OpenCmd → Bool) (mk : OpenCmd → Reply) (t : Nat) :
    MemOk (finishOpen p mk t s) := by
  refine foldl_memOk (fun s o hs => ?_) _ (by exact h)
  dsimp only
  split <;> simp [hs]

@[simp] theorem commitOpen_memOk (p : OpenCmd → Bool) (t : Nat) (s : State) : MemOk (commitOpen p t s) ↔ MemOk s := by
  simp [commitOpen]

@[simp] theorem setLaneRec_memOk (n : Nat) (f : LaneRec → LaneRec) (s : State) : MemOk (setLaneRec n f s) ↔ MemOk s :=
  Iff.rfl

@[simp] theorem failRecord_memOk (n : Nat) (s : State) : MemOk (failRecord n s) ↔ MemOk s := by simp [failRecord]

@[simp] theorem finishBringups_memOk {s : State} (h : MemOk s) : MemOk (finishBringups s) := by simp [finishBringups, h]

@[simp] theorem dropCopies_memOk (path : Nat) (hit : HPkt → Bool) (s : State) :
    MemOk (dropCopies path hit s) ↔ MemOk s := by
  simp [dropCopies]

@[simp] theorem dropDown_memOk (path : Nat) (s : State) : MemOk (dropDown path s) ↔ MemOk s := by simp [dropDown]

@[simp] theorem afterTxChange_memOk (before : State) (s : State) : MemOk (afterTxChange before s) ↔ MemOk s := by
  simp [afterTxChange]

@[simp] theorem laneAssign_memOk (r : Req) (x0 : Nat) (s : State) : MemOk (laneAssign r x0 s).st ↔ MemOk s := by
  simp [laneAssign]

@[simp] theorem freeLane_memOk (n : Nat) (s : State) : MemOk (freeLane n s) ↔ MemOk s := Iff.rfl

@[simp] theorem requeue_memOk (role : Nat) (p : TxPkt) (s : State) : MemOk (requeue role p s) ↔ MemOk s := by
  simp [requeue]

@[simp] theorem loseSerialiser_memOk (n : Nat) (s : State) : MemOk (loseSerialiser n s) ↔ MemOk s := by
  unfold loseSerialiser
  dsimp only
  split
  · refine whenRun_memOk ((afterTxChange_memOk _ _).trans ?_)
    rw [modLane_memOk]
    split
    · split <;> simp
    · rfl
  · rfl

@[simp] theorem deliver_memOk (n t : Nat) (bytes : List Byte) (s : State) : MemOk (deliver n t bytes s) ↔ MemOk s := by
  simp [deliver]

@[simp] theorem loseSignal_memOk (n : Nat) (inPkt : Bool) (s : State) : MemOk (loseSignal n inPkt s) ↔ MemOk s := by
  simp [loseSignal]

@[simp] theorem laneBringup_memOk (r : Req) (x0 : Nat) (s : State) : MemOk (laneBringup r x0 s).st ↔ MemOk s := by
  simp [laneBringup]

@[simp] theorem laneStatus_memOk (r : Req) (x0 : Nat) (s : State) : MemOk (laneStatus r x0 s).st ↔ MemOk s := by
  simp [laneStatus]

theorem takeDelivered_memOk {s s' : State} {lane typ : Nat} {b : List Byte} (e :
    takeDelivered lane typ s = some (b, s')) :
    MemOk s' ↔ MemOk s := by
  unfold takeDelivered at e
  split at e
  · split at e
    · cases e
      rfl
    · cases e
  · cases e

theorem launch_memOk {s u : State} {id : Nat} {pkt : List Byte} (e : launch id pkt s = some u) : MemOk u ↔ MemOk s := by
  unfold launch at e
  split at e
  · dsimp only at e
    split at e
    · cases e
    · cases e
      simp
  · dsimp only at e
    split at e
    · cases e
      rfl
    · cases e

@[simp] theorem postForwarded_memOk (f : Forwarded) (c : Completion) (s : State) :
    MemOk (postForwarded f c s) ↔ MemOk s :=
  Iff.rfl

@[simp] theorem kindDiscard_memOk (s : State) : MemOk (kindDiscard s) ↔ MemOk s := Iff.rfl

@[simp] theorem showUser_memOk {s : State} (h : MemOk s) (msg : List Byte) : MemOk (showUser msg s) :=
  sramWrite_memOk (sramWrite_memOk h _ _) _ _

@[simp] theorem actOnKind_memOk {s : State} (h : MemOk s) (from_ t : Nat) (msg : List Byte) :
    MemOk (actOnKind from_ t msg s) :=
  by
  unfold actOnKind
  dsimp only
  split
  · exact arrive_memOk h _ _
  · split <;> simp [h]
  · exact showUser_memOk h msg
  · simp [h]

@[simp] theorem serveInbox_memOk {s : State} (h : MemOk s) (t : Nat) : MemOk (serveInbox t s) := by
  simp +contextual [serveInbox, h, foldl_memOk]

@[simp] theorem takeMessage_memOk {s : State} (h : MemOk s) (b : List Byte) (t : Nat) : MemOk (takeMessage b t s) := by
  unfold takeMessage
  dsimp only
  split
  · split
    · exact serveInbox_memOk (by exact h) _
    · simp [h]
  all_goals simp [h]

@[simp] theorem destDiscard_memOk (s : State) : MemOk (destDiscard s) ↔ MemOk s := Iff.rfl

@[simp] theorem failForwards_memOk {s : State} (h : MemOk s) (id t : Nat) : MemOk (failForwards id t s) := by
  simp +contextual [failForwards, h, foldl_memOk]

theorem judge_memOk {s u : State} {b : List Byte} (e : judge s b = some u) : MemOk u ↔ MemOk s := by
  unfold judge at e
  split at e
  · cases e
    rfl
  · split at e
    · cases e
      rfl
    · cases e

@[simp] theorem modSlot_memOk (j : Nat) (f : Slot → Slot) (s : State) : MemOk (modSlot j f s) ↔ MemOk s := Iff.rfl

@[simp] theorem sealSlot_memOk (j : Nat) (deadline : Bool) (s : State) : MemOk (sealSlot j deadline s) ↔ MemOk s := by
  simp [sealSlot]

@[simp] theorem settleSlot_memOk (j : Nat) (s : State) : MemOk (settleSlot j s) ↔ MemOk s := by simp [settleSlot]

@[simp] theorem placeData_memOk (b : List Byte) (s : State) : MemOk (placeData b s) ↔ MemOk s := by simp [placeData]

@[simp] theorem takeData_memOk (b : List Byte) (s : State) : MemOk (takeData b s) ↔ MemOk s := by
  unfold takeData
  dsimp only
  (repeat' split) <;> simp

/-- A packet is judged, and taken in when nothing speaks against it. -/
theorem judged_memOk {s : State} {f : List Byte → State → State} (hf : ∀ b s, MemOk (f b s) ↔ MemOk s) (b : List Byte) :
    MemOk ((judge s b).getD (f b s)) ↔ MemOk s := by
  cases hj : judge s b with
  | none => exact hf b s
  | some v => exact judge_memOk hj

@[simp] theorem judgeWaiting_memOk (typ : Nat) {f : List Byte → State → State} (hf : ∀ b s, MemOk (f b s) ↔ MemOk s)
    (s : State) : MemOk (judgeWaiting typ f s) ↔ MemOk s := by
  have hone : ∀ s (p :
      RxPkt), MemOk ((judge s p.bytes).getD (f p.bytes s)) ↔ MemOk s := fun s p => judged_memOk hf p.bytes
  rw [judgeWaiting, foldl_memOk_iff hone, lanes_memOk]

@[simp] theorem openWindow_memOk (j : Nat) (s : State) : MemOk (openWindow j s) ↔ MemOk s := by
  unfold openWindow
  dsimp only
  (repeat' split) <;> simp

@[simp] theorem passClose_memOk (c : PbClose) (s : State) : MemOk (passClose c s) ↔ MemOk s := Iff.rfl

@[simp] theorem closeBlock_memOk (n : Nat) (s : State) : MemOk (closeBlock n s) ↔ MemOk s := by
  unfold closeBlock
  split <;> simp

@[simp] theorem skipBlocks_memOk (from_ n : Nat) (s : State) : MemOk (skipBlocks from_ n s) ↔ MemOk s := by
  simp [skipBlocks]

@[simp] theorem openBlock_memOk (n : Nat) (s : State) : MemOk (openBlock n s) ↔ MemOk s := by
  unfold openBlock
  dsimp only
  (repeat' split) <;> simp

@[simp] theorem dealUnit_memOk (u : PbUnit) (s : State) : MemOk (dealUnit u s) ↔ MemOk s := Iff.rfl

@[simp] theorem placePrompt_memOk (b : List Byte) (n : Nat) (s : State) : MemOk (placePrompt b n s) ↔ MemOk s := by
  unfold placePrompt
  dsimp only
  (repeat' split) <;> simp

@[simp] theorem takePrompt_memOk (b : List Byte) (s : State) : MemOk (takePrompt b s) ↔ MemOk s := by
  unfold takePrompt
  dsimp only
  (repeat' split) <;> simp

@[simp] theorem expireWait_memOk (n : Nat) (s : State) : MemOk (expireWait n s) ↔ MemOk s := by simp [expireWait]

@[simp] theorem hopClear_memOk (s : State) : MemOk (hopClear s) ↔ MemOk s := Iff.rfl

@[simp] theorem modSeries_memOk (n : Nat) (f : Series → Series) (s : State) : MemOk (modSeries n f s) ↔ MemOk s :=
  Iff.rfl

@[simp] theorem assaySat_memOk (n : Nat) (s : State) : MemOk (assaySat n s) ↔ MemOk s := by simp [assaySat]

@[simp] theorem handOver_memOk (n stamp : Nat) (value : Int) (s : State) :
    MemOk (handOver n stamp value s) ↔ MemOk s := by
  simp [handOver]

@[simp] theorem queueEvent_memOk (mask : Nat) (e : AssayEvent) (s : State) : MemOk (queueEvent mask e s) ↔ MemOk s := by
  simp [queueEvent]

@[simp] theorem commitStage_memOk (g : AssayStage) (s : State) : MemOk (commitStage s g) ↔ MemOk s := by
  simp [commitStage]

@[simp] theorem commitAssay_memOk (s : State) : MemOk (commitAssay s) ↔ MemOk s := by simp [commitAssay]

@[simp] theorem assayConfigure_memOk (r : Req) (s : State) : MemOk (assayConfigure r s).st ↔ MemOk s := by
  simp [assayConfigure]

@[simp] theorem requestFreeze_memOk (n stamp : Nat) (freeze : Bool) (s : State) :
    MemOk (requestFreeze n stamp freeze s) ↔ MemOk s := by simp [requestFreeze]

@[simp] theorem assayConfig_memOk (r : Req) (x0 : Nat) (s : State) : MemOk (assayConfig r x0 s).st ↔ MemOk s := by
  unfold assayConfig
  split <;> simp

@[simp] theorem assayClear_memOk (s : State) : MemOk (assayClear s) ↔ MemOk s := Iff.rfl

@[simp] theorem probeSelect_memOk (n : Nat) (s : State) : MemOk (probeSelect n s) ↔ MemOk s := Iff.rfl

@[simp] theorem setRates_memOk (s : State) : MemOk (setRates s) ↔ MemOk s := Iff.rfl

@[simp] theorem modBeamPos_memOk (pos : Nat) (f : BeamPos → BeamPos) (s : State) :
    MemOk (modBeamPos pos f s) ↔ MemOk s :=
  Iff.rfl

@[simp] theorem beamRunDone_memOk (pos set r lo admitted hi : Nat) (s : State) :
    MemOk (beamRunDone pos set r lo admitted hi s) ↔ MemOk s := by
  unfold beamRunDone
  split <;> simp

@[simp] theorem beginBeams_memOk (j : Nat) (s : State) : MemOk (beginBeams j s) ↔ MemOk s := Iff.rfl

@[simp] theorem retireGens_memOk (k : Nat) (s : State) : MemOk (retireGens k s) ↔ MemOk s := by simp [retireGens]

@[simp] theorem handUnit_memOk (u : HUnit) (s : State) : MemOk (handUnit u s) ↔ MemOk s := Iff.rfl

@[simp] theorem dropBeamPos_memOk (s : State) : MemOk (dropBeamPos s) ↔ MemOk s := Iff.rfl

@[simp] theorem sumPower_memOk (j : Nat) (s : State) : MemOk (sumPower j s) ↔ MemOk s := by
  unfold sumPower
  split <;> simp

@[simp] theorem handSetPower_memOk (acc : PowerAcc) (c set : Nat) (s : State) :
    MemOk (handSetPower acc c set s) ↔ MemOk s := by
  simp [handSetPower]

@[simp] theorem handGroupPower_memOk (acc : PowerAcc) (c : Nat) (groups : List Nat) (s : State) :
    MemOk (handGroupPower acc c groups s) ↔ MemOk s := by simp [handGroupPower]

@[simp] theorem handPower_memOk (k : Nat) (s : State) : MemOk (handPower k s) ↔ MemOk s := by simp [handPower]

@[simp] theorem endUnits_memOk (us : List PbUnit) (s : State) : MemOk (endUnits us s) ↔ MemOk s := Iff.rfl

@[simp] theorem stageGen_memOk (g : StagedGen) (k : Nat) (s : State) : MemOk (stageGen g k s).st ↔ MemOk s := Iff.rfl

@[simp] theorem busy_memOk (s : State) : MemOk (busy s).st ↔ MemOk s := Iff.rfl

@[simp] theorem beamsetDefine_memOk (r : Req) (x0 : Nat) (s : State) : MemOk (beamsetDefine r x0 s).st ↔ MemOk s := by
  simp [beamsetDefine]

@[simp] theorem beamDelays_memOk (r : Req) (x0 : Nat) (s : State) : MemOk (beamDelays r x0 s).st ↔ MemOk s := by
  simp [beamDelays]

@[simp] theorem commitGen_memOk (s : State) : MemOk (commitGen s) ↔ MemOk s := Iff.rfl

@[simp] theorem beamWeightTable_memOk {s : State} (h : MemOk s) (r : Req) (x0 : Nat) :
    MemOk (beamWeightTable r x0 s).st :=
  by
  unfold beamWeightTable
  (repeat' split) <;> simp +contextual [h, foldl_memOk]

@[simp] theorem promptConfig_memOk (r : Req) (x0 : Nat) (s : State) : MemOk (promptConfig r x0 s).st ↔ MemOk s := by
  simp [promptConfig]

@[simp] theorem beamClear_memOk (s : State) : MemOk (beamClear s) ↔ MemOk s := Iff.rfl

@[simp] theorem stageLine_memOk (l : StagedLine) (s : State) : MemOk (stageLine l s) ↔ MemOk s := by simp [stageLine]

@[simp] theorem setJob_memOk (j : PromJob) (s : State) : MemOk (setJob j s) ↔ MemOk s := Iff.rfl

@[simp] theorem finishJob_memOk {s : State} (h : MemOk s) (b : Bundle) (j : PromJob) : MemOk (finishJob b j s) := by
  simp [finishJob, h]

@[simp] theorem finishEmptyJobs_memOk {s : State} (h : MemOk s) : MemOk (finishEmptyJobs s) := by
  unfold finishEmptyJobs
  (repeat' split) <;> simp +contextual [h, foldl_memOk]

@[simp] theorem promote_memOk {s : State} (h : MemOk s) (b : Bundle) (j : PromJob) (l : StagedLine) :
    MemOk (promote b j l s) := by
  unfold promote
  dsimp only
  refine memOk_ite (finishJob_memOk ?_ _ _) ((setJob_memOk _ _).2 ?_)
  all_goals
    refine (modTal_memOk _ _).2 ((servePort_memOk _ _ _).2 (memOk_ite (memOk_ite h ?_) ?_))
    · exact memOk_ite (pitWrite_memOk (pitWrite_memOk h _ _) _ _) (pitWrite_memOk h _ _)
    · exact memOk_ite (pitWrite_memOk (pitWrite_memOk h _ _) _ _) (pitWrite_memOk h _ _)

@[simp] theorem adoptRing_memOk (sc : IntegSched) (s : State) : MemOk (adoptRing sc s) ↔ MemOk s := by simp [adoptRing]

@[simp] theorem takeEntry_memOk (b : Bundle) (it : Integ) (channel : Nat) (final : Bool) (s : State) :
    MemOk (takeEntry b it channel final s).1 ↔ MemOk s := Iff.rfl

@[simp] theorem closeInteg_memOk (s : State) : MemOk (closeInteg s) ↔ MemOk s := Iff.rfl

@[simp] theorem openInteg_memOk (k : Nat) (sc : IntegSched) (cont : Option Nat) (s : State) :
    MemOk (openInteg k sc cont s) ↔ MemOk s := Iff.rfl

@[simp] theorem endPendingStop_memOk {s : State} (h : MemOk s) (t : Nat) : MemOk (endPendingStop t s) := by
  simp [endPendingStop, h]

@[simp] theorem followOn_memOk {s : State} (h : MemOk s) (k t : Nat) : MemOk (followOn k t s) := by
  unfold followOn
  split <;> simp [h]

@[simp] theorem startSchedule_memOk (k : Nat) (s : State) : MemOk (startSchedule k s) ↔ MemOk s := by
  unfold startSchedule
  dsimp only
  (repeat' split) <;> simp

@[simp] theorem startCycle_memOk {s : State} (h : MemOk s) (k t : Nat) : MemOk (startCycle k t s) := by
  have hstarted : MemOk (startSchedule k (followOn k t s)) := (startSchedule_memOk _ _).2 (followOn_memOk h k t)
  unfold startCycle
  dsimp only
  split
  · exact hstarted
  · split
    · refine finishOpen_memOk ?_ _ _ _
      split <;> exact hstarted
    · split <;> exact hstarted

@[simp] theorem ringTest_memOk (b : Bundle) (it : Integ) (c : Nat) (j : PromJob) (s : State) :
    MemOk (ringTest b it c j s).2 ↔ MemOk s := by
  unfold ringTest
  dsimp only
  (repeat' split) <;> simp

@[simp] theorem beginTally_memOk {s : State} (h : MemOk s) (j t : Nat) : MemOk (beginTally j t s) := by
  unfold beginTally
  split
  · exact h
  · extract_lets k c closing started
    have hstarted : MemOk started := by
      unfold started
      split
      · exact startCycle_memOk h k t
      · exact h
    split
    · exact hstarted
    · dsimp only
      split
      · exact (modTal_memOk _ _).2 ((ringTest_memOk _ _ _ _ _).2 hstarted)
      · exact hstarted

@[simp] theorem sweepChannel_memOk {s : State} (h : MemOk s) (b : Bundle) (sw : Sweep) (c : Nat) :
    MemOk (sweepChannel b sw c s) := by
  have htaken : ∀ d final, MemOk (takeEntry b sw.integ d final (adoptRing sw.integ.sched s)).1 :=
    fun d final => (takeEntry_memOk _ _ _ _ _).2 ((adoptRing_memOk _ _).2 h)
  unfold sweepChannel
  dsimp only
  refine (modTal_memOk _ _).2 ((servePort_memOk _ _ _).2 (pitWrite_memOk (foldl_memOk (fun s x hs => ?_) _ ?_) _ _))
  · exact memOk_ite (pitWrite_memOk (pitWrite_memOk hs _ _) _ _) (pitWrite_memOk hs _ _)
  · exact pitWrite_memOk (htaken _ _) _ _

@[simp] theorem startSweep_memOk (s : State) : MemOk (startSweep s) ↔ MemOk s := by
  unfold startSweep
  split <;> simp

@[simp] theorem integSchedule_memOk (r : Req) (x0 : Nat) (s : State) : MemOk (integSchedule r x0 s).st ↔ MemOk s := by
  unfold integSchedule
  (repeat' split) <;> simp

@[simp] theorem integStop_memOk (r : Req) (t : Nat) (s : State) : MemOk (integStop r t s).st ↔ MemOk s := by
  unfold integStop
  (repeat' split) <;> simp

@[simp] theorem talClear_memOk (s : State) : MemOk (talClear s) ↔ MemOk s := Iff.rfl

@[simp] theorem modFrame_memOk (k : Nat) (f : Frame → Frame) (s : State) : MemOk (modFrame k f s) ↔ MemOk s := Iff.rfl

@[simp] theorem markFault_memOk (logical : Nat) (s : State) : MemOk (markFault logical s) ↔ MemOk s := by
  unfold markFault
  split <;> simp

@[simp] theorem stageShadow_memOk (logical : Nat) (sh : Shadow) (s : State) :
    MemOk (stageShadow logical sh s) ↔ MemOk s :=
  by
  unfold stageShadow
  split <;> simp

@[simp] theorem stageAbsent_memOk (logical : Nat) (r : Run) (from_ : Nat) (s : State) :
    MemOk (stageAbsent logical r from_ s) ↔ MemOk s := by
  unfold stageAbsent
  split <;> simp

@[simp] theorem startRun_memOk (k : Nat) (s : State) : MemOk (startRun k s) ↔ MemOk s := by
  unfold startRun
  (repeat' split) <;> simp

@[simp] theorem endRun_memOk (k : Nat) (s : State) : MemOk (endRun k s) ↔ MemOk s := by
  unfold endRun
  (repeat' split) <;> simp

@[simp] theorem loseContext_memOk (k ctx : Nat) (s : State) : MemOk (loseContext k ctx s).1 ↔ MemOk s := by
  unfold loseContext
  (repeat' split) <;> simp

@[simp] theorem startPreempt_memOk (k n : Nat) (us : List PbUnit) (admitted cost : Nat) (saved : Bool) (s : State) :
    MemOk (startPreempt k n us admitted cost saved s) ↔ MemOk s := Iff.rfl

@[simp] theorem placeDrained_memOk (k : Nat) (f : Frame) (r : Run) (d : Nat) (s : State) :
    MemOk (placeDrained k f r d s) ↔ MemOk s := by simp [placeDrained]

@[simp] theorem countStall_memOk (f : Frame) (n : Nat) (s : State) : MemOk (countStall f n s) ↔ MemOk s := by
  simp [countStall]

@[simp] theorem drainFrame_memOk (k admitted n : Nat) (s : State) : MemOk (drainFrame k admitted n s) ↔ MemOk s := by
  unfold drainFrame
  (repeat' split) <;> simp

@[simp] theorem overrun_memOk (admitted stalls : List Nat) (s : State) : MemOk (overrun admitted stalls s) ↔ MemOk s :=
  by
  unfold overrun
  dsimp only
  split
  · rfl
  · rw [noteStat_memOk, modAba_memOk, foldl_memOk_iff]
    intro s k
    cases frameAt s k <;> simp

@[simp] theorem drainCmd_memOk (x0 : Req) (x1 : Nat) (s : State) : MemOk (drainCmd x0 x1 s).st ↔ MemOk s := by
  simp [drainCmd]

@[simp] theorem flushFrame_memOk (k : Nat) (s : State) : MemOk (flushFrame k s) ↔ MemOk s := by
  unfold flushFrame
  (repeat' split) <;> simp

@[simp] theorem switchSched_memOk (j : Nat) (s : State) : MemOk (switchSched j s) ↔ MemOk s := by
  unfold switchSched
  split <;> simp

@[simp] theorem beginFrames_memOk (j : Nat) (s : State) : MemOk (beginFrames j s) ↔ MemOk s := by
  unfold beginFrames
  split <;> simp

@[simp] theorem startFrames_memOk (s : State) : MemOk (startFrames s) ↔ MemOk s := by simp [startFrames]

@[simp] theorem abaClear_memOk (s : State) : MemOk (abaClear s) ↔ MemOk s := Iff.rfl

@[simp] theorem endLossRun_memOk (stream : Nat) (s : State) : MemOk (endLossRun stream s) ↔ MemOk s := by
  unfold endLossRun
  split <;> simp

@[simp] theorem lose_memOk (stream ref : Nat) (s : State) : MemOk (lose stream ref s) ↔ MemOk s := Iff.rfl

@[simp] theorem buildPkt_memOk (p : HPkt) (s : State) : MemOk (buildPkt p s) ↔ MemOk s := by simp [buildPkt]

@[simp] theorem buildSome_memOk (l : List HPkt) (s : State) : MemOk (buildSome l s).2 ↔ MemOk s := by
  induction l generalizing s with
  | nil => rfl
  | cons p r ih =>
    unfold buildSome
    split
    · rw [ih, buildPkt_memOk]
    · rfl

@[simp] theorem buildDump_memOk (b : Bundle) (r : RingRec) (i n : Nat) (s : State) :
    MemOk (buildDump b r i n s).2 ↔ MemOk s :=
  by
  induction n generalizing i s with
  | zero => rfl
  | succ n ih =>
    unfold buildDump
    split
    · split
      · rw [ih, buildPkt_memOk, servePort_memOk]
      · rfl
    · rfl

@[simp] theorem setUnit_memOk (old : HUnit) (new : Option HUnit) (s : State) : MemOk (setUnit old new s) ↔ MemOk s :=
  Iff.rfl

@[simp] theorem buildReady_memOk (u : HUnit) (stream : Nat) (l : List HPkt) (s : State) :
    MemOk (buildReady u stream l s) ↔ MemOk s := by simp [buildReady]

@[simp] theorem noteDrops_memOk (path : Nat) (s : State) : MemOk (noteDrops path s) ↔ MemOk s := by simp [noteDrops]

@[simp] theorem setTxCur_memOk (n : Nat) (p : TxPkt) (s : State) : MemOk (setTxCur n p s) ↔ MemOk s := Iff.rfl

@[simp] theorem beaconEgress_memOk (pkt : List Byte) (now : Nat) (s : State) :
    MemOk (beaconEgress pkt now s).2 ↔ MemOk s :=
  Iff.rfl

@[simp] theorem hoistStreams_memOk (r : Req) (x0 : Nat) (s : State) : MemOk (hoistStreams r x0 s).st ↔ MemOk s := by
  simp [hoistStreams]

@[simp] theorem hoistPaths_memOk (r : Req) (x0 : Nat) (s : State) : MemOk (hoistPaths r x0 s).st ↔ MemOk s := by
  simp [hoistPaths]

@[simp] theorem crushConfig_memOk (r : Req) (x0 : Nat) (s : State) : MemOk (crushConfig r x0 s).st ↔ MemOk s := by
  simp [crushConfig]

@[simp] theorem enterHeld_memOk (s : State) : MemOk (enterHeld s) ↔ MemOk s := by simp [enterHeld]

@[simp] theorem dropCaptUnits_memOk (s : State) : MemOk (dropCaptUnits s) ↔ MemOk s := Iff.rfl

@[simp] theorem releaseRing_memOk (s : State) : MemOk (releaseRing s) ↔ MemOk s := Iff.rfl

@[simp] theorem rewriteHeader_memOk {s : State} (h : MemOk s) (c : CaptRec) : MemOk (rewriteHeader c s) := by
  simp [rewriteHeader, h]

@[simp] theorem refuseFreeze_memOk (s : State) : MemOk (refuseFreeze s) ↔ MemOk s := Iff.rfl

@[simp] theorem freezeRing_memOk {s : State} (h : MemOk s) (stamp number : Nat) : MemOk (freezeRing stamp number s).2 :=
  by
  unfold freezeRing
  extract_lets k ka
  split
  · exact h
  · split
    · exact h
    · dsimp only
      refine memOk_ite (memOk_ite ?_ ?_) ((enterHeld_memOk _).2 (memOk_ite ?_ ?_))
      all_goals exact foldl_memOk (fun s c hs => rewriteHeader_memOk hs c) _ h
  · split
    · exact h
    · split <;> exact h

@[simp] theorem captBegin_memOk (j : Nat) (s : State) : MemOk (captBegin j s) ↔ MemOk s := by
  unfold captBegin
  (repeat' split) <;> simp

@[simp] theorem captEnd_memOk {s : State} (h : MemOk s) (j : Nat) : MemOk (captEnd j s) := by simp [captEnd, h]

@[simp] theorem captureConfig_memOk (r : Req) (x0 : Nat) (s : State) : MemOk (captureConfig r x0 s).st ↔ MemOk s := by
  unfold captureConfig
  split <;> simp

@[simp] theorem captureFreeze_memOk {s : State} (h : MemOk s) (r : Req) (x0 : Nat) : MemOk (captureFreeze r x0 s).st :=
  by
  have hring := freezeRing_memOk h (b64 r 24) 0xFFFFFFFF
  unfold captureFreeze
  dsimp only
  split <;> exact hring

@[simp] theorem captureRelease_memOk (r : Req) (x0 : Nat) (s : State) : MemOk (captureRelease r x0 s).st ↔ MemOk s := by
  unfold captureRelease
  (repeat' split) <;> simp

@[simp] theorem handTrig_memOk (p : HPkt) (s : State) : MemOk (handTrig p s) ↔ MemOk s := by simp [handTrig]

@[simp] theorem fire_memOk {s : State} (h : MemOk s) (c : Candidate) (tick : Nat) : MemOk (fire c tick s) := by
  unfold fire
  dsimp only
  have hfrozen : ∀ (b : Bool) t stamp number, MemOk (if b then freezeRing stamp number { s with trig := t }
      else (.merged, { s with trig := t })).2 := by
    intro b t stamp number
    cases b
    · exact h
    · exact freezeRing_memOk (by exact h) _ _
  exact memOk_ite ((handTrig_memOk _ _).2 (hfrozen _ _ _ _)) (hfrozen _ _ _ _)


@[simp] theorem triggerConfig_memOk (r : Req) (x0 : Nat) (s : State) : MemOk (triggerConfig r x0 s).st ↔ MemOk s := by
  unfold triggerConfig
  dsimp only
  split
  · simp
  split
  · simp
  split
  · simp
  · rfl

@[simp] theorem triggerArm_memOk (r : Req) (x0 : Nat) (s : State) : MemOk (triggerArm r x0 s).st ↔ MemOk s := Iff.rfl

@[simp] theorem freeEvent_memOk (a : Nat) (s : State) : MemOk (freeEvent a s) ↔ MemOk s := Iff.rfl

@[simp] theorem injectValue_memOk {s : State} (h : MemOk s) (a : Nat) (v : W32) : MemOk (injectValue a v s) := by
  unfold injectValue
  dsimp only
  split
  · refine modAyr_memOk ((handOver_memOk _ _ _ _).2 h) a fun c hc => ?_
    split <;> exact hc
  · exact modAyr_memOk h a fun c hc => hc

@[simp] theorem freezeSeries_memOk {s : State} (h : MemOk s) (a : Nat) (v : W32) : MemOk (freezeSeries a v s) := by
  unfold freezeSeries
  dsimp only
  split
  · simp [h]
  · exact modAyr_memOk h a fun c hc => hc

@[simp] theorem portWrite_memOk {s : State} (h : MemOk s) (a port : Nat) (v : W32) : MemOk (portWrite a port v s) := by
  have hset : ∀ f : AyrCore → AyrCore, (∀ c, ayrOk (f c) ↔ ayrOk c) → MemOk (modAyr a f s) :=
    fun f hf => modAyr_memOk h a fun c => (hf c).2
  unfold portWrite
  dsimp only
  split
  case h_2 => exact hset _ fun c => by split <;> rfl
  case h_3 => exact hset _ fun c => by split <;> rfl
  case h_5 => exact (freeEvent_memOk _ _).2 h
  case h_9 => exact injectValue_memOk h a v
  case h_12 => exact freezeSeries_memOk h a v
  case h_16 => exact hset _ fun c => requestTrigger_ayrOk c v
  case h_17 => exact hset _ sendOut_ayrOk
  case h_19 =>
    split
    · exact hset _ fun c => Iff.rfl
    · exact h
  all_goals exact hset _ fun c => Iff.rfl

@[simp] theorem missedStop_memOk {s : State} (h : MemOk s) (a : Nat) : MemOk (missedStop a s) :=
  modAyr_memOk (finishOpen_memOk h _ _ _) a fun _ hc => hc

@[simp] theorem ayrFault_memOk {s : State} (h : MemOk s) (a code : Nat) : MemOk (ayrFault a code s) := by
  refine missedStop_memOk (modAyr_memOk h a fun c hc => ?_) a
  exact (ayrOk_congr (c := drainCore c) rfl rfl).2 ((drainCore_ayrOk c).2 hc)

@[simp] theorem ayrRun_memOk {s : State} (h : MemOk s) (a : Nat) (op : AyrOp) (e : MemErr) (now : Nat) :
    MemOk (ayrRun a op e now s) := by
  have hstep : ∀ v, ∀ u, MemOk u → MemOk (modAyr a (ayrStep op v) u) :=
    fun v u hu => modAyr_memOk hu a fun c hc => ayrStep_ayrOk hc op v
  unfold ayrRun
  split
  · exact h
  split
  · exact ayrFault_memOk h a 3
  dsimp only
  have hfix :
      MemOk (if e = .ce ∧ op.readsMem then modAyr a (fun c => ayrCause 5 { c with memCe := sat32 (c.memCe + 1) }) s else s) := by
    split
    · exact modAyr_memOk h a fun c hc => hc
    · exact h
  split
  · exact modAyr_memOk hfix a fun c hc => ayrStep_ayrOk ((pinLatch_ayrOk c _ _).2 hc) _ _
  · exact modAyr_memOk (portWrite_memOk (hstep 0 _ hfix) _ _ _) a fun c hc => hc
  · refine missedStop_memOk (modAyr_memOk hfix a fun c hc => ?_) a
    exact (ayrOk_congr (c := drainCore (ayrStep .halt 0 c)) rfl rfl).2 ((drainCore_ayrOk _).2 (ayrStep_ayrOk hc _ _))
  · exact hstep 0 _ hfix

@[simp] theorem windowStore_memOk {s : State} (h : MemOk s) (a off : Nat) (v : W32) : MemOk (windowStore a off v s) :=
  by
  refine modAyr_memOk h a fun c hc => ?_
  split
  · split
    · exact hc
    · exact ⟨hc.1, memSet_wfFrom _ _ _ _ (Nat.zero_le _) hc.2⟩
  · split
    · exact setDmem_ayrOk hc _ _ _
    · exact hc

@[simp] theorem startCore_memOk {s : State} (h : MemOk s) (a boot : Nat) : MemOk (startCore a boot s) :=
  modAyr_memOk h a fun _ hc => hc

@[simp] theorem takeImage_memOk {s : State} (h : MemOk s) (a first count : Nat) (b : List Byte) :
    MemOk (takeImage a first count b s).st := by
  unfold takeImage
  split
  · exact h
  split
  · exact h
  · exact modAyr_memOk h a fun c _ => loadImage_ayrOk c b first count

@[simp] theorem assayerLoad_memOk {s : State} (h : MemOk s) (r : Req) (x0 : Nat) : MemOk (assayerLoad r x0 s).st := by
  unfold assayerLoad
  (repeat' split) <;> simp [h]

@[simp] theorem assayerRun_memOk {s : State} (h : MemOk s) (r : Req) (x0 : Nat) : MemOk (assayerRun r x0 s).st := by
  have hset : ∀ f :
      AyrCore → AyrCore, (∀ c, (f c).dmem = c.dmem ∧ (f c).imem = c.imem) → MemOk (modAyr (b8 r 24) f s) :=
    fun f hf => modAyr_memOk h _ fun c hc => by
      obtain ⟨hd, hi⟩ := hf c
      rwa [ayrOk, hd, hi]
  unfold assayerRun
  dsimp only
  split
  · exact h
  split
  iterate 4 exact startCore_memOk h _ _
  · split
    · exact h
    · exact hset _ fun c => ⟨rfl, rfl⟩
  · split
    · exact h
    · exact hset _ fun c => ⟨rfl, rfl⟩
  · exact hset _ fun c => ⟨rfl, rfl⟩
  · split
    · exact h
    · exact hset _ fun c => ⟨rfl, rfl⟩
  · exact h

@[simp] theorem stopCore_memOk {s : State} (h : MemOk s) (a t : Nat) (forced : Bool) : MemOk (stopCore a t forced s) :=
  by
  refine finishOpen_memOk (modAyr_memOk h a fun c hc => ?_) _ _ _
  cases forced
  · exact (commitLoad_ayrOk c).2 hc
  · exact hc

@[simp] theorem pitStatus_memOk (x0 : Req) (x1 : Nat) (s : State) : MemOk (pitStatus x0 x1 s).st ↔ MemOk s := Iff.rfl

theorem failRank_mem (k : Nat) (p : Pit) : (failRank k p).mem = p.mem := by
  unfold failRank
  split
  · rfl
  · split <;> rfl

@[simp] theorem pitRetireRank_memOk (r : Req) (x0 : Nat) (s : State) : MemOk (pitRetireRank r x0 s).st ↔ MemOk s := by
  unfold pitRetireRank
  dsimp only
  split
  · rfl
  · split
    case h_7 =>
      split
      · rfl
      · split
        · rfl
        · exact modPit_memOk _ (failRank_mem _ _)
    all_goals rfl

theorem modPit_memOk_of {s : State} (h : MemOk s) {f : Pit → Pit} (hf : Memory.wf (f s.pit).mem = true) :
    MemOk (modPit f s) :=
  ⟨⟨h.sram, hf, h.ayr⟩, h.core⟩

theorem arrivePit_wf {p : Pit} (h : Memory.wf p.mem = true) (q : PitReq) : Memory.wf (arrivePit q p).mem = true := by
  have henqueue : ∀ q (p : Pit), (enqueuePit q p).mem = p.mem := by
    intro q p
    unfold enqueuePit
    split <;> rfl
  unfold arrivePit
  dsimp only
  split
  · rwa [henqueue]
  · rw [henqueue]
    exact memWrite_wf _ _ _ h

theorem meetRegulator_wf {p : Pit} (h : Memory.wf p.mem = true) (q : PitReq) :
    Memory.wf (meetRegulator q p).mem = true :=
  by
  unfold meetRegulator
  dsimp only
  split
  · exact h
  · exact arrivePit_wf (by exact h) q

theorem releaseWaiting_wf {p : Pit} (h : Memory.wf p.mem = true) (n : Nat) :
    Memory.wf (releaseWaiting n p).mem = true :=
  by
  have hfold : ∀ (l : List PitReq) (p : Pit), Memory.wf p.mem = true →
      Memory.wf (l.foldl (fun p q => meetRegulator q p) p).mem = true := by
    intro l
    induction l with
    | nil => exact fun _ hp => hp
    | cons q l ih => exact fun p hp => ih _ (meetRegulator_wf hp q)
  exact hfold _ _ h

@[simp] theorem pitRegulator_memOk {s : State} (h : MemOk s) (r : Req) (x0 : Nat) : MemOk (pitRegulator r x0 s).st := by
  unfold pitRegulator
  dsimp only
  split
  · exact h
  · split
    · exact modPit_memOk_of (by exact h) (releaseWaiting_wf (by exact h.pit) 4)
    · exact h

@[simp] theorem pitScrub_memOk (r : Req) (x0 : Nat) (s : State) : MemOk (pitScrub r x0 s).st ↔ MemOk s := by
  simp [pitScrub]

@[simp] theorem withSelection_memOk (f : Tu → Tu) (s : State) : MemOk (withSelection f s) ↔ MemOk s := Iff.rfl

@[simp] theorem moveTime_memOk (d : Int) (subOnly : Bool) (s : State) : MemOk (moveTime d subOnly s) ↔ MemOk s :=
  Iff.rfl

@[simp] theorem coarseSet_memOk (k : Nat) (s : State) : MemOk (coarseSet k s) ↔ MemOk s := by simp [coarseSet]

@[simp] theorem afterPhase_memOk (k : Nat) (s : State) : MemOk (afterPhase k s) ↔ MemOk s := by simp [afterPhase]

@[simp] theorem signalFails_memOk (i why : Nat) (s : State) : MemOk (signalFails i why s) ↔ MemOk s := by
  simp [signalFails]

@[simp] theorem tuSecond_memOk {s : State} (h : MemOk s) (ns t : Nat) : MemOk (tuSecond ns t s) := by simp [tuSecond, h]

@[simp] theorem loseXo_memOk (s : State) : MemOk (loseXo s) ↔ MemOk s := by simp [loseXo]

@[simp] theorem doTimeRefs_memOk (r : Req) (_t : Nat) (s : State) : MemOk (doTimeRefs r _t s).st ↔ MemOk s := by
  unfold doTimeRefs
  dsimp only
  (repeat' split) <;> simp

@[simp] theorem doTimeLoop_memOk (r : Req) (_t : Nat) (s : State) : MemOk (doTimeLoop r _t s).st ↔ MemOk s := by
  simp [doTimeLoop]

@[simp] theorem doTimePhaseStep_memOk (r : Req) (x0 : Nat) (s : State) : MemOk (doTimePhaseStep r x0 s).st ↔ MemOk s :=
  by
  unfold doTimePhaseStep
  extract_lets clear u step
  split
  · rfl
  · split <;> rfl

@[simp] theorem setTime_memOk (sec ns frac : Nat) (s : State) : MemOk (setTime sec ns frac s) ↔ MemOk s := Iff.rfl

@[simp] theorem doTimeSet_memOk (r : Req) (_t : Nat) (s : State) : MemOk (doTimeSet r _t s).st ↔ MemOk s := by
  simp [doTimeSet]

@[simp] theorem doTimeStatus_memOk (_r : Req) (_t : Nat) (s : State) : MemOk (doTimeStatus _r _t s).st ↔ MemOk s :=
  Iff.rfl

@[simp] theorem doPtpConfig_memOk (r : Req) (_t : Nat) (s : State) : MemOk (doPtpConfig r _t s).st ↔ MemOk s := by
  simp [doPtpConfig]

@[simp] theorem doHoldoverModel_memOk (r : Req) (_t : Nat) (s : State) :
    MemOk (doHoldoverModel r _t s).st ↔ MemOk s := by
  simp [doHoldoverModel]

@[simp] theorem bundleLoad_memOk (r : Req) (x0 : Nat) (s : State) : MemOk (bundleLoad r x0 s).st ↔ MemOk s := by
  simp [bundleLoad]

@[simp] theorem bundleJob_memOk (raw : List Byte) (s : State) : MemOk (bundleJob raw s).1 ↔ MemOk s := by
  unfold bundleJob
  dsimp only
  split <;> rfl

@[simp] theorem imageJob_memOk {s : State} (h : MemOk s) (r : Req) (j : ExpJob) : MemOk (imageJob r j s).1 := by
  unfold imageJob
  split <;> simp [h]

@[simp] theorem failedJob_memOk {s : State} (h : MemOk s) (o : OpenCmd) : MemOk (failedJob o s).1 := by
  unfold failedJob
  split
  · exact modAyr_memOk h _ fun c hc => hc
  · exact h

@[simp] theorem jobOutput_memOk (j : ExpJob) (s : State) : MemOk (jobOutput j s) ↔ MemOk s := by
  unfold jobOutput
  split <;> simp

@[simp] theorem sendVectors_memOk (vs : List Nat) (s : State) : MemOk (sendVectors vs s) ↔ MemOk s := Iff.rfl

@[simp] theorem askVector_memOk (v : Nat) (s : State) : MemOk (askVector v s) ↔ MemOk s := by simp [askVector]

@[simp] theorem askVectors_memOk (s : State) : MemOk (askVectors s) ↔ MemOk s := by simp [askVectors]

@[simp] theorem bellSync_memOk (s : State) : MemOk (bellSync s) ↔ MemOk s := by simp [bellSync]

@[simp] theorem withBell_memOk {s : State} (h : MemOk s) {f : State → State} (hf : ∀ s, MemOk s → MemOk (f s)) :
    MemOk (withBell f s) :=
  (bellSync_memOk _).2 (hf _ ((bellSync_memOk _).2 h))

@[simp] theorem claim_memOk (agent t : Nat) (s : State) : MemOk (claim agent t s).2 ↔ MemOk s := by
  unfold claim
  dsimp only
  (repeat' split) <;> simp

@[simp] theorem complete_memOk (agent t n : Nat) (s : State) : MemOk (complete agent t n s) ↔ MemOk s := by
  simp [complete]

@[simp] theorem pendClear_memOk (w v : Nat) (s : State) : MemOk (pendClear w v s) ↔ MemOk s := by simp [pendClear]

@[simp] theorem swSet_memOk (w v : Nat) (s : State) : MemOk (swSet w v s) ↔ MemOk s := by simp [swSet]

@[simp] theorem bellCtrlWrite_memOk (v : Nat) (s : State) : MemOk (bellCtrlWrite v s) ↔ MemOk s := by
  simp [bellCtrlWrite]

@[simp] theorem remapWrite_memOk (core v : Nat) (s : State) : MemOk (remapWrite core v s) ↔ MemOk s := Iff.rfl

@[simp] theorem bellWrite_memOk (agent off v : Nat) (s : State) : MemOk (bellWrite agent off v s) ↔ MemOk s := by
  simp [bellWrite]

@[simp] theorem modConv_memOk (m : Nat) (f : Conv → Conv) (s : State) : MemOk (modConv m f s) ↔ MemOk s := Iff.rfl

@[simp] theorem monCause_memOk (ks : List Nat) (s : State) : MemOk (monCause ks s) ↔ MemOk s := Iff.rfl

@[simp] theorem latchCal_memOk (m input : Nat) (s : State) : MemOk (latchCal m input s) ↔ MemOk s := by simp [latchCal]

@[simp] theorem refCheck_memOk (input : Nat) (v : Int) (s : State) : MemOk (refCheck input v s) ↔ MemOk s := by
  simp [refCheck]

@[simp] theorem winCheck_memOk (e : List Byte) (v : Int) (s : State) : MemOk (winCheck e v s) ↔ MemOk s := by
  simp [winCheck]

@[simp] theorem pushFifo_memOk (m : Nat) (e : List Byte) (v : Int) (excess : Bool) (stamp : Nat) (s : State) :
    MemOk (pushFifo m e v excess stamp s) ↔ MemOk s := by simp [pushFifo]

@[simp] theorem endEntry_memOk (s : State) : MemOk (endEntry s) ↔ MemOk s := by simp [endEntry]

@[simp] theorem commitTable_memOk (table : List (List Byte)) (run : Bool) (s : State) :
    MemOk (commitTable table run s) ↔ MemOk s := Iff.rfl

@[simp] theorem monSequence_memOk (r : Req) (x0 : Nat) (s : State) : MemOk (monSequence r x0 s).st ↔ MemOk s := by
  simp [monSequence]

theorem queueUrgent_memOk {s u : State} {m : Nat} {q : UrgReq} (e : queueUrgent m q s = some u) : MemOk u ↔ MemOk s :=
  by
  unfold queueUrgent at e
  split at e
  · cases e
    rfl
  · cases e

@[simp] theorem tuUrgent_memOk (s : State) : MemOk (tuUrgent s) ↔ MemOk s := by
  unfold tuUrgent
  dsimp only
  split
  · exact queueUrgent_memOk ‹_›
  · rfl

@[simp] theorem monUrgent_memOk (r : Req) (x0 : Nat) (s : State) : MemOk (monUrgent r x0 s).st ↔ MemOk s := by
  unfold monUrgent
  split
  · rfl
  · dsimp only
    split
    · exact queueUrgent_memOk ‹_›
    · rfl

@[simp] theorem resumeConv_memOk (m : Nat) (s : State) : MemOk (resumeConv m s) ↔ MemOk s := by simp [resumeConv]

@[simp] theorem deliverUrgent_memOk {s : State} (h :
    MemOk s) (m : Nat) (q : UrgReq) (v : Int) (excess : Bool) (t : Nat) :
    MemOk (deliverUrgent m q v excess t s) := by
  unfold deliverUrgent
  split <;> simp [h]

@[simp] theorem endUrgent_memOk {s : State} (h : MemOk s) (m : Nat) (r : Int) (t : Nat) : MemOk (endUrgent m r t s) :=
  by
  unfold endUrgent
  dsimp only
  split
  · exact h
  · split
    · exact (resumeConv_memOk _ _).2 (deliverUrgent_memOk (by simp [h]) _ _ _ _ _)
    · simp [h]

@[simp] theorem endTable_memOk (m : Nat) (r : Int) (t : Nat) (s : State) : MemOk (endTable m r t s) ↔ MemOk s := by
  simp [endTable]

@[simp] theorem measure_memOk (r : Req) (full : Option Int) (s : State) : MemOk (measure r full s).st ↔ MemOk s := by
  unfold measure
  dsimp only
  split
  · rfl
  · split
    · exact queueUrgent_memOk ‹_›
    · rfl

@[simp] theorem computeCal_memOk (m k : Nat) (s : State) : MemOk (computeCal m k s).st ↔ MemOk s := by
  unfold computeCal
  dsimp only
  (repeat' split) <;> simp

@[simp] theorem monCalibrate_memOk (r : Req) (x0 : Nat) (s : State) : MemOk (monCalibrate r x0 s).st ↔ MemOk s := by
  simp [monCalibrate]

@[simp] theorem monRead_memOk (x0 : Req) (t : Nat) (s : State) : MemOk (monRead x0 t s).st ↔ MemOk s := Iff.rfl

@[simp] theorem monFifoRead_memOk (m : Nat) (s : State) : MemOk (monFifoRead m s).2 ↔ MemOk s := by
  unfold monFifoRead
  split <;> simp

@[simp] theorem clearMon_memOk (s : State) : MemOk (clearMon s) ↔ MemOk s := Iff.rfl

@[simp] theorem monWrite_memOk (off v : Nat) (s : State) : MemOk (monWrite off v s) ↔ MemOk s := by
  unfold monWrite
  (repeat' split) <;> simp

@[simp] theorem conCause_memOk (ks : List Nat) (s : State) : MemOk (conCause ks s) ↔ MemOk s := Iff.rfl

@[simp] theorem setPeer_memOk (p : Peer) (s : State) : MemOk (setPeer p s) ↔ MemOk s := Iff.rfl

@[simp] theorem judgeSuspect_memOk (s : State) : MemOk (judgeSuspect s) ↔ MemOk s := by simp [judgeSuspect]

@[simp] theorem judgeLeader_memOk (s : State) : MemOk (judgeLeader s) ↔ MemOk s := by simp [judgeLeader]

@[simp] theorem sendBeacon_memOk (source : Nat) (s : State) : MemOk (sendBeacon source s) ↔ MemOk s := by
  unfold sendBeacon
  split <;> simp

@[simp] theorem joinPeers_memOk (number : Nat) (sources : List Nat) (now : Nat) (s : State) :
    MemOk (joinPeers number sources now s) ↔ MemOk s := by simp [joinPeers]

@[simp] theorem countSuspect_memOk (s : State) : MemOk (countSuspect s) ↔ MemOk s := by simp [countSuspect]

@[simp] theorem joinStaged_memOk {s : State} (h : MemOk s) (t : Nat) : MemOk (joinStaged t s) := by
  unfold joinStaged
  split <;> simp [h]

@[simp] theorem beaconSecond_memOk {s : State} (h : MemOk s) (t : Nat) : MemOk (beaconSecond t s) := by
  simp [beaconSecond, h]

@[simp] theorem judgeDue_memOk (before p : Peer) (s : State) : MemOk (judgeDue before p s) ↔ MemOk s := by
  simp [judgeDue]

@[simp] theorem takeBeacon_memOk (p : Peer) (epoch : Nat) (body : List Byte) (direct : Bool) (ingress : Nat) (s :
    State) :
    MemOk (takeBeacon p epoch body direct ingress s) ↔ MemOk s := by
  unfold takeBeacon
  extract_lets asym m measured compared p' entered s₁ s₂ s₃ s₄ s₅
  have h₁ : MemOk s₁ ↔ MemOk s := by simp [s₁]
  have h₂ : MemOk s₂ ↔ MemOk s₁ := by simp [s₂]
  have h₃ : MemOk s₃ ↔ MemOk s₂ := by simp [s₃]
  have h₄ : MemOk s₄ ↔ MemOk s₃ := by simp [s₄]
  have h₅ : MemOk s₅ ↔ MemOk s₄ := by simp [s₅]
  exact (judgeDue_memOk _ _ _).trans ((judgeLeader_memOk _).trans ((judgeSuspect_memOk _).trans
    (h₅.trans (h₄.trans (h₃.trans (h₂.trans h₁))))))

@[simp] theorem constJoin_memOk (r : Req) (x0 : Nat) (s : State) : MemOk (constJoin r x0 s).st ↔ MemOk s := by
  unfold constJoin
  split <;> simp

@[simp] theorem constState_memOk (x0 : Req) (t : Nat) (s : State) : MemOk (constState x0 t s).st ↔ MemOk s := Iff.rfl

@[simp] theorem constPolicy_memOk (r : Req) (x0 : Nat) (s : State) : MemOk (constPolicy r x0 s).st ↔ MemOk s := by
  simp [constPolicy]

@[simp] theorem holdSchedule_memOk (s : State) : MemOk (holdSchedule s) ↔ MemOk s := Iff.rfl

@[simp] theorem realign_memOk (b : Bundle) (p : Peer) (t : Nat) (s : State) : MemOk (realign b p t s) ↔ MemOk s := by
  unfold realign
  split <;> simp

@[simp] theorem peerSelWrite_memOk (v : Nat) (s : State) : MemOk (peerSelWrite v s) ↔ MemOk s := Iff.rfl

@[simp] theorem clearCon_memOk (s : State) : MemOk (clearCon s) ↔ MemOk s := Iff.rfl

@[simp] theorem constWrite_memOk (off v : Nat) (s : State) : MemOk (constWrite off v s) ↔ MemOk s := by
  unfold constWrite
  split <;> simp

/-- A command's meaning keeps the memories, whatever the request. -/
theorem imageFn_memOk {op : Nat} {f : Req → Nat → State → Out} (e : imageFn op = some f) (r : Req) (t : Nat) {s : State}
    (h : MemOk s) : MemOk (f r t s).st := by
  unfold imageFn at e
  split at e
  case h_25 => cases e
  all_goals
    cases e
    simp [h]

@[simp] theorem commitImage_memOk (op : Nat) (s : State) : MemOk (commitImage op s) ↔ MemOk s := by simp [commitImage]

theorem applyImage_memOk {s u : State} (h : MemOk s) {k0 t : Nat} {im : Image} (e : applyImage k0 t im s = .ok u) :
    MemOk u :=
  by
  unfold applyImage at e
  split at e
  · cases e
    exact h
  · rename_i f hf
    dsimp only at e
    split at e
    · cases e
      exact (commitImage_memOk _ _).2 (imageFn_memOk hf _ _ h)
    · cases e

theorem tryImages_memOk {s u : State} (h : MemOk s) {b : Bundle} {k0 t : Nat} {l : List Image}
    (e : tryImages b k0 t l s = .ok u) : MemOk u := by
  induction l generalizing s with
  | nil =>
    cases e
    exact h
  | cons im r ih =>
    unfold tryImages at e
    split at e
    · cases e
    · split at e
      · exact ih (applyImage_memOk h ‹_›) e
      · cases e

@[simp] theorem whileApplying_memOk {s : State} (h : MemOk s) {f : State → State} (hf : ∀ s, MemOk s → MemOk (f s)) :
    MemOk (whileApplying f s) :=
  hf { s with bun := { s.bun with applying := true } } h

@[simp] theorem runImages_memOk {s : State} (h : MemOk s) (k0 t : Nat) (l : List Image) : MemOk (runImages k0 t l s) :=
  by
  refine (setRates_memOk _).2 (whileApplying_memOk h fun s hs => foldl_memOk (fun s im hs => ?_) l hs)
  split
  · exact applyImage_memOk hs ‹_›
  · exact hs

@[simp] theorem leaveConst_memOk (b : Bundle) (s : State) : MemOk (leaveConst b s) ↔ MemOk s := by
  unfold leaveConst
  split <;> simp

@[simp] theorem freshConfig_memOk (b : Bundle) (s : State) : MemOk (freshConfig b s) ↔ MemOk s :=
  leaveConst_memOk b _

@[simp] theorem settleGens_memOk {s : State} (h : MemOk s) (t : Nat) : MemOk (settleGens t s) := by simp [settleGens, h]

@[simp] theorem settleStaged_memOk {s : State} (h : MemOk s) (t : Nat) : MemOk (settleStaged t s) := by
  simp [settleStaged, h]

@[simp] theorem takeChangeover_memOk {s : State} (h : MemOk s) (j t : Nat) : MemOk (takeChangeover j t s) := by
  unfold takeChangeover
  split <;> simp [h]

@[simp] theorem boundaryClears_memOk (s : State) : MemOk (boundaryClears s) ↔ MemOk s := Iff.rfl

@[simp] theorem boundaryFrames_memOk (admitted stalls : List Nat) (s : State) :
    MemOk (boundaryFrames admitted stalls s) ↔ MemOk s := by simp [boundaryFrames]

@[simp] theorem endPosition_memOk {s : State} (h : MemOk s) (p : Nat) : MemOk (endPosition p s) := by
  simp [endPosition, h]

@[simp] theorem takeResume_memOk (s : State) : MemOk (takeResume s) ↔ MemOk s := by simp [takeResume]

@[simp] theorem beginPosition_memOk {s : State} (h : MemOk s) (j t : Nat) : MemOk (beginPosition j t s) := by
  simp [beginPosition, h]

@[simp] theorem deadline_memOk (j : Nat) (s : State) : MemOk (deadline j s) ↔ MemOk s := by simp [deadline]

@[simp] theorem openSlot_memOk (n : Nat) (s : State) : MemOk (openSlot n s) ↔ MemOk s := Iff.rfl

@[simp] theorem chunkBoundary_memOk {s : State} (h : MemOk s) (opens : Nat) (admitted stalls : List Nat) (t : Nat) :
    MemOk (chunkBoundary opens admitted stalls t s) := by
  unfold chunkBoundary
  refine memOk_ite ?_ h
  extract_lets s₁ s₂ s₃ s₄ s₅ s₆
  have h₁ :
      MemOk s₁ := (boundaryFrames_memOk _ _ _).2 ((boundaryClears_memOk _).2 ((judgeWaiting_memOk 1 takeData_memOk s).2 h))
  have h₂ : MemOk s₂ := memOk_ite (endPosition_memOk h₁ _) h₁
  have h₃ : MemOk s₃ := memOk_ite h₂ ((takeResume_memOk _).2 h₂)
  have h₄ : MemOk s₄ := memOk_ite (beginPosition_memOk ((deadline_memOk _ _).2 h₃) _ _) h₃
  have h₆ : MemOk s₆ := (openSlot_memOk _ _).2 ((takeResume_memOk _).2 h₄)
  exact memOk_ite (memOk_ite ((sealSlot_memOk _ _ _).2 h₆) h₆) h₆

/-! Pit memory's own requests (12 R262, R263). -/

@[simp] theorem alignHopper_memOk (now : Nat) (s : State) : MemOk (alignHopper now s) ↔ MemOk s := by
  unfold alignHopper
  split <;> simp

@[simp] theorem modWch_memOk (c : Nat) (f : WndChan → WndChan) (s : State) : MemOk (modWch c f s) ↔ MemOk s := Iff.rfl

@[simp] theorem wndStart_memOk (c : Nat) (s : State) : MemOk (wndStart c s) ↔ MemOk s := Iff.rfl

@[simp] theorem wndUndefine_memOk (c : Nat) (s : State) : MemOk (wndUndefine c s) ↔ MemOk s := Iff.rfl

@[simp] theorem wndEnd_memOk (c code : Nat) (s : State) : MemOk (wndEnd c code s) ↔ MemOk s := by simp [wndEnd]

@[simp] theorem wndDisable_memOk (c : Nat) (s : State) : MemOk (wndDisable c s) ↔ MemOk s := by simp [wndDisable]

@[simp] theorem wndPark_memOk (c : Nat) (s : State) : MemOk (wndPark c s) ↔ MemOk s := Iff.rfl

@[simp] theorem wndLeaveDp_memOk (force : Bool) (s : State) : MemOk (wndLeaveDp force s) ↔ MemOk s := by
  simp [wndLeaveDp]

@[simp] theorem wndResume_memOk (s : State) : MemOk (wndResume s) ↔ MemOk s := Iff.rfl

@[simp] theorem wndEventSet_memOk (c v : Nat) (s : State) : MemOk (wndEventSet c v s) ↔ MemOk s := Iff.rfl

@[simp] theorem wndCtrlWrite_memOk (c v : Nat) (s : State) : MemOk (wndCtrlWrite c v s) ↔ MemOk s := by
  simp [wndCtrlWrite]

@[simp] theorem wndWrite_memOk (off v : Nat) (s : State) : MemOk (wndWrite off v s) ↔ MemOk s := by
  unfold wndWrite
  (repeat' split) <;> simp

@[simp] theorem appendPersist_memOk (kind value : Nat) (s : State) : MemOk (appendPersist kind value s) ↔ MemOk s :=
  Iff.rfl

@[simp] theorem takeBack_memOk {s : State} (h : MemOk s) : MemOk (takeBack s) :=
  foldl_memOk (fun _ _ hs => foldl_memOk (fun _ _ hs => pitWrite_memOk hs _ _) _ hs) _ h

@[simp] theorem downStops_memOk {s : State} (h : MemOk s) (t : Nat) : MemOk (downStops t s) := by
  simp +contextual [downStops, h, foldl_memOk]

theorem downAyr_ayrOk (c : AyrCore) : ayrOk (downAyr c) := ⟨rfl, rfl⟩

@[simp] theorem dpDown_memOk {s : State} (h : MemOk s) (t : Nat) : MemOk (dpDown t s) := by
  obtain ⟨⟨hsram, hpit, _⟩, hcore⟩ := takeBack_memOk (downStops_memOk h t)
  refine ⟨⟨hsram, hpit, fun c hc => ?_⟩, hcore⟩
  obtain ⟨d, _, rfl⟩ := List.mem_map.1 hc
  exact downAyr_ayrOk d

@[simp] theorem startLanes_memOk (full : Bool) (s : State) : MemOk (startLanes full s) ↔ MemOk s := Iff.rfl

@[simp] theorem comingLanes_memOk {s : State} (h : MemOk s) (t : Nat) : MemOk (comingLanes t s) := by
  unfold comingLanes
  split <;> simp [h]

@[simp] theorem dpUp_memOk (kind : DpMove) (s : State) : MemOk (dpUp kind s) ↔ MemOk s := Iff.rfl

@[simp] theorem leaveRun_memOk (kind : DpMove) (force : Bool) (s : State) : MemOk (leaveRun kind force s) ↔ MemOk s :=
  Iff.rfl

@[simp] theorem quiesce_memOk (r : Req) (x0 : Nat) (s : State) : MemOk (quiesce r x0 s).st ↔ MemOk s := by
  simp [quiesce]

@[simp] theorem setSlot_memOk (r : Req) (s : State) : MemOk (setSlot r s) ↔ MemOk s := by simp [setSlot]

@[simp] theorem takeSlot_memOk (o : Option OpenCmd) (s : State) : MemOk (takeSlot o s) ↔ MemOk s := by
  unfold takeSlot
  split <;> simp

@[simp] theorem resume_memOk (x0 : Req) (x1 : Nat) (s : State) : MemOk (resume x0 x1 s).st ↔ MemOk s := by simp [resume]

@[simp] theorem mapAll_memOk (pass : Nat) (useMask : Bool) (s : State) : MemOk (mapAll pass useMask s) ↔ MemOk s :=
  Iff.rfl

@[simp] theorem startAbacus_memOk (b : Bundle) (s : State) : MemOk (startAbacus b s) ↔ MemOk s := Iff.rfl

@[simp] theorem reloadAyr_memOk {s : State} (h : MemOk s) : MemOk (reloadAyr s) := by
  refine foldl_memOk (fun s a hs => ?_) _ h
  dsimp only
  split
  · exact modAyr_memOk hs a fun c hc => hc
  · have hload := modAyr_memOk hs a fun c _ => loadImage_ayrOk c (ayrAt s a).image (ayrAt s a).ownFirst (ayrAt s a).ownCount
    split
    · exact startCore_memOk hload a 1
    · exact hload

@[simp] theorem restartReadout_memOk (s : State) : MemOk (restartReadout s) ↔ MemOk s := by
  unfold restartReadout
  split <;> simp

@[simp] theorem newSession_memOk (s : State) : MemOk (newSession s) ↔ MemOk s := Iff.rfl

@[simp] theorem runStart_memOk (s : State) : MemOk (runStart s) ↔ MemOk s := by simp [runStart]

@[simp] theorem beginRun_memOk {s : State} (h : MemOk s) (now : Nat) : MemOk (beginRun now s) := by
  unfold beginRun
  split <;> simp [h]

@[simp] theorem holdBundle_memOk (s : State) : MemOk (holdBundle s) ↔ MemOk s := by
  unfold holdBundle
  split <;> simp

@[simp] theorem hardReset_memOk {s : State} (h : MemOk s) (cause : Nat) : MemOk (hardReset cause s) := by
  refine (bellSync_memOk _).2 ⟨⟨rfl, rfl, fun c hc => ?_⟩, fun m hm => ?_⟩
  · rw [List.eq_of_mem_replicate hc]
    exact ayrOk_empty
  · rw [List.eq_of_mem_replicate (n := 2) hm]
    rfl

@[simp] theorem coldReset_memOk (s : State) : MemOk (coldReset s) := memOk_reset

@[simp] theorem resetReq_memOk {s : State} (h : MemOk s) (agent v : Nat) : MemOk (resetReq agent v s) := by
  simp [resetReq, h]

@[simp] theorem drainOne_memOk (n : Nat) (s : State) : MemOk (drainOne n s) ↔ MemOk s := by
  unfold drainOne
  split <;> simp

@[simp] theorem drainOverflow_memOk (n : Nat) (s : State) : MemOk (drainOverflow n s) ↔ MemOk s := by
  simp [drainOverflow]

@[simp] theorem fetchOne_memOk (n : Nat) (s : State) : MemOk (fetchOne n s) ↔ MemOk s := by
  unfold fetchOne
  dsimp only
  (repeat' split) <;> simp

@[simp] theorem fetchCage_memOk (n : Nat) (s : State) : MemOk (fetchCage n s) ↔ MemOk s := by simp [fetchCage]

@[simp] theorem fetchAll_memOk (s : State) : MemOk (fetchAll s) ↔ MemOk s := by simp [fetchAll]

@[simp] theorem cageCtrlWrite_memOk (n v : Nat) (s : State) : MemOk (cageCtrlWrite n v s) ↔ MemOk s := by
  simp [cageCtrlWrite]

@[simp] theorem fetchError_memOk (n : Nat) (s : State) : MemOk (fetchError n s) ↔ MemOk s := Iff.rfl

@[simp] theorem doorbell_memOk (n tail : Nat) (entries : List Req) (ok : Bool) (s : State) :
    MemOk (doorbell n tail entries ok s) ↔ MemOk s := by simp [doorbell]

@[simp] theorem cplHeadWrite_memOk (n head : Nat) (s : State) : MemOk (cplHeadWrite n head s) ↔ MemOk s := by
  simp [cplHeadWrite]

@[simp] theorem postTo_memOk (c : Completion) (s : State) : MemOk (postTo c s) ↔ MemOk s := by simp [postTo]

@[simp] theorem postNext_memOk (client : Nat) (s : State) : MemOk (postNext client s) ↔ MemOk s := by
  unfold postNext
  split <;> simp

@[simp] theorem postAll_memOk (s : State) : MemOk (postAll s) ↔ MemOk s := by simp [postAll]

@[simp] theorem resetIfWritten_memOk {s : State} (h : MemOk s) : MemOk (resetIfWritten s) := by simp [resetIfWritten, h]

@[simp] theorem dropAssembly_memOk (n client tag : Nat) (s : State) : MemOk (dropAssembly n client tag s) ↔ MemOk s :=
  Iff.rfl

@[simp] theorem holdPart_memOk {s : State} (h : MemOk s) (r : Req) (before : List Byte) (t : Nat) :
    MemOk (holdPart r before t s) := by simp [holdPart, h]

@[simp] theorem partOutOfOrder_memOk {s : State} (h : MemOk s) (r : Req) (t : Nat) : MemOk (partOutOfOrder r t s) := by
  simp [partOutOfOrder, h]

@[simp] theorem takeDatagram_memOk {s : State} (h : MemOk s) (r : Req) (t : Nat) : MemOk (takeDatagram r t s) := by
  unfold takeDatagram
  dsimp only
  split
  · split
    · exact holdPart_memOk h _ _ _
    · exact partOutOfOrder_memOk h _ _
  · split
    · exact holdPart_memOk h _ _ _
    · exact partOutOfOrder_memOk h _ _
  · split
    · exact arrive_memOk ((dropAssembly_memOk _ _ _ _).2 h) _ _
    · simp [h]
  · exact arrive_memOk h _ _

@[simp] theorem hostBack_memOk (s : State) : MemOk (hostBack s) ↔ MemOk s := by simp [hostBack]

@[simp] theorem devCause_memOk (ks : List Nat) (s : State) : MemOk (devCause ks s) ↔ MemOk s := Iff.rfl

@[simp] theorem setCore_memOk {s : State} (h : MemOk s) (c : Nat) (st : CoreState) : MemOk (setCore c st s) := by
  unfold setCore
  dsimp only
  split
  · exact ⟨h.1, forall_mem_upd c h.core fun _ _ => rfl⟩
  · exact ⟨h.1, h.core⟩

@[simp] theorem coreFaulty_memOk (c : Nat) (s : State) : MemOk (coreFaulty c s) ↔ MemOk s := Iff.rfl

@[simp] theorem controlDown_memOk (s : State) : MemOk (controlDown s) ↔ MemOk s := Iff.rfl

@[simp] theorem seekCore_memOk {s : State} (h : MemOk s) : MemOk (seekCore s) := by
  unfold seekCore
  (repeat' split) <;> simp [h]

@[simp] theorem countRelinquish_memOk (c reason : Nat) (s : State) : MemOk (countRelinquish c reason s) ↔ MemOk s :=
  Iff.rfl

@[simp] theorem reasonCause_memOk (reason : Nat) (s : State) : MemOk (reasonCause reason s) ↔ MemOk s := by
  simp [reasonCause]

@[simp] theorem loseJobs_memOk (s : State) : MemOk (loseJobs s) ↔ MemOk s := Iff.rfl

@[simp] theorem relinquish_memOk {s : State} (h : MemOk s) (reason : Nat) : MemOk (relinquish reason s) := by
  simp [relinquish, h]

@[simp] theorem modStage_memOk (k : Nat) (f : StageRec → StageRec) (s : State) : MemOk (modStage k f s) ↔ MemOk s :=
  Iff.rfl

@[simp] theorem enterTraining_memOk (k : Nat) (s : State) : MemOk (enterTraining k s) ↔ MemOk s := by
  simp [enterTraining]

@[simp] theorem enterStage_memOk (k : Nat) (s : State) : MemOk (enterStage k s) ↔ MemOk s := by simp [enterStage]

@[simp] theorem setResult_memOk (k v : Nat) (s : State) : MemOk (setResult k v s) ↔ MemOk s := Iff.rfl

@[simp] theorem bootTrigger_memOk {s : State} (h : MemOk s) (c reason : Nat) : MemOk (bootTrigger c reason s) := by
  simp [bootTrigger, h]

@[simp] theorem takeoverFail_memOk {s : State} (h : MemOk s) (c : Nat) : MemOk (takeoverFail c s) := by
  simp [takeoverFail, h]

@[simp] theorem trigger_memOk {s : State} (h : MemOk s) (reason : Nat) : MemOk (trigger reason s) := by
  unfold trigger
  (repeat' split) <;> simp [h]

@[simp] theorem wdtKick_memOk (agent : Nat) (s : State) : MemOk (wdtKick agent s) ↔ MemOk s := by simp [wdtKick]

@[simp] theorem shiftRelinquish_memOk {s : State} (h : MemOk s) (agent v t : Nat) :
    MemOk (shiftRelinquish agent v t s) := by
  simp [shiftRelinquish, h]

@[simp] theorem repairEnd_memOk {s : State} (h : MemOk s) (c : Nat) (ok : Bool) : MemOk (repairEnd c ok s) := by
  unfold repairEnd
  extract_lets ended
  have hended : MemOk ended := by
    unfold ended
    split
    · exact setCore_memOk (by exact h) c .ready
    · exact (coreFaulty_memOk c s).2 h
  split
  · exact seekCore_memOk hended
  · exact hended

@[simp] theorem dropJournal_memOk (bad : List LogFault) (s : State) : MemOk (dropJournal bad s) ↔ MemOk s := by
  unfold dropJournal
  dsimp only
  split <;> rfl

@[simp] theorem takeShift_memOk {s : State} (h : MemOk s) (c : Nat) : MemOk (takeShift c s) := by simp [takeShift, h]

@[simp] theorem shiftHandover_memOk (x0 : Req) (x1 : Nat) (s : State) : MemOk (shiftHandover x0 x1 s).st ↔ MemOk s := by
  simp [shiftHandover]

@[simp] theorem shiftStatus_memOk (x0 : Req) (x1 : Nat) (s : State) : MemOk (shiftStatus x0 x1 s).st ↔ MemOk s :=
  Iff.rfl

@[simp] theorem ledgerRead_memOk (r : Req) (x0 : Nat) (s : State) : MemOk (ledgerRead r x0 s).st ↔ MemOk s := by
  simp [ledgerRead]

@[simp] theorem ledgerClear_memOk (r : Req) (x0 : Nat) (s : State) : MemOk (ledgerClear r x0 s).st ↔ MemOk s := by
  unfold ledgerClear
  split <;> rfl

@[simp] theorem persistWrite_memOk (kind : Nat) (s : State) : MemOk (persistWrite kind s) ↔ MemOk s := by
  unfold persistWrite
  (repeat' split) <;> simp

@[simp] theorem accessErr_memOk (kind agent off : Nat) (s : State) : MemOk (accessErr kind agent off s) ↔ MemOk s := by
  unfold accessErr
  rw [devCause_memOk, modShift_memOk]
  split <;> rfl

@[simp] theorem shiftWrite_memOk {s : State} (h : MemOk s) (agent off v t : Nat) : MemOk (shiftWrite agent off v t s) :=
  by
  unfold shiftWrite
  split <;> simp [h]

@[simp] theorem refuseAt_memOk (status detail index : Nat) (s : State) :
    MemOk (refuseAt s status detail index).st ↔ MemOk s := Iff.rfl

@[simp] theorem extendSets_memOk (n : Nat) (s : State) : MemOk (extendSets n s) ↔ MemOk s := Iff.rfl

@[simp] theorem sendNotices_memOk (old : Option Bundle) (b : Bundle) (a : Nat) (s : State) :
    MemOk (sendNotices old b a s) ↔ MemOk s := by simp [sendNotices]

@[simp] theorem registerSched_memOk (a : Nat) (b : Bundle) (s : State) : MemOk (registerSched a b s) ↔ MemOk s :=
  Iff.rfl

theorem tryChangeover_memOk {s u : State} (h : MemOk s) {b : Bundle} {k0 t : Nat} (e : tryChangeover b k0 t s = .ok u) :
    MemOk u := by
  have hstaged : MemOk (extendSets (setCount b) (settleStaged t s)) := (extendSets_memOk _ _).2 (settleStaged_memOk h t)
  unfold tryChangeover at e
  dsimp only at e
  split at e
  · rename_i v htry
    cases e
    have hv : MemOk v := tryImages_memOk (by exact hstaged) htry
    exact hv
  · cases e

@[simp] theorem changeOver_memOk {s : State} (h : MemOk s) (r : Req) (b old : Bundle) (t : Nat) :
    MemOk (changeOver r b old t s).st := by
  have himages : ∀ l, MemOk (runImages (b64 r 24 / 8192) t l (extendSets (setCount b) (settleGens t s))) :=
    fun l => runImages_memOk ((extendSets_memOk _ _).2 (settleGens_memOk h t)) _ _ _
  unfold changeOver
  dsimp only
  iterate 4
    split
    · exact h
  split
  · exact h
  · split
    · exact h
    · exact (sendNotices_memOk _ _ _ _).2 ((setSlot_memOk _ _).2 ((registerSched_memOk _ _ _).2 (himages _)))

@[simp] theorem restartWith_memOk (r : Req) (b : Bundle) (t : Nat) (s : State) :
    MemOk (restartWith r b t s).st ↔ MemOk s :=
  by
  unfold restartWith
  dsimp only
  (repeat' split) <;> simp

@[simp] theorem bundleActivate_memOk {s : State} (h : MemOk s) (r : Req) (t : Nat) : MemOk (bundleActivate r t s).st :=
  by
  unfold bundleActivate
  (repeat' split) <;> simp [h]

@[simp] theorem activateComing_memOk {s : State} (h : MemOk s) (b : Bundle) (k0 t : Nat) :
    MemOk (activateComing b k0 t s) :=
  runImages_memOk ((freshConfig_memOk _ _).2 (settleStaged_memOk h t)) _ _ _

@[simp] theorem keepChangeover_memOk (s : State) : MemOk (keepChangeover s) ↔ MemOk s := by
  unfold keepChangeover
  split <;> simp

@[simp] theorem serveRun_memOk {s : State} (h : MemOk s) (now : Nat) : MemOk (serveRun now s) := by simp [serveRun, h]

@[simp] theorem serveNoData_memOk {s : State} (h : MemOk s) (now : Nat) : MemOk (serveNoData now s) := by
  simp [serveNoData, h]

@[simp] theorem emptyRecord_memOk {s : State} (h : MemOk s) (r : RegionRec) : MemOk (emptyRecord r s) := by
  cases r
  case image c => exact modAyr_memOk h c fun c hc => hc
  all_goals exact h

@[simp] theorem restoreRecord_memOk {s : State} (h : MemOk s) (k0 t : Nat) (r : RegionRec) :
    MemOk (restoreRecord k0 t s r) :=
  by
  unfold restoreRecord
  dsimp only
  split
  · exact runImages_memOk (emptyRecord_memOk h r) _ _ _
  · exact emptyRecord_memOk h r

@[simp] theorem restoreRegion_memOk {s : State} (h : MemOk s) (bad : List RegionRec) (now : Nat) :
    MemOk (restoreRegion bad now s) := by simp +contextual [restoreRegion, h, foldl_memOk]

@[simp] theorem finishReturn_memOk {s : State} (h : MemOk s) (now : Nat) : MemOk (finishReturn now s) := by
  unfold finishReturn
  extract_lets s₁ noData old bundles
  have h₁ : MemOk s₁ := h
  have hnoData : MemOk noData := serveNoData_memOk h₁ now
  clear_value noData bundles old s₁
  split
  · exact memOk_ite hnoData hnoData
  · split
    · split
      · exact (sendNotices_memOk _ _ _ _).2 (serveRun_memOk (activateComing_memOk h₁ _ _ _) _)
      · exact serveRun_memOk h₁ _
    · exact serveNoData_memOk (by exact h₁) _

@[simp] theorem testFrames_memOk (pass : Nat) (s : State) : MemOk (testFrames pass s) ↔ MemOk s := by simp [testFrames]

@[simp] theorem restartLanes_memOk {s : State} (h : MemOk s) (t : Nat) : MemOk (restartLanes t s) := by
  unfold restartLanes
  split
  · exact comingLanes_memOk h t
  · exact h

@[simp] theorem endStage_memOk (k result dur : Nat) (s : State) : MemOk (endStage k result dur s) ↔ MemOk s := by
  simp [endStage]

@[simp] theorem skipTo_memOk (d : DevState) (s : State) : MemOk (skipTo d s) ↔ MemOk s := Iff.rfl

@[simp] theorem startBoot_memOk {s : State} (h : MemOk s) : MemOk (startBoot s) := by simp [startBoot, h]

@[simp] theorem startS5_memOk {s : State} (h : MemOk s) (t : Nat) : MemOk (startS5 t s) := by simp [startS5, h]

@[simp] theorem afterS0_memOk {s : State} (h : MemOk s) (t : Nat) : MemOk (afterS0 t s) := by simp [afterS0, h]

@[simp] theorem s0Failed_memOk {s : State} (h : MemOk s) (c : Nat) : MemOk (s0Failed c s) := by simp [s0Failed, h]

@[simp] theorem readRecords_memOk {s : State} (h : MemOk s) (area : Bool) : MemOk (readRecords area s) := by
  simp +contextual [readRecords, h]

@[simp] theorem s7Bundle_memOk {s : State} (h : MemOk s) (now : Nat) : MemOk (s7Bundle now s) := by
  unfold s7Bundle
  split <;> simp [h]

@[simp] theorem ayrRegWrite_memOk {s : State} (h : MemOk s) (a o v : Nat) : MemOk (ayrRegWrite a o v s) := by
  have hset : ∀ f : AyrCore → AyrCore, (∀ c, ayrOk (f c) ↔ ayrOk c) → MemOk (modAyr a f s) :=
    fun f hf => modAyr_memOk h a fun c => (hf c).2
  unfold ayrRegWrite
  split
  · exact hset _ fun c => Iff.rfl
  · split
    case h_3 =>
      split
      · exact hset _ fun c => Iff.rfl
      · exact h
    case h_5 => exact hset _ inSend_ayrOk
    case h_6 => exact h
    all_goals exact hset _ fun c => Iff.rfl

@[simp] theorem laneWrite_memOk (n off v : Nat) (s : State) : MemOk (laneWrite n off v s) ↔ MemOk s := by
  unfold laneWrite
  split <;> simp

@[simp] theorem hopWrite_memOk (off v : Nat) (s : State) : MemOk (hopWrite off v s) ↔ MemOk s := by
  unfold hopWrite
  split <;> simp

@[simp] theorem abaWrite_memOk (off v : Nat) (s : State) : MemOk (abaWrite off v s) ↔ MemOk s := by
  unfold abaWrite
  (repeat' split) <;> simp

@[simp] theorem talWrite_memOk (off v : Nat) (s : State) : MemOk (talWrite off v s) ↔ MemOk s := by
  unfold talWrite
  split <;> simp

@[simp] theorem beamWrite_memOk (off v : Nat) (s : State) : MemOk (beamWrite off v s) ↔ MemOk s := by
  unfold beamWrite
  split <;> simp

@[simp] theorem assayWrite_memOk (off v : Nat) (s : State) : MemOk (assayWrite off v s) ↔ MemOk s := by
  unfold assayWrite
  split <;> simp

@[simp] theorem trigWrite_memOk (off v : Nat) (s : State) : MemOk (trigWrite off v s) ↔ MemOk s := by
  unfold trigWrite
  split <;> simp

@[simp] theorem hstWrite_memOk (off v : Nat) (s : State) : MemOk (hstWrite off v s) ↔ MemOk s := by
  unfold hstWrite
  split <;> simp

@[simp] theorem pitRegWrite_memOk (off v : Nat) (s : State) : MemOk (pitRegWrite off v s) ↔ MemOk s := by
  unfold pitRegWrite
  split
  · split <;> rfl
  · split
    case h_3 => split <;> rfl
    all_goals rfl

@[simp] theorem windowWrite_memOk {s : State} (h : MemOk s) (a off v : Nat) : MemOk (windowWrite a off v s) := by
  simp [windowWrite, h]

@[simp] theorem dpWrite_memOk {s : State} (h : MemOk s) (off v : Nat) : MemOk (dpWrite off v s) := by simp [dpWrite, h]

@[simp] theorem pwrCause_memOk (ks : List Nat) (s : State) : MemOk (pwrCause ks s) ↔ MemOk s := Iff.rfl

@[simp] theorem enterSleep_memOk (s : State) : MemOk (enterSleep s) ↔ MemOk s := Iff.rfl

@[simp] theorem sleepReq_memOk (agent v : Nat) (s : State) : MemOk (sleepReq agent v s) ↔ MemOk s := by simp [sleepReq]

@[simp] theorem wakeCtl_memOk (s : State) : MemOk (wakeCtl s) ↔ MemOk s := by simp [wakeCtl]

@[simp] theorem timerWrite_memOk (v : Nat) (s : State) : MemOk (timerWrite v s) ↔ MemOk s := Iff.rfl

@[simp] theorem seeEdges_memOk (before : Nat) (s : State) : MemOk (seeEdges before s) ↔ MemOk s := Iff.rfl

@[simp] theorem movePins_memOk (f : Pwr → Pwr) (s : State) : MemOk (movePins f s) ↔ MemOk s := Iff.rfl

@[simp] theorem pwrWrite_memOk (agent off v : Nat) (s : State) : MemOk (pwrWrite agent off v s) ↔ MemOk s := by
  unfold pwrWrite
  split <;> simp

@[simp] theorem cageWrite_memOk (n off v : Nat) (s : State) : MemOk (cageWrite n off v s) ↔ MemOk s := by
  unfold cageWrite
  split <;> simp

@[simp] theorem tuWrite_memOk (off v : Nat) (s : State) : MemOk (tuWrite off v s) ↔ MemOk s := by
  unfold tuWrite
  split <;> simp

@[simp] theorem latchWide_memOk (o : Nat) (s : State) : MemOk (latchWide o s) ↔ MemOk s := by simp [latchWide]

@[simp] theorem wakeFor_memOk (agent o : Nat) (s : State) : MemOk (wakeFor agent o s) ↔ MemOk s := by simp [wakeFor]

@[simp] theorem busRead_memOk {s : State} (h : MemOk s) (agent o : Nat) : MemOk (busRead agent o s).2 := by
  have hwake := (wakeFor_memOk agent o s).2 h
  unfold busRead
  dsimp only
  iterate 4
    split
    · simp [hwake]
  simp [hwake]

@[simp] theorem busWrite_memOk {s : State} (h : MemOk s) (agent o v t : Nat) : MemOk (busWrite agent o v t s) := by
  have hwake := (wakeFor_memOk agent o s).2 h
  unfold busWrite
  dsimp only
  iterate 13 refine memOk_ite (by simp [hwake]) ?_
  exact memOk_ite (memOk_ite (by simp [hwake]) (sramWrite_memOk hwake _ _)) hwake

@[simp] theorem busAccess_memOk {s : State} (h : MemOk s) (agent o v t : Nat) : MemOk (busAccess agent o v t s) := by
  simp [busAccess, h]

@[simp] theorem suhelPit_memOk {s : State} (h : MemOk s) (agent a v : Nat) : MemOk (suhelPit agent a v s) := by
  unfold suhelPit
  split
  · exact h
  split
  · exact h
  · exact (answerBus_memOk _ _ _ _).2 ((servePort_memOk _ _ _).2 (pitWrite_memOk h _ _))

@[simp] theorem suhelWrite_memOk {s : State} (h : MemOk s) (agent a v t : Nat) : MemOk (suhelWrite agent a v t s) := by
  unfold suhelWrite
  dsimp only
  split
  · split
    · exact ⟨h.1, forall_mem_upd _ h.core fun m hm => memWrite_wf m _ _ hm⟩
    · exact h
  · exact h
  · exact busAccess_memOk h _ _ _ _
  · split <;> simp [h]
  · split <;> simp [h]
  · split
    · exact sramWrite_memOk h _ _
    · exact h
  · split <;> simp [h]
  · exact h

@[simp] theorem regWrite_memOk {s : State} (h : MemOk s) (agent : Nat) (a : RegAddr) (v t : Nat) :
    MemOk (regWrite agent a v t s) := by
  unfold regWrite
  split <;> simp [h]

@[simp] theorem wndError_memOk (c code : Nat) (s : State) : MemOk (wndError c code s) ↔ MemOk s := Iff.rfl

@[simp] theorem wndErrorAt_memOk (c code addr : Nat) (s : State) : MemOk (wndErrorAt c code addr s) ↔ MemOk s := Iff.rfl

@[simp] theorem wndIllegal_memOk (c : Nat) (s : State) : MemOk (wndIllegal c s) ↔ MemOk s := Iff.rfl

@[simp] theorem atInstr_memOk {s : State} (h : MemOk s) (c : Nat) {f : WndChan → WndInstr → State → State}
    (hf : ∀ c w s, MemOk s → MemOk (f c w s)) : MemOk (atInstr c f s) := by
  unfold atInstr
  dsimp only
  split
  · exact h
  split
  · simp [h]
  · simp [h]
  · split
    · simp [h]
    · exact hf _ _ _ h

@[simp] theorem wndNext_memOk (c : Nat) (s : State) : MemOk (wndNext c s) ↔ MemOk s := Iff.rfl

@[simp] theorem outOfSpace_memOk (c a : Nat) (off : Int) (s : State) : MemOk (outOfSpace c a off s) ↔ MemOk s := by
  unfold outOfSpace
  rw [wndErrorAt_memOk]
  split <;> rfl

@[simp] theorem startMove_memOk (c : Nat) (ch : WndChan) (m : WndMove) (s : State) :
    MemOk (startMove c ch m s) ↔ MemOk s := by
  simp [startMove]

@[simp] theorem readRegs_memOk {s : State} (h : MemOk s) (o step n : Nat) : MemOk (readRegs o step n s).2 := by
  induction n generalizing o s with
  | zero => exact h
  | succ n ih => exact ih (busRead_memOk h 3 o) (o + step)

@[simp] theorem writeRegs_memOk {s : State} (h : MemOk s) (o step t : Nat) (l : List Byte) (n : Nat) :
    MemOk (writeRegs o step t l n s) := by
  induction n generalizing o l s with
  | zero => exact h
  | succ n ih => exact ih (busWrite_memOk h 3 o _ t) (o + step) _

@[simp] theorem readBurst_memOk {s : State} (h : MemOk s) (c : Nat) (m : WndMove) (host : List Byte) (ok : Bool) :
    MemOk (readBurst c m host ok s) := by
  unfold readBurst
  (repeat' split) <;> simp [h]

@[simp] theorem moveDone_memOk (c : Nat) (m : WndMove) (s : State) : MemOk (moveDone c m s) ↔ MemOk s := by
  unfold moveDone
  split <;> simp

@[simp] theorem writeBurst_memOk {s : State} (h : MemOk s) (c : Nat) (m : WndMove) (t : Nat) :
    MemOk (writeBurst c m t s) :=
  by
  unfold writeBurst
  dsimp only
  refine memOk_ite (by simp [h]) ?_
  split
  · simp [h]
  · exact (moveDone_memOk _ _ _).2 (sramWrite_memOk (s := s) h _ _)
  · simp [h]
  · split <;> simp [h]

@[simp] theorem burst_memOk {s : State} (h : MemOk s) (host : List Byte) (ok : Bool) (t : Nat) :
    MemOk (burst host ok t s) :=
  by
  unfold burst
  split
  · exact h
  · dsimp only
    split
    · split
      · exact writeBurst_memOk (by exact h) _ _ _
      · exact readBurst_memOk (by exact h) _ _ _ _
    · exact h

@[simp] theorem runLoop_memOk (c : Nat) (ch : WndChan) (target count : Nat) (ss ds : Int) (s : State) :
    MemOk (runLoop c ch target count ss ds s) ↔ MemOk s := by simp [runLoop]

@[simp] theorem poll_memOk {s : State} (h : MemOk s) (c : Nat) : MemOk (poll c s) := by
  unfold poll
  split <;> simp [h]

@[simp] theorem endWait_memOk (c ns : Nat) (s : State) : MemOk (endWait c ns s) ↔ MemOk s := by
  unfold endWait
  split <;> simp

@[simp] theorem runSignal_memOk (c : Nat) (last irq event : Bool) (target b stamp : Nat) (s : State) :
    MemOk (runSignal c last irq event target b stamp s) ↔ MemOk s := by simp [runSignal]

@[simp] theorem devInfo_memOk (x0 : Req) (x1 : Nat) (s : State) : MemOk (devInfo x0 x1 s).st ↔ MemOk s := Iff.rfl

@[simp] theorem devStatus_memOk (x0 : Req) (x1 : Nat) (s : State) : MemOk (devStatus x0 x1 s).st ↔ MemOk s := Iff.rfl

@[simp] theorem echo_memOk (r : Req) (x0 : Nat) (s : State) : MemOk (echo r x0 s).st ↔ MemOk s := Iff.rfl

@[simp] theorem configDigest_memOk (x0 : Req) (x1 : Nat) (s : State) : MemOk (configDigest x0 x1 s).st ↔ MemOk s :=
  Iff.rfl

@[simp] theorem arrayLayout_memOk (x0 : Req) (x1 : Nat) (s : State) : MemOk (arrayLayout x0 x1 s).st ↔ MemOk s := by
  unfold arrayLayout
  split <;> simp

@[simp] theorem frameBudget_memOk (r : Req) (x0 : Nat) (s : State) : MemOk (frameBudget r x0 s).st ↔ MemOk s := by
  unfold frameBudget
  (repeat' split) <;> simp

@[simp] theorem devReset_memOk (r : Req) (x0 : Nat) (s : State) : MemOk (devReset r x0 s).st ↔ MemOk s := by
  simp [devReset]

@[simp] theorem resetNow_memOk {s : State} (h : MemOk s) : MemOk (resetNow s) := by simp [resetNow, h]

@[simp] theorem dropJob_memOk (client tag : Nat) (s : State) : MemOk (dropJob client tag s) ↔ MemOk s := Iff.rfl

@[simp] theorem stayInRun_memOk (s : State) : MemOk (stayInRun s) ↔ MemOk s := Iff.rfl

@[simp] theorem dropUrgent_memOk (m : Nat) (mine : UrgReq → Bool) (s : State) : MemOk (dropUrgent m mine s) ↔ MemOk s :=
  by
  unfold dropUrgent
  dsimp only
  (repeat' split) <;> simp

@[simp] theorem undo_memOk {s : State} (h : MemOk s) (o : OpenCmd) : MemOk (undo o s) := by
  unfold undo
  extract_lets op s₁
  have h₁ : MemOk s₁ := by
    unfold s₁
    split <;> simp [h]
  clear_value s₁ op
  split
  case h_6 => exact modAyr_memOk h₁ _ fun c hc => hc
  all_goals simp [h₁]

@[simp] theorem endAborted_memOk {s : State} (h : MemOk s) (r : Req) (side t : Nat) :
    MemOk (endAborted r side t s) := by
  simp [endAborted, h]

@[simp] theorem abort_memOk {s : State} (h : MemOk s) (r : Req) (t : Nat) : MemOk (abort r t s).st := by
  unfold abort
  dsimp only
  split
  · split
    · exact h
    · exact (answer_memOk _ _).2 (endAborted_memOk (by simp [h]) _ _ _)
  · split
    · split
      · split <;> exact h
      · exact h
    · split
      · split
        · exact h
        · exact (answer_memOk _ _).2 (endAborted_memOk (by simp [h]) _ _ _)
      · exact h

theorem meaningA_memOk {op : Nat} {f : Req → Nat → State → Out} (e : meaningA op = some f) (r : Req) (t : Nat) {s :
    State}
    (h : MemOk s) : MemOk (f r t s).st := by
  unfold meaningA at e
  split at e
  case h_26 => cases e
  all_goals
    cases e
    simp [h]

theorem meaningB_memOk {op : Nat} {f : Req → Nat → State → Out} (e : meaningB op = some f) (r : Req) (t : Nat) {s :
    State}
    (h : MemOk s) : MemOk (f r t s).st := by
  unfold meaningB at e
  split at e
  case h_31 => cases e
  all_goals
    cases e
    simp [h]

@[simp] theorem meaningOf_memOk {s : State} (h : MemOk s) (op : Nat) (r : Req) (t : Nat) :
    MemOk (meaningOf op r t s).st :=
  by
  unfold meaningOf
  cases ha : meaningA op with
  | some f => exact meaningA_memOk ha r t h
  | none =>
    cases hb : meaningB op with
    | some f => exact meaningB_memOk hb r t h
    | none => exact h

@[simp] theorem takeRequest_memOk {s : State} (h : MemOk s) (t : Nat) : MemOk (takeRequest t s) := by
  unfold takeRequest
  (repeat' split) <;> simp +contextual [h]

@[simp] theorem redo_memOk {s : State} (h : MemOk s) (t : Nat) (o : OpenCmd) : MemOk (redo t s o) := by
  have hundone :
      MemOk (undo o (modCages (fun g => { g with openCmds := g.openCmds.erase o }) s)) := undo_memOk (by exact h) o
  unfold redo
  dsimp only
  split
  · exact settle_memOk (by exact hundone) _ _ _
  · exact settle_memOk (meaningOf_memOk hundone _ _ _) _ _ _

@[simp] theorem takeOver_memOk {s : State} (h : MemOk s) (c t : Nat) (bad : List LogFault) :
    MemOk (takeOver c t bad s) :=
  by
  have hshift := serveInbox_memOk (takeShift_memOk ((dropJournal_memOk bad s).2 h) c) t
  exact (fetchAll_memOk _).2 (foldl_memOk (fun s o hs => redo_memOk hs t o) _ (finishOpen_memOk hshift _ _ _))

@[simp] theorem loseSupply_memOk (k : Nat) (s : State) : MemOk (loseSupply k s) ↔ MemOk s := by simp [loseSupply]

@[simp] theorem gainSupply_memOk (k : Nat) (s : State) : MemOk (gainSupply k s) ↔ MemOk s := Iff.rfl

@[simp] theorem powerOff_memOk {s : State} (h : MemOk s) : MemOk (powerOff s) := by
  unfold powerOff
  dsimp only
  split
  · simp [h]
  · exact hardReset_memOk (by simp [h]) 1


@[simp] theorem powerOn_memOk {s : State} (h : MemOk s) : MemOk (powerOn s) := by simp [powerOn, h]

@[simp] theorem loseLanes_memOk (inPkt : Nat) (s : State) : MemOk (loseLanes inPkt s) ↔ MemOk s := by simp [loseLanes]

@[simp] theorem losePins_memOk (s : State) : MemOk (losePins s) ↔ MemOk s := by simp [losePins]

@[simp] theorem warmth_memOk (tj : Int) (s : State) : MemOk (warmth tj s) ↔ MemOk s := by simp [warmth]

@[simp] theorem thermalTrip_memOk (s : State) : MemOk (thermalTrip s) ↔ MemOk s := by
  unfold thermalTrip
  dsimp only
  (repeat' split) <;> simp

@[simp] theorem shutOff_memOk {s : State} (h : MemOk s) (tj : Int) : MemOk (shutOff tj s) := by simp [shutOff, h]

end Sys2Proof.Machine
end

section
/-! What a step leaves: the queue but for the command it runs, and every memory in its canonical form. -/

namespace Sys2Proof.Machine

/-- What a step leaves: the queue of waiting commands, and every memory in its canonical form. -/
def Keeps (s u : State) : Prop := u.pending = s.pending ∧ (MemOk s → MemOk u)

theorem Keeps.rfl {s : State} : Keeps s s := ⟨.refl _, id⟩

theorem Keeps.trans {s u v : State} (h₁ : Keeps s u) (h₂ : Keeps u v) : Keeps s v :=
  ⟨h₂.1.trans h₁.1, fun h => h₂.2 (h₁.2 h)⟩

theorem keeps_ite {c : Prop} [Decidable c] {s u v : State} (hu : Keeps s u) (hv : Keeps s v) :
    Keeps s (if c then u else v) := by
  split
  · exact hu
  · exact hv

theorem foldl_keeps {α : Type} {g : State → α → State} (hg : ∀ s x, Keeps s (g s x)) (l : List α) (s : State) :
    Keeps s (l.foldl g s) :=
  ⟨foldl_pending g (fun s x => (hg s x).1) l s, foldl_memOk (fun s x => (hg s x).2) l⟩

theorem withBell_keeps {f : State → State} (hf : ∀ s, Keeps s (f s)) (s : State) : Keeps s (withBell f s) :=
  ⟨withBell_pending f s fun s => (hf s).1, fun h => withBell_memOk h fun s => (hf s).2⟩

theorem atInstr_keeps {f : WndChan → WndInstr → State → State} (hf : ∀ c w s, Keeps s (f c w s)) (c : Nat) (s : State) :
    Keeps s (atInstr c f s) :=
  ⟨atInstr_pending c f s fun c w s => (hf c w s).1, fun h => atInstr_memOk h c fun c w s => (hf c w s).2⟩

theorem runCommand_keeps {f : Req → Nat → State → Out} (hf : ∀ r t s, Keeps s (f r t s).st) (op : Nat) (r : Req) (t :
    Nat)
    (s : State) : Keeps s (runCommand op f r t s) :=
  ⟨runCommand_pending op f r t s fun r t s => (hf r t s).1, fun h => runCommand_memOk h op (fun r t s => (hf r t s).2) r t⟩

theorem modAyr_keeps {f : AyrCore → AyrCore} (hf : ∀ c, ayrOk c → ayrOk (f c)) (a : Nat) (s : State) :
    Keeps s (modAyr a f s) :=
  ⟨rfl, fun h => modAyr_memOk h a hf⟩

theorem modPit_keeps {f : Pit → Pit} (hf : ∀ p, Memory.wf p.mem = true → Memory.wf (f p).mem = true) (s : State) :
    Keeps s (modPit f s) :=
  ⟨rfl, fun h => modPit_memOk_of h (hf _ h.pit)⟩

theorem takeDelivered_keeps {s s' : State} {lane typ : Nat} {b : List Byte} (e :
    takeDelivered lane typ s = some (b, s')) :
    Keeps s s' :=
  ⟨takeDelivered_pending _ _ _ _ e, (takeDelivered_memOk e).2⟩

theorem launch_keeps {s u : State} {id : Nat} {pkt : List Byte} (e : launch id pkt s = some u) : Keeps s u :=
  ⟨launch_pending _ _ _ _ e, (launch_memOk e).2⟩

theorem judged_keeps {f : List Byte → State → State} (hp : ∀ b s, (f b s).pending = s.pending)
    (hm : ∀ b s, MemOk (f b s) ↔ MemOk s) (b : List Byte) (s : State) : Keeps s ((judge s b).getD (f b s)) := by
  refine ⟨?_, (judged_memOk hm b).2⟩
  cases hj : judge s b with
  | none => exact hp b s
  | some v => exact judge_pending _ _ _ hj

section
variable {s u : State}

/-! Packets (03, 04). -/

theorem execDataPacket_keeps {lane : Nat} (h : execDataPacket lane s = .next u) : Keeps s u := by
  cases h
  split
  · exact (takeDelivered_keeps ‹_›).trans (judged_keeps (by simp) (by simp) _ _)
  · exact .rfl

theorem execPromptPacket_keeps {lane : Nat} (h : execPromptPacket lane s = .next u) : Keeps s u := by
  cases h
  split
  · exact (takeDelivered_keeps ‹_›).trans (judged_keeps (by simp) (by simp) _ _)
  · exact .rfl

theorem execControlMessage_keeps {lane t : Nat} (h : execControlMessage lane t s = .next u) : Keeps s u := by
  cases h
  split
  · have htaken := takeDelivered_keeps ‹_›
    refine keeps_ite .rfl (keeps_ite (htaken.trans ?_) (htaken.trans ?_)) <;> exact ⟨by simp, fun h => by simp [h]⟩
  · exact .rfl

theorem execControlAck_keeps {lane : Nat} (h : execControlAck lane s = .next u) : Keeps s u := by
  cases h
  split
  · have htaken := takeDelivered_keeps ‹_›
    refine keeps_ite .rfl (keeps_ite (htaken.trans ?_) (keeps_ite (htaken.trans ?_) htaken)) <;>
      exact ⟨by simp, fun h => by simp [h]⟩
  · exact .rfl

theorem execBeaconReceived_keeps {lane ingress : Nat} (h : execBeaconReceived lane ingress s = .next u) : Keeps s u :=
  by
  cases h
  split
  · exact .rfl
  · refine (takeDelivered_keeps ‹_›).trans ?_
    dsimp only
    split <;> exact ⟨by simp, fun h => by simp [h]⟩

theorem execPureAckSend_keeps {id : Nat} (h : execPureAckSend id s = .next u) : Keeps s u := by
  cases h
  dsimp only
  split
  · split
    · exact (launch_keeps ‹_›).trans ⟨by simp, fun h => by simp [h]⟩
    · exact .rfl
  · exact .rfl

theorem execControlSend_keeps {id : Nat} (h : execControlSend id s = .next u) : Keeps s u := by
  cases h
  dsimp only
  split
  · split
    · split
      · exact (launch_keeps ‹_›).trans ⟨by simp, fun h => by simp [h]⟩
      · exact .rfl
    · exact .rfl
  · exact .rfl

/-! The Abacus, the tallies and the beamformer (05 to 07). -/

theorem execBeadStoreError_keeps {k ctx : Nat} {ue : Bool} (h : execBeadStoreError k ctx ue s = .next u) : Keeps s u :=
  by
  cases h
  split
  · exact .rfl
  · dsimp only
    split
    · split <;> exact .rfl
    · split
      · split <;> exact ⟨by simp, fun h => by simp [h]⟩
      · exact .rfl

theorem execDrainDone_keeps {admitted stalls : List Nat} {t : Nat} (h : execDrainDone admitted stalls t s = .next u) :
    Keeps s u := by
  cases h
  refine keeps_ite ⟨?_, fun h => ?_⟩ .rfl
  · simp only [finishOpen_pending, modTal_pending, modAba_pending]
    exact foldl_pending _ (by simp) _ _
  · refine finishOpen_memOk ((modTal_memOk _ _).2 ((modAba_memOk _ _).2 ?_)) _ _ _
    exact foldl_memOk (fun s k hs => by simp [hs]) _ (sramWrite_memOk h _ _)

theorem execCloseSweep_keeps (h : execCloseSweep s = .next u) : Keeps s u := by
  cases h
  refine keeps_ite .rfl ?_
  dsimp only
  split
  · exact keeps_ite ⟨by simp, fun h => by simp [h]⟩ ⟨by simp, fun h => by simp [h]⟩
  · exact ⟨by simp, fun h => by simp [h]⟩

theorem execBeamBlocksHandover_keeps {pos : Nat} (h : execBeamBlocksHandover pos s = .next u) : Keeps s u := by
  cases h
  split
  · refine keeps_ite ⟨?_, fun h => ?_⟩ .rfl
    · simp only [dropBeamPos_pending, modBeamPos_pending, ite_pending, modBeams_pending, ite_self]
      exact foldl_pending _ (by simp) _ _
    · simp [h]
  · exact .rfl

theorem execPromptPowerHandover_keeps {n : Nat} (h : execPromptPowerHandover n s = .next u) : Keeps s u := by
  cases h
  split
  · split
    · refine keeps_ite ⟨?_, fun h => ?_⟩ .rfl
      · simp only [modBeams_pending]
        rw [foldl_pending]
        · simp
        · exact fun s _ => foldl_pending _ (by simp) _ _
      · simp [h]
    · exact .rfl
  · exact .rfl

theorem execSeriesSlot_keeps {n : Nat} (h : execSeriesSlot n s = .next u) : Keeps s u := by
  cases h
  refine keeps_ite ⟨?_, fun h => ?_⟩ .rfl
  · simp only [modAssay_pending]
    rw [foldl_pending _ (by simp)]
    simp
  · simp [h]

/-! The Assayers (09). -/

theorem execWaitWake_keeps {a n : Nat} (h : execWaitWake a n s = .next u) : Keeps s u := by
  cases h
  have hticks : Keeps s (modAyr a (fun c => tickMany n (drainCore c)) s) :=
    modAyr_keeps (f := fun c => tickMany n (drainCore c))
      (fun c hc => (ayrOk_congr (c := drainCore c) rfl rfl).2 ((drainCore_ayrOk c).2 hc)) a s
  refine keeps_ite .rfl (keeps_ite (hticks.trans (modAyr_keeps (fun c hc => ?_) a _)) hticks)
  split <;> exact hc

theorem execIllegalInstruction_keeps {a : Nat} {e : MemErr} (h : execIllegalInstruction a e s = .next u) : Keeps s u :=
  by
  have hfault : ∀ code, Keeps s (ayrFault a code s) := fun code => ⟨by simp, fun h => by simp [h]⟩
  cases h
  refine keeps_ite .rfl ?_
  split
  · exact hfault 2
  · refine modAyr_keeps (fun c hc => ?_) a s
    exact hc
  · split
    · exact hfault 1
    · exact keeps_ite (hfault 1) .rfl

theorem execInterruptEntry_keeps {a : Nat} (h : execInterruptEntry a s = .next u) : Keeps s u := by
  cases h
  refine keeps_ite (modAyr_keeps (fun c hc => ?_) a s) .rfl
  exact (ayrOk_congr (c := commitLoad c) rfl rfl).2 ((commitLoad_ayrOk c).2 hc)

theorem execTickExpiry_keeps {a : Nat} (h : execTickExpiry a s = .next u) : Keeps s u := by
  cases h
  refine keeps_ite (modAyr_keeps (fun c hc => ?_) a s) .rfl
  exact hc

theorem execAyrOutFree_keeps {a : Nat} (h : execAyrOutFree a s = .next u) : Keeps s u := by
  cases h
  refine keeps_ite (modAyr_keeps (fun c hc => ?_) a s) .rfl
  exact hc

theorem execAyrInSend_keeps {a : Nat} (h : execAyrInSend a s = .next u) : Keeps s u := by
  cases h
  exact keeps_ite (modAyr_keeps (fun c => (inSend_ayrOk c).2) a s) .rfl

theorem execAyrCounterClear_keeps {a : Nat} (h : execAyrCounterClear a s = .next u) : Keeps s u := by
  cases h
  refine keeps_ite (modAyr_keeps (fun c hc => ?_) a s) .rfl
  exact hc

theorem execHitArrival_keeps {src : Nat} (h : execHitArrival src s = .next u) : Keeps s u := by
  cases h
  refine keeps_ite .rfl (keeps_ite ?_ ?_)
  · split
    · refine (modAyr_keeps (fun c hc => ?_) src s).trans (v := modTrig _ _) ⟨.refl _, fun h => (modTrig_memOk _ _).2 h⟩
      exact hc
    · exact .rfl
  · split <;> exact .rfl

/-! The Hoist (11). -/

theorem execPacketBuild_keeps {stream : Nat} (h : execPacketBuild stream s = .next u) : Keeps s u := by
  cases h
  refine keeps_ite .rfl ?_
  split
  · split
    · exact keeps_ite ⟨by simp, fun h => by simp [h]⟩ ⟨by simp, fun h => by simp [h]⟩
    · exact ⟨by simp, fun h => by simp [h]⟩
    · refine keeps_ite .rfl ?_
      split
      · dsimp only
        split <;> exact ⟨by simp, fun h => by simp [h]⟩
      · exact ⟨by simp, fun h => by simp [h]⟩
    · exact keeps_ite ⟨by simp, fun h => by simp [h]⟩ .rfl
  · exact .rfl

theorem execLanePacketStart_keeps {n now : Nat} {aged : List Nat} (h : execLanePacketStart n aged now s = .next u) :
    Keeps s u := by
  cases h
  dsimp only
  refine keeps_ite .rfl (keeps_ite ?_ ?_)
  · split <;> exact ⟨by simp, fun h => by simp [h]⟩
  · split
    · exact ⟨by simp, fun h => by simp [h]⟩
    · split
      · exact ⟨by simp, fun h => by simp [h]⟩
      · refine keeps_ite ⟨by simp, fun h => by simp [h]⟩ ?_
        split
        · exact ⟨by simp, fun h => by simp [h]⟩
        · split <;> exact ⟨by simp, fun h => by simp [h]⟩

theorem execExpanderJobEnd_keeps {ok : Bool} {t : Nat} (h : execExpanderJobEnd ok t s = .next u) : Keeps s u := by
  cases h
  refine keeps_ite .rfl ?_
  split
  · exact .rfl
  · dsimp only
    split
    · exact ⟨by simp, fun h => by simp [h]⟩
    · refine ⟨?_, fun h => ?_⟩
      · rw [finishOpen_pending]
        split
        · simp
        · split <;> simp
      · refine finishOpen_memOk ?_ _ _ _
        split
        · simp [h]
        · split <;> simp [h]

/-! Pit memory (12): a request's service and the upkeep of ranks store nothing. -/

theorem foldl_pitMem {α : Type} {g : Pit → α → Pit} (hg : ∀ p x, (g p x).mem = p.mem) (l : List α) (p : Pit) :
    (l.foldl g p).mem = p.mem := by
  induction l generalizing p with
  | nil => exact .refl _
  | cons x l ih => exact (ih (g p x)).trans (hg p x)

theorem ite_pitMem {c : Prop} [Decidable c] {p q r : Pit} (hq : q.mem = p.mem) (hr : r.mem = p.mem) :
    (if c then q else r).mem = p.mem := by
  split
  · exact hq
  · exact hr

theorem modPit_keeps_of_mem {f : Pit → Pit} (hf : ∀ p, (f p).mem = p.mem) (s : State) : Keeps s (modPit f s) :=
  modPit_keeps (fun p h => by rw [hf]; exact h) s

theorem markOutcome_mem (o : PitOutcome) (write : Bool) (a : Nat) (p : Pit) : (markOutcome o write a p).mem = p.mem :=
  by
  unfold markOutcome
  split
  · exact failRank_mem _ _
  · exact failRank_mem _ _
  · exact (failRank_mem _ _).trans (ite_pitMem (.refl _) (.refl _))
  · exact .refl _

theorem scrubMark_mem (r a : Nat) (p : Pit) (o : PitOutcome) : (scrubMark r a p o).mem = p.mem := by
  unfold scrubMark
  split
  · exact failRank_mem _ _
  · exact failRank_mem _ _
  · exact failRank_mem _ _
  · exact .refl _

theorem copyMark_mem (m : Migration) (p : Pit) (o : PitOutcome) : (copyMark m p o).mem = p.mem := by
  unfold copyMark
  dsimp only
  split <;> exact .refl _

theorem copyFaults_mem (m : Migration) (fs : List PitFault) (p : Pit) : (copyFaults m fs p).mem = p.mem :=
  foldl_pitMem (copyMark_mem m) _ _

theorem advanceScrub_mem (p : Pit) : (advanceScrub p).mem = p.mem := by
  unfold advanceScrub
  refine ite_pitMem (.refl _) ?_
  split <;> exact .refl _

theorem enqueuePit_mem (q : PitReq) (p : Pit) : (enqueuePit q p).mem = p.mem := by
  unfold enqueuePit
  split <;> exact .refl _

theorem releaseHeld_mem (p : Pit) : (releaseHeld p).mem = p.mem := foldl_pitMem (fun p q => enqueuePit_mem q p) _ _

theorem execPitRequest_keeps {port addr len ns : Nat} {data : Option (List Byte)}
    (h : execPitRequest port addr len data ns s = .next u) : Keeps s u := by
  cases h
  refine keeps_ite .rfl (modPit_keeps (fun p hp => ?_) s)
  dsimp only
  split
  · exact meetRegulator_wf (releaseWaiting_wf (by exact hp) port) _
  · exact releaseWaiting_wf (by exact hp) port

theorem execPitRequestServed_keeps {c ns : Nat} {f : PitFault} (h : execPitRequestServed c f ns s = .next u) :
    Keeps s u :=
  by
  cases h
  split
  · exact .rfl
  · refine keeps_ite .rfl (modPit_keeps_of_mem (fun p => ?_) s)
    exact foldl_pitMem (fun p o => markOutcome_mem o _ _ p) _ _

theorem execPerBankRefresh_keeps {r : Nat} {doubled : Bool} (h : execPerBankRefresh r doubled s = .next u) :
    Keeps s u :=
  by
  cases h
  refine keeps_ite .rfl (modPit_keeps_of_mem (fun p => ?_) s)
  exact ite_pitMem (.refl _) (.refl _)

theorem execRetrainPause_keeps {c : Nat} {ok : Bool} (h : execRetrainPause c ok s = .next u) : Keeps s u := by
  cases h
  refine keeps_ite .rfl (modPit_keeps_of_mem (fun p => ?_) s)
  exact ite_pitMem (.refl _) ((failRank_mem _ _).trans (failRank_mem _ _))

theorem execScrubRead_keeps {f : PitFault} (h : execScrubRead f s = .next u) : Keeps s u := by
  cases h
  refine keeps_ite .rfl (modPit_keeps_of_mem (fun p => ?_) s)
  split
  · exact advanceScrub_mem _
  · refine (advanceScrub_mem _).trans (ite_pitMem (ite_pitMem ?_ ?_) ?_)
    · exact ite_pitMem (.refl _) (.refl _)
    · exact ite_pitMem (.refl _) (.refl _)
    · split
      · exact (foldl_pitMem (scrubMark_mem _ _) _ _).trans (ite_pitMem (.refl _) (.refl _))
      · exact ite_pitMem (.refl _) (.refl _)

theorem execMigrationStart_keeps (h : execMigrationStart s = .next u) : Keeps s u := by
  cases h
  refine keeps_ite .rfl (modPit_keeps_of_mem (fun p => ?_) s)
  split
  · exact .refl _
  · split <;> exact .refl _

theorem execMigrationBlockCopy_keeps {faults : List PitFault} {targetFails : Bool}
    (h : execMigrationBlockCopy faults targetFails s = .next u) : Keeps s u := by
  cases h
  refine keeps_ite .rfl (modPit_keeps_of_mem (fun p => ?_) s)
  split
  · exact .refl _
  · next m _ =>
    have hcopied : ∀ fs, (if targetFails then failRank m.target (serveP7 1920 (copyFaults m fs p))
        else serveP7 1920 (copyFaults m fs p)).mem = p.mem := fun fs =>
      ite_pitMem ((failRank_mem _ _).trans (copyFaults_mem m fs p)) (copyFaults_mem m fs p)
    exact ite_pitMem ((releaseHeld_mem _).trans (hcopied _)) ((releaseHeld_mem _).trans (hcopied _))

theorem execPitCounterClear_keeps (h : execPitCounterClear s = .next u) : Keeps s u := by
  cases h
  exact keeps_ite (modPit_keeps_of_mem (fun p => .refl _) s) .rfl

/-! Time, resets and boot, power (13, 14, 15). -/

theorem execPtpDelayResp_keeps {port sender seq : Nat} {t4 cr log : Int}
    (h : execPtpDelayResp port sender seq t4 cr log s = .next u) : Keeps s u := by
  cases h
  dsimp only
  split
  · exact keeps_ite ⟨by simp, fun h => by simp [h]⟩ .rfl
  · exact .rfl

theorem execPerstNAssert_keeps (h : execPerstNAssert s = .next u) : Keeps s u := by
  cases h
  exact .rfl

theorem execPerstNRelease_keeps (h : execPerstNRelease s = .next u) : Keeps s u := by
  cases h
  exact .rfl

theorem execBootS2_keeps {bad : List Nat} {full dur : Nat} (h : execBootS2 bad full dur s = .next u) : Keeps s u := by
  cases h
  refine keeps_ite .rfl (withBell_keeps (fun s => ?_) s)
  have htrained : Keeps s (modShift (fun x => { x with trained := (upTo 32).map (channelTrained bad) })
      (modPit (trainPit bad full (bit s.shift.altered 2)) s)) :=
    (modPit_keeps (f := trainPit bad full (bit s.shift.altered 2)) (fun p _ => .refl _) s).trans .rfl
  exact keeps_ite (htrained.trans ⟨by simp, fun h => by simp [h]⟩) (htrained.trans ⟨by simp, fun h => by simp [h]⟩)

theorem setBun_keeps (b : Bundles) (s : State) : Keeps s { s with bun := b } := .rfl

theorem execBootS3_keeps {ok area : Bool} {dur : Nat} (h : execBootS3 ok area dur s = .next u) : Keeps s u := by
  cases h
  refine keeps_ite .rfl (withBell_keeps (fun s => ?_) s)
  have hread : Keeps s (readRecords (area && supplyOn s vioM) s) := ⟨by simp, fun h => by simp [h]⟩
  dsimp only
  split
  · exact hread.trans ⟨by simp, fun h => by simp [h]⟩
  · exact (hread.trans (setBun_keeps _ _)).trans ⟨by simp, fun h => by simpa using h⟩

theorem startActivated_keeps (o : Option OpenCmd) (b : Bundles) (s : State) :
    Keeps s (dpUp .activate (takeSlot o { s with bun := b })) :=
  (setBun_keeps b s).trans ⟨by simp, fun h => by simpa using h⟩

theorem execBootS4_keeps {dpOk : Bool} {pass dur t : Nat} (h : execBootS4 dpOk pass dur t s = .next u) : Keeps s u := by
  cases h
  refine keeps_ite .rfl (withBell_keeps (fun s => ?_) s)
  exact keeps_ite ⟨by simp, fun h => by simp [h]⟩
    (keeps_ite ⟨by simp, fun h => by simp [h]⟩ ⟨by simp, fun h => by simp [h]⟩)

theorem execBootS7_keeps {now dur : Nat} (h : execBootS7 now dur s = .next u) : Keeps s u := by
  cases h
  split
  · next e _ =>
    refine keeps_ite .rfl (withBell_keeps (fun s => ?_) s)
    have hserved :
        ∀ v, MemOk v → MemOk (setCore e .onShift (s7Bundle now (endStage 7 1 dur v))) := fun v h => by simp [h]
    exact ⟨by simp, fun h => by simp +contextual [hserved s h]⟩
  · exact .rfl

theorem execDpReturnComplete_keeps {pass now : Nat} {bad : List RegionRec}
    (h : execDpReturnComplete pass bad now s = .next u) : Keeps s u := by
  cases h
  split
  · exact .rfl
  · have hlanes : Keeps s (restartLanes (now % 2 ^ 64) (testFrames pass s)) := ⟨by simp, fun h => by simp [h]⟩
    refine keeps_ite hlanes (hlanes.trans (withBell_keeps (fun s => ⟨by simp, fun h => ?_⟩) _))
    exact finishOpen_memOk (by simp [h]) _ _ _

theorem execDpQuiesced_keeps {t : Nat} (h : execDpQuiesced t s = .next u) : Keeps s u := by
  cases h
  split
  · exact .rfl
  · refine keeps_ite .rfl (withBell_keeps (fun s => ?_) s)
    dsimp only
    split
    · exact ⟨by simp, fun h => finishOpen_memOk (by simp [h]) _ _ _⟩
    · exact ⟨by simp, fun h => by simp [h]⟩
    · exact ⟨by simp, fun h => by simp [h]⟩
    · have hcommitted : ∀ v : State, Keeps v (commitOpen (isOp 0x0202) t v) := fun v => ⟨by simp, fun h => by simp [h]⟩
      have hdown : Keeps s (modPwr (fun p => { p with leaving := none, force := false, cause := setBits p.cause [1] })
          (dpDown t (wndLeaveDp s.pwr.force s))) := ⟨by simp, fun h => by simp [h]⟩
      exact (hdown.trans (hcommitted _)).trans (startActivated_keeps _ _ _)

/-! The Winder (15). -/

theorem execMove_keeps {c : Nat} (h : execMove c s = .next u) : Keeps s u := by
  cases h
  refine withBell_keeps (atInstr_keeps (fun ch w s => ?_) c) s
  cases w with
  | move m => exact ⟨by simp, fun h => by simp [h]⟩
  | _ => exact .rfl

theorem execWinderLoop_keeps {c : Nat} (h : execWinderLoop c s = .next u) : Keeps s u := by
  cases h
  refine withBell_keeps (atInstr_keeps (fun ch w s => ?_) c) s
  cases w with
  | loop => exact ⟨by simp, fun h => by simp [h]⟩
  | _ => exact .rfl

theorem execSignal_keeps {c : Nat} (h : execSignal c s = .next u) : Keeps s u := by
  cases h
  refine withBell_keeps (atInstr_keeps (fun ch w s => ?_) c) s
  cases w with
  | signal => exact ⟨by simp, fun h => by simp [h]⟩
  | _ => exact .rfl

/-! Cages, the monitor and the constellation (16, 17, 18). -/

theorem execRequestAccept_keeps {t : Nat} (h : execRequestAccept t s = .next u) : Keeps s u := by
  cases h
  have htaken : Keeps s (withBell (takeRequest t) s) := withBell_keeps (fun s => ⟨by simp, fun h => by simp [h]⟩) s
  exact keeps_ite (htaken.trans ⟨by simp, fun h => by simp [h]⟩) .rfl

theorem execModerationTimer_keeps {n : Nat} (h : execModerationTimer n s = .next u) : Keeps s u := by
  cases h
  refine keeps_ite (withBell_keeps (fun s => ?_) s) .rfl
  exact ⟨by simp, fun h => by simp [h]⟩

theorem execSequencerEntryStart_keeps (h : execSequencerEntryStart s = .next u) : Keeps s u := by
  cases h
  refine keeps_ite (Keeps.trans ?_ (foldl_keeps (fun s m => ?_) _ _)) .rfl
  · exact ⟨by simp, fun h => by simp [h]⟩
  · exact ⟨by simp, fun h => by simp [h]⟩

theorem execUrgentConversionStart_keeps {m t : Nat} (h : execUrgentConversionStart m t s = .next u) : Keeps s u := by
  cases h
  dsimp only
  split
  · exact .rfl
  · refine keeps_ite .rfl (keeps_ite .rfl ?_)
    split <;> exact ⟨by simp, fun h => by simp [h]⟩

theorem execConstRealign_keeps {t : Nat} (h : execConstRealign t s = .next u) : Keeps s u := by
  cases h
  refine keeps_ite (keeps_ite ⟨by simp, fun h => by simp [h]⟩ (keeps_ite ⟨by simp, fun h => by simp [h]⟩ ?_)) .rfl
  split <;> exact ⟨by simp, fun h => by simp [h]⟩

theorem execConstAlarmPoll_keeps (h : execConstAlarmPoll s = .next u) : Keeps s u := by
  cases h
  refine keeps_ite ?_ .rfl
  dsimp only
  split <;> exact ⟨by simp, fun h => by simp [h]⟩

theorem execManagementFrame_keeps {port : Nat} {frame : List Byte} (h : execManagementFrame port frame s = .next u) :
    Keeps s u := by
  cases h
  refine keeps_ite .rfl ?_
  split
  · exact .rfl
  · exact keeps_ite .rfl .rfl

/-- The rule of every step: whatever command it runs, it adds nothing to the queue and keeps every memory canonical. -/
theorem exec_keeps {i : Instr} (h : exec i s = .next u) : Keeps s u := by
  cases i
  case illegalRegisterAccess | wideQuantityLowRead | laneAssign | txTrainDone | txFault | rxPacket | losAssert |
      rateTrialFail | adaptEnd | laneBringup | laneStatus | promptWaitExpiry | controlRetransmit | sealWindowOpen |
      chunkBoundary | hopCounterClear | drain | abaCounterClear | integSchedule | integStop | talCounterClear |
      beamsetDefine | beamDelays | generationCommit | promptConfig | beamCounterClear | tourStart | assayConfig |
      assayCounterClear | assayProbeSelWrite | add | sub | and | or | xor | shl | shra | shrl | slt | sltu | min |
      max | abs | addi | andi | ori | xori | shli | shrai | shrli | movi | movhi | mul | mac | msu | mova | mfah |
      mta | clra | ld | ldh | st | sth | movai | adda | movda | movad | br | beqz | bnez | bltz | bgez | call | jr |
      loop | loopi | mtl | mfl | pin | pout | nop | ei | di | wait | reti | halt | tickLoad | evFree | injValue |
      frz | trqGo | outSend | inFree | assayerWindowWrite | assayerStopCommit | forcedStop | trigInEdge | hitExpiry |
      pulseStart | pulseEnd | triggerConfig | triggerArm | captureConfig | captureRelease | captureReadoutDone |
      trgCounterClear | statPacketBuild | copyDrop | hoistFlushEnd | hoistStreams | hoistPaths | crushConfig |
      expanderJobStart | hstCounterClear | pitStatus | pitRetireRank | pitScrub | tuSecondEvaluation | ppsOutFall |
      signalFailure | signalRestore | phaseMeasurement | ppsEdge | lockDeclared | historyRecord | tempStale |
      xoLost | xoReturn | timeRefs | timeLoop | timePhaseStep | timeSet | timeStatus | ptpConfig | holdoverModel |
      ptpAnnounce | ptpSync | ptpDelayReqSend | ptpTcForward | ptpTcDrop | tuCounterClear | shiftWdtKick | resetReq |
      hrstNAssert | porstNAssert | bootS1 | bootS5 | bootS6 | persistRecordWrite | shiftStatus | shiftHandover |
      ledgerRead | ledgerClear | quiesce | resume | devReset | bellSwset | bellClaim | bellComplete | bellPendClear |
      bellModeWrite | coreRemapWrite | winderStart | winderDisable | winderEventSet | winderWaitEnd | pwrSleepReq |
      ctlSleepEntry | ctlWake | pwrTimerWrite | pwrTimerExpiry | gpioEdge | cageEnable | cageDoorbell |
      cageCplHeadWrite | completionPost | partAssemblyTimeout | smbusBlockRead | smbusStatusRead | d3hotEntry |
      d0Return | pcieLinkDown | pcieLinkUp | devInfo | devStatus | echo | bundleLoad | configDigest | arrayLayout |
      frameBudget | monSequence | monCalibrate | monRead | monUrgent | monFifoRead | monCounterClear | constJoin |
      constState | constPolicy | constPeerSelWrite | constCounterClear | vauxLoss | vinLoss | vinReturn | vlaneLoss |
      vlaneReturn | vioLoss | vioReturn | thermalSample | phaseStepSlewEnd | cageDisable =>
    cases h
    exact ⟨by simp, fun h => by simp [h]⟩
  case txSkipSend | txTrainSend | txTrainReport | txSerialiserRelock | rxTrain | rxSkip | elasticEvent |
      wordAlignment | codeError | losDeassert | lolAssert | lolDeassert | rateTrialSuccess | savedRateAttemptEnd |
      relockAttempt | laneCounterClear | equaliserAdapt =>
    cases h
    exact ⟨by simp [whenRun], fun h => by simp [whenRun, h]⟩
  case txLaneTurnOff | runHandover | dumpRecordPosted | weightBlockArrival | promptBlockJoin | candidateDecision |
      packetSent | crusherFrameDone | udpRequest | monSequenceCommit | conversionEnd | peerSilent =>
    cases h
    exact ⟨by split <;> simp, fun h => by split <;> simp [h]⟩
  case shadowEmptied | preemptionLatch | preemptionEnd | preemptionDeferredStart | linePromotion | closeDone =>
    cases h
    exact ⟨by (repeat' split) <;> simp, fun h => by (repeat' split) <;> simp [h]⟩
  case registerWrite | wideQuantityHighWrite | beamWeightTable | assayerLoad | assayerRun | captureFreeze |
      pitRegulator | watchdogExpiry | shiftRelinquish | coreMemUe | busHang | selfTest | repairPassEnd |
      resetRelease | winderBurst | winderWait | winderPoll | smbusBlockWrite | abort | bundleActivate =>
    cases h
    exact ⟨by simp, fun h => by simp +contextual [h]⟩
  case takeoverComplete | takeoverFailed | bootS0 =>
    cases h
    exact ⟨by split <;> simp, fun h => by split <;> simp +contextual [h]⟩
  case dataPacket => exact execDataPacket_keeps h
  case promptPacket => exact execPromptPacket_keeps h
  case controlMessage => exact execControlMessage_keeps h
  case controlAck => exact execControlAck_keeps h
  case pureAckSend => exact execPureAckSend_keeps h
  case controlSend => exact execControlSend_keeps h
  case beadStoreError => exact execBeadStoreError_keeps h
  case drainDone => exact execDrainDone_keeps h
  case closeSweep => exact execCloseSweep_keeps h
  case beamBlocksHandover => exact execBeamBlocksHandover_keeps h
  case promptPowerHandover => exact execPromptPowerHandover_keeps h
  case seriesSlot => exact execSeriesSlot_keeps h
  case waitWake => exact execWaitWake_keeps h
  case illegalInstruction => exact execIllegalInstruction_keeps h
  case interruptEntry => exact execInterruptEntry_keeps h
  case tickExpiry => exact execTickExpiry_keeps h
  case ayrOutFree => exact execAyrOutFree_keeps h
  case ayrInSend => exact execAyrInSend_keeps h
  case ayrCounterClear => exact execAyrCounterClear_keeps h
  case hitArrival => exact execHitArrival_keeps h
  case packetBuild => exact execPacketBuild_keeps h
  case lanePacketStart => exact execLanePacketStart_keeps h
  case expanderJobEnd => exact execExpanderJobEnd_keeps h
  case pitRequest => exact execPitRequest_keeps h
  case pitRequestServed => exact execPitRequestServed_keeps h
  case perBankRefresh => exact execPerBankRefresh_keeps h
  case retrainPause => exact execRetrainPause_keeps h
  case scrubRead => exact execScrubRead_keeps h
  case migrationStart => exact execMigrationStart_keeps h
  case migrationBlockCopy => exact execMigrationBlockCopy_keeps h
  case pitCounterClear => exact execPitCounterClear_keeps h
  case ptpDelayResp => exact execPtpDelayResp_keeps h
  case perstNAssert => exact execPerstNAssert_keeps h
  case bootS2 => exact execBootS2_keeps h
  case bootS3 => exact execBootS3_keeps h
  case bootS4 => exact execBootS4_keeps h
  case bootS7 => exact execBootS7_keeps h
  case dpReturnComplete => exact execDpReturnComplete_keeps h
  case dpQuiesced => exact execDpQuiesced_keeps h
  case move => exact execMove_keeps h
  case winderLoop => exact execWinderLoop_keeps h
  case signal => exact execSignal_keeps h
  case requestAccept => exact execRequestAccept_keeps h
  case moderationTimer => exact execModerationTimer_keeps h
  case sequencerEntryStart => exact execSequencerEntryStart_keeps h
  case urgentConversionStart => exact execUrgentConversionStart_keeps h
  case beaconReceived => exact execBeaconReceived_keeps h
  case constRealign => exact execConstRealign_keeps h
  case constAlarmPoll => exact execConstAlarmPoll_keeps h
  case managementFrame => exact execManagementFrame_keeps h
  case perstNRelease => exact execPerstNRelease_keeps h

end

theorem step_of_front {s : State} {c : Instr} {q : List Instr} (h : s.pending = c :: q) :
    step s = exec c { s with pending := q } := by
  rw [step, h]

theorem step_of_empty {s : State} (h : s.pending = []) : step s = .next s := by
  rw [step, h]

theorem step_pending {s u : State} (h : step s = .next u) : u.pending = s.pending.tail := by
  cases hq : s.pending with
  | nil =>
    cases (step_of_empty hq).symm.trans h
    exact hq
  | cons c q => exact (exec_keeps ((step_of_front hq).symm.trans h)).1

theorem step_memOk {s u : State} (hs : MemOk s) (h : step s = .next u) : MemOk u := by
  cases hq : s.pending with
  | nil =>
    cases (step_of_empty hq).symm.trans h
    exact hs
  | cons c q => exact (exec_keeps ((step_of_front hq).symm.trans h)).2 hs

/-- Settles O57: every command keeps the memories' canonical form (`exec_keeps`), and a step runs one command or none. -/
theorem memoryInvariant : Obligations.MemoryInvariant := by
  unfold Obligations.MemoryInvariant
  exact fun _ _ => step_memOk

/-- Settles O56: a step leaves the tail of the queue, and what holds of every command of a list holds of its tail's. -/
theorem queueInvariant : Obligations.QueueInvariant := by
  unfold Obligations.QueueInvariant
  refine fun s u h => ⟨step_pending h, fun hwf => ?_⟩
  rw [step_pending h, List.all_eq_true]
  exact fun c hc => List.all_eq_true.mp hwf c (List.mem_of_mem_tail hc)

/-- Settles O55, by the two equations of `step`. -/
theorem stepRunsFront : Obligations.StepRunsFront := by
  unfold Obligations.StepRunsFront
  exact fun s c q => ⟨step_of_front, step_of_front rfl, step_of_empty⟩

/-- Settles O15, by the laws of `memWrite`. -/
theorem memoryReadAfterWrite : Obligations.MemoryReadAfterWrite := by
  unfold Obligations.MemoryReadAfterWrite
  exact fun m a bs w =>
    ⟨memWrite_wf m a bs w, fun i => memByte_memWrite_in m a bs i w, fun x => memByte_memWrite_out m a bs x w⟩

end Sys2Proof.Machine
end

section
/-! How a request is received (16 R383 to R388). -/

namespace Sys2Proof.Machine
open Sys2Proof

theorem withArg_fields (s : State) (r : Req) :
    (withArg s r).opcode = r.opcode ∧ (withArg s r).tag = r.tag ∧ (withArg s r).client = r.client ∧
    (withArg s r).body = r.body ∧ (withArg s r).cage = r.cage ∧ (withArg s r).dest = r.dest ∧
    (withArg s r).forward = r.forward := by
  unfold withArg
  split <;> exact ⟨rfl, rfl, rfl, rfl, rfl, rfl, rfl⟩

theorem withArg_peer_origin (s : State) (r : Req) : (withArg s r).peer = r.peer ∧ (withArg s r).origin = r.origin := by
  unfold withArg
  split <;> exact ⟨rfl, rfl⟩

theorem withArg_other {s : State} {r : Req} (h : 3 < r.cage ∨ r.host = true) : withArg s r = r := by
  refine if_neg fun hin => ?_
  rcases h with h | h
  · omega
  · simp [h] at hin

theorem withArg_sram {s : State} {r : Req} (hcage : r.cage ≤ 3) (hhost : r.host = false)
    (harea : hostArea r.argAddr r.arg.length = true) :
    (withArg s r).arg = memRead s.sys.sram r.argAddr r.arg.length := by
  rw [withArg, if_pos ⟨hcage, by simp [hhost], harea⟩]

theorem freeStatus_lt (s : State) : freeStatus s < 15 := Nat.mod_lt _ (by decide)

section
variable {op : Nat} {f : Req → Nat → State → Out} {r q : Req} {t : Nat} {s u : State}

/-! What `runNow` does with a request, by its place and by what its tag says. -/

theorem runNow_forward (hq : q = withArg s { r with opcode := op }) (hfwd : r.forward = true) (hcage : r.cage ≤ 5) :
    runNow op f r t s = if r.dest = 4095 then
        answerOnly q t { status := stBadArg, detail := 2 } stBadArg (accepted q s)
      else forwardReq q (accepted q s) := by
  obtain ⟨-, -, -, -, ecage, edest, efwd⟩ := withArg_fields s { r with opcode := op }
  rw [← hq] at ecage edest efwd
  unfold runNow
  dsimp only
  rw [← hq, if_pos ⟨efwd.trans hfwd, by rw [ecage]; exact hcage⟩, edest]

theorem runNow_noPlace (hq : q = withArg s { r with opcode := op }) (hfwd : r.forward = false)
    (hplace : takePlace r.client t (accepted q s) = none) :
    runNow op f r t s = answerOnly q t { status := stBusy, detail := 9 } stBusy (accepted q s) := by
  obtain ⟨-, -, eclient, -, -, -, efwd⟩ := withArg_fields s { r with opcode := op }
  rw [← hq] at eclient efwd
  unfold runNow
  dsimp only
  rw [← hq, if_neg (by simp [efwd, hfwd]), eclient, hplace]

/-- What `runNow` does with a request that has a place, by the class of its tag. -/
def byTag (op : Nat) (f : Req → Nat → State → Out) (q : Req) (t : Nat) (u : State) : TagClass → State
  | .repeatOf c => modCage q.cage (fun g => { g with replayed := sat32 (g.replayed + 1) })
      (modCages (fun g => { g with ready := g.ready ++ [replayOf q (u.cages.commits + 1) c] }) (nextCommit u))
  | .conflict o stale => modCage q.cage (fun g => { g with conflict := sat32 (g.conflict + 1) })
      (let a : Reply := { status := stConflict, detail := if stale then 8 else 0 }
       o.elim (freeNext (answerOnly q t a (freeStatus u) u)) (fun o => answerOnly q t a o u))
  | .inProgress => answerOnly q t { status := stBusy, detail := 7 } stBusy u
  | .new =>
      let spec := (cmdSpec op).getD { op := op }
      let v := enterTag q.client q.tag (reqDigest q) (!atAcceptance spec q) u
      settle q (reqDigest q) t (((if (cmdSpec op).isNone then some (stUnknown, 0) else entryCheck spec q v).map
        (fun x => refuse v x.1 x.2)).getD (f q t v))

section
variable (hq : q = withArg s { r with opcode := op }) (hfwd : r.forward = false)
  (hplace : takePlace r.client t (accepted q s) = some u)
include hq hfwd hplace

theorem runNow_placed :
    runNow op f r t s = byTag op f q t u (classify ((placeOf u r.client).getD {}) r.tag (reqDigest q)) := by
  obtain ⟨-, etag, eclient, -, -, -, efwd⟩ := withArg_fields s { r with opcode := op }
  rw [← hq] at etag eclient efwd
  dsimp only at etag eclient efwd
  unfold runNow
  dsimp only
  rw [← hq, if_neg (by simp [efwd, hfwd]), eclient, hplace]
  dsimp only
  rw [etag]
  cases classify ((placeOf u r.client).getD {}) r.tag (reqDigest q) with
  | conflict o stale => cases o <;> rfl
  | new =>
    dsimp only [byTag]
    rw [eclient, etag]
    generalize (if (cmdSpec op).isNone then _ else _ : Option (Nat × Nat)) = check
    cases check <;> rfl
  | _ => rfl

/-- A new request enters the window; one that no row of the table knows, or that a check refuses, ends there. -/
theorem runNow_refused {spec : CmdSpec} {st d : Nat} (hspec : spec = (cmdSpec op).getD { op := op })
    (hclass : classify ((placeOf u r.client).getD {}) r.tag (reqDigest q) = .new)
    (hcheck : (if (cmdSpec op).isNone then some (stUnknown, 0)
      else entryCheck spec q (enterTag r.client r.tag (reqDigest q) (!atAcceptance spec q) u)) = some (st, d)) :
    runNow op f r t s = ended op q t { status := st, detail := d }
      (enterTag r.client r.tag (reqDigest q) (!atAcceptance spec q) u) := by
  obtain ⟨eop, etag, eclient, -⟩ := withArg_fields s { r with opcode := op }
  rw [← hq] at eop etag eclient
  dsimp only at eop etag eclient
  rw [runNow_placed hq hfwd hplace, hclass, byTag, eclient, etag, ← hspec, hcheck, ended]
  subst eop
  rfl

end

/-! What a tag says of its request (R387). -/

theorem tagDiff_ahead {n d : Nat} (hn : n < 65536) (hd : d < 65536) : tagDiff ((n + d) % 65536) n = d := by
  unfold tagDiff
  omega

theorem tagDiff_behind {n d : Nat} (hn : n < 65536) (h1 : d < 65536) : tagDiff n ((n + 65536 - d) % 65536) = d := by
  unfold tagDiff
  omega

theorem not_ahead_of_behind {n d : Nat} (hn : n < 65536) (hd : d ≤ 32768) :
    ¬ (1 ≤ tagDiff ((n + 65536 - d) % 65536) n ∧ tagDiff ((n + 65536 - d) % 65536) n ≤ 32767) := by
  unfold tagDiff
  omega

/-- What the entry of a known tag says of a request with a digest. -/
def byEntry (digest : Nat) (e : CacheEntry) : TagClass :=
  if e.digest ≠ digest then .conflict (e.done.map (·.status)) false
  else if !e.stored then .new
  else e.done.elim .inProgress .repeatOf

section
variable {p : ClientPlace} {e : CacheEntry} {d : Nat} (digest : Nat)

theorem classify_ahead (hn : p.newest < 65536) (h1 : 1 ≤ d) (hd : d ≤ 32767) :
    classify p ((p.newest + d) % 65536) digest = .new := by
  have hdiff := tagDiff_ahead (d := d) hn (by omega)
  unfold classify
  dsimp only
  split
  · rfl
  · rw [if_pos (by omega)]

theorem not_unused (he : e ∈ p.entries) :
    ¬ (p.entries.isEmpty && p.newestDone.isNone && decide (p.newest = 0)) = true := by
  cases hp : p.entries with
  | nil => simp [hp] at he
  | cons => simp

theorem classify_stale (hn : p.newest < 65536) (he : e ∈ p.entries) (h1 : 64 ≤ d) (hd : d ≤ 32768) :
    classify p ((p.newest + 65536 - d) % 65536) digest = .conflict none true := by
  have hdiff := tagDiff_behind (d := d) hn (by omega)
  unfold classify
  dsimp only
  rw [if_neg (not_unused he), if_neg (not_ahead_of_behind hn hd), if_pos (by omega)]

theorem classify_known {tag : Nat} (hn : p.newest < 65536) (he : e ∈ p.entries) (hd : d < 64)
    (htag : tag = (p.newest + 65536 - d) % 65536) (hfind : p.entries.find? (fun x => x.tag == tag) = some e) :
    (e.digest ≠ digest → classify p tag digest = .conflict (e.done.map (·.status)) false) ∧
    (∀ c, e.digest = digest → e.stored = true → e.done = some c → classify p tag digest = .repeatOf c) ∧
    (e.digest = digest → e.stored = true → e.done = none → classify p tag digest = .inProgress) ∧
    (e.digest = digest → e.stored = false → classify p tag digest = .new) := by
  have hdiff := tagDiff_behind (d := d) hn (by omega)
  rw [← htag] at hdiff
  have hahead := not_ahead_of_behind (d := d) hn (by omega)
  rw [← htag] at hahead
  have hfound : classify p tag digest = byEntry digest e := by
    unfold classify
    dsimp only
    rw [if_neg (not_unused he), if_neg hahead, if_neg (by omega), hfind]
    unfold byEntry
    dsimp only
    cases e.done <;> rfl
  rw [hfound]
  refine ⟨fun h => if_pos h, fun c h hs hc => ?_, fun h hs hc => ?_, fun h hs => ?_⟩
  · simp [byEntry, h, hs, hc]
  · simp [byEntry, h, hs, hc]
  · simp [byEntry, h, hs]

end
end

/-- Settles O59: one lemma per outcome of `runCommand`, `runNow` and `classify`. -/
theorem requestHandling : Obligations.RequestHandling := by
  unfold Obligations.RequestHandling
  refine ⟨fun op f r q t s u spec hq => ?_, ?tags⟩
  have hcage : q.cage = r.cage := by
    rw [hq]
    exact (withArg_fields s { r with opcode := op }).2.2.2.2.1
  refine ⟨?busy, ?waits, ?now, ?entry, ?forwarded, ?refused, ?conflict, ?noPlace, ?inProgress, ?conflictKnown, ?replayed, ?checked, ?unknown⟩
  case busy => exact fun hroom hcage => by simp [runCommand, hroom, hcage]
  case waits =>
    intro hroom hwait
    have hstay : (!cagesOpen s || (mustWait s.cages.fetched op s && !r.forward)) = true := by
      rcases hwait with h | ⟨h, h'⟩ <;> simp [*]
    simp [runCommand, hroom, hstay, modCages]
  case now =>
    intro hroom hopen hwait
    have hgo : (mustWait s.cages.fetched op s && !r.forward) = false := by
      rcases hwait with h | h <;> simp [h]
    simp [runCommand, hroom, hopen, hgo]
  case entry =>
    obtain ⟨eop, etag, eclient, ebody, -⟩ := withArg_fields s { r with opcode := op }
    subst hq
    exact ⟨eop, etag, eclient, ebody, fun h => (congrArg Req.arg (withArg_other (r := { r with opcode := op }) h)).trans rfl,
      fun hc hh ha => withArg_sram hc hh ha⟩
  case forwarded => exact fun hfwd hcage hdest => (runNow_forward hq hfwd hcage).trans (if_neg hdest)
  case refused => exact fun hfwd hcage hdest => (runNow_forward hq hfwd hcage).trans (if_pos hdest)
  case conflict =>
    refine fun stale hfwd hplace hclass => ⟨?_, freeStatus_lt u⟩
    rw [runNow_placed hq hfwd hplace, hclass, ← hcage]
    rfl
  case noPlace => exact fun hfwd hplace => runNow_noPlace hq hfwd hplace
  case inProgress =>
    intro hfwd hplace hclass
    rw [runNow_placed hq hfwd hplace, hclass]
    rfl
  case conflictKnown =>
    intro o stale hfwd hplace hclass
    rw [runNow_placed hq hfwd hplace, hclass, ← hcage]
    rfl
  case replayed =>
    obtain ⟨epeer, eorigin⟩ := withArg_peer_origin s { r with opcode := op }
    rw [← hq] at epeer eorigin
    refine fun c hfwd hplace hclass => ⟨_, (runNow_placed hq hfwd hplace).trans (congrArg _ hclass), rfl, rfl, ?_⟩
    simp [byTag, replayOf, hcage, epeer, eorigin, nextCommit, modCages, modCage]
  case checked =>
    intro st d hfwd hplace hspec hclass hcheck
    exact runNow_refused hq hfwd hplace (by rw [hspec]; rfl) hclass (by simpa [hspec] using hcheck)
  case unknown =>
    intro hfwd hplace hspec hclass
    exact runNow_refused hq hfwd hplace (by rw [hspec]; rfl) hclass (by simp [hspec])
  case tags =>
    refine fun p tag digest d e c _ hn he => ⟨?_, ?_, ?_⟩
    · rintro h1 hd rfl
      exact classify_ahead digest hn h1 hd
    · rintro h1 hd rfl
      exact classify_stale digest hn he h1 hd
    · intro hd htag hfind
      obtain ⟨hother, hrepeat, hprogress, hunstored⟩ := classify_known digest hn he hd htag hfind
      exact ⟨hother, hrepeat c, hprogress, hunstored⟩

end Sys2Proof.Machine
end

section
/-! Request entries and completions as bytes, and what ending a command does (16 Tables 16.1 and 16.2, R379, R388, R389). -/

namespace Sys2Proof.Machine
open Sys2Proof

/-! Reading a byte string that was written field after field. -/

theorem leAt_leBytes_append {n v : Nat} (hv : v < 256 ^ n) (l : List Byte) : leAt (leBytes n v ++ l) 0 n = v := by
  induction n generalizing v with
  | zero => simp at hv; simp [leAt, hv]
  | succ n ih =>
    have hrest : v / 256 < 256 ^ n := Nat.div_lt_of_lt_mul (by rw [Nat.mul_comm, ← Nat.pow_succ]; exact hv)
    rw [leBytes, List.cons_append, leAt, leAt_cons_succ, ih hrest]
    simp [u8, Nat.mod_add_div]

theorem leAt_skip {k v i : Nat} (h : k ≤ i) (l : List Byte) (n : Nat) :
    leAt (leBytes k v ++ l) i n = leAt l (i - k) n := by
  have hsplit : i = (leBytes k v).length + (i - k) := by rw [length_leBytes]; omega
  rw [hsplit, ← leAt_drop, List.drop_left, length_leBytes, Nat.add_sub_cancel_left]

theorem drop_skip {k v i : Nat} (h : k ≤ i) (l : List Byte) : (leBytes k v ++ l).drop i = l.drop (i - k) := by
  rw [List.drop_append, List.drop_of_length_le (by rw [length_leBytes]; exact h), length_leBytes, List.nil_append]

theorem u8_eq_leAt (b : List Byte) (i : Nat) : u8 b i = leAt b i 1 := rfl

theorem padTo_of_length {n : Nat} {b : List Byte} (h : b.length = n) : padTo n b = b := by
  simp [padTo, h]

theorem length_padTo (n : Nat) (b : List Byte) : (padTo n b).length = n := by
  simp [padTo]
  omega

/-- The low 12 bits and the four flags of a request entry's word at byte 6. -/
theorem flagWord_fields {dest : Nat} (hdest : dest < 4096) (rsv part host forward : Bool) (v : Nat)
    (hv : v = dest % 4096 + 4096 * b2n rsv + 8192 * b2n part + 16384 * b2n host + 32768 * b2n forward) :
    v < 65536 ∧ v % 4096 = dest ∧ bit v 12 = rsv ∧ bit v 13 = part ∧ bit v 14 = host ∧ bit v 15 = forward := by
  subst hv
  simp only [bit, Nat.testBit_eq_decide_div_mod_eq]
  cases rsv <;> cases part <;> cases host <;> cases forward <;> simp [b2n] <;> omega

theorem flagByte_bits (a b c d : Bool) (v : Nat) (hv : v = b2n a + 2 * b2n b + 4 * b2n c + 8 * b2n d) :
    v < 256 ∧ bit v 0 = a ∧ bit v 1 = b ∧ bit v 2 = c ∧ bit v 3 = d := by
  subst hv
  revert a b c d
  decide

theorem reqOfBytes_reqBytes {r : Req} (hwf : r.wf = true) (hreach : r.reachable = true) (hlen : r.badLen = false)
    (hpeer : r.peer = 0) (horigin : r.origin = (0, 0, 0)) :
    (reqBytes r).length = 64 ∧ reqOfBytes r.cage (reqBytes r) r.arg = r ∧ u32 (reqBytes r) 16 = r.arg.length := by
  simp only [Req.wf, Bool.and_eq_true, decide_eq_true_eq] at hwf
  obtain ⟨⟨⟨⟨⟨⟨⟨⟨-, hop⟩, htag⟩, hclient⟩, hdest⟩, haddr⟩, hres⟩, hbody⟩, harg⟩ := hwf
  obtain ⟨hword, edest, ersv, epart, ehost, efwd⟩ := flagWord_fields hdest r.rsv r.part r.host r.forward _ rfl
  unfold reqBytes reqOfBytes u16 u32 u64
  generalize r.dest % 4096 + 4096 * b2n r.rsv + 8192 * b2n r.part + 16384 * b2n r.host + 32768 * b2n r.forward = w at *
  refine ⟨?_, ?_, ?_⟩
  · simp [length_leBytes, length_padTo]
  · simp only [List.append_assoc]
    simp (disch := omega) only [leAt_skip, drop_skip, leAt_leBytes_append, Nat.reduceSub]
    rw [efwd, ehost, epart, ersv, edest, List.drop_zero, padTo_of_length hbody, padTo_of_length hbody]
    cases r
    simp_all
  · simp only [List.append_assoc]
    simp (disch := omega) only [leAt_skip, leAt_leBytes_append, Nat.reduceSub]

theorem cplBytes_fields {c : Completion} (hop : c.opcode < 2 ^ 16) (htag : c.tag < 2 ^ 16) (hclient : c.client < 2 ^ 16)
    (hst : c.status < 256) (horig : c.orig < 256) (hdetail : c.detail < 256) (hside : c.sideEffects < 2 ^ 16)
    (hlen : c.resLen < 2 ^ 32) (htime : c.commitTime < 2 ^ 64) (hres : c.result.length = 40) {e : List Byte}
    (he : e = cplBytes c) :
    e.length = 64 ∧ u16 e 0 = c.opcode ∧ u16 e 2 = c.tag ∧ u16 e 4 = c.client ∧ u8 e 6 = c.status ∧
    bit (u8 e 7) 0 = c.phase ∧ bit (u8 e 7) 1 = c.overflow ∧ bit (u8 e 7) 2 = c.resultBlock ∧
    bit (u8 e 7) 3 = c.forwarded ∧ u8 e 8 = c.orig ∧ u8 e 9 = c.detail ∧ u16 e 10 = c.sideEffects ∧ u32 e 12 = c.resLen ∧
    u64 e 16 = c.commitTime ∧ e.drop 24 = c.result := by
  obtain ⟨hflags, ephase, eover, eblock, efwd⟩ := flagByte_bits c.phase c.overflow c.resultBlock c.forwarded _ rfl
  unfold cplBytes at he
  generalize b2n c.phase + 2 * b2n c.overflow + 4 * b2n c.resultBlock + 8 * b2n c.forwarded = w at *
  subst he
  refine ⟨by simp [length_leBytes, length_padTo], ?_⟩
  simp only [List.append_assoc, u8_eq_leAt, u16, u32, u64]
  simp (disch := omega) only [leAt_skip, drop_skip, leAt_leBytes_append, Nat.reduceSub]
  simp [ephase, eover, eblock, efwd, padTo_of_length hres]

/-! What ending a command does. -/

/-- What becomes of a completion touches the completions that wait and the argument's place. -/
theorem issue_frame (r : Req) (c : Completion) (s : State) :
    issue r c s = { s with cages := (issue r c s).cages, sys := { s.sys with sram := (issue r c s).sys.sram } } ∧
    (issue r c s).cages = { s.cages with ready := s.cages.ready ++ [c], hostBlock := (issue r c s).cages.hostBlock } := by
  unfold issue
  dsimp only
  split
  · split <;> exact ⟨rfl, rfl⟩
  · exact ⟨rfl, rfl⟩

section
variable (op t : Nat) (r : Req) (a : Reply) (u : State)

theorem ended_frame :
    ended op r t a u = { u with cages := (ended op r t a u).cages, sys := { u.sys with sram := (ended op r t a u).sys.sram } } ∧
    (ended op r t a u).cages.commits = u.cages.commits + 1 ∧ (ended op r t a u).cages.openCmds = u.cages.openCmds ∧
    (ended op r t a u).cages.cage = u.cages.cage ∧ (ended op r t a u).cages.fetched = u.cages.fetched ∧
    (ended op r t a u).cages.ready =
      u.cages.ready ++ [completionOf { r with opcode := op } (u.cages.commits + 1) t a] := by
  obtain ⟨hframe, hcages⟩ := issue_frame { r with opcode := op } (completionOf { r with opcode := op } (u.cages.commits + 1) t a)
    (cacheDone r.client r.tag t (completionOf { r with opcode := op } (u.cages.commits + 1) t a) (nextCommit u))
  refine ⟨hframe, ?_⟩
  unfold ended conclude
  dsimp only
  rw [hcages]
  exact ⟨rfl, rfl, rfl, rfl, rfl⟩

theorem ended_noBlock (h : 3 < r.cage ∨ r.host = true ∨ a.block = none ∨ r.resMax = 0) :
    (ended op r t a u).sys.sram = u.sys.sram := by
  unfold ended conclude issue completionOf
  dsimp only
  split
  · next hblock =>
    simp only [Bool.and_eq_true, decide_eq_true_eq] at hblock
    obtain ⟨hcage, hsome, hmax⟩ := hblock
    have hhost : r.host = true := by
      rcases h with h | h | h | h
      · omega
      · exact h
      · simp [h] at hsome
      · omega
    rw [if_pos hhost]
    rfl
  · rfl

variable {op t r a u} {b : List Byte} (hcage : r.cage ≤ 3) (hblock : a.block = some b) (hmax : 0 < r.resMax)
include hcage hblock hmax

theorem ended_sramBlock (hhost : r.host = false) :
    (ended op r t a u).sys.sram = memWrite u.sys.sram r.argAddr (b.take r.resMax) := by
  unfold ended conclude issue completionOf
  dsimp only
  rw [if_pos ⟨hcage, by simp [hblock, hmax]⟩, if_neg (by simp [hhost]), hblock]
  rfl

theorem ended_hostBlock (hhost : r.host = true) :
    (ended op r t a u).cages.hostBlock = some (r.argAddr, b.take r.resMax) := by
  unfold ended conclude issue completionOf
  dsimp only
  rw [if_pos ⟨hcage, by simp [hblock, hmax]⟩, if_pos hhost, hblock]
  rfl

end

/-- Settles O60: the fields of `reqBytes` and `cplBytes` are read back one by one, and ending a command is `conclude`. -/
theorem completionFormed : Obligations.CompletionFormed := by
  unfold Obligations.CompletionFormed
  refine ⟨⟨?request, ?completion⟩, ?ending⟩
  case request =>
    rintro r e hwf hreach hlen hpeer horigin rfl
    exact reqOfBytes_reqBytes hwf hreach hlen hpeer horigin
  case completion =>
    exact fun c e hop htag hclient hst horig hdetail hside hlen htime hres he =>
      cplBytes_fields hop htag hclient hst horig hdetail hside hlen htime hres he
  case ending =>
    rintro op t r a u v rfl
    obtain ⟨hframe, hcommits, hopen, hcage, hfetched, hready⟩ := ended_frame op t r a u
    refine ⟨hframe, hcommits, hopen, hcage, hfetched, ⟨_, hready, ?_⟩, ended_noBlock op t r a u, ?_, ?_⟩
    · exact ⟨rfl, rfl, rfl, rfl, rfl, rfl, rfl, rfl, rfl, rfl, rfl⟩
    · exact fun b hc hhost hb hm => ended_sramBlock hc hb hm hhost
    · exact fun b hc hhost hb hm => ended_hostBlock hc hb hm hhost

end Sys2Proof.Machine
end

section
/-! Pit addresses, and how a request reaches its channel (12 R253 to R263, R273). -/

namespace Sys2Proof.Machine
open Sys2Proof

/-! Places of an address. -/

theorem logicalRank_lt (a : Nat) : logicalRank a < 60 := by
  unfold logicalRank
  dsimp only
  omega

theorem rankOffset_lt {a : Nat} (h : a < pitBytes) : rankOffset a < 1006632960 := by
  unfold rankOffset
  unfold pitBytes at h
  omega

theorem rankLine_lt {a : Nat} (h : a < pitBytes) : rankOffset a / 64 < rankLines := by
  have := rankOffset_lt h
  unfold rankLines
  omega

theorem checkBlock_lt {a : Nat} (h : a < pitBytes) : checkBlock a < rankBlocks := by
  have := rankLine_lt h
  unfold rankLines at this
  unfold checkBlock rankBlocks
  omega

/-- The stripe of an address follows from its logical rank: of two stripes 30 apart, the second has the odd rank. -/
theorem stripe_of_logicalRank (a : Nat) : logicalRank a / 2 + 30 * (logicalRank a % 2) = a / 256 % 60 := by
  unfold logicalRank
  dsimp only
  omega

theorem lineAddr_of_place (a : Nat) : lineAddr (logicalRank a) (rankOffset a / 64) + a % 64 = a := by
  unfold lineAddr
  rw [stripe_of_logicalRank]
  unfold rankOffset
  omega

theorem addr_eq_of_place {a b : Nat} (hrank : logicalRank a = logicalRank b) (hoff : rankOffset a = rankOffset b) : a = b := by
  have hlow : a % 64 = b % 64 := by
    unfold rankOffset at hoff
    omega
  rw [← lineAddr_of_place a, ← lineAddr_of_place b, hrank, hoff, hlow]

theorem decodePit_bounds (p : Pit) {a : Nat} (h : a < pitBytes) :
    (decodePit p a).col < 2048 ∧ (decodePit p a).bank < 16 ∧ (decodePit p a).row < 32768 ∧
    (decodePit p a).line % 16 < 15 ∧ (decodePit p a).phys = p.rankMap.getD (logicalRank a) 0 := by
  have := rankLine_lt h
  unfold rankLines at this
  unfold decodePit
  dsimp only
  refine ⟨?_, ?_, ?_, ?_, rfl⟩ <;> omega

/-! The regulator. -/

theorem portAt_modPort (n : Nat) (f : PitPort → PitPort) (p : Pit) :
    portAt (modPort n f p) n = if n < p.ports.length then f (portAt p n) else {} := by
  unfold portAt modPort
  rw [getD_upd]
  split
  · next h => rw [if_pos h.2]
  · next h => rw [if_neg (by simpa using h), List.getD_eq_default _ _ (by simpa using h)]

theorem modPort_modPort (n : Nat) (f g : PitPort → PitPort) (p : Pit) :
    modPort n g (modPort n f p) = modPort n (fun x => g (f x)) p := by
  unfold modPort upd
  rw [List.modify_modify_eq]
  rfl

theorem modPort_congr {n : Nat} {f g : PitPort → PitPort} {p : Pit} (h : f (portAt p n) = g (portAt p n)) :
    modPort n f p = modPort n g p := by
  unfold modPort upd
  rw [modify_congr_getD _ _ _ _ _ h]

theorem takeTokens_paid {n : Nat} {q : PitPort} (h : 10 * n ≤ q.tokens) :
    takeTokens n q = { q with tokens := q.tokens - 10 * n } := if_pos h

theorem takeTokens_held {n : Nat} {q : PitPort} (h : q.tokens < 10 * n) (hrate : q.rate ≠ 0) :
    (takeTokens n q).held = sat32 (q.held + cdiv (5 * cdiv (10 * n - q.tokens) q.rate) 8) := by
  have hmax : max 1 q.rate = q.rate := by omega
  rw [takeTokens, if_neg (by omega), hmax]

theorem routePit_quiet {p : Pit} (h : p.mig = none) (a : Nat) : routePit p a = some (p.rankMap.getD (logicalRank a) 0) := by
  rw [routePit, h]

theorem routePit_migrating {p : Pit} {m : Migration} {a : Nat} (hm : p.mig = some m) (hheld : p.held = [])
    (hrank : m.logical = logicalRank a) :
    routePit p a = if checkBlock a < m.m then some m.target else if checkBlock a = m.m then none else some m.source := by
  simp [routePit, hm, hheld, hrank]

theorem enqueuePit_quiet {p : Pit} (h : p.mig = none) (e : PitReq) :
    enqueuePit e p = modChan (p.rankMap.getD (logicalRank e.addr) 0 / 2) (fun x => { x with queue := x.queue ++ [e] }) p := by
  rw [enqueuePit, routePit_quiet h]

theorem arrivePit_read {e : PitReq} (h : e.data = none) (p : Pit) :
    arrivePit e p = enqueuePit { e with resp := { data := (pitGet p e.addr e.len).1, damaged := (pitGet p e.addr e.len).2 } } p := by
  rw [arrivePit, h]

theorem arrivePit_write {e : PitReq} {b : List Byte} (h : e.data = some b) (p : Pit) :
    arrivePit e p = enqueuePit e (pitPut e.addr (padTo e.len b) p) := by
  rw [arrivePit, h]

/-! A request at a port where none waits. -/

section
variable {s : State} {port addr len ns : Nat} {d : Option (List Byte)} {q f : PitPort}
  (hq : q = portAt s.pit port) (hwait : q.waiting = []) (hf : f = { fillBucket ns q with issued := q.issued + 1 })
include hq hwait hf

/-- The port's bucket is filled and the request numbered; nothing that waited is released. -/
theorem releaseWaiting_filled :
    releaseWaiting port (modPort port (fun q => { fillBucket ns q with issued := q.issued + 1 }) s.pit) =
      modPort port (fun _ => f) s.pit := by
  have hnone : (portAt (modPort port (fun q => { fillBucket ns q with issued := q.issued + 1 }) s.pit) port).waiting = [] := by
    rw [portAt_modPort, ← hq]
    split
    · exact hwait
    · rfl
  rw [releaseWaiting, hnone, List.foldl_nil, modPort_modPort]
  refine modPort_congr ?_
  rw [← hq, hf, fillBucket, ← hwait]

/-- What the regulator reads at the port: a port beyond the eight has the bucket of a fresh one, which is full. -/
theorem filled_port (p : Pit) (hp : p = modPort port (fun _ => f) s.pit) :
    (portAt p port).waiting = [] ∧ (portAt p port).rate = q.rate ∧ (portAt p port).tokens = f.tokens := by
  subst hp
  rw [portAt_modPort]
  split
  · exact ⟨by rw [hf]; exact hwait, by rw [hf]; rfl, rfl⟩
  · next hlen =>
    have hfresh : q = {} := by rw [hq]; exact List.getD_eq_default _ _ (by simpa using hlen)
    subst hf
    rw [hfresh]
    exact ⟨rfl, rfl, by simp [fillBucket]⟩

end

section
variable {s : State} {port addr len ns : Nat} {d : Option (List Byte)} {q f : PitPort} (hrun : s.pit.state = .run)
  (hport : port < 8) (hq : q = portAt s.pit port) (hwait : q.waiting = [])
  (hf : f = { fillBucket ns q with issued := q.issued + 1 })
include hrun hport hq hwait hf

theorem exec_pitRequest : exec (.pitRequest port addr len d ns) s = .next { s with
    pit := if addressOk addr len then
        meetRegulator { port := port, id := q.issued, addr := addr, len := len, data := d } (modPort port (fun _ => f) s.pit)
      else pitCause [5] (modPort port (respond q.issued { addrErr := true }) (modPort port (fun _ => f) s.pit)) } := by
  refine congrArg Host.Outcome.next ((if_neg (by simp [hrun]; omega)).trans ?_)
  rw [← releaseWaiting_filled hq hwait hf, hq]
  rfl

theorem exec_pitRequest_refused (hbad : addressOk addr len = false) :
    exec (.pitRequest port addr len d ns) s = .next { s with pit := { s.pit with
      cause := setBits s.pit.cause [5]
      ports := upd s.pit.ports port (fun _ => respond q.issued { addrErr := true } f) } } := by
  rw [exec_pitRequest hrun hport hq hwait hf, if_neg (by simp [hbad]), modPort_modPort]
  rfl

theorem exec_pitRequest_held (hok : addressOk addr len = true) (hshort : f.tokens < 10 * len) (hrate : q.rate = 0) :
    exec (.pitRequest port addr len d ns) s = .next { s with pit := { s.pit with
      ports := upd s.pit.ports port (fun _ => { f with
        waiting := [{ port := port, id := q.issued, addr := addr, len := len, data := d }] }) } } := by
  obtain ⟨-, erate, etokens⟩ := filled_port hq hwait hf _ rfl
  have hfwait : f.waiting = [] := by rw [hf]; exact hwait
  rw [exec_pitRequest hrun hport hq hwait hf, if_pos hok, meetRegulator]
  dsimp only
  rw [if_pos (by simp [erate, etokens, hrate, hshort]), modPort_modPort, hfwait]
  rfl

theorem exec_pitRequest_passed (hok : addressOk addr len = true) (hpaid : 10 * len ≤ f.tokens ∨ q.rate ≠ 0) :
    exec (.pitRequest port addr len d ns) s = .next { s with
      pit := arrivePit { port := port, id := q.issued, addr := addr, len := len, data := d }
        (modPort port (fun _ => takeTokens len f) s.pit) } := by
  obtain ⟨ewait, erate, etokens⟩ := filled_port hq hwait hf _ rfl
  have hgo : ¬ (q.rate = 0 ∧ f.tokens < 10 * len) := by
    rintro ⟨hr, ht⟩
    rcases hpaid with h | h
    · omega
    · exact h hr
  rw [exec_pitRequest hrun hport hq hwait hf, if_pos hok, meetRegulator]
  dsimp only
  rw [if_neg (by simpa [ewait, erate, etokens] using hgo), modPort_modPort]

end

/-- Settles O36: places by arithmetic, requests by the regulator's laws. -/
theorem pitAddresses : Obligations.PitAddresses := by
  unfold Obligations.PitAddresses
  refine ⟨fun a ha => ⟨logicalRank_lt a, rankOffset_lt ha, rankLine_lt ha, checkBlock_lt ha, lineAddr_of_place a⟩,
    fun a b _ _ hrank hoff => addr_eq_of_place hrank hoff, fun p a ha => decodePit_bounds p ha, ?_⟩
  intro s port addr len ns d q f hrun hport hq hwait hf
  refine ⟨by rw [hf]; rfl, exec_pitRequest_refused hrun hport hq hwait hf, ?passed,
    exec_pitRequest_held hrun hport hq hwait hf, takeTokens_paid, ?held, fun m => routePit_migrating⟩
  case passed =>
    intro hok hpaid hquiet
    have hexec := fun d => exec_pitRequest_passed (d := d) hrun hport hq hwait hf hok hpaid
    refine ⟨?_, ?_⟩
    · rintro rfl
      rw [hexec, arrivePit_read rfl, enqueuePit_quiet (by exact hquiet)]
      rfl
    · rintro b rfl
      rw [hexec, arrivePit_write (b := b) rfl, enqueuePit_quiet (by exact hquiet)]
      rfl
  case held =>
    intro hshort hrate
    have hfrate : f.rate = q.rate := by rw [hf]; rfl
    have hfheld : f.held = q.held := by rw [hf]; rfl
    rw [takeTokens_held hshort (by rw [hfrate]; exact hrate), hfrate, hfheld]

end Sys2Proof.Machine
end

section
/-! Pit memory serves a request (12 R257 to R262, Table 12.2). -/

namespace Sys2Proof.Machine
open Sys2Proof

/-! The TAG's parity. -/

theorem length_bitsSet_succ (n v : Nat) : (bitsSet (n + 1) v).length = (bitsSet n v).length + b2n (bit v n) := by
  unfold bitsSet upTo
  rw [List.range_succ, List.filter_append, List.length_append]
  cases h : bit v n <;> simp [h, b2n]

theorem bitsSet_congr {n v w : Nat} (h : ∀ i, i < n → bit v i = bit w i) : bitsSet n v = bitsSet n w :=
  List.filter_congr fun i hi => h i (List.mem_range.mp hi)

/-- One wrong bit among the first `n` turns their parity round. -/
theorem parity_flip {n k : Nat} (v : Nat) (hk : k < n) :
    (bitsSet n (v ^^^ 2 ^ k)).length % 2 ≠ (bitsSet n v).length % 2 := by
  induction n with
  | zero => omega
  | succ n ih =>
    rw [length_bitsSet_succ, length_bitsSet_succ]
    by_cases hkn : k = n
    · subst hkn
      have hlow : bitsSet k (v ^^^ 2 ^ k) = bitsSet k v := bitsSet_congr fun i hi => by
        simp [bit, Nat.testBit_xor, Nat.testBit_two_pow_of_ne (show k ≠ i by omega)]
      have htop : bit (v ^^^ 2 ^ k) k = !bit v k := by simp [bit, Nat.testBit_xor]
      rw [hlow, htop]
      cases bit v k <;> simp [b2n] <;> omega
    · have htop : bit (v ^^^ 2 ^ k) n = bit v n := by
        simp [bit, Nat.testBit_xor, Nat.testBit_two_pow_of_ne hkn]
      have hlow := ih (by omega)
      rw [htop]
      omega

theorem parity_tagOf (blk phys : Nat) : (bitsSet 32 (tagOf blk phys)).length % 2 = 0 := by
  unfold tagOf
  dsimp only
  generalize hw : blk % 2 ^ 20 + 2 ^ 20 * (phys % 64) = w
  have hlt : w < 2 ^ 31 := by omega
  generalize hb : (bitsSet 31 w).length % 2 = b
  have hb2 : b < 2 := by omega
  have hlow : bitsSet 31 (w + 2 ^ 31 * b) = bitsSet 31 w := bitsSet_congr fun i hi => by
    rw [bit, Nat.add_comm, Nat.testBit_two_pow_mul_add _ hlt, if_pos hi, bit]
  have htop : bit (w + 2 ^ 31 * b) 31 = decide (b = 1) := by
    rw [bit, Nat.add_comm, Nat.testBit_two_pow_mul_add _ hlt, if_neg (by omega)]
    have : b = 0 ∨ b = 1 := by omega
    rcases this with rfl | rfl <;> rfl
  rw [length_bitsSet_succ, hlow, htop]
  have : b = 0 ∨ b = 1 := by omega
  rcases this with rfl | rfl <;> simp [b2n] <;> omega

theorem tagOutcome_clean {f : PitFault} (h : f.tag = 0) (blk phys : Nat) : tagOutcome f (tagOf blk phys) = [] := by
  simp [tagOutcome, h, parity_tagOf]

theorem tagOutcome_oneBit {f : PitFault} {k : Nat} (h : f.tag = 2 ^ k) (hk : k < 32) (blk phys : Nat) :
    tagOutcome f (tagOf blk phys) = [.tagFix] := by
  have hmod : 2 ^ k % 2 ^ 32 = 2 ^ k := Nat.mod_eq_of_lt (Nat.pow_lt_pow_right (by decide) hk)
  have hflip := parity_flip (tagOf blk phys) hk
  rw [parity_tagOf] at hflip
  unfold tagOutcome
  dsimp only
  rw [h, hmod, if_pos hflip]

/-! The outcome of each single fault (Table 12.2). -/

section
variable (p : Pit) (a : Nat)

theorem outcomesOf_bytes {k : Nat} (hk : k ≤ 1) :
    outcomesOf { bytes := k } (tagAt p a) = if k = 0 then [] else [.corrected] := by
  have hcases : k = 0 ∨ k = 1 := by omega
  rcases hcases with rfl | rfl <;> simp [outcomesOf, linkOutcome, dataOutcome, tagAt, tagOutcome_clean]

theorem outcomesOf_uncorrectable {k n : Nat} (hn : 2 ≤ n) :
    outcomesOf { line := k, bytes := n } (tagAt p a) = [.uncorrectable k] := by
  have h0 : n ≠ 0 := by omega
  have h1 : n ≠ 1 := by omega
  simp [outcomesOf, linkOutcome, dataOutcome, tagAt, tagOutcome_clean, h0, h1]

theorem outcomesOf_place : outcomesOf { place := true } (tagAt p a) = [.command 0] := by
  simp [outcomesOf, linkOutcome, dataOutcome, tagAt, tagOutcome_clean]

theorem outcomesOf_tagBit {k : Nat} (hk : k < 32) : outcomesOf { tag := 2 ^ k } (tagAt p a) = [.tagFix] := by
  simp [outcomesOf, linkOutcome, dataOutcome, tagAt, tagOutcome_oneBit _ hk]

theorem outcomesOf_retried {n : Nat} (h1 : 1 ≤ n) (h2 : n ≤ 2) : outcomesOf { tries := n } (tagAt p a) = [.linkRetried] := by
  have hlt : ¬ 3 ≤ n := by omega
  have hpos : 0 < n := h1
  simp [outcomesOf, linkOutcome, dataOutcome, tagAt, tagOutcome_clean, hlt, hpos]

theorem outcomesOf_linkFailed {k n : Nat} (hn : 3 ≤ n) :
    outcomesOf { line := k, tries := n } (tagAt p a) = [.linkFailed k] := by
  simp [outcomesOf, linkOutcome, hn]

end

/-! What an outcome marks. -/

theorem mem_insertLine (l n : Nat) (d : List Nat) : l ∈ insertLine n d ↔ l = n ∨ l ∈ d := by
  induction d with
  | nil => simp [insertLine]
  | cons m r ih =>
    rw [insertLine]
    split
    · simp
    · split
      · next h => simp [h]
      · simp only [List.mem_cons, ih]
        tauto

theorem mem_damageLines (l : Nat) (ls : List Nat) (p : Pit) : l ∈ (damageLines ls p).damaged ↔ l ∈ ls ∨ l ∈ p.damaged := by
  have hfold : ∀ d : List Nat, l ∈ ls.foldl (fun d n => insertLine n d) d ↔ l ∈ ls ∨ l ∈ d := by
    induction ls with
    | nil => simp
    | cons n ls ih =>
      intro d
      rw [List.foldl_cons, ih, mem_insertLine, List.mem_cons]
      tauto
  exact hfold p.damaged

/-- A rank's failure is decided by the queue and by the rank's state alone, and changes the queue alone. -/
theorem failRank_queue_congr (r : Nat) {p p' : Pit} (hq : p'.queue = p.queue) (hs : p'.rankState = p.rankState) :
    (failRank r p').queue = (failRank r p).queue := by
  unfold failRank rankSt
  rw [hq, hs]
  split
  · exact hq
  · split
    · rfl
    · rfl
    · exact hq

theorem failRank_frame (r : Nat) (p : Pit) : failRank r p = { p with queue := (failRank r p).queue } := by
  unfold failRank
  split
  · rfl
  · split <;> rfl

theorem failRank_damaged (r : Nat) (p : Pit) : (failRank r p).damaged = p.damaged := by
  rw [failRank_frame]

theorem markOutcome_frame (o : PitOutcome) (write : Bool) (a : Nat) (p : Pit) :
    markOutcome o write a p =
      { p with queue := (markOutcome o write a p).queue, damaged := (markOutcome o write a p).damaged } := by
  unfold markOutcome
  split
  · exact (failRank_frame _ _).trans (by rw [failRank_damaged]; rfl)
  · exact (failRank_frame _ _).trans (by rw [failRank_damaged]; rfl)
  · refine (failRank_frame _ _).trans ?_
    rw [failRank_damaged]
    split <;> rfl
  · rfl

theorem damaged_markOutcome (o : PitOutcome) (write : Bool) (a : Nat) {p : Pit} {l : Nat} (h : l ∈ p.damaged) :
    l ∈ (markOutcome o write a p).damaged := by
  unfold markOutcome
  split
  · rw [failRank_damaged, mem_damageLines]; exact .inr h
  · rw [failRank_damaged, mem_damageLines]; exact .inr h
  · rw [failRank_damaged]
    split
    · rw [mem_damageLines]; exact .inr h
    · exact h
  · exact h

/-! The service of a channel's oldest request. -/

/-- The marks that the outcomes of a request leave. -/
def marked (os : List PitOutcome) (q : PitReq) (p : Pit) : Pit :=
  os.foldl (fun p o => markOutcome o q.data.isSome q.addr p) p

/-- Whether byte `i` of a request lies in a damaged line. -/
def spoiledByte (os : List PitOutcome) (q : PitReq) (p : Pit) (i : Nat) : Bool :=
  (os.flatMap (fun o => spoiled o q.addr) ++ p.damaged).contains ((q.addr + i) / 64)

/-- The response to a request: a write has none of its own; a read's damaged lines are zero and flagged. -/
def replyTo (os : List PitOutcome) (q : PitReq) (p : Pit) : PitResp :=
  if q.data.isSome then {}
  else { data := q.resp.data.zipIdx.map (fun b => if spoiledByte os q p b.2 then 0 else b.1)
         damaged := q.resp.damaged || (upTo q.len).any (spoiledByte os q p) }

theorem marked_frame (os : List PitOutcome) (q : PitReq) (p : Pit) :
    ∃ k d, marked os q p = { p with queue := k, damaged := d } := by
  induction os generalizing p with
  | nil => exact ⟨_, _, rfl⟩
  | cons o os ih =>
    obtain ⟨k, d, e⟩ := ih (markOutcome o q.data.isSome q.addr p)
    rw [markOutcome_frame] at e
    exact ⟨k, d, by rw [marked, List.foldl_cons, markOutcome_frame]; exact e⟩

theorem damaged_marked (os : List PitOutcome) (q : PitReq) {p : Pit} {l : Nat} (h : l ∈ p.damaged) :
    l ∈ (marked os q p).damaged := by
  induction os generalizing p with
  | nil => exact h
  | cons o os ih => exact ih (damaged_markOutcome o _ _ h)

/-- What a mark adds depends on no channel. -/
theorem markOutcome_modChan (o : PitOutcome) (write : Bool) (a c : Nat) (f : PitChan → PitChan) (p : Pit) :
    (markOutcome o write a (modChan c f p)).damaged = (markOutcome o write a p).damaged ∧
    (markOutcome o write a (modChan c f p)).queue = (markOutcome o write a p).queue := by
  unfold markOutcome
  split
  · exact ⟨by rw [failRank_damaged, failRank_damaged]; rfl, failRank_queue_congr _ rfl rfl⟩
  · exact ⟨by rw [failRank_damaged, failRank_damaged]; rfl, failRank_queue_congr _ rfl rfl⟩
  · refine ⟨by rw [failRank_damaged, failRank_damaged]; split <;> rfl, failRank_queue_congr _ ?_ ?_⟩ <;> split <;> rfl
  · exact ⟨rfl, rfl⟩

theorem queue_countOutcome (o : PitOutcome) (x : PitChan) : (countOutcome o x).queue = x.queue := by
  cases o <;> rfl

theorem queue_countOutcomes (os : List PitOutcome) (x : PitChan) :
    (os.foldl (fun x o => countOutcome o x) x).queue = x.queue := by
  induction os generalizing x with
  | nil => rfl
  | cons o os ih => exact (ih _).trans (queue_countOutcome o x)

/-- A response in its turn is delivered at once. -/
theorem respond_next {id : Nat} {x : PitResp} {y : PitPort} (hearly : y.early = []) (hid : y.answered = id) :
    respond id x y = { y with answered := id + 1, resps := [x] } := by
  simp [respond, deliverResps, hearly, hid]

theorem chanAt_modChan {c : Nat} {p : Pit} (f : PitChan → PitChan) (h : c < p.chans.length) :
    chanAt (modChan c f p) c = f (chanAt p c) := by
  unfold chanAt modChan
  rw [getD_upd, if_pos ⟨rfl, h⟩]

/-- The state after the service of request `q`, whose outcomes are `os`; `rest` waits behind it. -/
def afterService (c ns : Nat) (q : PitReq) (rest : List PitReq) (os : List PitOutcome) (s : State) : State :=
  modPit (fun p => modPort q.port (fun y => respond q.id (replyTo os q p) { y with
      bytes := sat64 (y.bytes + q.len), lat := max y.lat (sat16 ns) })
    (marked os q (modChan c (fun x => os.foldl (fun x o => countOutcome o x) { x with queue := rest }) p))) s

theorem exec_pitRequestServed {s : State} {c ns : Nat} {q : PitReq} {rest : List PitReq} (f : PitFault)
    (hrun : s.pit.state = .run) (hqueue : (chanAt s.pit c).queue = q :: rest) :
    exec (.pitRequestServed c f ns) s = .next (afterService c ns q rest (outcomesOf f (tagAt s.pit q.addr)) s) := by
  refine congrArg Host.Outcome.next ?_
  rw [hqueue]
  exact if_neg (by simp [hrun])

theorem exec_pitRequestServed_idle {s : State} {c ns : Nat} (f : PitFault)
    (h : s.pit.state ≠ .run ∨ (chanAt s.pit c).queue = []) : exec (.pitRequestServed c f ns) s = .next s := by
  refine congrArg Host.Outcome.next ?_
  split
  · rfl
  · next hqueue => exact if_pos (h.resolve_right (by simp [hqueue]))

section
variable {s t : State} {c ns : Nat} {q : PitReq} {rest : List PitReq} (os : List PitOutcome)
  (ht : t = afterService c ns q rest os s)
include ht

theorem afterService_pit :
    t = { s with pit := t.pit } ∧ t.pit.mem = s.pit.mem ∧ (∀ l ∈ s.pit.damaged, l ∈ t.pit.damaged) := by
  subst ht
  refine ⟨rfl, foldl_pitMem (fun p o => markOutcome_mem o _ _ p) _ _, fun l hl => ?_⟩
  exact damaged_marked os q hl

theorem afterService_port (hport : q.port < s.pit.ports.length) {y : PitPort} (hy : y = portAt s.pit q.port)
    (hearly : y.early = []) (hid : y.answered = q.id) :
    (portAt t.pit q.port).resps = [replyTo os q s.pit] ∧ (portAt t.pit q.port).answered = q.id + 1 ∧
    (portAt t.pit q.port).bytes = sat64 (y.bytes + q.len) := by
  subst ht hy
  obtain ⟨k, d, e⟩ := marked_frame os q
    (modChan c (fun x => os.foldl (fun x o => countOutcome o x) { x with queue := rest }) s.pit)
  unfold afterService modPit
  dsimp only
  rw [portAt_modPort, e, if_pos (by exact hport)]
  rw [respond_next (by exact hearly) (by exact hid)]
  exact ⟨rfl, rfl, rfl⟩

theorem afterService_chan (hchan : c < s.pit.chans.length) :
    chanAt t.pit c = os.foldl (fun x o => countOutcome o x) { chanAt s.pit c with queue := rest } := by
  subst ht
  obtain ⟨k, d, e⟩ := marked_frame os q
    (modChan c (fun x => os.foldl (fun x o => countOutcome o x) { x with queue := rest }) s.pit)
  unfold afterService modPit
  dsimp only
  rw [e]
  exact chanAt_modChan _ hchan

theorem afterService_one {o : PitOutcome} (hone : os = [o]) :
    t.pit.damaged = (markOutcome o q.data.isSome q.addr s.pit).damaged ∧
    t.pit.queue = (markOutcome o q.data.isSome q.addr s.pit).queue := by
  subst ht hone
  exact markOutcome_modChan _ _ _ _ _ _

end

/-- A read of a line that an outcome spoils is flagged. -/
theorem replyTo_damaged {os : List PitOutcome} {q : PitReq} {p : Pit} {i : Nat} (hread : q.data = none) (hi : i < q.len)
    (hbyte : spoiledByte os q p i = true) : (replyTo os q p).damaged = true := by
  rw [replyTo, if_neg (by simp [hread])]
  have hany : (upTo q.len).any (spoiledByte os q p) = true :=
    List.any_eq_true.mpr ⟨i, List.mem_range.mpr hi, hbyte⟩
  simp [hany]

theorem checkWord_damaged (phys line : Nat) (data : List Byte) :
    checkWord phys line data true = checkWord phys line data false ^^^ 0x5A5AA5A5 := by
  simp [checkWord]

/-- Settles O37: each single fault has one outcome (Table 12.2), and the service counts, marks and answers by it. -/
theorem pitService : Obligations.PitService := by
  unfold Obligations.PitService
  refine ⟨?_, fun s c ns f h => exec_pitRequestServed_idle f h, checkWord_damaged⟩
  intro s c ns q rest y f hrun hqueue hchan hport hy hearly hid
  generalize hos : outcomesOf f (tagAt s.pit q.addr) = os
  generalize ht : afterService c ns q rest os s = t
  obtain ⟨hframe, hmem, hdamaged⟩ := afterService_pit os ht.symm
  obtain ⟨hresps, hanswered, hbytes⟩ := afterService_port os ht.symm hport hy hearly hid
  have hchanT := afterService_chan os ht.symm hchan
  have hone := fun o => afterService_one (o := o) os ht.symm
  refine ⟨t, replyTo os q s.pit, ?_, hframe, hmem, hresps, hanswered, hbytes, ?_, hdamaged, fun h => if_pos h, ?few, ?one,
    ?uncorrectable, ?place, ?tag, ?retried, ?linkFailed⟩
  · rw [exec_pitRequestServed f hrun hqueue, hos, ht]
  · rw [hchanT, queue_countOutcomes]
  case few =>
    rintro k rfl hk
    rw [outcomesOf_bytes _ _ hk] at hos
    have hclean : t.pit.damaged = s.pit.damaged ∧ os.flatMap (fun o => spoiled o q.addr) = [] := by
      split at hos
      · subst hos ht
        exact ⟨rfl, rfl⟩
      · exact ⟨(hone _ hos.symm).1, by subst hos; rfl⟩
    refine ⟨hclean.1, fun hread => ?_⟩
    rw [replyTo, if_neg (by simp [hread])]
    unfold spoiledByte
    rw [hclean.2]
    rfl
  case one =>
    rintro rfl
    rw [outcomesOf_bytes _ _ (by decide)] at hos
    rw [hchanT, ← hos]
    exact ⟨rfl, bit_setBits_self _ 0⟩
  case uncorrectable =>
    rintro k n rfl hn
    rw [outcomesOf_uncorrectable _ _ hn] at hos
    obtain ⟨hd, hq⟩ := hone _ hos.symm
    refine ⟨?_, ?_, ?_, ?_, fun hread hk hline => ?_⟩
    · rw [hd, markOutcome, failRank_damaged, mem_damageLines]
      exact .inl (List.mem_singleton.mpr rfl)
    · rw [hchanT, ← hos]
      rfl
    · rw [hchanT, ← hos]
      exact bit_setBits_self _ 2
    · rw [hq, markOutcome]
      exact failRank_queue_congr _ rfl rfl
    · refine replyTo_damaged hread hk ?_
      have hsame : (q.addr + 64 * k) / 64 = q.addr / 64 + k := by omega
      simp [spoiledByte, ← hos, spoiled, hsame]
  case place =>
    rintro rfl
    rw [outcomesOf_place] at hos
    refine ⟨fun l hl => ?_, ?_, ?_⟩
    · rw [(hone _ hos.symm).1, markOutcome, failRank_damaged, mem_damageLines]
      exact .inl hl
    · rw [hchanT, ← hos]
      rfl
    · rw [hchanT, ← hos]
      exact bit_setBits_self _ 4
  case tag =>
    rintro k rfl hk
    rw [outcomesOf_tagBit _ _ hk] at hos
    rw [hchanT, ← hos]
    exact ⟨(hone _ hos.symm).1, rfl, bit_setBits_self _ 5⟩
  case retried =>
    rintro n rfl h1 h2
    rw [outcomesOf_retried _ _ h1 h2] at hos
    rw [hchanT, ← hos]
    exact ⟨(hone _ hos.symm).1, rfl, bit_setBits_self _ 1⟩
  case linkFailed =>
    rintro k n rfl hn
    rw [outcomesOf_linkFailed _ _ hn] at hos
    rw [hchanT, ← hos, (hone _ hos.symm).1, markOutcome, failRank_damaged]
    refine ⟨bit_setBits_self _ 3, rfl, fun hwrite => ?_, fun hread => ?_⟩
    · rw [if_pos hwrite, mem_damageLines]
      exact .inl (List.mem_singleton.mpr rfl)
    · rw [if_neg (by simp [hread])]

end Sys2Proof.Machine
end

section
/-! What the Bell's and the cages' bookkeeping leaves alone (15 R346, 16 R393), and what a reset clears and keeps (14 R331). -/

namespace Sys2Proof.Machine
open Sys2Proof

/-! Asking for a vector touches the cages alone, and none of their commands. -/

theorem askVector_frame (v : Nat) (s : State) :
    ∃ c, askVector v s = { s with cages := c } ∧ c.openCmds = s.cages.openCmds ∧ c.fetched = s.cages.fetched := by
  unfold askVector
  split
  · exact ⟨_, rfl, rfl, rfl⟩
  · exact ⟨_, rfl, rfl, rfl⟩

theorem foldl_askVector_frame (l : List Nat) (s : State) :
    ∃ c, l.foldl (fun s t => askVector (t - 2) s) s = { s with cages := c } ∧ c.openCmds = s.cages.openCmds ∧
      c.fetched = s.cages.fetched := by
  induction l generalizing s with
  | nil => exact ⟨_, rfl, rfl, rfl⟩
  | cons t l ih =>
    obtain ⟨c, e, ho, hf⟩ := askVector_frame (t - 2) s
    obtain ⟨c', e', ho', hf'⟩ := ih { s with cages := c }
    exact ⟨c', by rw [List.foldl_cons, e, e'], ho'.trans ho, hf'.trans hf⟩

theorem askVectors_frame (s : State) :
    ∃ k c, askVectors s = { s with bell := { s.bell with asked := k }, cages := c } ∧ c.openCmds = s.cages.openCmds ∧
      c.fetched = s.cages.fetched := by
  obtain ⟨c, e, ho, hf⟩ := foldl_askVector_frame
    (((upTo 34).filter (fun t => !(deliverable s.bell t).isEmpty)).filter (fun t => decide (2 ≤ t) && !bit s.bell.asked t))
    (modBell (fun b => { b with asked := maskOf ((upTo 34).filter (fun t => !(deliverable s.bell t).isEmpty)) }) s)
  exact ⟨_, c, e, ho, hf⟩

/-- Reading the lines touches the Bell's pending bits, line image and asked targets, and the cages. -/
theorem bellSync_frame (s : State) :
    ∃ k c, bellSync s = { s with
        bell := { s.bell with
          pend := s.bell.pend ||| (sourceLines s &&& (sourceLines s ^^^ (sourceLines s &&& s.bell.lines)))
          lines := sourceLines s, asked := k }
        cages := c } ∧ c.openCmds = s.cages.openCmds ∧ c.fetched = s.cages.fetched := by
  obtain ⟨k, c, e, ho, hf⟩ := askVectors_frame (modBell (fun b => { b with
    pend := b.pend ||| (sourceLines s &&& (sourceLines s ^^^ (sourceLines s &&& b.lines))), lines := sourceLines s }) s)
  exact ⟨k, c, e, ho, hf⟩

/-! Resets. -/

theorem resetReq_accepted {s : State} {agent v : Nat} (hheld : s.shift.held = .none) (hkey : v % 256 = 0xA5)
    (hagent : agent = 0 ∨ s.shift.onShift ≠ 3) : resetReq agent v s = hardReset 3 s := by
  rcases hagent with h | h <;> simp [resetReq, released, hheld, hkey, h]

theorem resetReq_ignored {s : State} {agent v : Nat} (h : v % 256 ≠ 0xA5 ∨ (agent ≠ 0 ∧ s.shift.onShift = 3)) :
    resetReq agent v s = s := by
  rcases h with h | ⟨h, hdown⟩
  · simp [resetReq, h]
  · simp [resetReq, h, hdown]

/-- A hard reset, but for the Bell and the cages, which the lines' image then completes. -/
theorem hardReset_frame (cause : Nat) (s : State) :
    ∃ b b' g g', hardReset cause s = { s with
      lanes := { records := s.lanes.records }, seam := { session := s.seam.session }, hop := {}, aba := {}, tal := {}
      beams := {}, assay := {}, ayr := List.replicate 4 {}
      trig := {}, hst := { seq := s.hst.seq, lastSent := s.hst.lastSent, unsent := s.hst.unsent }
      pit := hardPit s.pit, cages := g, bell := b
      wnd := { hostOut := s.wnd.hostOut }, pwr := hardPwr { s with bell := b', cages := g' }
      shift := hardShift cause { s with bell := b', cages := g' }, con := {}
      bun := { slots := s.bun.slots }
      sys := { sec := s.sys.sec, ns := s.sys.ns, faultMask := s.sys.faultMask, frameMap := s.sys.frameMap } } ∧
      g.openCmds = [] ∧ g.fetched = [] := by
  obtain ⟨k, c, e, -⟩ := bellSync_frame s
  unfold hardReset
  rw [e]
  dsimp only
  generalize hs : modBell _ _ = u
  obtain ⟨k', c', e', ho, hf⟩ := bellSync_frame u
  rw [e']
  subst hs
  exact ⟨_, _, c', _, rfl, ho, hf⟩

/-- Settles O43: what a reset writes, field by field, through `hardReset_frame`. -/
theorem resets : Obligations.Resets := by
  unfold Obligations.Resets
  intro s v cause agent
  obtain ⟨b, b', g, g', e, hopen, hfetched⟩ := hardReset_frame cause s
  refine ⟨fun hheld hvio => ?hrst, fun hheld => ?held, rfl, fun hheld hkey hreach hagent => ?accepted, agentReaches_host s,
    fun h => ?ignored, rfl, ?cleared, ?kept, ?cold⟩
  case hrst => exact congrArg Host.Outcome.next (if_pos (by simp [released, hheld, hvio]))
  case held => exact congrArg Host.Outcome.next (if_neg (by simp [released, hheld]))
  case accepted =>
    exact congrArg Host.Outcome.next ((if_pos hreach).trans (resetReq_accepted hheld hkey hagent))
  case ignored =>
    refine congrArg Host.Outcome.next ?_
    by_cases hreach : agentReaches s agent = true
    · rw [if_pos hreach]
      exact resetReq_ignored (by simpa [hreach] using h)
    · rw [if_neg hreach]
  case cleared =>
    rw [e]
    exact ⟨rfl, rfl, rfl, rfl, rfl, rfl, rfl, rfl, rfl, rfl, rfl, rfl, rfl, rfl, hopen, hfetched⟩
  case kept =>
    rw [e]
    exact ⟨rfl, rfl, rfl, rfl, rfl, rfl, rfl, rfl, rfl, rfl, rfl, rfl, rfl, rfl, rfl, rfl⟩
  case cold => exact ⟨rfl, rfl, rfl, rfl, rfl, rfl, rfl, rfl, rfl, rfl, rfl⟩

end Sys2Proof.Machine
end

section
/-! The Bell: what becomes pending, what a claim answers, and the preferred source (15 R344 to R355). -/

namespace Sys2Proof.Machine
open Sys2Proof

/-! Bits of the pending words. -/

theorem bit_or (a b i : Nat) : bit (a ||| b) i = (bit a i || bit b i) := Nat.testBit_or a b i
theorem bit_and (a b i : Nat) : bit (a &&& b) i = (bit a i && bit b i) := Nat.testBit_and a b i
theorem bit_xor (a b i : Nat) : bit (a ^^^ b) i = (bit a i ^^ bit b i) := Nat.testBit_xor a b i

theorem bit_two_pow (n i : Nat) : bit (2 ^ n) i = decide (i = n) := by
  rw [bit, Nat.testBit_two_pow, decide_eq_decide]
  exact eq_comm

theorem bit_w1c (c m i : Nat) : bit (w1c c m) i = (bit c i && !bit m i) := by
  rw [w1c, bit_xor, bit_and]
  cases bit c i <;> cases bit m i <;> rfl

/-- Word `w` of a source register, as bits of the whole. -/
theorem bit_word (v w i : Nat) : bit ((v % 2 ^ 32) <<< (32 * w)) i = (decide (i / 32 = w) && bit v (i % 32)) := by
  rw [bit, Nat.testBit_shiftLeft, Nat.testBit_mod_two_pow]
  by_cases h : i / 32 = w
  · have hge : 32 * w ≤ i := by omega
    have hlt : i - 32 * w < 32 := by omega
    have hmod : i - 32 * w = i % 32 := by omega
    simp [h, hge, hmod, bit, Nat.mod_lt]
  · have hout : ¬ (32 * w ≤ i ∧ i - 32 * w < 32) := by omega
    by_cases hge : 32 * w ≤ i
    · have hlt : ¬ i - 32 * w < 32 := fun hlt => hout ⟨hge, hlt⟩
      simp [h, hlt]
    · simp [h, hge]

/-! The lines' image. -/

section
variable (s : State)

theorem bellSync_bell : ∃ k, (bellSync s).bell = { s.bell with
    pend := s.bell.pend ||| (sourceLines s &&& (sourceLines s ^^^ (sourceLines s &&& s.bell.lines)))
    lines := sourceLines s, asked := k } := by
  obtain ⟨k, c, e, -⟩ := bellSync_frame s
  exact ⟨k, by rw [e]⟩

theorem bellSync_rest : bellSync s = { s with bell := (bellSync s).bell, cages := (bellSync s).cages } := by
  obtain ⟨k, c, e, -⟩ := bellSync_frame s
  rw [e]

theorem bit_pend_bellSync (i : Nat) :
    bit (bellSync s).bell.pend i = (bit s.bell.pend i || (bit (sourceLines s) i && !bit s.bell.lines i)) := by
  obtain ⟨k, e⟩ := bellSync_bell s
  rw [e]
  simp only [bit_or, bit_and, bit_xor]
  cases bit s.bell.pend i <;> cases bit (sourceLines s) i <;> cases bit s.bell.lines i <;> rfl

@[simp] theorem bellSync_lines : (bellSync s).bell.lines = sourceLines s := by
  obtain ⟨k, e⟩ := bellSync_bell s
  rw [e]

@[simp] theorem bellSync_active : (bellSync s).bell.active = s.bell.active := by
  obtain ⟨k, e⟩ := bellSync_bell s
  rw [e]

@[simp] theorem bellSync_en : (bellSync s).bell.en = s.bell.en := by
  obtain ⟨k, e⟩ := bellSync_bell s
  rw [e]

@[simp] theorem bellSync_claimMode : (bellSync s).bell.claimMode = s.bell.claimMode := by
  obtain ⟨k, e⟩ := bellSync_bell s
  rw [e]

/-- A change of the Bell after which vectors are asked for keeps everything but the Bell and the cages. -/
theorem askVectors_modBell (f : Bell → Bell) :
    askVectors (modBell f (bellSync s)) = { s with
      bell := (askVectors (modBell f (bellSync s))).bell, cages := (askVectors (modBell f (bellSync s))).cages } ∧
    ∃ k, (askVectors (modBell f (bellSync s))).bell = { f (bellSync s).bell with asked := k } := by
  obtain ⟨k, c, e, -⟩ := askVectors_frame (modBell f (bellSync s))
  refine ⟨?_, k, by rw [e]; rfl⟩
  rw [e, bellSync_rest]
  rfl

end

/-! Deliverable sources, and the preferred one (R348, R349). -/

theorem lt_runningTier_iff (b : Bell) (t x : Nat) :
    (match runningTier b t with | some r => decide (x < r) | none => true) = true ↔
      ∀ m ∈ b.active.getD t [], x < tierOf b (prioOf b m) := by
  unfold runningTier
  cases h : ((b.active.getD t []).map (fun n => tierOf b (prioOf b n))).min? with
  | none =>
    rw [List.min?_eq_none_iff, List.map_eq_nil_iff] at h
    rw [h]
    exact ⟨fun _ m hm => absurd hm List.not_mem_nil, fun _ => rfl⟩
  | some r =>
    rw [List.min?_eq_some_iff] at h
    obtain ⟨hmem, hmin⟩ := h
    obtain ⟨m, hm, rfl⟩ := List.mem_map.mp hmem
    simp only [decide_eq_true_eq]
    exact ⟨fun hlt k hk => Nat.lt_of_lt_of_le hlt (hmin _ (List.mem_map_of_mem hk)), fun hall => hall m hm⟩

theorem mem_bitsSet (n v k : Nat) : k ∈ bitsSet n v ↔ k < n ∧ bit v k = true := by
  simp [bitsSet, upTo]

theorem mem_deliverable (b : Bell) (t n : Nat) :
    n ∈ deliverable b t ↔ n < 1024 ∧ bit b.pend n = true ∧ bit b.en n = true ∧ targetOn b t = true ∧
      routed b n t = true ∧ prioOf b n ≤ b.thresh.getD t 0 ∧
      ∀ m ∈ b.active.getD t [], tierOf b (prioOf b n) < tierOf b (prioOf b m) := by
  unfold deliverable
  cases hon : targetOn b t with
  | false => simp
  | true =>
    have htier := lt_runningTier_iff b t (tierOf b (prioOf b n))
    simp only [Bool.not_true, Bool.false_eq_true, if_false, List.mem_filter, mem_bitsSet, bit_and, Bool.and_eq_true,
      decide_eq_true_eq, true_and]
    exact ⟨fun ⟨⟨hlt, hpend, hen⟩, ⟨hroute, hthresh⟩, h⟩ => ⟨hlt, hpend, hen, hroute, hthresh, htier.mp h⟩,
      fun ⟨hlt, hpend, hen, hroute, hthresh, h⟩ => ⟨⟨hlt, hpend, hen⟩, ⟨hroute, hthresh⟩, htier.mpr h⟩⟩

theorem deliverable_sorted (b : Bell) (t : Nat) : (deliverable b t).Pairwise (· < ·) := by
  unfold deliverable
  split
  · exact .nil
  · exact (List.pairwise_lt_range.filter _).filter _

/-- Source `n` is preferred to `m`: the lower priority value, and of equal ones the lower number. -/
def Preferred (b : Bell) (n m : Nat) : Prop := prioOf b n < prioOf b m ∨ (prioOf b n = prioOf b m ∧ n ≤ m)

/-- The better of the best source so far and the next one. -/
def better (b : Bell) (best : Option Nat) (n : Nat) : Option Nat :=
  match best with
  | none => some n
  | some m => if prioOf b n < prioOf b m then some n else some m

theorem preferred_eq_foldl (b : Bell) (l : List Nat) : preferred b l = l.foldl (better b) none := rfl

theorem Preferred.trans {b : Bell} {i j k : Nat} (h₁ : Preferred b i j) (h₂ : Preferred b j k) : Preferred b i k := by
  unfold Preferred at *
  omega

/-- Going up a list of rising numbers from `k`, the fold ends at a source preferred to all it met. -/
theorem foldl_better (b : Bell) (l : List Nat) (k : Nat) (hk : ∀ m ∈ l, k < m) (hl : l.Pairwise (· < ·)) :
    ∃ n, l.foldl (better b) (some k) = some n ∧ (n = k ∨ n ∈ l) ∧ Preferred b n k ∧ ∀ m ∈ l, Preferred b n m := by
  induction l generalizing k with
  | nil => exact ⟨k, rfl, .inl rfl, .inr ⟨rfl, Nat.le_refl k⟩, fun m hm => absurd hm List.not_mem_nil⟩
  | cons x l ih =>
    obtain ⟨hx, hrest⟩ := List.pairwise_cons.mp hl
    have hkx : k < x := hk x (List.mem_cons_self ..)
    rw [List.foldl_cons]
    by_cases hp : prioOf b x < prioOf b k
    · obtain ⟨n, e, hmem, hn, hall⟩ := ih x hx hrest
      refine ⟨n, by rw [better, if_pos hp, e], .inr (List.mem_cons.mpr hmem), hn.trans (.inl hp), fun m hm => ?_⟩
      rcases List.mem_cons.mp hm with rfl | hm
      · exact hn
      · exact hall m hm
    · obtain ⟨n, e, hmem, hn, hall⟩ := ih k (fun m hm => hk m (List.mem_cons_of_mem _ hm)) hrest
      refine ⟨n, by rw [better, if_neg hp, e], hmem.imp_right (List.mem_cons_of_mem _), hn, fun m hm => ?_⟩
      rcases List.mem_cons.mp hm with rfl | hm
      · refine hn.trans ?_
        unfold Preferred
        omega
      · exact hall m hm

theorem preferred_some {b : Bell} {l : List Nat} (hl : l.Pairwise (· < ·)) {n : Nat} (h : preferred b l = some n) :
    n ∈ l ∧ ∀ m ∈ l, Preferred b n m := by
  cases l with
  | nil => cases h
  | cons k l =>
    obtain ⟨hk, hrest⟩ := List.pairwise_cons.mp hl
    obtain ⟨n', e, hmem, hn, hall⟩ := foldl_better b l k hk hrest
    have hsame : n' = n := Option.some.inj (e.symm.trans h)
    subst hsame
    refine ⟨List.mem_cons.mpr hmem, fun m hm => ?_⟩
    rcases List.mem_cons.mp hm with rfl | hm
    · exact hn
    · exact hall m hm

theorem preferred_none (b : Bell) {l : List Nat} (hl : l.Pairwise (· < ·)) : preferred b l = none ↔ l = [] := by
  cases l with
  | nil => exact ⟨fun _ => rfl, fun _ => rfl⟩
  | cons k l =>
    obtain ⟨hk, hrest⟩ := List.pairwise_cons.mp hl
    obtain ⟨n, e, -⟩ := foldl_better b l k hk hrest
    rw [preferred_eq_foldl, List.foldl_cons, better, e]
    simp

/-! Claims, completions and the writes. -/

section
variable {s : State} {agent t n : Nat}

theorem claim_notOwner (h : ownsTarget (bellSync s) agent t = false) :
    claim agent t s = (0x7FF, { bellSync s with bell := { (bellSync s).bell with agentErr := true } }) := by
  rw [claim, if_pos (by simp [h])]
  rfl

theorem claim_none (h : ownsTarget (bellSync s) agent t = true) (hnone : deliverable (bellSync s).bell t = []) :
    claim agent t s = (0x7FF, bellSync s) := by
  rw [claim, if_neg (by simp [h]), hnone]
  rfl

theorem claim_source (h : ownsTarget (bellSync s) agent t = true)
    (hsome : preferred (bellSync s).bell (deliverable (bellSync s).bell t) = some n) :
    claim agent t s = (n, askVectors (modBell (fun b => { b with
      pend := b.pend ^^^ (b.pend &&& 2 ^ n), active := upd b.active t (fun l => n :: l) }) (bellSync s))) := by
  rw [claim, if_neg (by simp [h]), hsome]

theorem complete_active (h : ownsTarget (bellSync s) agent t = true) (hn : n ∈ s.bell.active.getD t []) :
    complete agent t n s =
      askVectors (modBell (fun b => { b with active := upd b.active t (fun l => l.erase n) }) (bellSync s)) := by
  rw [complete, if_neg (by simp only [h, bellSync_active]; simpa using hn)]

theorem complete_refused (h : ownsTarget (bellSync s) agent t = false ∨ n ∉ s.bell.active.getD t []) :
    complete agent t n s = { bellSync s with bell := { (bellSync s).bell with agentErr := true } } := by
  rw [complete, if_pos ?_]
  · rfl
  · rcases h with h | h
    · simp [h]
    · simp only [bellSync_active, List.contains_eq_mem, h]
      simp

theorem lt_length_of_active (h : n ∈ s.bell.active.getD t []) : t < s.bell.active.length :=
  lt_length_of_getD _ _ [] (n ∈ ·) h List.not_mem_nil

end
section
variable (s : State)

/-- What `pendClear` and `swSet` change is the pending word. -/
theorem askVectors_pend (f : Nat → Nat) : ∃ u, askVectors (modBell (fun b => { b with pend := f b.pend }) (bellSync s)) = u ∧
    u = { s with bell := u.bell, cages := u.cages } ∧ u.bell.active = s.bell.active ∧ u.bell.en = s.bell.en ∧
    u.bell.pend = f (bellSync s).bell.pend := by
  obtain ⟨hframe, k, hbell⟩ := askVectors_modBell s (fun b => { b with pend := f b.pend })
  refine ⟨_, rfl, hframe, ?_⟩
  rw [hbell]
  exact ⟨bellSync_active s, bellSync_en s, rfl⟩

theorem pendClear_bits {w : Nat} (v : Nat) (hw : w < 32) : ∃ u, pendClear w v s = u ∧
    u = { s with bell := u.bell, cages := u.cages } ∧ u.bell.active = s.bell.active ∧ u.bell.en = s.bell.en ∧
    ∀ i, bit u.bell.pend i = (bit (bellSync s).bell.pend i && !(decide (i / 32 = w) && bit v (i % 32))) := by
  obtain ⟨u, e, hframe, hactive, hen, hpend⟩ := askVectors_pend s (fun p => w1c p ((v % 2 ^ 32) <<< (32 * (w % 32))))
  refine ⟨u, e, hframe, hactive, hen, fun i => ?_⟩
  rw [hpend, bit_w1c, bit_word, Nat.mod_eq_of_lt hw]

theorem swSet_bits {w : Nat} (v : Nat) (hlo : 29 ≤ w) (hhi : w ≤ 31) : ∃ u, swSet w v s = u ∧
    u = { s with bell := u.bell, cages := u.cages } ∧ u.bell.active = s.bell.active ∧ u.bell.en = s.bell.en ∧
    ∀ i, bit u.bell.pend i = (bit (bellSync s).bell.pend i || (decide (i / 32 = w) && bit v (i % 32))) := by
  obtain ⟨u, e, hframe, hactive, hen, hpend⟩ := askVectors_pend s (fun p => p ||| ((v % 2 ^ 32) <<< (32 * w)))
  refine ⟨u, ?_, hframe, hactive, hen, fun i => ?_⟩
  · rw [swSet, if_neg (by omega)]
    exact e
  · rw [hpend, bit_or, bit_word]

theorem bellCtrlWrite_kept {v : Nat} (hmode : bit v 0 ≠ s.bell.claimMode) (hen : s.bell.en ≠ 0) :
    bellCtrlWrite v s = { bellSync s with bell := { (bellSync s).bell with modeErr := true } } := by
  rw [bellCtrlWrite, if_pos (by simp [hmode, hen])]
  rfl

theorem bellCtrlWrite_set {v : Nat} (h : bit v 0 = s.bell.claimMode ∨ s.bell.en = 0) : ∃ u, bellCtrlWrite v s = u ∧
    u = { s with bell := u.bell, cages := u.cages } ∧ u.bell.claimMode = bit v 0 ∧ u.bell.tierBits = bits v 8 4 ∧
    u.bell.pend = (bellSync s).bell.pend ∧ u.bell.active = s.bell.active := by
  obtain ⟨hframe, k, hbell⟩ := askVectors_modBell s (fun b => { b with claimMode := bit v 0, tierBits := bits v 8 4 })
  refine ⟨_, if_neg ?_, hframe, ?_⟩
  · rcases h with h | h <;> simp [h]
  · rw [hbell]
    exact ⟨rfl, rfl, rfl, bellSync_active s⟩

end

/-- Settles O46: the Bell's operations by `bellSync` and `askVectors`, and the preferred source by the order of the numbers. -/
theorem bellSources : Obligations.BellSources := by
  unfold Obligations.BellSources
  refine ⟨fun s agent t n w v core => ⟨⟨bellSync_rest s, bellSync_lines s, bit_pend_bellSync s⟩, ?kept, ?reached, claim_notOwner,
    claim_none, ?claimed, ?completed, ?refused, ?cleared, ?set, ?mode, ?modeSet, ?remap, ?remapKept, rfl⟩,
    fun b t n => ⟨mem_deliverable b t n, preferred_some (deliverable_sorted b t), preferred_none b (deliverable_sorted b t)⟩⟩
  case kept =>
    exact fun h => ⟨congrArg Host.Outcome.next (if_neg (by simp [h])), congrArg Host.Outcome.next (if_neg (by simp [h]))⟩
  case reached => exact fun h => congrArg Host.Outcome.next (if_pos h)
  case claimed =>
    intro howns hlen hsome
    rw [claim_source howns hsome]
    obtain ⟨hframe, k, hbell⟩ := askVectors_modBell s
      (fun b => { b with pend := b.pend ^^^ (b.pend &&& 2 ^ n), active := upd b.active t (fun l => n :: l) })
    refine ⟨rfl, _, rfl, hframe, ?_⟩
    dsimp only
    rw [hbell]
    dsimp only
    refine ⟨fun i => ?_, ?_, fun k hk => ?_⟩
    · rw [bit_xor, bit_and, bit_two_pow]
      by_cases hi : i = n <;> simp [hi]
    · rw [bellSync_active, getD_upd, if_pos ⟨rfl, hlen⟩]
    · rw [bellSync_active, getD_upd, if_neg (fun h => hk h.1)]
  case completed =>
    intro hreach howns hn
    obtain ⟨hframe, k, hbell⟩ := askVectors_modBell s (fun b => { b with active := upd b.active t (fun l => l.erase n) })
    refine ⟨_, congrArg Host.Outcome.next ((if_pos hreach).trans (congrArg _ (complete_active howns hn))), hframe, ?_⟩
    rw [hbell]
    refine ⟨rfl, ?_, fun k hk => ?_⟩
    · dsimp only
      rw [bellSync_active, getD_upd, if_pos ⟨rfl, lt_length_of_active hn⟩]
    · dsimp only
      rw [bellSync_active, getD_upd, if_neg (fun h => hk h.1)]
  case refused =>
    exact fun hreach h => congrArg Host.Outcome.next ((if_pos hreach).trans (congrArg _ (complete_refused h)))
  case cleared =>
    intro hw
    obtain ⟨u, e, h⟩ := pendClear_bits s v hw
    exact ⟨u, congrArg Host.Outcome.next e, h⟩
  case set =>
    intro hlo hhi
    obtain ⟨u, e, h⟩ := swSet_bits s v hlo hhi
    exact ⟨u, congrArg Host.Outcome.next e, h⟩
  case mode => exact fun hmode hen => congrArg Host.Outcome.next (bellCtrlWrite_kept s hmode hen)
  case modeSet =>
    intro h
    obtain ⟨u, e, h⟩ := bellCtrlWrite_set s h
    exact ⟨u, congrArg Host.Outcome.next e, h⟩
  case remap => exact fun h => congrArg Host.Outcome.next (if_pos h)
  case remapKept => exact fun h => congrArg Host.Outcome.next (if_neg (by simp [h]))

end Sys2Proof.Machine
end

section
/-! Refresh, scrubbing, migration, and the commands of pit memory (12 R263 to R276). -/

namespace Sys2Proof.Machine
open Sys2Proof

/-- A rank in service that does not wait yet joins the queue when it fails. -/
theorem failRank_inService {p : Pit} {r : Nat} (hfree : p.queue.contains r = false) (hst : rankSt p r = .inService) :
    failRank r p = { p with queue := p.queue ++ [r] } := by
  rw [failRank, if_neg (by simp only [hfree]; decide), hst]

theorem failRank_both {p : Pit} {c : Nat} (hqueue : p.queue = []) (h0 : rankSt p (2 * c) = .inService)
    (h1 : rankSt p (2 * c + 1) = .inService) :
    failRank (2 * c + 1) (failRank (2 * c) p) = { p with queue := [2 * c, 2 * c + 1] } := by
  rw [failRank_inService (r := 2 * c) (by simp [hqueue]) h0, failRank_inService (by simp [hqueue]) (by exact h1)]
  simp [hqueue]

theorem releaseHeld_none {p : Pit} (h : p.held = []) : releaseHeld p = p := by
  rw [releaseHeld, h, List.foldl_nil, ← h]

theorem advanceScrub_next {p : Pit} (h : p.scrubLine + 1 < rankLines) :
    advanceScrub p = { p with scrubLine := p.scrubLine + 1 } := if_pos h

/-- The scrub's move to its next line changes nothing but its place and its count of passes. -/
theorem advanceScrub_frame (p : Pit) : ∃ r l n, advanceScrub p = { p with scrubRank := r, scrubLine := l, scrubPasses := n } := by
  unfold advanceScrub
  split
  · exact ⟨_, _, _, rfl⟩
  · split <;> exact ⟨_, _, _, rfl⟩

theorem rankSt_setRank {p : Pit} {r : Nat} (v : RankState) (h : r < p.rankState.length) : rankSt (setRank r v p) r = v := by
  rw [rankSt, setRank, getD_upd, if_pos ⟨rfl, h⟩]

/-- What a scrub read of rank `r` with outcomes `os` leaves, its counters apart. -/
def scrubbed (r : Nat) (os : List PitOutcome) (p : Pit) : Pit :=
  advanceScrub (if rankSt p r = .spare then
      (if os.any hardOutcome then pitCause [3] (setRank r .retired p) else p)
    else match lineOfPhys p r p.scrubLine with
      | some a => os.foldl (scrubMark r a) p
      | none => p)

theorem scrubbed_nothing {r : Nat} {p : Pit} (h : rankSt p r ≠ .spare) : scrubbed r [] p = advanceScrub p := by
  rw [scrubbed, if_neg h]
  split <;> rfl

theorem scrubbed_spare {r : Nat} {os : List PitOutcome} {p : Pit} (h : rankSt p r = .spare) (hhard : os.any hardOutcome = true) :
    scrubbed r os p = advanceScrub (pitCause [3] (setRank r .retired p)) := by
  rw [scrubbed, if_pos h, if_pos hhard]

/-! The steps of maintenance. -/

section
variable {s : State} (hrun : s.pit.state = .run)
include hrun

theorem exec_perBankRefresh {r : Nat} (doubled : Bool) (hr : r < 64) :
    exec (.perBankRefresh r doubled) s = .next (modPit (fun p =>
      let c := chanAt p (r / 2)
      let was := if r % 2 = 0 then c.hot0 else c.hot1
      let p := modChan (r / 2) (fun c => if r % 2 = 0 then { c with hot0 := doubled } else { c with hot1 := doubled }) p
      if doubled && !was then pitCause [4] p else p) s) :=
  congrArg Host.Outcome.next (if_neg (by simp [hrun, hr]))

theorem exec_perBankRefresh_doubled {r : Nat} (hr : r < 64) (heven : r % 2 = 0) (hcold : (chanAt s.pit (r / 2)).hot0 = false) :
    exec (.perBankRefresh r true) s = .next { s with
      pit := { s.pit with cause := setBits s.pit.cause [4]
                          chans := upd s.pit.chans (r / 2) (fun x => { x with hot0 := true }) } } := by
  rw [exec_perBankRefresh hrun true hr]
  simp only [modPit, heven, hcold]
  rfl

theorem exec_perBankRefresh_normal {r : Nat} (hr : r < 64) (hodd : r % 2 = 1) :
    exec (.perBankRefresh r false) s = .next { s with
      pit := { s.pit with chans := upd s.pit.chans (r / 2) (fun x => { x with hot1 := false }) } } := by
  rw [exec_perBankRefresh hrun false hr]
  simp only [modPit, hodd]
  rfl

theorem exec_retrainPause {c : Nat} (ok : Bool) (hc : c < 32) :
    exec (.retrainPause c ok) s = .next (modPit (fun p =>
      let p := modChan c (fun x => { x with pauses := (x.pauses + 1) % 2 }) p
      if ok then p
      else failRank (2 * c + 1) (failRank (2 * c) (modChan c (fun x => countOutcome (.linkFailed 0) x) p))) s) :=
  congrArg Host.Outcome.next (if_neg (by simp [hrun]; omega))

theorem exec_retrainPause_failed {c : Nat} (hc : c < 32) (hqueue : s.pit.queue = []) (h0 : rankSt s.pit (2 * c) = .inService)
    (h1 : rankSt s.pit (2 * c + 1) = .inService) :
    ∃ t, exec (.retrainPause c false) s = .next t ∧ t.pit.queue = [2 * c, 2 * c + 1] ∧ t.pit.mem = s.pit.mem ∧
      t = { s with pit := t.pit } := by
  refine ⟨_, exec_retrainPause hrun false hc, ?_⟩
  unfold modPit
  dsimp only
  rw [if_neg Bool.false_ne_true, failRank_both (by exact hqueue) (by exact h0) (by exact h1)]
  exact ⟨rfl, rfl, rfl⟩

/-- The scrub reads the next line of its own rank. -/
theorem exec_scrubRead (f : PitFault) (hon : s.pit.scrubOn = true)
    (hrank : scrubRankFrom s.pit s.pit.scrubRank = some s.pit.scrubRank) :
    exec (.scrubRead f) s = .next (modPit (fun p =>
      let os := outcomesOf { f with line := 0 } (tagOf (p.scrubLine / 15) s.pit.scrubRank)
      let p := modChan (s.pit.scrubRank / 2) (fun c => os.foldl (fun c o => countOutcome o c) c) (serveP7 64 p)
      scrubbed s.pit.scrubRank os p) s) := by
  refine congrArg Host.Outcome.next ((if_neg (by simp [hon, hrun])).trans ?_)
  unfold modPit
  dsimp only
  rw [hrank]
  dsimp only
  rw [if_pos rfl]
  rfl

theorem exec_scrubRead_clean (hon : s.pit.scrubOn = true)
    (hrank : scrubRankFrom s.pit s.pit.scrubRank = some s.pit.scrubRank) (hline : s.pit.scrubLine + 1 < rankLines)
    (hst : rankSt s.pit s.pit.scrubRank = .inService) :
    exec (.scrubRead {}) s = .next { s with
      pit := { s.pit with scrubLine := s.pit.scrubLine + 1
                          ports := upd s.pit.ports 7 (fun q => { q with bytes := sat64 (q.bytes + 64) })
                          chans := upd s.pit.chans (s.pit.scrubRank / 2) (fun x => x) } } := by
  have hnone : outcomesOf { ({} : PitFault) with line := 0 } (tagOf (s.pit.scrubLine / 15) s.pit.scrubRank) = [] := by
    simp [outcomesOf, linkOutcome, dataOutcome, tagOutcome_clean]
  rw [exec_scrubRead hrun {} hon hrank]
  unfold modPit
  dsimp only
  rw [hnone, scrubbed_nothing (by exact (fun h => by cases hst.symm.trans h)), advanceScrub_next (by exact hline)]
  rfl

theorem exec_scrubRead_spare (hon : s.pit.scrubOn = true)
    (hrank : scrubRankFrom s.pit s.pit.scrubRank = some s.pit.scrubRank) (hlt : s.pit.scrubRank < s.pit.rankState.length)
    (hst : rankSt s.pit s.pit.scrubRank = .spare) :
    ∃ t, exec (.scrubRead { bytes := 2 }) s = .next t ∧ rankSt t.pit s.pit.scrubRank = .retired ∧
      bit t.pit.cause 3 = true ∧ t.pit.damaged = s.pit.damaged ∧ t = { s with pit := t.pit } := by
  have hone : outcomesOf { ({ bytes := 2 } : PitFault) with line := 0 } (tagOf (s.pit.scrubLine / 15) s.pit.scrubRank) =
      [.uncorrectable 0] := by
    simp [outcomesOf, linkOutcome, dataOutcome, tagOutcome_clean]
  refine ⟨_, exec_scrubRead hrun { bytes := 2 } hon hrank, ?_⟩
  unfold modPit
  dsimp only
  rw [hone, scrubbed_spare (by exact hst) rfl]
  obtain ⟨r, l, n, e⟩ := advanceScrub_frame (pitCause [3] (setRank s.pit.scrubRank .retired (modChan (s.pit.scrubRank / 2)
    (fun c => [PitOutcome.uncorrectable 0].foldl (fun c o => countOutcome o c) c) (serveP7 64 s.pit))))
  rw [e]
  exact ⟨rankSt_setRank (p := modChan _ _ _) .retired (by exact hlt), bit_setBits_self _ 3, rfl, rfl⟩

theorem exec_migrationStart_spare {r l t : Nat} {rest : List Nat} (hidle : s.pit.mig = none) (hqueue : s.pit.queue = r :: rest)
    (hmap : s.pit.rankMap.findIdx? (· == r) = some l) (hspare : lowestSpare s.pit = some t) :
    exec .migrationStart s = .next { s with pit := { s.pit with
      queue := rest, mig := some { logical := l, source := r, target := t, m := 0 }, cause := setBits s.pit.cause [0]
      rankState := upd (upd s.pit.rankState t (fun _ => .target)) r (fun _ => .source) } } := by
  refine congrArg Host.Outcome.next ((if_neg (by simp [hrun, hidle])).trans ?_)
  unfold modPit
  dsimp only
  rw [hqueue]
  dsimp only
  rw [hmap, hspare]
  rfl

theorem exec_migrationStart_noSpare {r l : Nat} {rest : List Nat} (hidle : s.pit.mig = none)
    (hqueue : s.pit.queue = r :: rest) (hmap : s.pit.rankMap.findIdx? (· == r) = some l) (hspare : lowestSpare s.pit = none) :
    exec .migrationStart s = .next { s with pit := { s.pit with
      queue := rest, cause := setBits s.pit.cause [2], rankState := upd s.pit.rankState r (fun _ => .degraded) } } := by
  refine congrArg Host.Outcome.next ((if_neg (by simp [hrun, hidle])).trans ?_)
  unfold modPit
  dsimp only
  rw [hqueue]
  dsimp only
  rw [hmap, hspare]
  rfl

/-- A block copy whose target holds, with no request held meanwhile. -/
theorem exec_migrationBlockCopy {m : Migration} (fs : List PitFault) (hmig : s.pit.mig = some m) :
    exec (.migrationBlockCopy fs false) s = .next (modPit (fun p =>
      let p := serveP7 1920 (copyFaults m (fs.filter (fun f => decide (f.line < 15))) p)
      let m' := { m with m := m.m + 1 }
      if rankBlocks ≤ m'.m then releaseHeld (endMigration m' p) else releaseHeld { p with mig := some m' }) s) := by
  refine congrArg Host.Outcome.next ((if_neg (by simp [hrun])).trans ?_)
  unfold modPit
  dsimp only
  rw [hmig]
  rfl

theorem exec_migrationBlockCopy_next {m : Migration} (hmig : s.pit.mig = some m) (hheld : s.pit.held = [])
    (hm : m.m + 1 < rankBlocks) : exec (.migrationBlockCopy [] false) s = .next { s with
      pit := { s.pit with mig := some { m with m := m.m + 1 }
                          ports := upd s.pit.ports 7 (fun q => { q with bytes := sat64 (q.bytes + 1920) })
                          chans := upd s.pit.chans (m.source / 2) (fun x => x) } } := by
  rw [exec_migrationBlockCopy hrun [] hmig]
  unfold modPit
  dsimp only
  rw [if_neg (by omega), releaseHeld_none (by exact hheld)]
  rfl

theorem exec_migrationBlockCopy_last {m : Migration} (hmig : s.pit.mig = some m) (hheld : s.pit.held = [])
    (hm : m.m + 1 = rankBlocks) : exec (.migrationBlockCopy [] false) s = .next { s with
      pit := { s.pit with
        ports := upd s.pit.ports 7 (fun q => { q with bytes := sat64 (q.bytes + 1920) })
        chans := upd s.pit.chans (m.source / 2) (fun x => x)
        mig := none, cause := setBits s.pit.cause [1], rankMap := upd s.pit.rankMap m.logical (fun _ => m.target)
        rankState := upd (upd s.pit.rankState m.target (fun _ => .inService)) m.source (fun _ => .retired) } } := by
  rw [exec_migrationBlockCopy hrun [] hmig]
  unfold modPit
  dsimp only
  rw [if_pos (by omega), releaseHeld_none (by exact hheld)]
  rfl

/-- The end of a block copy changes neither what is damaged nor the channels, when nothing is held. -/
theorem exec_migrationBlockCopy_damaged {m : Migration} {i n : Nat} (hmig : s.pit.mig = some m) (hheld : s.pit.held = [])
    (hchan : m.source / 2 < s.pit.chans.length) (hi : i < 15) (hn : 2 ≤ n) :
    ∃ t, exec (.migrationBlockCopy [{ line := i, bytes := n }] false) s = .next t ∧ t = { s with pit := t.pit } ∧
      (lineAddr m.logical (15 * m.m + i) / 64) ∈ t.pit.damaged ∧
      (chanAt t.pit (m.source / 2)).ue = sat16 ((chanAt s.pit (m.source / 2)).ue + 1) := by
  have hone : outcomesOf { line := i, bytes := n } (tagOf m.m m.source) = [.uncorrectable i] := by
    have h0 : n ≠ 0 := by omega
    have h1 : n ≠ 1 := by omega
    simp [outcomesOf, linkOutcome, dataOutcome, tagOutcome_clean, h0, h1]
  have hcopied : copyFaults m ([{ line := i, bytes := n } ].filter (fun f => decide (f.line < 15))) s.pit =
      damageLines [lineAddr m.logical (15 * m.m + i) / 64]
        (modChan (m.source / 2) (countOutcome (.uncorrectable i)) s.pit) := by
    simp [copyFaults, hi, hone, copyMark]
  refine ⟨_, exec_migrationBlockCopy hrun _ hmig, rfl, ?_⟩
  unfold modPit
  dsimp only
  rw [hcopied]
  have hchanAt := chanAt_modChan (countOutcome (.uncorrectable i)) hchan
  have hmem : lineAddr m.logical (15 * m.m + i) / 64 ∈ (damageLines [lineAddr m.logical (15 * m.m + i) / 64]
      (modChan (m.source / 2) (countOutcome (.uncorrectable i)) s.pit)).damaged := by
    rw [mem_damageLines]
    exact .inl (List.mem_singleton.mpr rfl)
  split
  · rw [releaseHeld_none (by exact hheld)]
    exact ⟨hmem, congrArg PitChan.ue hchanAt⟩
  · rw [releaseHeld_none (by exact hheld)]
    exact ⟨hmem, congrArg PitChan.ue hchanAt⟩

end

theorem exec_scrubRead_off {s : State} (o : PitFault) (h : s.pit.scrubOn = false) : exec (.scrubRead o) s = .next s :=
  congrArg Host.Outcome.next (if_pos (by simp [h]))

/-! The commands. -/

theorem pitRetireRank_spare {r : Req} {s : State} (t : Nat) (hlt : b8 r 24 < 64) (hlen : b8 r 24 < s.pit.rankState.length)
    (hst : rankSt s.pit (b8 r 24) = .spare) :
    pitRetireRank r t s = answer { s with pit := { s.pit with cause := setBits s.pit.cause [3]
                                                              rankState := upd s.pit.rankState (b8 r 24) (fun _ => .retired) } }
      (fields [(24, leBytes 1 4)]) := by
  unfold pitRetireRank
  dsimp only
  rw [if_neg (by omega), hst]
  have hretired := rankSt_setRank .retired hlen
  unfold modPit answer
  exact congrArg (fun k : RankState => ({ st := _, reply := { result := fields [(24, leBytes 1 k.code)] } } : Out)) hretired

theorem pitRetireRank_inService {r : Req} {s : State} (t : Nat) (hlt : b8 r 24 < 64)
    (hst : rankSt s.pit (b8 r 24) = .inService) (hfree : s.pit.queue.contains (b8 r 24) = false)
    (hspare : (lowestSpare s.pit).isSome = true) :
    pitRetireRank r t s = answer { s with pit := { s.pit with queue := s.pit.queue ++ [b8 r 24] } }
      (fields [(24, leBytes 1 1)]) := by
  have hnone : (lowestSpare s.pit).isNone = false := by rw [← Option.not_isSome, hspare]; rfl
  unfold pitRetireRank modPit
  dsimp only
  rw [if_neg (by omega), hst]
  dsimp only
  rw [hfree, hnone, failRank_inService hfree hst]
  exact congrArg (fun k : RankState => ({ st := _, reply := { result := fields [(24, leBytes 1 k.code)] } } : Out)) hst

theorem pitRetireRank_refused {r : Req} {s : State} (t : Nat) (h : 64 ≤ b8 r 24 ∨ rankSt s.pit (b8 r 24) = .retired ∨
    rankSt s.pit (b8 r 24) = .absent ∨ rankSt s.pit (b8 r 24) = .degraded) : pitRetireRank r t s = badRange s := by
  by_cases hk : 64 ≤ b8 r 24
  · exact if_pos hk
  · unfold pitRetireRank
    dsimp only
    rw [if_neg hk]
    rcases h.resolve_left hk with hst | hst | hst <;> rw [hst]

theorem list_of_length_eight {α : Type} {l : List α} (h : l.length = 8) :
    ∃ a b c d e f g k, l = [a, b, c, d, e, f, g, k] := by
  match l, h with
  | [a, b, c, d, e, f, g, k], _ => exact ⟨a, b, c, d, e, f, g, k, rfl⟩

theorem inRange_of {lo hi v : Nat} (h : lo ≤ v) (h' : v ≤ hi) : inRange lo hi v = true := by
  simp [inRange, h, h']

/-- The state with the rates and bursts of a request at ports 4, 5 and 6. -/
def withRegulators (r : Req) (s : State) : State :=
  { s with pit := { s.pit with
      migRate := b16 r 30
      ports := upd (upd (upd s.pit.ports
          4 (fun q => { q with rate := b16 r 24, burst := b16 r 32, tokens := min q.tokens (10240 * b16 r 32) }))
          5 (fun q => { q with rate := b16 r 26, burst := b16 r 34, tokens := min q.tokens (10240 * b16 r 34) }))
          6 (fun q => { q with rate := b16 r 28, burst := b16 r 36, tokens := min q.tokens (10240 * b16 r 36) }) } }

theorem pitRegulator_inRange {r : Req} {s : State} (t : Nat)
    (hrate4 : b16 r 24 ≤ 400) (hrate5 : inRange 3 40 (b16 r 26) = true) (hrate6 : inRange 1 40 (b16 r 28) = true)
    (hmig : inRange 5 120 (b16 r 30) = true) (hburst4 : inRange 4 1024 (b16 r 32) = true)
    (hburst5 : inRange 4 1024 (b16 r 34) = true) (hburst6 : inRange 4 1024 (b16 r 36) = true)
    (hports : s.pit.ports.length = 8) :
    pitRegulator r t s = if s.bun.applying || ratesOk (withRegulators r s) then
        answer (modPit (releaseWaiting 4) (withRegulators r s)) []
      else admission s := by
  have hstate : modPit (fun p => { p with
      migRate := b16 r 30
      ports := p.ports.zipIdx.map (fun x =>
        if inRange 4 6 x.2 then
          { x.1 with rate := [b16 r 24, b16 r 26, b16 r 28].getD (x.2 - 4) 0
                     burst := [b16 r 32, b16 r 34, b16 r 36].getD (x.2 - 4) 0
                     tokens := min x.1.tokens (10240 * [b16 r 32, b16 r 34, b16 r 36].getD (x.2 - 4) 0) }
        else x.1) }) s = withRegulators r s := by
    obtain ⟨a, b, c, d, e, f, g, k, hl⟩ := list_of_length_eight hports
    unfold modPit withRegulators
    dsimp only
    rw [hl]
    rfl
  unfold pitRegulator
  dsimp only
  rw [if_neg (by simp [hrate5, hrate6, hmig, hburst4, hburst5, hburst6]; omega), hstate]

theorem pitScrub_set {r : Req} {s : State} (t : Nat) (hflag : b8 r 24 < 2) (hlo : 1 ≤ b16 r 26) (hhi : b16 r 26 ≤ 168) :
    pitScrub r t s = answer { s with pit := { s.pit with scrubOn := decide (b8 r 24 = 1), scrubHours := b16 r 26 } } [] := by
  have hbit : bit (b8 r 24) 0 = decide (b8 r 24 = 1) := by
    have hcases : b8 r 24 = 0 ∨ b8 r 24 = 1 := by omega
    rcases hcases with h | h <;> rw [h] <;> rfl
  rw [pitScrub, if_neg (by omega), if_neg (by simp [inRange]; omega), hbit]
  rfl

/-- Settles O38: the maintenance steps one by one, and each command's meaning with the request in range. -/
theorem pitMaintenance : Obligations.PitMaintenance := by
  unfold Obligations.PitMaintenance
  refine ⟨fun s r c o hrun => ⟨exec_perBankRefresh_doubled hrun, exec_perBankRefresh_normal hrun,
    fun hc => exec_retrainPause hrun true hc, exec_retrainPause_failed hrun, exec_scrubRead_off o,
    exec_scrubRead_clean hrun, ?spare, fun rest l t => exec_migrationStart_spare hrun,
    fun rest l => exec_migrationStart_noSpare hrun, fun m => exec_migrationBlockCopy_next hrun,
    fun m i n => exec_migrationBlockCopy_damaged hrun, fun m => exec_migrationBlockCopy_last hrun⟩,
    fun r t s u => ⟨?status, ?retireSpare, ?retireServing, ?retireRefused, ?rateRefused, ?rates, ?scrub, ?clear⟩⟩
  case spare => exact fun hon hrank hlt hlen hst => exec_scrubRead_spare hrun hon hrank (by omega) hst
  case status => exact fun htakes => takes_ended (k := 0) pitStatus htakes rfl
  case retireSpare =>
    exact fun htakes hlt hlen hst =>
      takes_ended (k := 0) pitRetireRank htakes (pitRetireRank_spare (r := { r with opcode := 0x0902 }) t hlt hlen hst)
  case retireServing =>
    exact fun htakes hlt hst hfree hspare =>
      takes_ended (k := 0) pitRetireRank htakes
        (pitRetireRank_inService (r := { r with opcode := 0x0902 }) t hlt hst hfree hspare)
  case retireRefused =>
    exact fun htakes h =>
      takes_ended (k := 0) pitRetireRank htakes (pitRetireRank_refused (r := { r with opcode := 0x0902 }) t h)
  case rateRefused =>
    exact fun htakes h => takes_ended (k := 0) pitRegulator htakes (if_pos (.inl h))
  case rates =>
    intro v htakes h24 h26 h26' h28 h28' h30 h30' h32 h32' h34 h34' h36 h36' hports hv
    have hmeaning := pitRegulator_inRange (r := { r with opcode := 0x0903 }) (s := u) t h24
      (inRange_of h26 h26') (inRange_of h28 h28') (inRange_of h30 h30') (inRange_of h32 h32')
      (inRange_of h34 h34') (inRange_of h36 h36') hports
    have hstate : withRegulators { r with opcode := 0x0903 } u = v := hv.symm
    rw [hstate] at hmeaning
    refine ⟨fun hok => ?_, fun hbad happly => ?_⟩
    · exact takes_ended (k := 0) pitRegulator htakes (hmeaning.trans (if_pos (by simp [hok])))
    · exact takes_ended (k := 0) pitRegulator htakes (hmeaning.trans (if_neg (by simp [hbad, happly])))
  case scrub =>
    exact fun htakes hflag hlo hhi =>
      takes_ended (k := 0) pitScrub htakes (pitScrub_set (r := { r with opcode := 0x0904 }) t hflag hlo hhi)
  case clear => exact fun hdp => congrArg Host.Outcome.next (if_pos hdp)

end Sys2Proof.Machine
end

section
/-! The commands of the timing unit (13 R283, R293, R297, R298, R300, R308, R315). -/

namespace Sys2Proof.Machine
open Sys2Proof

/-! Fields of a result that are written one after another. -/

theorem foldl_unchanged {α β : Type} {f : α → β → α} {a : α} {l : List β} (h : ∀ b ∈ l, f a b = a) : l.foldl f a = a := by
  induction l with
  | nil => rfl
  | cons b l ih =>
    rw [List.foldl_cons, h b (List.mem_cons_self ..)]
    exact ih fun c hc => h c (List.mem_cons_of_mem _ hc)

@[simp] theorem length_overlay (base b : List Byte) (off : Nat) : (overlay base off b).length = base.length := by
  simp [overlay]
  omega

section
variable {base b : List Byte} {off : Nat} (h : off + b.length ≤ base.length)
include h

/-- A field reads back as what was written at its place. -/
theorem slice_overlay_same : ((overlay base off b).drop off).take b.length = b := by
  have hlen : (base.take off).length = off := by
    rw [List.length_take]
    omega
  rw [overlay, List.take_of_length_le (l := b) (by omega), List.append_assoc, List.drop_append_of_le_length (by omega),
    List.drop_of_length_le (by omega), List.nil_append, List.take_left]

/-- A field that another write does not touch reads as before. -/
theorem slice_overlay_apart {i n : Nat} (hapart : i + n ≤ off ∨ off + b.length ≤ i) :
    ((overlay base off b).drop i).take n = (base.drop i).take n := by
  have hlen : (base.take off).length = off := by
    rw [List.length_take]
    omega
  apply List.ext_getElem?
  intro k
  rw [List.getElem?_take, List.getElem?_take]
  split
  · rw [List.getElem?_drop, List.getElem?_drop, overlay, List.take_of_length_le (l := b) (by omega), List.append_assoc]
    rcases hapart with hbefore | hafter
    · rw [List.getElem?_append_left (by omega), List.getElem?_take, if_pos (by omega)]
    · rw [List.getElem?_append_right (by omega), List.getElem?_append_right (by omega), List.getElem?_drop]
      congr 1
      omega
  · rfl

end

theorem length_leBytesI (n : Nat) (v : Int) : (leBytesI n v).length = n := length_leBytes n _

/-! A selection in which nothing changes: no candidate qualifies, and none is selected. -/

theorem bestCand_none {u : Tu} (h : ∀ k, k < 7 → (candAt u k).state ≠ .qualified) : bestCand u = none :=
  foldl_unchanged fun k hk => if_pos (h k (List.mem_range.mp hk))

theorem reselect_none {sec : Nat} {before u : Tu} (hsel : u.selected = none) (hbest : bestCand u = none) :
    reselect sec before u = u := by
  rw [reselect, hsel]
  dsimp only
  rw [hbest]

theorem timeStatus_seconds (r : Req) (t : Nat) (s : State) :
    ((doTimeStatus r t s).reply.result.drop 4).take 6 = leBytes 6 s.sys.sec := by
  unfold doTimeStatus fields
  dsimp only [List.foldl]
  iterate 7
    rw [slice_overlay_apart (by simp [length_leBytes, length_leBytesI]) (by simp [length_leBytes, length_leBytesI])]
  have hsame := slice_overlay_same (base := overlay (List.replicate 40 0) (24 - 24) (leBytes 4 (tuStatReg s))) (off := 28 - 24)
    (b := leBytes 6 s.sys.sec) (by simp [length_leBytes])
  rwa [length_leBytes] at hsame

/-! The commands' meanings. -/

section
variable {r : Req} (t : Nat) {s : State}

theorem doTimeRefs_general (hmask : b8 r 24 = 0) (hrev : b8 r 25 ≤ 1) (hclkA : b8 r 26 ≤ 4) (hclkB : b8 r 27 ≤ 4)
    (hlo : 1 ≤ b32 r 28) (hhi : b32 r 28 ≤ 500000) (harg : r.arg = []) (hsel : s.tu.selected = none)
    (hcands : ∀ k, k < 7 → (candAt s.tu k).state ≠ .qualified) :
    doTimeRefs r t s = answer { s with tu := { s.tu with
      revertive := decide (b8 r 25 = 1), clkA := b8 r 26, clkB := b8 r 27, ppsWidth := b32 r 28 } } [] := by
  have hwho : bitsSet 7 0 = [] := rfl
  unfold doTimeRefs
  dsimp only
  rw [hmask, hwho, if_neg (by decide), if_neg (by simp [inRange]; omega), if_neg (by simp [harg])]
  refine congrArg (fun u => answer { s with tu := u } []) ?_
  exact reselect_none hsel (bestCand_none hcands)

theorem doTimeLoop_inRange (h24 : b8 r 24 ≤ 20) (h25 : b8 r 25 ≤ 5) (h26 : b8 r 26 ≤ 20) (h27 : b8 r 27 ≤ 20)
    (h28 : b8 r 28 ≤ 20) (h29 : b8 r 29 ≤ 5) (h30 : b8 r 30 ≤ 20) (h31 : b8 r 31 ≤ 20) (h32 : b8 r 32 = 255)
    (h33 : b8 r 33 = 0) (hslope : 1 ≤ b16 r 34) (hslope' : b16 r 34 ≤ 10000) (hlock : 1 ≤ b32 r 36)
    (hlock' : b32 r 36 ≤ 1000000) (htime : 1 ≤ b32 r 40) (htime' : b32 r 40 ≤ 3600) (hjump : 1000 ≤ b32 r 44)
    (hjump' : b32 r 44 ≤ 1000000000) :
    doTimeLoop r t s = answer { s with tu := { s.tu with
      service := [b8 r 24, b8 r 25, b8 r 26, b8 r 27], acquire := [b8 r 28, b8 r 29, b8 r 30, b8 r 31], override := none
      slope := b16 r 34, lockThr := b32 r 36, lockTime := b32 r 40, jumpThr := b32 r 44 } } [] := by
  have hupTo : upTo 4 = [0, 1, 2, 3] := rfl
  unfold doTimeLoop
  dsimp only
  rw [if_neg (by simp [h33]), if_neg (by simp [hupTo, inRange, h32]; omega), if_pos h32]
  rfl

theorem doTimePhaseStep_locked (hclear : b8 r 28 = 0) (hlim : (s.tu.userOff + signed 32 (b32 r 24)).natAbs ≤ secUnits)
    (hout : s.tu.out = .locked) :
    doTimePhaseStep r t s = answer { s with tu := { s.tu with
        userOff := s.tu.userOff + signed 32 (b32 r 24), steps := sat32 (s.tu.steps + 1)
        g := s.tu.g + signed 32 (b32 r 24) } }
      (fields [(24, leBytesI 8 (s.tu.userOff + signed 32 (b32 r 24)))]) := by
  unfold doTimePhaseStep
  dsimp only
  rw [hclear]
  rw [if_neg (by decide), if_neg (by simpa using hlim)]
  simp [hout, follows, answer]

theorem doTimePhaseStep_limit (hclear : b8 r 28 = 0) (hlim : secUnits < (s.tu.userOff + signed 32 (b32 r 24)).natAbs) :
    doTimePhaseStep r t s = refuse s stLimit 0 := by
  unfold doTimePhaseStep
  dsimp only
  rw [hclear, if_neg (by decide), if_pos (by simpa using hlim)]

theorem doTimeSet_boundary (hmode : b8 r 24 = 0) (hsel : s.tu.selected ≠ some 6) :
    doTimeSet r t s = { st := { s with tu := { s.tu with setSec := some (b48 r 32) } }, stay := some .staged } := by
  rw [doTimeSet, hmode, if_neg (by simp), if_neg (by simp [hsel]), if_neg (by decide)]
  rfl

theorem doTimeSet_network (hmode : b8 r 24 = 0) (hsel : s.tu.selected = some 6) : doTimeSet r t s = notInState s := by
  rw [doTimeSet, hmode, if_neg (by simp), if_pos (.inl hsel)]

theorem doTimeSet_now (hmode : b8 r 24 = 1) (hns : b32 r 38 ≤ 999999999) (hsel : s.tu.selected = none)
    (hidle : s.hop.running = false) : doTimeSet r t s = { st := setTime (b48 r 32) (b32 r 38) (b16 r 42) s } := by
  rw [doTimeSet, hmode, if_neg (by omega), if_neg (by simp [hsel, hidle]), if_pos rfl]

theorem setTime_noReference (sec ns frac : Nat) (hsel : s.tu.selected = none) :
    (setTime sec ns frac s).sys.sec = sec ∧ (setTime sec ns frac s).sys.ns = ns ∧ (setTime sec ns frac s).tu.frac = frac := by
  simp [setTime, modTu, tuCause, shiftPhases, hsel]

/-- PTP's rules change nothing else while no master is heard. -/
theorem chooseMaster_none {u : Tu} (hmasters : u.ptp.masters = []) (hgm : u.ptp.gm = none) : chooseMaster u = u := by
  unfold chooseMaster
  dsimp only
  rw [hmasters, hgm, List.foldl_nil]
  dsimp only
  rw [if_pos rfl, if_pos rfl, ← hgm, ← hmasters]

theorem doPtpConfig_quiet (hdomain : b8 r 24 = s.tu.ptp.cfg.domain) (hdomain' : b8 r 24 ≤ 127)
    (hsdo : b8 r 25 = s.tu.ptp.cfg.majorSdo) (hsdo' : b8 r 25 ≤ 15) (hports : b8 r 26 = s.tu.ptp.cfg.ports)
    (hports' : b8 r 26 < 4) (hports0 : b8 r 26 ≠ 0) (htrans : b8 r 27 < 4) (htrans0 : b8 r 27 ≠ 0) (hto : 2 ≤ b8 r 28)
    (hto' : b8 r 28 ≤ 10) (hql : b8 r 29 ≤ 1) (htc : b8 r 30 ≤ 1) (hwin : 100 ≤ b32 r 32) (hwin' : b32 r 32 ≤ 1000000)
    (hmasters : s.tu.ptp.masters = []) (hgm : s.tu.ptp.gm = none) (hsel : s.tu.selected = none)
    (hcands : ∀ k, k < 7 → (candAt s.tu k).state ≠ .qualified) :
    doPtpConfig r t s = answer { s with tu := { s.tu with ptp := { s.tu.ptp with
      cfg := { domain := b8 r 24, majorSdo := b8 r 25, ports := b8 r 26, transports := b8 r 27
               announceTimeout := b8 r 28, qlMode := b8 r 29, tcEnable := decide (b8 r 30 = 1), netWin := b32 r 32 } } } }
      [] := by
  unfold doPtpConfig
  dsimp only
  rw [if_neg (by omega), if_neg (by simp [inRange]; omega)]
  refine congrArg (fun u => answer { s with tu := u } []) ?_
  dsimp only
  rw [hmasters, List.filter_nil, chooseMaster_none rfl (by exact hgm), if_neg (by simp [hdomain, hsdo, hports]), ← hmasters]
  exact reselect_none hsel (bestCand_none hcands)

theorem doHoldoverModel_read (hop : b8 r 24 = 0) :
    doHoldoverModel r t s = answer s (holdReply s.tu 0 (b2n s.tu.valid)) := by
  unfold doHoldoverModel
  dsimp only
  rw [hop, if_neg (by omega), if_pos rfl]
  rfl

theorem recheck_out (u : Tu) : (recheck u).out = u.out := by
  unfold recheck
  dsimp only
  split <;> rfl

theorem openLoop_locked {sec : Nat} {u : Tu} (h : u.out = .locked) : openLoop sec u = u := by
  rw [openLoop, h]

theorem doHoldoverModel_limits (hop : b8 r 24 = 3) (h56 : 1 ≤ b8 r 56) (h56' : b8 r 56 ≤ 48) (h57 : b8 r 57 ≤ 32)
    (h58 : 10 ≤ b16 r 58) (h58' : b16 r 58 ≤ 2880) (h60 : 1 ≤ b32 r 60) (h60' : b32 r 60 ≤ 100000)
    (hout : s.tu.out = .locked) {v : Tu} (hv : v = recheck { s.tu with
      holdLearn := b8 r 56, tempInput := b8 r 57, holdMin := b16 r 58, holdRes := b32 r 60 }) :
    doHoldoverModel r t s = answer { s with tu := v } (holdReply v 3 (b2n v.valid)) := by
  have hlocked : v.out = .locked := by rw [hv, recheck_out]; exact hout
  unfold doHoldoverModel modTu
  dsimp only
  rw [hop, if_neg (by omega), if_neg (by omega), if_neg (by omega), if_neg (by omega),
    if_neg (by simp [inRange]; omega), ← hv, openLoop_locked hlocked]
  rfl

end

/-- Settles O41: each command's meaning, with its request in range. -/
theorem timingCommands : Obligations.TimingCommands := by
  unfold Obligations.TimingCommands
  refine fun r t s u => ⟨?refs, ?loop, fun x => ?step, ?stepLimit, ?setBoundary, ?setNow, ?setNetwork, ?status, ?ptp, ?read,
    fun v => ?limits⟩
  case refs =>
    intro htakes hmask hrev hclkA hclkB hlo hhi harg hsel hcands
    exact takes_ended (k := 0) doTimeRefs htakes
      (doTimeRefs_general (r := { r with opcode := 0x0A01 }) t hmask hrev hclkA hclkB hlo hhi harg hsel hcands)
  case loop =>
    intro htakes h24 h25 h26 h27 h28 h29 h30 h31 h32 h33 h34 h34' h36 h36' h40 h40' h44 h44'
    exact takes_ended (k := 0) doTimeLoop htakes (doTimeLoop_inRange (r := { r with opcode := 0x0A02 }) t
      h24 h25 h26 h27 h28 h29 h30 h31 h32 h33 h34 h34' h36 h36' h40 h40' h44 h44')
  case step =>
    rintro htakes hclear rfl hlim hout
    exact takes_ended (k := 0) doTimePhaseStep htakes
      (doTimePhaseStep_locked (r := { r with opcode := 0x0A03 }) t hclear hlim hout)
  case stepLimit =>
    intro htakes hclear hlim
    exact takes_ended (k := 0) doTimePhaseStep htakes
      (doTimePhaseStep_limit (r := { r with opcode := 0x0A03 }) t hclear hlim)
  case setBoundary =>
    intro htakes hmode hsel
    exact takes_stays doTimeSet htakes (doTimeSet_boundary (r := { r with opcode := 0x0A04 }) t hmode hsel)
  case setNow =>
    intro htakes hmode hns hsel hidle
    refine ⟨?_, setTime_noReference _ _ _ hsel⟩
    exact takes_ended (k := 0) doTimeSet htakes (doTimeSet_now (r := { r with opcode := 0x0A04 }) t hmode hns hsel hidle)
  case setNetwork =>
    intro htakes hmode hsel
    exact takes_ended (k := 0) doTimeSet htakes (doTimeSet_network (r := { r with opcode := 0x0A04 }) t hmode hsel)
  case status =>
    exact fun htakes => ⟨_, takes_ended (k := 0) doTimeStatus htakes rfl, rfl, rfl, timeStatus_seconds { r with opcode := 0x0A05 } t u⟩
  case ptp =>
    intro htakes h24 h24' h25 h25' h26 h26' h260 h27 h270 h28 h28' h29 h30 h32 h32' hmasters hgm hsel hcands
    exact takes_ended (k := 0) doPtpConfig htakes (doPtpConfig_quiet (r := { r with opcode := 0x0A06 }) t
      h24 h24' h25 h25' h26 h26' h260 h27 h270 h28 h28' h29 h30 h32 h32' hmasters hgm hsel hcands)
  case read =>
    exact fun htakes hop =>
      takes_ended (k := 0) doHoldoverModel htakes (doHoldoverModel_read (r := { r with opcode := 0x0A07 }) t hop)
  case limits =>
    intro htakes hop h56 h56' h57 h58 h58' h60 h60' hout hv
    exact takes_ended (k := 0) doHoldoverModel htakes (doHoldoverModel_limits (r := { r with opcode := 0x0A07 }) t
      hop h56 h56' h57 h58 h58' h60 h60' hout hv)

end Sys2Proof.Machine
end

section
/-! The commands of group 0x0D, DEV_RESET, and DP's way out of Run (14 R322, R338, R339, 15 R369, 16 Table 16.9). -/

namespace Sys2Proof.Machine
open Sys2Proof

/-! What the way out of Run leaves alone. -/

/-- A fold of steps that each stand in a relation stands in it. -/
theorem foldl_rel {α β : Type} {R : α → α → Prop} (hrefl : ∀ a, R a a) (htrans : ∀ a b c, R a b → R b c → R a c)
    {g : α → β → α} (hg : ∀ a x, R a (g a x)) (l : List β) (a : α) : R a (l.foldl g a) := by
  induction l generalizing a with
  | nil => exact hrefl a
  | cons x l ih => exact htrans _ _ _ (hg a x) (ih (g a x))

/-- Only the Winder, the power unit's cause word and the free values differ. -/
def WinderOnly (s u : State) : Prop := ∃ w k n, u = { s with wnd := w, pwr := { s.pwr with cause := k }, freeCount := n }

theorem WinderOnly.refl (s : State) : WinderOnly s s := ⟨s.wnd, s.pwr.cause, s.freeCount, rfl⟩

theorem WinderOnly.trans (s u v : State) (h₁ : WinderOnly s u) (h₂ : WinderOnly u v) : WinderOnly s v := by
  obtain ⟨w, k, n, rfl⟩ := h₁
  obtain ⟨w', k', n', rfl⟩ := h₂
  exact ⟨w', k', n', rfl⟩

/-- Only the cages and shared SRAM differ. -/
def CagesOnly (s u : State) : Prop := ∃ c m, u = { s with cages := c, sys := { s.sys with sram := m } }

theorem CagesOnly.refl (s : State) : CagesOnly s s := ⟨s.cages, s.sys.sram, rfl⟩

theorem CagesOnly.trans (s u v : State) (h₁ : CagesOnly s u) (h₂ : CagesOnly u v) : CagesOnly s v := by
  obtain ⟨c, m, rfl⟩ := h₁
  obtain ⟨c', m', rfl⟩ := h₂
  exact ⟨c', m', rfl⟩

section
variable (s : State)

theorem wndUndefine_frame (c : Nat) : ∃ w n, wndUndefine c s = { s with wnd := w, freeCount := n } := ⟨_, _, rfl⟩

theorem wndEnd_frame (c code : Nat) : ∃ w n, wndEnd c code s = { s with wnd := w, freeCount := n } := by
  unfold wndEnd
  split
  · obtain ⟨w, n, e⟩ := wndUndefine_frame s c
    rw [e]
    exact ⟨_, _, rfl⟩
  · exact ⟨s.wnd, s.freeCount, rfl⟩

theorem wndLeaveDp_frame (force : Bool) : WinderOnly s (wndLeaveDp force s) := by
  refine foldl_rel WinderOnly.refl WinderOnly.trans (fun s c => ?_) _ _
  by_cases htouch : (!chanTouches s (wchAt s c)) = true
  · rw [if_pos htouch]
    exact .refl s
  · rw [if_neg htouch]
    split
    · obtain ⟨w, n, e⟩ := wndEnd_frame s c 5
      rw [e]
      exact ⟨_, _, n, rfl⟩
    · split
      · exact ⟨_, _, s.freeCount, rfl⟩
      · exact .refl s

theorem downStops_frame (t : Nat) : CagesOnly s (downStops t s) := by
  refine foldl_rel CagesOnly.refl CagesOnly.trans (fun s a => ?_) _ _
  split
  · obtain ⟨c, m, e, -⟩ := finishOpen_frame (fun o => isOp 0x0603 o && o.key == a)
      (fun _ => { result := fields [(24, leBytes 1 AyrState.stopped.code), (25, [0])] }) t s
    exact ⟨c, m, e⟩
  · exact .refl s

theorem takeBack_noJobs (h : s.tal.jobs = []) : takeBack s = s := by
  rw [takeBack, h, List.foldl_nil]

/-- DP down: the Hopper is empty, pit memory refreshes itself, and without a promotion under way its bytes stay. -/
theorem dpDown_result (t : Nat) : (dpDown t s).hop = {} ∧ (dpDown t s).sys.dp = .quiesce ∧
    (dpDown t s).pit.state = .selfRefresh ∧ (s.tal.jobs = [] → (dpDown t s).pit.mem = s.pit.mem) := by
  refine ⟨rfl, rfl, rfl, fun hjobs => ?_⟩
  obtain ⟨c, m, e⟩ := downStops_frame s t
  unfold dpDown
  dsimp only
  rw [takeBack_noJobs _ (by rw [e]; exact hjobs), e]
  rfl

theorem commitOpen_frame (p : OpenCmd → Bool) (t : Nat) : ∃ c, commitOpen p t s = { s with cages := c } := by
  unfold commitOpen
  dsimp only
  split
  · exact ⟨_, rfl⟩
  · exact ⟨_, rfl⟩

end

/-! The commands' meanings. -/

section
variable {r : Req} (t : Nat) {s : State}

theorem dpRun_iff : dpRun s = true ↔ s.sys.dp = .run := decide_eq_true_iff

theorem quiesce_accepted (hflag : b8 r 24 ≤ 1) (hdp : dpRun s = true) (hleave : s.pwr.leaving = none)
    (hret : s.pwr.returning = none) :
    quiesce r t s = { st := leaveRun .quiesce (decide (b8 r 24 = 1)) s, stay := some .staged } := by
  rw [quiesce, if_neg (by omega), if_neg (by simp [hdp, hleave, hret])]

theorem resume_drained (hdp : dpRun s = true) (hdrained : s.aba.state = .drained) (hleave : s.pwr.leaving = none)
    (hret : s.pwr.returning = none) :
    resume r t s = answer { s with aba := { s.aba with resumePending := true } } (fields [(24, leBytes 1 s.shift.dev.code)]) := by
  have hnot : s.sys.dp ≠ .quiesce := by rw [dpRun_iff.mp hdp]; decide
  rw [resume, if_neg hnot, if_pos (by simp [hdp, hdrained, hleave, hret])]
  rfl

theorem resume_quiesced (hdp : s.sys.dp = .quiesce) (hcool : tooHot s = false) :
    resume r t s = { st := modShift (fun x => { x with resetCause := 5, lastKind := 5 }) (dpUp .quiesce s)
                     stay := some .committed } := by
  rw [resume, if_pos hdp, if_neg (by simp [hcool])]

theorem devReset_device (hkind : b8 r 24 = 0) (hboots : b32 r 28 = s.shift.boots) :
    devReset r t s = { st := { s with shift := { s.shift with resetDue := true } } } := by
  rw [devReset, if_neg (by omega), if_neg (by simp [hboots]), if_pos hkind]
  rfl

theorem devReset_restart (hkind : b8 r 24 = 1) (hboots : b32 r 28 = s.shift.boots) (hdp : dpRun s = true)
    (hleave : s.pwr.leaving = none) (hret : s.pwr.returning = none) (hcool : tooHot s = false) :
    devReset r t s = { st := leaveRun .restart false s, stay := some .staged } := by
  rw [devReset, if_neg (by omega), if_neg (by simp [hboots]), if_neg (by omega),
    if_neg (by simp [hdp, hleave, hret, hcool])]

theorem resetNow_notDue (h : s.shift.resetDue = false) : resetNow s = s :=
  if_neg (by simp [h])

end

/-! DP's way out of Run. -/

section
variable {s : State} (t : Nat)

/-- What DP's quiescing does before the move's own end: the Winder leaves, and DP goes down. -/
def wentDown (t : Nat) (s : State) : State :=
  modPwr (fun p => { p with leaving := none, force := false, cause := setBits p.cause [1] })
    (dpDown t (wndLeaveDp s.pwr.force s))

theorem wentDown_result (s : State) : (wentDown t s).sys.dp = .quiesce ∧ (wentDown t s).pwr.leaving = none ∧
    bit (wentDown t s).pwr.cause 1 = true ∧ (wentDown t s).hop = {} ∧ (wentDown t s).pit.state = .selfRefresh ∧
    (s.tal.jobs = [] → (wentDown t s).pit.mem = s.pit.mem) := by
  obtain ⟨hhop, hdp, hpit, hmem⟩ := dpDown_result (wndLeaveDp s.pwr.force s) t
  refine ⟨hdp, rfl, bit_setBits_self _ 1, hhop, hpit, fun hjobs => ?_⟩
  obtain ⟨w, k, n, e⟩ := wndLeaveDp_frame s s.pwr.force
  rw [e] at hmem
  unfold wentDown
  rw [e]
  exact hmem hjobs

theorem exec_dpQuiesced_waits {k : DpMove} (hleave : s.pwr.leaving = some k)
    (h : s.hst.flushing = true ∨ s.aba.state = .draining ∨ promotionsDone s = false ∨ pitIdle s.pit = false) :
    exec (.dpQuiesced t) s = .next s := by
  refine congrArg Host.Outcome.next ?_
  rw [hleave]
  refine if_pos ?_
  rcases h with h | h | h | h <;> simp [h]

theorem exec_dpQuiesced_none (hleave : s.pwr.leaving = none) : exec (.dpQuiesced t) s = .next s := by
  refine congrArg Host.Outcome.next ?_
  rw [hleave]

section
variable (hflush : s.hst.flushing = false) (haba : s.aba.state ≠ .draining) (hprom : promotionsDone s = true)
  (hidle : pitIdle s.pit = true)
include hflush haba hprom hidle

theorem exec_dpQuiesced_quiesce (hleave : s.pwr.leaving = some .quiesce) :
    exec (.dpQuiesced t) s = .next (withBell (fun s => finishOpen (isOp 0x0D05) (fun _ => {}) t (wentDown t s)) s) := by
  refine congrArg Host.Outcome.next ?_
  rw [hleave]
  exact if_neg (by simp [hflush, haba, hprom, hidle])

theorem exec_dpQuiesced_restart (hleave : s.pwr.leaving = some .restart) :
    exec (.dpQuiesced t) s = .next (withBell (fun s => modShift (fun x => { x with resetCause := 4, lastKind := 4 })
      (dpUp .restart (commitOpen (isOp 0x0103) t (wentDown t s)))) s) := by
  refine congrArg Host.Outcome.next ?_
  rw [hleave]
  exact if_neg (by simp [hflush, haba, hprom, hidle])

end
end

/-- What a step under the Bell leaves, but for the Bell and the cages, is what it leaves of the state that it starts in. -/
theorem withBell_frame (f : State → State) (s : State) : ∃ b c b' c', withBell f s =
    { f { s with bell := b, cages := c } with bell := b', cages := c' } := by
  refine ⟨(bellSync s).bell, (bellSync s).cages, (withBell f s).bell, (withBell f s).cages, ?_⟩
  rw [← bellSync_rest s]
  exact bellSync_rest (f (bellSync s))

/-- Settles O45: each command's meaning, and DP's way out of Run by the frames of its parts. -/
theorem shiftCommands : Obligations.ShiftCommands := by
  unfold Obligations.ShiftCommands
  refine fun r t s u => ⟨?status, ?handover, ?handoverRefused, ?ledger, ?clear, ?clearRefused, ?quiesce, ?resumeDrained,
    ?resumeQuiesced, ?reset, ?restart, exec_dpQuiesced_none t, ?quiesced, fun k => exec_dpQuiesced_waits t, ?restarted⟩
  case status => exact fun htakes => takes_ended (k := 0) shiftStatus htakes rfl
  case handover => exact fun htakes h => takes_stays shiftHandover htakes (if_pos h)
  case handoverRefused => exact fun htakes h => takes_ended (k := 0) shiftHandover htakes (if_neg h)
  case ledger =>
    intro htakes hmod hlen
    refine takes_ended (k := 0) ledgerRead htakes (if_neg ?_)
    rintro (h | h)
    · exact h hmod
    · exact Nat.not_lt.mpr hlen h
  case clear => exact fun htakes h => takes_ended (k := 0) ledgerClear htakes (if_neg (not_not_intro h))
  case clearRefused => exact fun htakes h => takes_ended (k := 0) ledgerClear htakes (if_pos h)
  case quiesce =>
    exact fun htakes hflag hdp hleave hret =>
      takes_stays quiesce htakes (quiesce_accepted (r := { r with opcode := 0x0D05 }) t hflag hdp hleave hret)
  case resumeDrained =>
    exact fun htakes hdp hdrained hleave hret => takes_ended (k := 0) resume htakes (resume_drained t hdp hdrained hleave hret)
  case resumeQuiesced =>
    exact fun htakes hdp hcool => ⟨_, takes_stays resume htakes (resume_quiesced t hdp hcool), rfl, rfl, rfl, rfl, rfl, rfl⟩
  case reset =>
    intro htakes hkind hboots
    have hended := takes_ended (k := 0) devReset htakes (devReset_device (r := { r with opcode := 0x0103 }) t hkind hboots)
    exact congrArg (fun s => Host.Outcome.next (resetNow s)) (Host.Outcome.next.inj hended)
  case restart =>
    intro htakes hkind hboots hdp hleave hret hcool hdue
    have hstays := takes_stays devReset htakes
      (devReset_restart (r := { r with opcode := 0x0103 }) t hkind hboots hdp hleave hret hcool)
    refine (congrArg (fun s => Host.Outcome.next (resetNow s)) (Host.Outcome.next.inj hstays)).trans ?_
    exact congrArg Host.Outcome.next (resetNow_notDue (by exact hdue))
  case quiesced =>
    intro hleave hflush haba hprom hidle
    obtain ⟨b, c, b', c', e⟩ := withBell_frame (fun s => finishOpen (isOp 0x0D05) (fun _ => {}) t (wentDown t s)) s
    obtain ⟨c₁, m, e₁, -⟩ := finishOpen_frame (isOp 0x0D05) (fun _ => {}) t (wentDown t { s with bell := b, cages := c })
    refine ⟨_, exec_dpQuiesced_quiesce t hflush haba hprom hidle hleave, ?_⟩
    rw [e, e₁]
    exact wentDown_result t { s with bell := b, cages := c }
  case restarted =>
    intro hleave hflush haba hprom hidle
    obtain ⟨b, c, b', c', e⟩ := withBell_frame (fun s => modShift (fun x => { x with resetCause := 4, lastKind := 4 })
      (dpUp .restart (commitOpen (isOp 0x0103) t (wentDown t s)))) s
    refine ⟨_, exec_dpQuiesced_restart t hflush haba hprom hidle hleave, ?_⟩
    rw [e]
    exact ⟨rfl, rfl, rfl, rfl⟩

end Sys2Proof.Machine
end

section
/-! The boot stages and the return to Run (14 R332 to R335, R339, Table 14.7). -/

namespace Sys2Proof.Machine
open Sys2Proof

/-! The Bell's bookkeeping around a stage. -/

theorem bellSync_shift (s : State) : (bellSync s).shift = s.shift := by
  rw [bellSync_rest]

theorem bellSync_bun (s : State) : (bellSync s).bun = s.bun := by
  rw [bellSync_rest]

theorem withBell_congr {f g : State → State} {s : State} (h : ∀ b c, f { s with bell := b, cages := c } =
    g { s with bell := b, cages := c }) : withBell f s = withBell g s := by
  rw [withBell, withBell, bellSync_rest s, h]

/-- What holds of `f s` whatever the Bell and the cages hold, and does not speak of them, holds after a step under the Bell. -/
theorem withBell_holds {P : State → Prop} {f : State → State} {s : State}
    (hP : ∀ u b c, P u → P { u with bell := b, cages := c }) (hf : ∀ b c, P (f { s with bell := b, cages := c })) :
    P (withBell f s) := by
  obtain ⟨b, c, b', c', e⟩ := withBell_frame f s
  rw [e]
  exact hP _ _ _ (hf b c)

/-! Cores and stage records. -/

theorem coreAt_setCore {s : State} {c d : Nat} (st : CoreState) (hc : c < s.shift.core.length) :
    coreAt (setCore c st s) d = if d = c then st else coreAt s d := by
  have hcore : (setCore c st s).shift.core = upd s.shift.core c (fun _ => st) := by
    unfold setCore
    dsimp only
    split <;> rfl
  rw [coreAt, hcore, getD_upd]
  by_cases hd : d = c
  · rw [if_pos ⟨hd, hc⟩, if_pos hd]
  · rw [if_neg (fun h => hd h.1), if_neg hd, coreAt]

theorem enterStage_shift (k : Nat) (s : State) : (enterStage k s).shift = { s.shift with
    stages := upd s.shift.stages k (fun r => { r with
      result := 3, altered := retryNow s k, attempts := sat32 (r.attempts + 1), failures := sat32 (r.failures + 1) })
    stage := k, ran := s.shift.ran ||| 2 ^ k
    altered := (s.shift.altered ^^^ (s.shift.altered &&& 2 ^ k)) ||| 2 ^ k * b2n (retryNow s k) } := by
  unfold enterStage enterTraining
  split <;> rfl

theorem endStage_shift (k result dur : Nat) (s : State) : (endStage k result dur s).shift = { s.shift with
    stages := upd s.shift.stages k (fun r => { r with
      result := result, duration := dur, failures := if result = 3 then r.failures else r.failures - 1 })
    results := upd s.shift.results k (fun _ => result)
    cause := if result = 3 then setBits s.shift.cause [7] else s.shift.cause } := by
  unfold endStage
  split <;> rfl

theorem stageRec_enterStage {k : Nat} {s : State} (h : k < s.shift.stages.length) :
    stageRec (enterStage k s) k = { stageRec s k with
      result := 3, altered := retryNow s k, attempts := sat32 ((stageRec s k).attempts + 1)
      failures := sat32 ((stageRec s k).failures + 1) } := by
  rw [stageRec, enterStage_shift, getD_upd, if_pos ⟨rfl, h⟩]
  rfl

theorem stageRec_endStage {k result dur : Nat} {s : State} (h : k < s.shift.stages.length) :
    stageRec (endStage k result dur s) k = { stageRec s k with
      result := result, duration := dur
      failures := if result = 3 then (stageRec s k).failures else (stageRec s k).failures - 1 } := by
  rw [stageRec, endStage_shift, getD_upd, if_pos ⟨rfl, h⟩]
  rfl

/-! Which core boots, and what a stage needs. -/

section
variable {s : State} {k : Nat}

theorem atStage_none (h : bootingCore s = none) : atStage k s = false := by
  simp [atStage, h]

theorem exec_bootS7_none {now dur : Nat} (h : bootingCore s = none) : exec (.bootS7 now dur) s = .next s := by
  refine congrArg Host.Outcome.next ?_
  rw [h]

theorem exec_bootS0 {c : Nat} (ok : Bool) (dur : Nat) (hcore : bootingCore s = some c) (hstage : s.shift.stage = 0) :
    exec (.bootS0 ok dur) s = .next (withBell (fun s =>
      if ok then afterS0 (timeNow s) (endStage 0 1 dur s) else s0Failed c (endStage 0 3 dur s)) s) := by
  refine congrArg Host.Outcome.next ?_
  rw [hcore]
  exact if_neg (by simp [hstage])

theorem exec_bootS1_halted {dur : Nat} (hat : atStage 1 s = true) (hfirst : bit s.shift.altered 1 = false) :
    ∃ v, exec (.bootS1 false dur) s = .next v ∧ v.shift.dev = .halted ∧ v.shift.results = upd s.shift.results 1 (fun _ => 3) := by
  refine ⟨_, congrArg Host.Outcome.next (if_neg (by simp [hat])), ?_⟩
  refine withBell_holds (P := fun v => v.shift.dev = .halted ∧ v.shift.results = upd s.shift.results 1 (fun _ => 3))
    (fun _ _ _ h => h) fun b c => ?_
  dsimp only
  rw [hfirst]
  exact ⟨rfl, rfl⟩

/-- S2 leaves pit memory trained, whatever it leads to. -/
theorem exec_bootS2 (bad : List Nat) (dur : Nat) (hat : atStage 2 s = true) : ∃ v, exec (.bootS2 bad 0 dur) s = .next v ∧
    v.pit = trainPit bad 0 (bit s.shift.altered 2) s.pit ∧
    (v.shift.stage = 3 ∨ (v.shift.stage = 7 ∧ v.shift.bootTo = .noPit)) := by
  refine ⟨_, congrArg Host.Outcome.next (if_neg (by simp [hat])), ?_⟩
  refine withBell_holds (P := fun v => v.pit = trainPit bad 0 (bit s.shift.altered 2) s.pit ∧
    (v.shift.stage = 3 ∨ (v.shift.stage = 7 ∧ v.shift.bootTo = .noPit))) (fun _ _ _ h => h) fun b c => ?_
  dsimp only
  split
  · exact ⟨rfl, .inr ⟨rfl, rfl⟩⟩
  · refine ⟨?_, .inl ?_⟩
    · unfold enterStage enterTraining endStage
      rw [if_neg (by decide)]
      dsimp only
      split <;> rfl
    · rw [enterStage_shift]

theorem chans_absentRank (bad : List Nat) (p : Pit) (r : Nat) : (absentRank bad p r).chans = p.chans := by
  unfold absentRank
  split
  · rfl
  · split
    · rfl
    · split <;> rfl

theorem chans_trainPit (bad : List Nat) (full : Nat) (alt : Bool) (p : Pit) : (trainPit bad full alt p).chans =
    p.chans.zipIdx.map (fun c => { c.1 with trained := channelTrained bad c.2, fullTrain := alt || bit full c.2 }) := by
  have hfold : ∀ (l : List Nat) (p : Pit), (l.foldl (absentRank bad) p).chans = p.chans := fun l p =>
    foldl_rel (R := fun p q => q.chans = p.chans) (fun _ => rfl)
      (fun a b c (h : b.chans = a.chans) (h' : c.chans = b.chans) => h'.trans h) (chans_absentRank bad) l p
  unfold trainPit
  dsimp only
  rw [hfold]
  unfold retryRanks
  dsimp only
  split <;> rfl

theorem trained_trainPit {bad : List Nat} {full : Nat} {alt : Bool} {p : Pit} (hk : k < p.chans.length) :
    (chanAt (trainPit bad full alt p) k).trained = channelTrained bad k := by
  rw [chanAt, chans_trainPit, List.getD_eq_getElem?_getD, List.getElem?_map, List.getElem?_zipIdx,
    List.getElem?_eq_getElem hk]
  simp

theorem exec_bootS3_noBundle {ok area : Bool} {dur : Nat} (hat : atStage 3 s = true)
    (h : ok = false ∨ firmwareOk s.shift.flash = false) :
    exec (.bootS3 ok area dur) s = .next (withBell (fun x =>
      skipTo .noBundle (endStage 3 3 dur (readRecords (area && supplyOn x vioM) x))) s) := by
  refine congrArg Host.Outcome.next ((if_neg (by simp [hat])).trans ?_)
  refine withBell_congr fun b c => ?_
  have hflash : ∀ (area : Bool) (x : State), (readRecords area x).shift.flash = x.shift.flash := by
    intro area x
    unfold readRecords
    generalize hs : modShift _ x = y
    have hy : y.shift.flash = x.shift.flash := by rw [← hs]; rfl
    dsimp only
    split <;> exact hy
  have hnone : ∀ x : State, x.shift.flash = s.shift.flash →
      (ok && firmwareOk x.shift.flash && supplyOn x vioM) = false := by
    intro x hx
    rcases h with h | h
    · simp [h]
    · simp [hx, h]
  generalize hx : readRecords _ _ = x
  have hsame : x.shift.flash = s.shift.flash := by rw [← hx, hflash]
  dsimp only
  rw [hnone x hsame, if_neg Bool.false_ne_true]

theorem slotBundle_iff (b : Bundle) :
    let slot := (if bit s.shift.altered 3 = true then 1 - s.shift.slot % 2 else s.shift.slot % 2)
    let raw := s.bun.slots.getD slot []
    slotBundle s = some b ↔
      (slotMatches s.shift.flash slot raw = true ∧ headerOk raw (raw.length - 64) = true ∧ bundleOf raw = .ok b) := by
  intro slot raw
  unfold slotBundle
  dsimp only
  change (if (!slotMatches s.shift.flash slot raw) = true then none
    else if (!headerOk raw (raw.length - 64)) = true then none else _) = some b ↔ _
  cases slotMatches s.shift.flash slot raw with
  | false => simp
  | true =>
    cases headerOk raw (raw.length - 64) with
    | false => simp
    | true => cases bundleOf raw <;> simp

theorem imageMatches_iff (f : Flash) (k : Nat) (image : List Byte) :
    imageMatches f k image = true ↔ f.magic = 0x4F5A4644 ∧ f.version = 1 ∧ image.length = f.lens.getD k 0 ∧
      digest128 image = f.digests.getD k [] := by
  simp only [imageMatches, dirOk, Bool.and_eq_true, decide_eq_true_eq, and_assoc]

theorem exec_bootS5_noBundle {dur : Nat} (hat : atStage 5 s = true) (hsettled : lanesSettled s = true)
    (hoff : s.lanes.lane.all (fun l => !l.rxEnabled) = true) (hcoming : s.bun.coming = none) :
    exec (.bootS5 dur) s = .next (withBell (fun x =>
      enterStage 6 (endStage 5 1 dur { x with shift := { x.shift with s5 := 1 } })) s) := by
  refine congrArg Host.Outcome.next ((if_neg (by simp [hat, hsettled])).trans ?_)
  refine withBell_congr fun b c => ?_
  have hall : s.lanes.lane.all (fun l => !l.rxEnabled || decide (l.rxState = .up)) = true := by
    rw [List.all_eq_true] at hoff ⊢
    exact fun l hl => by rw [hoff l hl]; rfl
  have hresult : lanesResult s.bun.coming { s with bell := b, cages := c } = 1 := by
    unfold lanesResult
    dsimp only
    rw [hcoming]
    dsimp only
    rw [hall]
    rfl
  dsimp only
  rw [hresult]
  rfl

theorem exec_bootS6 {elapsed : Bool} {dur : Nat} (hat : atStage 6 s = true) (h : s.tu.out = .locked ∨ elapsed = true) :
    exec (.bootS6 elapsed dur) s = .next (withBell (fun x =>
      enterStage 7 (endStage 6 (if decide (s.tu.out = .locked) then 1 else 2) dur x)) s) :=
  congrArg Host.Outcome.next (if_neg (by rcases h with h | h <;> simp [hat, h]))

end

/-! S7: the core on shift, and the cages open. -/

theorem fetchOne_frame (n : Nat) (s : State) : ∃ c, fetchOne n s = { s with cages := c } := by
  unfold fetchOne
  dsimp only
  split
  · exact ⟨s.cages, rfl⟩
  · split
    · exact ⟨s.cages, rfl⟩
    · split
      · split
        · exact ⟨s.cages, rfl⟩
        · exact ⟨_, rfl⟩
      · exact ⟨_, rfl⟩

/-- Only the cages differ. -/
def CagesAlone (s u : State) : Prop := ∃ c, u = { s with cages := c }

theorem CagesAlone.refl (s : State) : CagesAlone s s := ⟨s.cages, rfl⟩

theorem CagesAlone.trans (s u v : State) (h₁ : CagesAlone s u) (h₂ : CagesAlone u v) : CagesAlone s v := by
  obtain ⟨c, rfl⟩ := h₁
  obtain ⟨c', rfl⟩ := h₂
  exact ⟨c', rfl⟩

theorem fetchAll_frame (s : State) : CagesAlone s (fetchAll s) :=
  foldl_rel CagesAlone.refl CagesAlone.trans
    (fun s n => foldl_rel CagesAlone.refl CagesAlone.trans (fun s _ => fetchOne_frame n s) _ s) _ s

theorem s7Bundle_noBundle (now : Nat) {s : State} (h : s.shift.bootTo = .noBundle) :
    s7Bundle now s = { s with shift := { s.shift with dev := .noBundle }, bun := { s.bun with coming := none } } := by
  rw [s7Bundle, h]
  rfl

theorem exec_bootS7_noBundle {s : State} {c now dur : Nat} (hcore : bootingCore s = some c) (hc : c < 2)
    (hstage : s.shift.stage = 7) (hto : s.shift.bootTo = .noBundle) (hlen : s.shift.core.length = 2) :
    ∃ v, exec (.bootS7 now dur) s = .next v ∧ v.shift.done = true ∧ v.shift.onShift = c ∧ v.shift.dev = .noBundle ∧
      v.bun.coming = none ∧ coreAt v c = .onShift ∧ v.shift.shiftNo = s.shift.shiftNo + 1 ∧
      (coreAt s (1 - c) = .relinquished → coreAt v (1 - c) = .repair) := by
  refine ⟨withBell (fun s =>
      let s := s7Bundle now (endStage 7 1 dur s)
      let s := devCause [6] (setCore c .onShift s)
      let s := modShift (fun x => { x with done := true, onShift := c, wdtLeft := x.wdtCfg, shiftNo := x.shiftNo + 1 }) s
      let s := if coreAt s (1 - c) = .off ∨ coreAt s (1 - c) = .relinquished then setCore (1 - c) .repair s else s
      fetchAll s) s, ?_, ?_⟩
  · refine congrArg Host.Outcome.next ?_
    rw [hcore]
    exact if_neg (by simp [hstage])
  · refine withBell_holds (P := fun v => v.shift.done = true ∧ v.shift.onShift = c ∧ v.shift.dev = .noBundle ∧
      v.bun.coming = none ∧ coreAt v c = .onShift ∧ v.shift.shiftNo = s.shift.shiftNo + 1 ∧
      (coreAt s (1 - c) = .relinquished → coreAt v (1 - c) = .repair)) (fun _ _ _ h => h) fun b g => ?_
    have hother : 1 - c ≠ c := by omega
    dsimp only
    rw [s7Bundle_noBundle now (by exact hto)]
    generalize hw : modShift _ (devCause [6] (setCore c .onShift _)) = w
    have hserved : w.shift.done = true ∧ w.shift.onShift = c ∧ w.shift.dev = .noBundle ∧ w.bun.coming = none ∧
        w.shift.shiftNo = s.shift.shiftNo + 1 ∧ w.shift.core.length = 2 := by
      rw [← hw]
      exact ⟨rfl, rfl, rfl, rfl, rfl, (length_upd _ _ _).trans hlen⟩
    have hcoreAt : ∀ d, coreAt w d = if d = c then .onShift else coreAt s d := by
      intro d
      rw [← hw]
      exact coreAt_setCore (s := _) .onShift (by exact Nat.lt_of_lt_of_eq hc hlen.symm)
    clear hw
    obtain ⟨hdone, hon, hdev, hcoming, hno, hwlen⟩ := hserved
    have hlt : 1 - c < w.shift.core.length := by omega
    obtain ⟨g', e⟩ := fetchAll_frame
      (if coreAt w (1 - c) = .off ∨ coreAt w (1 - c) = .relinquished then setCore (1 - c) .repair w else w)
    rw [e]
    split
    · refine ⟨hdone, hon, hdev, hcoming, ?_, hno, fun _ => (coreAt_setCore .repair hlt).trans (if_pos rfl)⟩
      refine (coreAt_setCore .repair hlt).trans ?_
      rw [if_neg hother.symm]
      exact (hcoreAt c).trans (if_pos rfl)
    · next hnot =>
      refine ⟨hdone, hon, hdev, hcoming, (hcoreAt c).trans (if_pos rfl), hno, fun hrel => ?_⟩
      exact absurd (.inr (((hcoreAt (1 - c)).trans (if_neg hother)).trans hrel)) hnot

/-! The other ways into and out of the stages. -/

section
variable {s : State}

theorem exec_resetRelease (hheld : s.shift.held ≠ .none) (hvin : supplyOn s vin = true) (hcool : s.pwr.shutOff = false) :
    ∃ v, exec .resetRelease s = .next v ∧ v.shift.held = .none ∧ v.shift.stage = 0 ∧ v.shift.done = false ∧
      v.shift.dev = .booting ∧ v.shift.onShift = 2 ∧ v.shift.boots = sat32 (s.shift.boots + 1) := by
  refine ⟨_, congrArg Host.Outcome.next (if_pos (by simp [released, hheld, hvin, hcool])), ?_⟩
  refine withBell_holds (P := fun v => v.shift.held = .none ∧ v.shift.stage = 0 ∧ v.shift.done = false ∧
    v.shift.dev = .booting ∧ v.shift.onShift = 2 ∧ v.shift.boots = sat32 (s.shift.boots + 1)) (fun _ _ _ h => h) fun b c => ?_
  unfold startBoot
  dsimp only
  rw [enterStage_shift]
  exact ⟨rfl, rfl, rfl, rfl, rfl, rfl⟩

/-- A trigger during the boot starts it again on the other core, which resumes at the stage it fell in. -/
theorem bootTrigger_other {c : Nat} (hother : coreAt s (1 - c) = .off ∨ coreAt s (1 - c) = .ready) (hc : c < 2)
    (hlen : s.shift.core.length = 2) (hresume : s.shift.bootResume = none) :
    (bootTrigger c 4 s).shift.stage = 0 ∧ (bootTrigger c 4 s).shift.bootResume = some s.shift.stage ∧
    coreAt (bootTrigger c 4 s) (1 - c) = .booting := by
  have hne : 1 - c ≠ c := by omega
  have hreason : ∀ x, reasonCause 4 x = x := fun x => if_neg (by decide)
  unfold bootTrigger countRelinquish
  dsimp only
  rw [hreason, hresume]
  generalize hw : modShift _ (setCore c .relinquished _) = w
  have hcore : coreAt w (1 - c) = coreAt s (1 - c) := by
    rw [← hw]
    exact (coreAt_setCore (s := _) .relinquished (by exact Nat.lt_of_lt_of_eq hc hlen.symm)).trans (if_neg hne)
  have hwlen : 1 - c < w.shift.core.length := by
    have : w.shift.core.length = 2 := by rw [← hw]; exact (length_upd _ _ _).trans hlen
    omega
  rw [hcore, if_pos hother.symm, coreAt, enterStage_shift]
  exact ⟨rfl, rfl, (coreAt_setCore (s := modShift _ w) .booting hwlen).trans (if_pos rfl)⟩

theorem retryNow_last (h : bit s.shift.ran 7 = false) : retryNow s 7 = false := by
  simp [retryNow, h]

theorem bit_ran_enterStage (k : Nat) : bit (enterStage k s).shift.ran k = true := by
  rw [enterStage_shift]
  simp [bit]

/-! The return to Run. -/

theorem exec_dpReturnComplete_none (pass : Nat) (bad : List RegionRec) (now : Nat) (h : s.pwr.returning = none) :
    exec (.dpReturnComplete pass bad now) s = .next s := by
  refine congrArg Host.Outcome.next ?_
  rw [h]

section
variable {k : DpMove} (pass : Nat) (bad : List RegionRec) (now : Nat) (hret : s.pwr.returning = some k)
include hret

theorem exec_dpReturnComplete_tests (hstep : s.pwr.retStep = 0) (hsweep : s.tal.sweep.isSome = true) :
    exec (.dpReturnComplete pass bad now) s = .next (modPwr (fun p => { p with retStep := 1 }) (mapAll pass true s)) := by
  have htest : testFrames pass s = modPwr (fun p => { p with retStep := 1 }) (mapAll pass true s) := if_pos hstep
  have hlanes : restartLanes (now % 2 ^ 64) (testFrames pass s) = testFrames pass s := by
    rw [htest]
    exact if_neg (fun h => by simp [show s.tal.sweep = none from h.2] at hsweep)
  refine congrArg Host.Outcome.next ?_
  rw [hret]
  dsimp only
  rw [hlanes, htest]
  exact if_pos (by simp [modPwr])

theorem exec_dpReturnComplete_sweeps (hstep : s.pwr.retStep = 1) (hsweep : s.tal.sweep.isSome = true) :
    exec (.dpReturnComplete pass bad now) s = .next s := by
  have htest : testFrames pass s = s := if_neg (by omega)
  have hlanes : restartLanes (now % 2 ^ 64) s = s := if_neg (fun h => by simp [h.2] at hsweep)
  refine congrArg Host.Outcome.next ?_
  rw [hret]
  dsimp only
  rw [htest, hlanes]
  exact if_pos (by simp [hstep])

section
variable (hstep : s.pwr.retStep = 2)
include hstep

theorem exec_dpReturnComplete_waits (hsettled : lanesSettled s = false) :
    exec (.dpReturnComplete pass bad now) s = .next s := by
  have htest : testFrames pass s = s := if_neg (by omega)
  have hlanes : restartLanes (now % 2 ^ 64) s = s := if_neg (by omega)
  refine congrArg Host.Outcome.next ?_
  rw [hret]
  dsimp only
  rw [htest, hlanes]
  exact if_pos (by simp [hsettled])

theorem exec_dpReturnComplete_ends (hsettled : lanesSettled s = true) :
    ∃ v, exec (.dpReturnComplete pass bad now) s = .next v ∧ v.pwr.returning = none ∧ bit v.pwr.cause 2 = true := by
  have htest : testFrames pass s = s := if_neg (by omega)
  have hlanes : restartLanes (now % 2 ^ 64) s = s := if_neg (by omega)
  refine ⟨withBell (fun s =>
      let old := epochNow s
      let s := finishReturn now (restoreRegion bad now s)
      let s := wndResume (modPwr (fun p => { p with returning := none, cause := setBits p.cause [2] }) s)
      finishOpen (fun o => isOp 0x0D06 o || isOp 0x0103 o || isOp 0x0202 o) (returnReply old s) (now % 2 ^ 64) s) s, ?_, ?_⟩
  · refine congrArg Host.Outcome.next ?_
    rw [hret]
    dsimp only
    rw [htest, hlanes]
    exact if_neg (by simp [hstep, hsettled])
  · refine withBell_holds (P := fun v => v.pwr.returning = none ∧ bit v.pwr.cause 2 = true) (fun _ _ _ h => h) fun b c => ?_
    dsimp only
    generalize hw : wndResume _ = w
    obtain ⟨g, m, e, -⟩ := finishOpen_frame (fun o => isOp 0x0D06 o || isOp 0x0103 o || isOp 0x0202 o)
      (returnReply (epochNow { s with bell := b, cages := c }) w) (now % 2 ^ 64) w
    rw [e, ← hw]
    exact ⟨rfl, bit_setBits_self _ 2⟩

end
end
end

/-! A bundle that the return refuses is held. -/

theorem foldl_bun {α : Type} {g : State → α → State} (hg : ∀ s x, (g s x).bun = s.bun) (l : List α) (s : State) :
    (l.foldl g s).bun = s.bun :=
  foldl_rel (R := fun s u : State => u.bun = s.bun) (fun _ => rfl)
    (fun a b c (h : b.bun = a.bun) (h' : c.bun = b.bun) => h'.trans h) hg l s

theorem reloadAyr_bun (s : State) : (reloadAyr s).bun = s.bun := by
  refine foldl_bun (fun s a => ?_) _ s
  dsimp only
  split
  · rfl
  · split <;> rfl

theorem enterHeld_bun (s : State) : (enterHeld s).bun = s.bun := by
  unfold enterHeld
  dsimp only
  split <;> rfl

theorem restartReadout_bun (s : State) : (restartReadout s).bun = s.bun := by
  unfold restartReadout
  split
  · rfl
  · exact enterHeld_bun _
  · rfl

theorem runStart_bun (s : State) : (runStart s).bun = s.bun := by
  unfold runStart
  dsimp only [modHst]
  exact foldl_bun (fun s u => by rfl) _ _

theorem beginRun_bun {now : Nat} {s : State} (h : s.bun.active = none) : (beginRun now s).bun = s.bun := by
  unfold beginRun
  rw [h]
  dsimp only [modAssay]
  rw [runStart_bun, restartReadout_bun, reloadAyr_bun]
  rfl

theorem serveNoData_holds (now : Nat) {s : State} {b : Bundle} (h : s.bun.active = some b) :
    (serveNoData now s).bun.active = none ∧ (serveNoData now s).shift.dev = .noData := by
  have hheld : (holdBundle s).bun.active = none := by
    rw [holdBundle, h]
  have hsession : ∀ u, (newSession u).bun = u.bun := fun u => rfl
  unfold serveNoData
  dsimp only [modShift]
  rw [hsession, beginRun_bun hheld]
  exact ⟨hheld, rfl⟩

theorem finishReturn_refused {now : Nat} {s : State} {x : Bundle} (hcoming : s.bun.coming = none)
    (hactive : s.bun.active = some x) (hadmit : returnAdmits x (setCount x) s = false) :
    (finishReturn now s).bun.active = none ∧ (finishReturn now s).shift.dev = .noData := by
  have hserve : ∀ k : Nat, bundleToServe { s with shift := { s.shift with s5 := k } } = some (x, setCount x) := by
    intro k
    simp [bundleToServe, hcoming, hactive]
  have hrefused : ∀ k : Nat, returnAdmits x (setCount x) { s with shift := { s.shift with s5 := k } } = false := fun k => hadmit
  unfold finishReturn modShift
  dsimp only
  rw [hserve]
  dsimp only
  rw [hrefused, if_neg Bool.false_ne_true]
  exact serveNoData_holds now rfl

/-- Settles O44: each stage by what it ends with and enters, and the return to Run step by step. -/
theorem bootStages : Obligations.BootStages := by
  unfold Obligations.BootStages
  refine fun s dur t now pass c area bad => ⟨exec_resetRelease, ?keptReleased, ?s0, ?s1, exec_bootS1_halted, ?s2, ?trained,
    fun hat => exec_bootS3_noBundle hat (.inl rfl), fun hat hbad => exec_bootS3_noBundle hat (.inr hbad), slotBundle_iff,
    imageMatches_iff, ?s4, ?s5waits, exec_bootS5_noBundle, ?s6locked, ?s6elapsed, exec_bootS7_noBundle, ?records,
    fun hother hc hlen hresume => bootTrigger_other hother hc hlen hresume, retryNow_last,
    fun k hcore _ => ⟨atStage_none hcore, exec_bootS7_none hcore⟩, ?fields, exec_dpReturnComplete_none pass bad now,
    fun k => exec_dpReturnComplete_tests pass bad now, fun k => exec_dpReturnComplete_sweeps pass bad now,
    fun k => exec_dpReturnComplete_waits pass bad now, fun k => exec_dpReturnComplete_ends pass bad now,
    fun x => finishReturn_refused⟩
  case keptReleased => exact fun h => congrArg Host.Outcome.next (if_neg (by simp [released, h]))
  case s0 =>
    exact fun hcore hstage => ⟨exec_bootS0 true dur hcore hstage, exec_bootS0 false dur hcore hstage⟩
  case s1 => exact fun hat => congrArg Host.Outcome.next (if_neg (by simp [hat]))
  case s2 =>
    intro hat
    obtain ⟨v, e, hpit, hstage⟩ := exec_bootS2 [] dur hat
    refine ⟨v, e, ?_, ?_, ?_, hstage⟩ <;> rw [hpit] <;> rfl
  case trained =>
    intro fails k hat _ hk
    obtain ⟨v, e, hpit, -⟩ := exec_bootS2 fails dur hat
    exact ⟨v, e, by rw [hpit]; exact trained_trainPit hk⟩
  case s4 => exact fun hat => congrArg Host.Outcome.next (if_neg (by simp [hat]))
  case s5waits => exact fun _ hsettled => congrArg Host.Outcome.next (if_pos (by simp [hsettled]))
  case s6locked =>
    intro hat hlocked
    rw [exec_bootS6 hat (.inl hlocked), hlocked]
    rfl
  case s6elapsed =>
    intro hat hlocked
    rw [exec_bootS6 hat (.inr rfl), decide_eq_false hlocked]
    rfl
  case records =>
    intro k hk
    have hentered := stageRec_enterStage hk
    have hk' : k < (enterStage k s).shift.stages.length := by
      rw [enterStage_shift]
      exact Nat.lt_of_lt_of_eq hk (length_upd _ _ _).symm
    rw [stageRec_endStage hk', hentered]
    exact ⟨rfl, rfl, rfl⟩
  case fields => exact ⟨rfl, bit_ran_enterStage 3, rfl, bit_setBits_self _ 7⟩

end Sys2Proof.Machine
end

section
/-! The Winder's start by a write that wakes CTL (15 R356, R367). -/

namespace Sys2Proof.Machine
open Sys2Proof

/-- CTL asleep, and everything else as after reset. -/
def asleep : State := { State.reset with pwr := { State.reset.pwr with ctlSleep := true } }

theorem wakeCtl_asleep : (wakeCtl asleep).pwr.ctlSleep = false := by
  obtain ⟨c, e⟩ := fetchAll_frame (modPwr (fun p => { p with ctlSleep := false }) asleep)
  have hwoken : wakeCtl asleep = fetchAll (modPwr (fun p => { p with ctlSleep := false }) asleep) := if_pos rfl
  rw [hwoken, e]
  rfl

/-- A control word without START is no start: it leaves CTL asleep, and a CTL that is awake as it is. -/
theorem exec_winderStart_noStart (s : State) : exec (.winderStart 0 0) s = .next s :=
  congrArg Host.Outcome.next (if_neg (by decide))

/-- Refutes O47: its first clause says that a START write to a sleeping CTL does what it does after the wake, for every word
written. With the word 0 at channel 0, whose START bit is clear, CTL sleeps on (`asleep`), and after the wake it is awake. -/
theorem not_winderChannel : ¬ Obligations.WinderChannel := by
  unfold Obligations.WinderChannel
  intro h
  obtain ⟨hwake, -⟩ := h.1 asleep 0 0 0 0 default [] true
  obtain ⟨hstart, -⟩ := hwake rfl
  rw [exec_winderStart_noStart, exec_winderStart_noStart] at hstart
  have hsleep : asleep.pwr.ctlSleep = (wakeCtl asleep).pwr.ctlSleep :=
    congrArg (fun s => s.pwr.ctlSleep) (Host.Outcome.next.inj hstart)
  rw [wakeCtl_asleep] at hsleep
  exact Bool.noConfusion hsleep

end Sys2Proof.Machine
end

section
/-! Sleep, the pins, the supplies and the temperature (15 R367, R368, R373; 19 R436, R437, R445). -/

namespace Sys2Proof.Machine
open Sys2Proof

section
variable {s : State}

/-- What wakes CTL fetches from the rings, so it changes the cages and its own sleep alone. -/
theorem wakeCtl_awakes (h : s.pwr.ctlSleep = true) : ∃ c, wakeCtl s = { s with
    pwr := { s.pwr with ctlSleep := false }, cages := c } := by
  obtain ⟨c, e⟩ := fetchAll_frame (modPwr (fun p => { p with ctlSleep := false }) s)
  exact ⟨c, (if_pos h).trans e⟩

theorem bit_maskOf (l : List Nat) (k : Nat) : bit (maskOf l) k = decide (k ∈ l) := by
  induction l with
  | nil => simp [maskOf, bit]
  | cons a l ih => rw [maskOf, bit_or, bit_two_pow, ih]; simp

/-- The level of a pin that the device does not drive. -/
theorem bit_gpioLevels {n : Nat} (hn : n < 18) (hin : 16 ≤ n ∨ bit s.pwr.dir n = false) (hvio : supplyOn s vioG = true) :
    bit (gpioLevels s) n = bit s.pwr.gpioIn n := by
  have hinput : (decide (n < 16) && bit s.pwr.dir n) = false := by
    rcases hin with h | h
    · simp [h]
    · simp [h]
  have hlevel : (if decide (n < 16) && bit s.pwr.dir n then bit s.pwr.out n else bit s.pwr.gpioIn n) =
      bit s.pwr.gpioIn n := if_neg (by simp only [hinput, Bool.false_eq_true, not_false_iff])
  rw [gpioLevels, if_pos hvio, bit_maskOf]
  rw [Bool.eq_iff_iff, decide_eq_true_iff, List.mem_filter, hlevel]
  simp [upTo, hn]

/-- An input that moves to the level away from EDGE's is seen. -/
theorem bit_seen_movePins {n : Nat} {f : Pwr → Pwr} (hn : n < 18) (hbefore : bit (gpioLevels s) n = bit s.pwr.edge n)
    (hafter : bit (gpioLevels (modPwr f s)) n = !bit s.pwr.edge n) (hedge : (f s.pwr).edge = s.pwr.edge) :
    bit (movePins f s).pwr.seen n = true := by
  have hmoved : n ∈ (upTo 18).filter (fun n => bit (gpioLevels s) n != bit (gpioLevels (modPwr f s)) n &&
      bit (gpioLevels (modPwr f s)) n == !(bit (modPwr f s).pwr.edge n)) := by
    rw [List.mem_filter, hbefore, hafter, show (modPwr f s).pwr.edge = s.pwr.edge from hedge]
    simp [upTo, hn]
  rw [show (movePins f s).pwr.seen = setBits (f s.pwr).seen _ from rfl, setBits, bit_or, bit_maskOf, decide_eq_true hmoved,
    Bool.or_true]

/-- Pin `n` of a word of levels, set to `rising`. -/
theorem bit_drive (v n : Nat) (rising : Bool) :
    bit ((v ^^^ (v &&& 2 ^ n)) ||| (if rising then 2 ^ n else 0)) n = rising := by
  have hcleared : bit (v ^^^ (v &&& 2 ^ n)) n = false := by
    rw [bit_xor, bit_and, bit_two_pow]
    simp
  cases rising with
  | true => rw [bit_or, if_pos rfl, bit_two_pow, hcleared]; simp
  | false => rw [bit_or, hcleared]; simp [bit]

theorem foldl_max (l : List Int) (a : Int) : a ≤ l.foldl max a ∧ (∀ x ∈ l, x ≤ l.foldl max a) ∧
    (l.foldl max a = a ∨ l.foldl max a ∈ l) := by
  induction l generalizing a with
  | nil => simp
  | cons b l ih =>
    obtain ⟨hinit, hall, hin⟩ := ih (max a b)
    refine ⟨(le_max_left a b).trans hinit, List.forall_mem_cons.mpr ⟨(le_max_right a b).trans hinit, hall⟩, ?_⟩
    rcases hin with h | h
    · rw [List.foldl_cons, h, List.mem_cons]
      rcases max_choice a b with hmax | hmax
      · exact .inl hmax
      · exact .inr (.inl hmax)
    · exact .inr (List.mem_cons_of_mem b h)

theorem hottest_greatest {l : List Int} (h : l ≠ []) : hottest l ∈ l ∧ ∀ x ∈ l, x ≤ hottest l := by
  obtain ⟨-, hall, hin⟩ := foldl_max l (l.headD 0)
  refine ⟨?_, hall⟩
  rcases hin with heq | hmem
  · rw [hottest, heq, List.headD_eq_head?_getD, List.head?_eq_some_head h]
    exact List.head_mem h
  · exact hmem

/-- Below 125 degrees, nothing that has not shut off shuts off or comes back. -/
theorem shutOff_cool {tj : Int} (hcool : tj < 125) (hon : s.pwr.shutOff = false) : shutOff tj s = s := by
  rw [shutOff, if_neg (by omega), if_neg (by simp [hon])]

theorem warmth_shutOff (tj : Int) : (warmth tj s).pwr.shutOff = s.pwr.shutOff := by
  unfold warmth
  split
  · rfl
  · split <;> rfl

theorem thermalTrip_shutOff : (thermalTrip s).pwr.shutOff = s.pwr.shutOff := by
  unfold thermalTrip
  dsimp only
  split
  · rfl
  · split <;> rfl

theorem warmth_steady {tj : Int} (hlow : 90 ≤ tj) (hhigh : tj < 95) : warmth tj s = s := by
  rw [warmth, if_neg (by omega), if_neg (by omega)]

/-- A sample of the sensors, under 125 degrees. -/
theorem exec_thermalSample {l : List Int} {hot : Bool} (hvaux : supplyOn s vaux = true) (hon : s.pwr.shutOff = false)
    (hcool : hottest l < 125) : exec (.thermalSample l hot) s = .next (withBell (fun x =>
      if 110 ≤ hottest l ∨ hot then thermalTrip (warmth (hottest l)
        { x with pwr := { x.pwr with tj := hottest l, sensors := l } })
      else warmth (hottest l) { x with pwr := { x.pwr with tj := hottest l, sensors := l } }) s) := by
  refine congrArg Host.Outcome.next ((if_neg (by simp [hvaux])).trans (shutOff_cool hcool ?_))
  refine withBell_holds (P := fun u => u.pwr.shutOff = false) (fun _ _ _ h => h) fun b c => ?_
  dsimp only
  split
  · rw [thermalTrip_shutOff, warmth_shutOff]
    exact hon
  · rw [warmth_shutOff]
    exact hon

theorem thermalTrip_leaves (hdp : dpRun s = true) (hret : s.pwr.returning = none) (hleave : s.pwr.leaving = none) :
    thermalTrip s = leaveRun .trip true (pwrCause [6] s) := by
  rw [thermalTrip, if_neg (by
    rw [show dpRun (pwrCause [6] s) = dpRun s from rfl, hdp, show (pwrCause [6] s).pwr.returning = none from hret]
    simp)]
  simp only [show (pwrCause [6] s).pwr.leaving = none from hleave]

/-- Power off is the hard reset, which keeps what tells the cause of the last reset. -/
theorem powerOff_result (h : s.shift.held ≠ .cold) : (powerOff s).shift.held = .hard ∧
    (powerOff s).shift.hardResets = s.shift.hardResets ∧ (powerOff s).shift.resetCause = s.shift.resetCause ∧
    (powerOff s).sys.dp = .off := by
  obtain ⟨b, b', g, g', e, -⟩ := hardReset_frame 1 (modTu restOutputs s)
  rw [powerOff]
  rw [if_neg (show ¬(modTu restOutputs s).shift.held = .cold from h), e]
  exact ⟨rfl, rfl, rfl, rfl⟩

end

/-- Settles O48: the branches of the power commands, with `wakeCtl_awakes`, `bit_seen_movePins`, `exec_thermalSample` and
`powerOff_result` for what the parts that they share do. -/
theorem powerEvents : Obligations.PowerEvents := by
  unfold Obligations.PowerEvents
  intro s agent v ticks n k inPkt rising hot tj l
  refine ⟨fun hshift hkey hmay => ?sleeps, fun hshift hkey hmay => ?holds, fun h => ?refused, fun hhold hmay => ?entry,
    fun h => ?noEntry, fun h => ?wake, fun hcore hbell => ?noWake, fun hawake hhold => ?unhold, fun hasleep => ?awakes,
    rfl, fun h => ?noTimer, fun h => ?runs, fun hset hdue => ?expires, fun hn hvio => ?edge, fun hn hin hvio hlevel hedge => ?seen,
    fun hvio => ?noEdge, fun _ _ hon => ?loses, rfl, powerOff_result, fun h => ?noReturn, fun hvin hoff => ?staysOff,
    fun hvin hoff hheld => ?powerOn, rfl, rfl, fun h => ?vio, ?vioT, fun h => ?vioBack, fun h => ?noSample, hottest_greatest,
    fun hvaux hon hlow hhigh => ?mild, fun hvaux hon hlow hhigh => ?trip, fun hvaux hon hhigh => ?rankTrip,
    fun hwarm hcold => ?warm, fun hot hon => ?shuts, fun hdp hret hleave => ?leaves⟩
  case sleeps =>
    exact congrArg Host.Outcome.next ((if_pos (by simp [hshift, hkey])).trans (if_pos hmay))
  case holds =>
    exact congrArg Host.Outcome.next ((if_pos (by simp [hshift, hkey])).trans (if_neg (by simp [hmay])))
  case refused =>
    refine congrArg Host.Outcome.next (if_neg ?_)
    rcases h with h | h
    · simp [h]
    · simp [h]
  case entry => exact congrArg Host.Outcome.next (if_pos (by simp [hhold, hmay]))
  case noEntry =>
    refine congrArg Host.Outcome.next (if_neg ?_)
    rcases h with h | h
    · simp [h]
    · simp [h]
  case wake =>
    refine congrArg Host.Outcome.next (if_pos ?_)
    rcases h with h | h
    · simp [h]
    · simp [h]
  case noWake => exact congrArg Host.Outcome.next (if_neg (by simp [hcore, hbell]))
  case unhold => exact (if_neg (by simp [hawake])).trans (if_pos hhold)
  case awakes =>
    obtain ⟨c, e⟩ := wakeCtl_awakes hasleep
    rw [e]
    exact ⟨rfl, rfl⟩
  case noTimer => exact congrArg Host.Outcome.next (if_pos h)
  case runs => exact congrArg Host.Outcome.next ((if_neg (by omega)).trans (if_neg (by omega)))
  case expires => exact congrArg Host.Outcome.next ((if_neg hset).trans (if_pos hdue))
  case edge => exact congrArg Host.Outcome.next (if_pos ⟨hn, hvio⟩)
  case seen =>
    refine bit_seen_movePins hn ?_ ?_ rfl
    · rw [bit_gpioLevels hn hin hvio, hlevel, hedge]
    · rw [hedge, Bool.not_not]
      exact Eq.trans (bit_gpioLevels (s := modPwr _ s) hn hin hvio) (bit_drive _ _ _)
  case noEdge => exact congrArg Host.Outcome.next (if_neg (by simp [hvio]))
  case loses =>
    rw [loseSupply, hon]
    rfl
  case noReturn => exact congrArg Host.Outcome.next (if_pos h)
  case staysOff => exact congrArg Host.Outcome.next ((if_neg (by simp [hvin])).trans (if_pos hoff))
  case powerOn =>
    exact congrArg Host.Outcome.next (((if_neg (by simp [hvin])).trans (if_neg (by simp [hoff]))).trans (if_pos hheld))
  case vio =>
    have hother : k ≠ 2 := by omega
    refine congrArg Host.Outcome.next ((if_neg (by omega)).trans ?_)
    simp only [if_neg hother]
  case vioT =>
    refine congrArg Host.Outcome.next ((if_neg (by decide)).trans ?_)
    simp only [if_pos]
    exact congrArg (fun k => withBell (fun x => losePins (loseSupply k x)) s) (rfl : vioM + 2 = vioT)
  case vioBack => exact congrArg Host.Outcome.next (if_neg (by omega))
  case noSample => exact congrArg Host.Outcome.next (if_pos (by simp [h]))
  case mild =>
    rw [exec_thermalSample hvaux hon (by omega)]
    refine congrArg Host.Outcome.next (withBell_congr fun b c => ?_)
    rw [if_neg (by simp; omega), warmth_steady hlow hhigh]
  case trip =>
    rw [exec_thermalSample hvaux hon hhigh]
    exact congrArg Host.Outcome.next (withBell_congr fun b c => if_pos (.inl hlow))
  case rankTrip =>
    rw [exec_thermalSample hvaux hon hhigh]
    exact congrArg Host.Outcome.next (withBell_congr fun b c => if_pos (.inr rfl))
  case warm => exact if_pos ⟨hwarm, by simp [hcold]⟩
  case shuts => exact if_pos ⟨hot, by simp [hon]⟩
  case leaves =>
    rw [thermalTrip_leaves hdp hret hleave]
    exact ⟨bit_setBits_self _ _, rfl, rfl⟩

end Sys2Proof.Machine
end

section
/-! The rings of cages 0 to 3 (16 R377, R378, R385, R386, R389, R393, R396). -/

namespace Sys2Proof.Machine
open Sys2Proof

section
variable {s : State} {n : Nat}

/-! A change of a cage, and the cage read back. -/

theorem modCage_congr {f g : Cage → Cage} (h : f (cageAt s n) = g (cageAt s n)) : modCage n f s = modCage n g s := by
  rw [modCage, modCage, modCages, modCages, upd, upd, modify_congr_getD _ _ _ _ _ h]

theorem cageAt_modCage_self {f : Cage → Cage} (h : n < s.cages.cage.length) : cageAt (modCage n f s) n = f (cageAt s n) := by
  rw [cageAt_modCage, if_pos ⟨rfl, h⟩]

theorem drainOverflow_empty (h : (cageAt s n).overflow = []) : drainOverflow n s = s := by
  rw [drainOverflow, h]
  rfl

theorem fetchCage_empty (h : (cageAt s n).inRing = []) : fetchCage n s = s := by
  rw [fetchCage, h]
  rfl

/-- CTRL's two ring sizes, of which one out of range is discarded and counted. -/
theorem checkSizes (good : Bool) : (if good then s else discardInput s) =
    { s with sys := { s.sys with discarded := s.sys.discarded + b2n (!good) } } := by
  cases good <;> rfl

/-! CTRL. -/

theorem cageCtrlWrite_disables {v : Nat} (hv : bit v 0 = false) : cageCtrlWrite n v s = { s with
    sys := { s.sys with
      discarded := s.sys.discarded + b2n (!(inRange 4 12 (bits v 8 4) && inRange 4 12 (bits v 12 4))) }
    cages := { s.cages with cage := upd s.cages.cage n (fun c => { c with
      reqLog2 := ringLog2 (bits v 8 4) c.reqLog2, cplLog2 := ringLog2 (bits v 12 4) c.cplLog2, enable := false }) } } := by
  rw [cageCtrlWrite, if_neg (by simp [hv]), checkSizes, hv]
  exact modCage_congr rfl

theorem cageCtrlWrite_enables {v : Nat} (hn : n < s.cages.cage.length) (hv : bit v 0 = true)
    (hoff : (cageAt s n).enable = false) (hempty : (cageAt s n).overflow = []) : cageCtrlWrite n v s = { s with
    sys := { s.sys with
      discarded := s.sys.discarded + b2n (!(inRange 4 12 (bits v 8 4) && inRange 4 12 (bits v 12 4))) }
    cages := { s.cages with cage := upd s.cages.cage n (fun c => { c with
      reqLog2 := ringLog2 (bits v 8 4) c.reqLog2, cplLog2 := ringLog2 (bits v 12 4) c.cplLog2, enable := true
      takenReqBase := c.reqBase, takenCplBase := c.cplBase, takenReqLog2 := ringLog2 (bits v 8 4) c.reqLog2
      takenCplLog2 := ringLog2 (bits v 12 4) c.cplLog2, reqTail := 0, reqHead := 0, cplHead := 0, cplTail := 0
      pass := true, ring := [], inRing := [], stalled := false }) } } := by
  rw [cageCtrlWrite, if_pos (by simp [hv, hoff]), checkSizes, drainOverflow_empty]
  · exact modCage_congr rfl
  · exact (congrArg Cage.overflow (cageAt_modCage_self hn)).trans hempty

/-! The doorbell of the request ring. -/

theorem doorbell_outside {tail : Nat} {entries : List Req} {ok : Bool} (h : 2 ^ (cageAt s n).takenReqLog2 ≤ tail) :
    doorbell n tail entries ok s = discardInput s := if_pos h

theorem doorbell_disabled {tail : Nat} {entries : List Req} {ok : Bool} (h : tail < 2 ^ (cageAt s n).takenReqLog2)
    (hoff : (cageAt s n).enable = false) :
    doorbell n tail entries ok s = modCage n (fun c => { c with reqTail := tail }) s :=
  (if_neg (by omega)).trans (if_pos (by simp [hoff]))

/-- What a doorbell writes into its cage: TAIL, and the entries that lie before it. -/
def rung (n tail : Nat) (entries : List Req) (s : State) : State :=
  modCage n (fun c => { c with
    reqTail := tail
    inRing := c.inRing ++ entries.take ((tail + 2 ^ (cageAt s n).takenReqLog2 -
      (cageAt s n).reqTail % 2 ^ (cageAt s n).takenReqLog2) % 2 ^ (cageAt s n).takenReqLog2)
    stalled := false }) s

theorem doorbell_enabled {tail : Nat} {entries : List Req} {ok : Bool} (h : tail < 2 ^ (cageAt s n).takenReqLog2)
    (hon : (cageAt s n).enable = true) : doorbell n tail entries ok s =
      if ok && canSend (rung n tail entries s) then fetchCage n (rung n tail entries s) else
        fetchError n (rung n tail entries s) :=
  (if_neg (by omega)).trans (if_neg (by simp [hon]))

theorem doorbell_failed {tail : Nat} {entries : List Req} {ok : Bool} (h : tail < 2 ^ (cageAt s n).takenReqLog2)
    (hn : n < s.cages.cage.length) (hon : (cageAt s n).enable = true) (hfail : ok = false ∨ canSend s = false) :
    (cageAt (doorbell n tail entries ok s) n).stalled = true ∧ (cageAt (doorbell n tail entries ok s) n).reqTail = tail ∧
      bit (cageAt (doorbell n tail entries ok s) n).cause 3 = true ∧
      (doorbell n tail entries ok s).cages.fetched = s.cages.fetched := by
  have hsend : ¬((ok && canSend (rung n tail entries s)) = true) := by
    rw [show canSend (rung n tail entries s) = canSend s from rfl]
    rcases hfail with h | h
    · simp [h]
    · simp [h]
  have hlen : n < (rung n tail entries s).cages.cage.length := by
    rw [rung, modCage, modCages]
    simpa using hn
  rw [doorbell_enabled h hon, if_neg hsend, fetchError]
  rw [cageAt_modCage_self hlen, rung, cageAt_modCage_self hn]
  exact ⟨rfl, rfl, bit_setBits_self _ _, rfl⟩

/-- Fetching the one entry of a ring. -/
theorem fetchCage_single {r : Req} (hring : (cageAt s n).inRing = [r]) (hon : (cageAt s n).enable = true)
    (hgoes : (cageAt s n).stalled = false) (hsend : canSend s = true) (hopen : cagesOpen s = true) (hroom : hasRoom s n = true) :
    fetchCage n s = modCages (fun g => { g with fetched := g.fetched ++ [{ r with cage := n }] })
      (modCage n (fun c => { c with inRing := [], busy := false, reqHead := (c.reqHead + 1) % 2 ^ c.takenReqLog2 }) s) := by
  rw [fetchCage, hring, List.foldl_cons, List.foldl_nil, fetchOne]
  simp only [hring, hon, hgoes, hsend, hopen, hroom, Bool.not_true, Bool.or_false, Bool.false_eq_true, if_false]

theorem hasRoom_modCage {f : Cage → Cage} (h : (f (cageAt s n)).overflow = (cageAt s n).overflow)
    (hn : n < s.cages.cage.length) : hasRoom (modCage n f s) n = hasRoom s n := by
  rw [hasRoom, cageAt_modCage_self hn, h]
  rfl

theorem doorbell_single {tail : Nat} {r : Req} (h : tail < 2 ^ (cageAt s n).takenReqLog2) (hn : n < s.cages.cage.length)
    (hon : (cageAt s n).enable = true) (hsend : canSend s = true) (hopen : cagesOpen s = true) (hroom : hasRoom s n = true)
    (hring : (cageAt s n).inRing = []) (hold : (cageAt s n).reqTail < 2 ^ (cageAt s n).takenReqLog2)
    (hone : (tail + 2 ^ (cageAt s n).takenReqLog2 - (cageAt s n).reqTail) % 2 ^ (cageAt s n).takenReqLog2 = 1) :
    (doorbell n tail [r] true s).cages.fetched = s.cages.fetched ++ [{ r with cage := n }] ∧
      (cageAt (doorbell n tail [r] true s) n).inRing = [] ∧
      (cageAt (doorbell n tail [r] true s) n).reqHead = ((cageAt s n).reqHead + 1) % 2 ^ (cageAt s n).takenReqLog2 := by
  have hself : cageAt (rung n tail [r] s) n = { cageAt s n with reqTail := tail, inRing := [r], stalled := false } := by
    rw [rung, cageAt_modCage_self hn, hring, Nat.mod_eq_of_lt hold, hone]
    rfl
  have hlen : n < (rung n tail [r] s).cages.cage.length := by
    rw [rung, modCage, modCages]
    simpa using hn
  have hfetch := fetchCage_single (s := rung n tail [r] s) (n := n) (r := r) (by rw [hself]) (by rw [hself]; exact hon)
    (by rw [hself]) hsend hopen ((hasRoom_modCage rfl hn).trans hroom)
  rw [doorbell_enabled h hon, if_pos (show (true && canSend (rung n tail [r] s)) = true from hsend), hfetch]
  refine ⟨rfl, ?_⟩
  have hread := cageAt_modCage_self (f := fun c => { c with
    inRing := [], busy := false, reqHead := (c.reqHead + 1) % 2 ^ c.takenReqLog2 }) hlen
  rw [hself] at hread
  exact ⟨congrArg Cage.inRing hread, congrArg Cage.reqHead hread⟩

/-! The completion ring. -/

theorem countOne_frame (c : Cage) : ∃ k u b o, countOne c =
    { c with cause := k, unsignalled := u, timerOn := b, overSignalled := o } ∧ (bit c.cause 1 = true → bit k 1 = true) := by
  unfold countOne
  dsimp only
  split
  · exact ⟨_, _, _, _, rfl, fun h => by
      show bit (c.cause ||| _) 1 = true
      rw [bit_or, h, Bool.true_or]⟩
  · exact ⟨_, _, _, _, rfl, id⟩

theorem postTo_ring {e : Completion} (he : e.cage ≤ 3) (hlen : s.cages.cage.length = 8) (hempty : (cageAt s e.cage).overflow = [])
    (hwrite : canWrite s e.cage = true) :
    (cageAt (postTo e s) e.cage).ring = (cageAt s e.cage).ring.filter (fun x => decide (x.1 ≠ (cageAt s e.cage).cplTail)) ++
        [((cageAt s e.cage).cplTail, { e with phase := (cageAt s e.cage).pass })] ∧
      (cageAt (postTo e s) e.cage).cplTail = ((cageAt s e.cage).cplTail + 1) % 2 ^ (cageAt s e.cage).takenCplLog2 ∧
      (cageAt (postTo e s) e.cage).overflow = [] := by
  obtain ⟨k, u, b, o, hcount, -⟩ := countOne_frame (writeEntry e (cageAt s e.cage))
  rw [postTo, if_pos he, if_pos (by simp [hempty, hwrite]), cageAt_modCage_self (by omega), hcount]
  exact ⟨rfl, rfl, hempty⟩

theorem postTo_overflow {e : Completion} (he : e.cage ≤ 3) (hlen : s.cages.cage.length = 8)
    (hfull : canWrite s e.cage = false) :
    (cageAt (postTo e s) e.cage).ring = (cageAt s e.cage).ring ∧ (cageAt (postTo e s) e.cage).overflow =
        (cageAt s e.cage).overflow ++ [{ e with overflow := true }] ∧ bit (cageAt (postTo e s) e.cage).cause 1 = true := by
  obtain ⟨k, u, b, o, hcount, hcause⟩ := countOne_frame { cageAt s e.cage with
    overflow := (cageAt s e.cage).overflow ++ [{ e with overflow := true }], cause := setBits (cageAt s e.cage).cause [1] }
  rw [postTo, if_pos he, if_neg (by simp [hfull]), cageAt_modCage_self (by omega), hcount]
  exact ⟨rfl, rfl, hcause (bit_setBits_self _ _)⟩

theorem cplHeadWrite_inside {head : Nat} (h : head < 2 ^ (cageAt s n).takenCplLog2) (hn : n < s.cages.cage.length)
    (hempty : (cageAt s n).overflow = []) (hring : (cageAt s n).inRing = []) :
    cplHeadWrite n head s = modCage n (fun c => { c with cplHead := head }) s := by
  rw [cplHeadWrite, if_neg (by omega), drainOverflow_empty, fetchCage_empty]
  · exact (congrArg Cage.inRing (cageAt_modCage_self hn)).trans hring
  · exact (congrArg Cage.overflow (cageAt_modCage_self hn)).trans hempty

theorem postNext_posts {client : Nat} {e : Completion}
    (h : s.cages.ready.find? (fun c => decide (c.client = client) && mayPost s c) = some e) :
    postNext client s = fetchAll (postTo e (modCages (fun g => { g with ready := g.ready.erase e }) s)) := by
  simp only [postNext, h]

/-! Taking a request. -/

theorem takeRequest_none {t : Nat} (h : s.cages.fetched = []) : takeRequest t s = s := by
  simp only [takeRequest, h]
  rfl

theorem takeRequest_first {r : Req} {rest : List Req} {t : Nat} (h : s.cages.fetched = r :: rest) (hmay : mayTake s 0 = true) :
    takeRequest t s = runNow r.opcode (meaningOf r.opcode) r t (modCages (fun g => { g with fetched := rest }) s) := by
  have hfirst : (upTo s.cages.fetched.length).find? (mayTake s) = some 0 := by
    rw [h, upTo, List.length_cons, List.range_succ_eq_map]
    exact List.find?_cons_of_pos hmay
  have hrest : modCages (fun g => { g with fetched := g.fetched.eraseIdx 0 }) s =
      modCages (fun g => { g with fetched := rest }) s := by
    rw [modCages, h]
    rfl
  simp only [takeRequest, hfirst, hrest]
  rw [h]
  rfl

end

/-- Settles O50: the branches of the cage commands, with a lemma for what each does to its cage. -/
theorem cageRings : Obligations.CageRings := by
  unfold Obligations.CageRings
  intro s n v tail head client t entries ok e r rest
  refine ⟨fun hn hv => ?enable, fun hn hv => ?disable, fun hn hv => ?enableNot, fun hn hv => ?disableNot, fun hn => ?noCage,
    cageCtrlWrite_enables, fun _ hv => cageCtrlWrite_disables hv, fun hn => ?bell, doorbell_outside, fun hn => ?noRing,
    fun h hoff => doorbell_disabled h hoff, doorbell_failed, fun h hn hlen hon hsend hopen hroom hring hold hone => ?single,
    fun hn => ?head, cplHeadWrite_inside, fun h => ?headOutside, fun h => ?posts, fun h => ?noFirmware, fun h => ?noReset,
    postNext_posts, postTo_ring, postTo_overflow, fun hn h => ?signals, fun h => ?noTimer, fun h => ?takes, fun h => ?shut,
    takeRequest_none, takeRequest_first⟩
  case enable => exact congrArg Host.Outcome.next (if_pos ⟨hn, hv⟩)
  case disable => exact congrArg Host.Outcome.next (if_pos ⟨hn, by simp [hv]⟩)
  case enableNot => exact congrArg Host.Outcome.next (if_neg (by simp [hv]))
  case disableNot => exact congrArg Host.Outcome.next (if_neg (by simp [hv]))
  case noCage => exact ⟨congrArg Host.Outcome.next (if_neg (by omega)), congrArg Host.Outcome.next (if_neg (by omega))⟩
  case bell => exact congrArg Host.Outcome.next (if_pos hn)
  case noRing => exact ⟨congrArg Host.Outcome.next (if_neg (by omega)), congrArg Host.Outcome.next (if_neg (by omega))⟩
  case single => exact doorbell_single h (by omega) hon hsend hopen hroom hring hold hone
  case head => exact congrArg Host.Outcome.next (if_pos hn)
  case headOutside => exact if_pos h
  case posts => exact congrArg Host.Outcome.next (if_pos h)
  case noFirmware => exact congrArg Host.Outcome.next (if_neg (by simp [h]))
  case noReset => exact if_neg (by simp [h])
  case signals => exact congrArg Host.Outcome.next (if_pos ⟨hn, h⟩)
  case noTimer => exact congrArg Host.Outcome.next (if_neg (by simp [h]))
  case takes => exact congrArg Host.Outcome.next (if_pos h)
  case shut => exact congrArg Host.Outcome.next (if_neg (by simp [h]))

end Sys2Proof.Machine
end

section
/-! The Ethernet and SMBus cages, the host link and the management ports (16 R380 to R382, R395, R396; 19 R438). -/

namespace Sys2Proof.Machine
open Sys2Proof

section
variable {s : State} {port t : Nat} {frame : List Byte}

/-! Datagrams (R380, R381). -/

theorem datagramReq_none (h : udpDatagram (ipv4 s) frame = none) : datagramReq s port frame = none := by
  simp only [datagramReq, h]

theorem datagramReq_of {src sport dport : Nat} {b : List Byte} (h : udpDatagram (ipv4 s) frame = some (src, sport, dport, b)) :
    datagramReq s port frame = if (dport = 20314 ∨ dport = 20315) ∧ 64 ≤ b.length then
      some { reqOfBytes (dport - 20310) (b.take 64) (b.drop 64) with
        badLen := decide (u32 b 16 ≠ b.length - 64), origin := (port % 2, src, sport) } else none := by
  simp only [datagramReq, h]

theorem datagramReq_cage {r : Req} (h : datagramReq s port frame = some r) : r.cage = 4 ∨ r.cage = 5 := by
  cases hudp : udpDatagram (ipv4 s) frame with
  | none =>
    rw [datagramReq_none hudp] at h
    simp at h
  | some d =>
    obtain ⟨src, sport, dport, b⟩ := d
    rw [datagramReq_of hudp] at h
    split at h
    · next hport =>
      obtain rfl := Option.some.inj h
      rcases hport.1 with rfl | rfl
      · exact .inl rfl
      · exact .inr rfl
    · simp at h

theorem exec_udpRequest_some {r : Req} (hup : cagesUp s = true) (h : datagramReq s port frame = some r) :
    exec (.udpRequest port frame t) s = .next (takeDatagram r t s) := by
  rw [show exec (.udpRequest port frame t) s = execUdpRequest port frame t s from rfl, execUdpRequest]
  simp only [hup, if_pos, h]

theorem exec_udpRequest_none (h : cagesUp s = false ∨ datagramReq s port frame = none) :
    exec (.udpRequest port frame t) s = .next s := by
  have hnone : (if cagesUp s then datagramReq s port frame else none) = none := by
    rcases h with h | h
    · simp [h]
    · simp [h]
  rw [show exec (.udpRequest port frame t) s = execUdpRequest port frame t s from rfl, execUdpRequest]
  simp only [hnone]

/-- A datagram's request whose argument keeps the length bound is taken as it came. -/
theorem badLen_kept {r : Req} (h : r.arg.length ≤ 1408) :
    { r with badLen := r.badLen || decide (1408 < r.arg.length) } = r := by
  rw [decide_eq_false (by omega), Bool.or_false]

section
variable {r : Req} (hlen : r.arg.length ≤ 1408)
include hlen

theorem takeDatagram_whole (hpart : r.part = false) (hnone : assemblyOf (cageAt s r.cage) r = none) :
    takeDatagram r t s = arrive r t s := by
  rw [takeDatagram, badLen_kept hlen]
  simp only [hpart, hnone]

theorem takeDatagram_firstPart (hpart : r.part = true) (hnone : assemblyOf (cageAt s r.cage) r = none) :
    takeDatagram r t s = if r.argAddr = 0 then holdPart r [] t s else partOutOfOrder r t s := by
  rw [takeDatagram, badLen_kept hlen]
  simp only [hpart, hnone]

theorem takeDatagram_nextPart {a : Assembly} (hpart : r.part = true) (hsome : assemblyOf (cageAt s r.cage) r = some a) :
    takeDatagram r t s = if r.argAddr = a.bytes.length then holdPart r a.bytes t s else partOutOfOrder r t s := by
  rw [takeDatagram, badLen_kept hlen]
  simp only [hpart, hsome]

theorem takeDatagram_lastPart {a : Assembly} (hpart : r.part = false) (hsome : assemblyOf (cageAt s r.cage) r = some a) :
    takeDatagram r t s = if r.argAddr = a.bytes.length then
        arrive { r with arg := a.bytes ++ r.arg } t (dropAssembly r.cage r.client r.tag s)
      else partOutOfOrder r t s := by
  rw [takeDatagram, badLen_kept hlen]
  simp only [hpart, hsome]

end

theorem smbusReq_short {bytes : List Byte} (h : (smbusReq bytes).badLen = false) : (smbusReq bytes).arg.length ≤ 128 := by
  have hboth : (decide (u32 bytes 16 ≠ bytes.length - 64) || decide (128 < bytes.length - 64)) = false := h
  rw [Bool.or_eq_false_iff, decide_eq_false_iff_not, decide_eq_false_iff_not] at hboth
  rw [show (smbusReq bytes).arg = bytes.drop 64 from rfl, List.length_drop]
  omega

/-! The management ports (R396). -/

theorem exec_managementFrame_arp {out : List Byte} (hup : released s = true) (hport : port < 2)
    (harp : arpReply (Config.mac port % 2 ^ 48) (ipv4 s) frame = some out) :
    exec (.managementFrame port frame) s = .next { s with cages := { s.cages with mgmtOut := some (port, out) } } := by
  rw [show exec (.managementFrame port frame) s = execManagementFrame port frame s from rfl, execManagementFrame]
  simp only [Nat.mod_eq_of_lt hport, harp, hup, Bool.not_true, Bool.false_eq_true, if_false, Option.orElse]
  rfl

theorem exec_managementFrame_forwards (hup : released s = true) (hport : port < 2)
    (harp : arpReply (Config.mac port % 2 ^ 48) (ipv4 s) frame = none)
    (hecho : echoReply (Config.mac port % 2 ^ 48) (ipv4 s) frame = none) (hmac : beAt frame 0 6 ≠ Config.mac port % 2 ^ 48) :
    exec (.managementFrame port frame) s = .next { s with cages := { s.cages with mgmtOut := some (1 - port, frame) } } := by
  rw [show exec (.managementFrame port frame) s = execManagementFrame port frame s from rfl, execManagementFrame]
  simp only [Nat.mod_eq_of_lt hport, harp, hecho, hup, hmac, Bool.not_true, Bool.false_eq_true, if_false, Option.orElse]
  rfl

end

/-- Settles O51: the branches of the cage events, with `datagramReq_of` and the `takeDatagram` lemmas for the datagrams. -/
theorem otherCages : Obligations.OtherCages := by
  unfold Obligations.OtherCages
  intro s r a b n client tag t port frame out bytes pec
  refine ⟨exec_udpRequest_none, fun hup h => ⟨exec_udpRequest_some hup h, datagramReq_cage h⟩,
    fun src sport dport hudp hlen => ?request, takeDatagram_whole, fun hlen hpart hnone hoff => ?outOfOrder,
    fun hlen hpart hnone hoff => ?first, fun hlen => takeDatagram_nextPart hlen,
    fun hlen => takeDatagram_lastPart hlen, fun h => ?room,
    fun hroom hcage => ?busy, rfl, fun hup hvio hlen => ?smbus, fun h => ?noSmbus, fun h => ?badPec,
    ⟨rfl, rfl, smbusReq_short⟩, fun hup hvio => ?read, fun h => ?noRead, rfl, fun h => ?sleeps, fun h => ?noLink,
    fun h => ?wakes, rfl, fun h => ?linkUp, fun h => ?noEndpoint, fun h => ?notBack, rfl, rfl, fun h => ?notReleased,
    exec_managementFrame_arp, exec_managementFrame_forwards⟩
  case request =>
    refine ⟨?_, ?_, ?_⟩
    · rintro rfl
      exact ⟨_, (datagramReq_of hudp).trans (if_pos ⟨.inl rfl, hlen⟩), rfl, rfl, rfl, rfl, rfl⟩
    · rintro rfl
      exact ⟨_, (datagramReq_of hudp).trans (if_pos ⟨.inr rfl, hlen⟩), rfl⟩
    · intro hrequest hpeer
      exact (datagramReq_of hudp).trans (if_neg (by simp [hrequest, hpeer]))
  case outOfOrder => exact (takeDatagram_firstPart hlen hpart hnone).trans (if_neg hoff)
  case first => exact (takeDatagram_firstPart hlen hpart hnone).trans (if_pos hoff)
  case room => exact if_pos h
  case busy =>
    refine (if_neg (by simp [hroom])).trans ?_
    exact if_neg hcage
  case smbus =>
    have hlong : ¬bytes.length < 64 := by omega
    refine ⟨congrArg Host.Outcome.next (if_neg ?_), fun hpec => congrArg Host.Outcome.next (if_neg ?_)⟩
    · simp [hlong, hup, hvio]
    · simp [hlong, hup, hvio, hpec]
  case noSmbus =>
    refine ⟨congrArg Host.Outcome.next (if_pos ?_), congrArg Host.Outcome.next (if_pos ?_)⟩
    all_goals rcases h with h | h | h <;> simp [h]
  case badPec => exact congrArg Host.Outcome.next (if_pos (.inr (.inl h)))
  case read => exact congrArg Host.Outcome.next (if_neg (by simp [hup, hvio]))
  case noRead => exact congrArg Host.Outcome.next (if_pos (by simpa using h))
  case sleeps => exact congrArg Host.Outcome.next (if_pos h)
  case noLink =>
    exact ⟨congrArg Host.Outcome.next (if_neg (by simp [h])), congrArg Host.Outcome.next (if_neg (by simp [h]))⟩
  case wakes => exact congrArg Host.Outcome.next (if_pos h)
  case linkUp => exact congrArg Host.Outcome.next (if_pos h)
  case noEndpoint => exact congrArg Host.Outcome.next (if_neg (by simp [h]))
  case notBack => exact if_pos (by simp [h])
  case notReleased => exact congrArg Host.Outcome.next (if_pos (by simp [h]))

end Sys2Proof.Machine
end

section
/-! The commands that answer about the device, ABORT, and bundles (16 R391, R392, R401, R402; Tables 16.9, 16.10). -/

namespace Sys2Proof.Machine
open Sys2Proof

/-! Fields of an answer, read back. -/

/-- A write leaves every byte before its place. -/
theorem slice_overlay_before {base b : List Byte} {i n off : Nat} (h : i + n ≤ off) (hoff : off ≤ base.length) :
    ((overlay base off b).drop i).take n = (base.drop i).take n := by
  have hprefix : (overlay base off b).take off = base.take off := by
    rw [overlay, List.append_assoc, List.take_left' (by simp [hoff])]
  rw [List.take_drop, List.take_drop, ← Nat.min_eq_left h, ← List.take_take, hprefix, List.take_take]

theorem leBytes_mod (n v : Nat) : leBytes n (v % 256 ^ n) = leBytes n v := by
  induction n generalizing v with
  | zero => rfl
  | succ n ih =>
    have hhead : BitVec.ofNat 8 (v % 256 ^ (n + 1)) = BitVec.ofNat 8 v := by
      apply BitVec.eq_of_toNat_eq
      rw [BitVec.toNat_ofNat, BitVec.toNat_ofNat]
      exact Nat.mod_mod_of_dvd v (Dvd.intro_left (256 ^ n) rfl)
    rw [leBytes, leBytes, hhead, Nat.pow_succ, Nat.mul_comm, Nat.mod_mul_right_div_self, ih]

/-- A value that stands little-endian in a field, up to the field's size. -/
theorem leAt_of_slice {a : List Byte} {i n v : Nat} (h : (a.drop i).take n = leBytes n v) : leAt a i n = v % 256 ^ n := by
  have hsplit : a.drop i = leBytes n (v % 256 ^ n) ++ (a.drop i).drop n := by
    rw [leBytes_mod, ← h, List.take_append_drop]
  rw [show leAt a i n = leAt (a.drop i) 0 n from (leAt_drop a i 0 n).symm, hsplit,
    leAt_leBytes_append (Nat.mod_lt _ (Nat.pow_pos (by decide)))]

/-- The places of CONFIG_DIGEST's answer: a digest at 0 and 18, an epoch at 16 and 34, and a byte at 36. -/
def digestFields (da : List Byte) (ea : Nat) (ds : List Byte) (es k : Nat) : List Byte :=
  fields [(24, da), (40, leBytes 2 ea), (42, ds), (58, leBytes 2 es), (60, leBytes 1 k)]

theorem digestFields_active {da ds : List Byte} {ea es k : Nat} (h : da.length = 16) :
    (digestFields da ea ds es k).take 16 = da ∧ u16 (digestFields da ea ds es k) 16 = ea % 65536 := by
  unfold digestFields fields
  dsimp only [List.foldl]
  constructor
  · rw [← List.drop_zero (l := overlay _ _ _)]
    iterate 4 rw [slice_overlay_before (by decide) (by simp)]
    have hsame := slice_overlay_same (base := List.replicate 40 0) (off := 24 - 24) (b := da) (by simp [h])
    rwa [h] at hsame
  · refine leAt_of_slice ?_
    iterate 3 rw [slice_overlay_before (by decide) (by simp)]
    have hsame := slice_overlay_same (base := overlay (List.replicate 40 0) (24 - 24) da) (off := 40 - 24) (b := leBytes 2 ea)
      (by simp [length_leBytes])
    rwa [length_leBytes] at hsame

theorem digestFields_staged {da ds : List Byte} {ea es k : Nat} (h : ds.length = 16) :
    ((digestFields da ea ds es k).drop 18).take 16 = ds ∧ u16 (digestFields da ea ds es k) 34 = es % 65536 := by
  unfold digestFields fields
  dsimp only [List.foldl]
  constructor
  · iterate 2 rw [slice_overlay_before (by decide) (by simp)]
    have hsame := slice_overlay_same (base := overlay (overlay (List.replicate 40 0) (24 - 24) da) (40 - 24) (leBytes 2 ea))
      (off := 42 - 24) (b := ds) (by simp [h])
    rwa [h] at hsame
  · refine leAt_of_slice ?_
    rw [slice_overlay_before (by decide) (by simp)]
    have hsame := slice_overlay_same (base := overlay (overlay (overlay (List.replicate 40 0) (24 - 24) da) (40 - 24)
      (leBytes 2 ea)) (42 - 24) ds) (off := 58 - 24) (b := leBytes 2 es) (by simp [length_leBytes])
    rwa [length_leBytes] at hsame

/-! What the commands that answer mean. -/

section
variable {r : Req} (t : Nat) {s : State}

theorem configDigest_fields : ∃ da ea ds es k, configDigest r t s = answer s (digestFields da ea ds es k) ∧
    (∀ b, s.bun.active = some b → da = b.digest ∧ ea = b.epoch) ∧
    (∀ b, s.bun.staged = some b → ds = b.digest ∧ es = b.epoch) := by
  refine ⟨_, _, _, _, _, rfl, fun b h => ?_, fun b h => ?_⟩
  · rw [h]
    exact ⟨rfl, rfl⟩
  · rw [h]
    exact ⟨rfl, rfl⟩

theorem arrayLayout_active {b : Bundle} (h : s.bun.active = some b) : arrayLayout r t s = answer s
    (fields [(24, leBytes 1 b.mode.code), (25, leBytes 1 (activeGroups b).length), (26, leBytes 2 b.channels),
      (28, leBytes 2 (inputsOf b)), (30, leBytes 2 b.intake), (32, leBytes 4 b.groups), (36, leBytes 8 b.specPeriod),
      (44, leBytes 6 b.t0Sec), (50, leBytes 4 b.t0Ns), (54, leBytes 2 b.t0Frac), (56, leBytes 2 b.source),
      (60, leBytes 4 (if b.mode = .x4 then b.pGroups else 0))]) := by
  simp only [arrayLayout, h]

theorem arrayLayout_none (h : s.bun.active = none) : arrayLayout r t s = notInState s := by
  simp only [arrayLayout, h]

theorem inRange_iff (lo hi v : Nat) : inRange lo hi v = true ↔ lo ≤ v ∧ v ≤ hi := by
  rw [inRange, Bool.and_eq_true, decide_eq_true_iff, decide_eq_true_iff]

/-- FRAME_BUDGET of a configuration that the request describes. -/
theorem frameBudget_described {pairs : Nat} (h24 : b8 r 24 ≤ 2) (hg : 1 ≤ b8 r 25) (hg' : b8 r 25 ≤ 32) (hq : b8 r 27 ≤ 16)
    (hbw : 1 ≤ b32 r 28) (hbw' : b32 r 28 ≤ 62500000) (hc : 1 ≤ b16 r 32) (hc' : b16 r 32 ≤ 4096)
    (hp : b8 r 24 = 2 → b8 r 34 + b8 r 35 = b8 r 25)
    (hpairs : (if b8 r 24 = 2 then b8 r 34 * b8 r 35 else b8 r 25 * (b8 r 25 + 1) / 2) = pairs) :
    frameBudget r t s = answer s (budgetReply pairs (b8 r 25) (b8 r 26) (b8 r 27) (128 * (80000000000 / b32 r 28)) (b16 r 32)
      (frameCount s)) := by
  have hin : inRange 1 32 (b8 r 25) = true := (inRange_iff _ _ _).mpr ⟨hg, hg'⟩
  have hbwin : inRange 1 62500000 (b32 r 28) = true := (inRange_iff _ _ _).mpr ⟨hbw, hbw'⟩
  have hcin : inRange 1 4096 (b16 r 32) = true := (inRange_iff _ _ _).mpr ⟨hc, hc'⟩
  rw [← hpairs]
  refine (if_neg (by omega)).trans (if_neg ?_)
  rw [hin, hbwin, hcin]
  simp only [Bool.not_true, Bool.false_eq_true, false_or]
  omega

theorem frameBudget_running {b : Bundle} (h3 : b8 r 24 = 3) (h : s.bun.active = some b) : frameBudget r t s = answer s
    (budgetReply (pairsOf b).length (activeGroups b).length (setsNow s) ((s.beams.prompt.map (·.channels.length)).getD 0) (kPrime b)
      b.channels (frameCount s)) := by
  rw [frameBudget, if_pos h3]
  simp only [h]

theorem frameBudget_bad (h : 3 < b8 r 24 ∨ (b8 r 24 < 3 ∧ 32 < b8 r 25)) : frameBudget r t s = badRange s := by
  refine (if_neg (by omega)).trans (if_pos ?_)
  rcases h with h | ⟨-, h⟩
  · exact .inl h
  · exact .inr (.inl (by simp [inRange, h]))

/-! ABORT. -/

section
variable {o : OpenCmd} (hfind : s.cages.openCmds.find? (fun x => x.req.client == r.client && x.req.tag == b16 r 24) = some o)
include hfind

theorem abort_open (hphase : o.phase ≠ .committed) : abort r t s = answer (endAborted o.req (jobSide o s) t
    (modCages (fun g => { g with
      openCmds := g.openCmds.filter (fun x => !(x.req.client == r.client && x.req.tag == b16 r 24)) }) (undo o s)))
    (fields [(24, leBytes 1 stAborted)]) := by
  simp only [abort, hfind, if_neg hphase]

theorem abort_committed (hphase : o.phase = .committed) :
    abort r t s = { st := s, reply := { status := stAlready, result := fields [(24, leBytes 1 stOk)] } } := by
  simp only [abort, hfind, if_pos hphase]

end

section
variable (hopen : s.cages.openCmds.find? (fun x => x.req.client == r.client && x.req.tag == b16 r 24) = none)
include hopen

theorem abort_unknown (hplace : ((placeOf s r.client).getD {}).entries.find? (fun e => e.tag == b16 r 24) = none)
    (hring : s.cages.fetched.find? (isTarget r.client (b16 r 24)) = none) : abort r t s = refuse s stBadArg 6 := by
  simp only [abort, hopen, hplace, hring]

theorem abort_done {e : CacheEntry} {c : Completion}
    (hplace : ((placeOf s r.client).getD {}).entries.find? (fun e => e.tag == b16 r 24) = some e) (hdone : e.done = some c)
    (hop : c.opcode ≠ 0x0104) :
    abort r t s = { st := s, reply := { status := stAlready, result := fields [(24, leBytes 1 c.status)] } } := by
  simp only [abort, hopen, hplace, hdone, if_neg hop]

end

/-! BUNDLE_LOAD. -/

section
variable (hup : stagingUp s = true) (h29 : b8 r 29 = 0)
include hup h29

/-- A segment without the flag that ends the bundle is kept. -/
theorem bundleLoad_segment (h28 : b8 r 28 < 2)
    (hoffset : b32 r 24 = (if bit (b8 r 28) 0 then 0 else s.bun.staging.length)) :
    bundleLoad r t s = answer { s with bun := { s.bun with
        staging := heldWith r s, staged := if bit (b8 r 28) 0 then none else s.bun.staged } }
      (fields [(24, leBytes 4 (heldWith r s).length)]) := by
  have hflag : bit (b8 r 28) 2 = false := Nat.testBit_lt_two_pow (by omega)
  have hlast : bit (b8 r 28) 1 = false := Nat.testBit_lt_two_pow (by omega)
  exact (if_neg (by simp [hup])).trans ((if_neg (by simp [h29]; omega)).trans ((if_neg (by simp [hflag])).trans
    ((if_neg (by simp [hflag])).trans ((if_neg (by simp [hoffset])).trans (if_pos (by simp [hlast]))))))

theorem bundleLoad_whole (h28 : b8 r 28 = 2) (hoffset : b32 r 24 = s.bun.staging.length)
    (hheader : headerOk (heldWith r s) ((heldWith r s).length - 64) = true) (hjobs : s.hst.jobs.length < 9) :
    bundleLoad r t s = {
      st := modHst (fun h => { h with jobs := h.jobs ++
        [{ client := r.client, tag := r.tag, use := 0, input := heldWith r s, limit := headerBytes (heldWith r s)
           expect := headerBytes (heldWith r s) }] }) s
      stay := some .accepted } := by
  have hfirst : bit (b8 r 28) 0 = false := by rw [h28]; rfl
  have hlast : bit (b8 r 28) 1 = true := by rw [h28]; rfl
  have hflag : bit (b8 r 28) 2 = false := by rw [h28]; rfl
  exact (if_neg (by simp [hup])).trans ((if_neg (by simp [h29]; omega)).trans ((if_neg (by simp [hflag])).trans
    ((if_neg (by simp [hflag])).trans ((if_neg (by simp [hoffset, hfirst])).trans ((if_neg (by simp [hlast])).trans
    ((if_neg (by simp [hheader])).trans (if_neg (by omega))))))))

theorem bundleLoad_outOfOrder (h28 : b8 r 28 < 4)
    (hoffset : b32 r 24 ≠ (if bit (b8 r 28) 0 then 0 else s.bun.staging.length)) : bundleLoad r t s = refuse s stBadArg 15 := by
  have hflag : bit (b8 r 28) 2 = false := Nat.testBit_lt_two_pow (by omega)
  exact (if_neg (by simp [hup])).trans ((if_neg (by simp [h29]; omega)).trans ((if_neg (by simp [hflag])).trans
    ((if_neg (by simp [hflag])).trans (if_pos hoffset))))

end

theorem heldWith_first (h28 : b8 r 28 = 1) : heldWith r s = r.arg := by
  rw [heldWith, h28]
  rfl

theorem heldWith_next {f : Nat} (h28 : b8 r 28 = f) (hf : f = 0 ∨ f = 2) : heldWith r s = s.bun.staging ++ r.arg := by
  rw [heldWith, h28]
  rcases hf with rfl | rfl <;> rfl

end

/-! What a changeover registers leaves the active bundle. -/

/-- The active bundle is the same. -/
def SameActive (s u : State) : Prop := u.bun.active = s.bun.active

theorem SameActive.of_bun {s u : State} (h : u.bun = s.bun) : SameActive s u := congrArg Bundles.active h

theorem settleGens_bun (t : Nat) (s : State) : (settleGens t s).bun = s.bun := by
  unfold settleGens
  split
  · obtain ⟨c, m, e, -⟩ := finishOpen_frame genCommand (fun o => { result := o.result }) t (commitGen s)
    rw [e]
    rfl
  · rfl

section
variable (r : Req) (t : Nat) (s : State)

theorem integSchedule_bun : (integSchedule r t s).st.bun = s.bun := by
  unfold integSchedule
  split
  · rfl
  · dsimp only
    split
    · rfl
    · split
      · rfl
      · cases s.tal.cur with
        | none =>
          dsimp only
          split
          · rfl
          · split <;> rfl
        | some it =>
          dsimp only
          split
          · rfl
          · split <;> rfl

theorem beamsetDefine_bun : (beamsetDefine r t s).st.bun = s.bun := by
  unfold beamsetDefine
  dsimp only
  repeat' split
  all_goals rfl

theorem beamDelays_bun : (beamDelays r t s).st.bun = s.bun := by
  unfold beamDelays
  dsimp only
  repeat' split
  all_goals rfl

theorem promptConfig_bun : (promptConfig r t s).st.bun = s.bun := by
  unfold promptConfig
  dsimp only
  repeat' split
  all_goals rfl

end

theorem imageFn_registered {im : Image} {f : Req → Nat → State → Out} (hreg : registered im = true)
    (h : imageFn im.opcode = some f) (r : Req) (t : Nat) (s : State) : (f r t s).st.bun = s.bun := by
  simp only [registered, genOp, Bool.or_eq_true, beq_iff_eq] at hreg
  rcases hreg with ((hop | hop) | hop) | hop
  · obtain rfl : beamsetDefine = f := Option.some.inj (by rw [← h, hop]; rfl)
    exact beamsetDefine_bun r t s
  · obtain rfl : beamDelays = f := Option.some.inj (by rw [← h, hop]; rfl)
    exact beamDelays_bun r t s
  · obtain rfl : promptConfig = f := Option.some.inj (by rw [← h, hop]; rfl)
    exact promptConfig_bun r t s
  · obtain rfl : integSchedule = f := Option.some.inj (by rw [← h, hop]; rfl)
    exact integSchedule_bun r t s

theorem commitImage_registered {im : Image} (hreg : registered im = true) (s : State) :
    (commitImage im.opcode s).bun = s.bun := by
  have hassay : ¬(im.opcode = 0x0601 ∧ (!s.assay.running) = true) := by
    rintro ⟨hop, -⟩
    rw [registered, genOp, hop] at hreg
    exact absurd hreg (by decide)
  rw [commitImage, if_neg hassay]
  split <;> rfl

theorem applyImage_registered {k0 t : Nat} {im : Image} {s u : State} (hreg : registered im = true)
    (h : applyImage k0 t im s = .ok u) : u.bun = s.bun := by
  unfold applyImage at h
  split at h
  · injection h with h
    rw [h]
  · next f hf =>
    dsimp only at h
    split at h
    · injection h with h
      rw [← h, commitImage_registered hreg]
      exact imageFn_registered hreg hf _ _ _
    · cases h

/-- An image's configuration, where it is accepted. -/
def applyOrSkip (k0 t : Nat) (s : State) (im : Image) : State :=
  match applyImage k0 t im s with
  | .ok s => s
  | .error _ => s

theorem applyOrSkip_registered {k0 t : Nat} {im : Image} (hreg : registered im = true) (s : State) :
    (applyOrSkip k0 t s im).bun = s.bun := by
  unfold applyOrSkip
  split
  · next h => exact applyImage_registered hreg h
  · rfl

theorem runImages_applied (k0 t : Nat) (l : List Image) (s : State) :
    runImages k0 t l s = setRates (whileApplying (fun s => l.foldl (applyOrSkip k0 t) s) s) := rfl

/-- Applying registered images leaves the active bundle. -/
theorem runImages_active (k0 t : Nat) (l : List Image) (s : State) : SameActive s (runImages k0 t (l.filter registered) s) := by
  have hfold : ∀ v : State, ((l.filter registered).foldl (applyOrSkip k0 t) v).bun = v.bun := fun v =>
    List.foldlRecOn (motive := fun u => u.bun = v.bun) _ _ rfl fun u hu im him =>
      (applyOrSkip_registered (List.mem_filter.mp him).2 u).trans hu
  have hactive := congrArg Bundles.active (hfold { s with bun := { s.bun with applying := true } })
  rw [runImages_applied]
  exact hactive

theorem sendNotices_bun (old : Option Bundle) (b : Bundle) (a : Nat) (s : State) : (sendNotices old b a s).bun = s.bun :=
  foldl_bun (g := fun s x => queueMsg x 0x10 _ s) (fun _ _ => rfl) _ s

theorem setSlot_bun (r : Req) (s : State) : (setSlot r s).bun = s.bun := by
  unfold setSlot
  split <;> rfl

/-! BUNDLE_ACTIVATE. -/

section
variable {r : Req} (t : Nat) {s : State} {b old : Bundle}

/-- What BUNDLE_ACTIVATE comes to, past its checks of the request and of the device. -/
def activateStaged (r : Req) (b : Bundle) (t : Nat) (s : State) : Out :=
  if b8 r 32 = 0 then s.bun.active.elim (refuseAt s stNotInState 0 0xFFFF)
    (fun old => if s.hop.running then changeOver r b old t s else refuseAt s stNotInState 0 0xFFFF)
  else if tooHot s then refuseAt s stNotInState 0 0xFFFF else restartWith r b t s

section
variable (h32 : b8 r 32 ≤ 1) (h33 : b8 r 33 ≤ 1) (h34 : b8 r 34 ≤ 1)
  (hdev : dpRun s = true ∨ s.shift.dev = .noBundle ∧ s.sys.dp = .off)
include h32 h33 h34 hdev

theorem bundleActivate_none (h : s.bun.staged = none) : bundleActivate r t s = refuseAt s stNotInState 0 0xFFFF := by
  rw [bundleActivate, if_neg (by omega), if_neg (by omega), if_neg (by rcases hdev with h | ⟨h, h'⟩ <;> simp [*])]
  simp only [h]

variable (hstaged : s.bun.staged = some b) (hchange : s.bun.changeover = none) (hleave : s.pwr.leaving = none)
  (hreturn : s.pwr.returning = none)
include hstaged hchange hleave hreturn

theorem bundleActivate_digest (hdigest : (r.body.drop 16).take 16 ≠ b.digest) :
    bundleActivate r t s = refuseAt s stDigest 0 0xFFFF := by
  rw [bundleActivate, if_neg (by omega), if_neg (by omega), if_neg (by rcases hdev with h | ⟨h, h'⟩ <;> simp [*])]
  simp only [hstaged, hchange, hleave, hreturn, Option.isSome_none, Bool.or_false, Bool.false_eq_true, if_false, if_pos hdigest]

theorem bundleActivate_staged (hdigest : (r.body.drop 16).take 16 = b.digest) :
    bundleActivate r t s = activateStaged r b t s := by
  rw [bundleActivate, if_neg (by omega), if_neg (by omega), if_neg (by rcases hdev with h | ⟨h, h'⟩ <;> simp [*])]
  simp only [hstaged, hchange, hleave, hreturn, Option.isSome_none, Bool.or_false, Bool.false_eq_true, if_false,
    if_neg (not_not.mpr hdigest), activateStaged]
  cases s.bun.active <;> rfl

end

theorem activateStaged_changeOver (h32 : b8 r 32 = 0) (hactive : s.bun.active = some old) (hrun : s.hop.running = true) :
    activateStaged r b t s = changeOver r b old t s := by
  rw [activateStaged, if_pos h32, hactive]
  exact if_pos hrun

theorem activateStaged_restart (h32 : b8 r 32 = 1) (hcool : tooHot s = false) :
    activateStaged r b t s = restartWith r b t s := by
  rw [activateStaged, if_neg (by omega), if_neg (by simp [hcool])]

/-- The changeover registered, and its notices queued. -/
def changeRegistered (r : Req) (b old : Bundle) (t : Nat) (s : State) : State :=
  let s1 := runImages (b64 r 24 / 8192) t (b.images.filter registered) (extendSets (setCount b) (settleGens t s))
  sendNotices (some old) b (b64 r 24) (setSlot r (registerSched (b64 r 24) b
    { s1 with bun := { s1.bun with changeover := some (b64 r 24, b), staged := none } }))

theorem changeRegistered_bun (r : Req) (b old : Bundle) (t : Nat) (s : State) :
    (changeRegistered r b old t s).bun.changeover = some (b64 r 24, b) ∧ (changeRegistered r b old t s).bun.staged = none ∧
      SameActive s (changeRegistered r b old t s) := by
  have hran : SameActive s (runImages (b64 r 24 / 8192) t (b.images.filter registered) (extendSets (setCount b) (settleGens t s))) :=
    (runImages_active _ _ _ _).trans (congrArg Bundles.active (settleGens_bun t s))
  unfold changeRegistered SameActive
  dsimp only
  rw [sendNotices_bun, setSlot_bun]
  exact ⟨rfl, rfl, hran⟩

theorem changeOver_registers {c : State} (hepoch : b.epoch ≠ old.epoch) (hgroup : b64 r 24 % 8192 = 0)
    (hahead : fillingSpectrum s + 16384 ≤ b64 r 24) (hshape : sameShape old b = true) (hlanes : beaconLanesOk b s = true)
    (htry : tryChangeover b (b64 r 24 / 8192) t s = .ok c) (hwhole : wholeOk b s c = true)
    (hframes : wholeOk.framesFit old ((s.aba.sched.map (·.sets)).getD 0) s = true) :
    changeOver r b old t s = answer (changeRegistered r b old t s) (activateReply b.epoch old.epoch (b64 r 24)) := by
  rw [changeOver, if_neg hepoch, if_neg (by omega), if_neg (by simp [hshape]), if_neg (by simp [hlanes])]
  simp only [htry]
  exact if_neg (by simp [hwhole, hframes])

/-- What a restart would bring DP up with. -/
def restartConfig (b : Bundle) (t : Nat) (s : State) : Except ((Nat × Nat) × Nat) State :=
  tryImages b 0 t b.images { freshConfig b { s with hop := {}, aba := { phys := s.aba.phys }, sys := { s.sys with dp := .run } } with
    bun := { (freshConfig b { s with hop := {}, aba := { phys := s.aba.phys }, sys := { s.sys with dp := .run } }).bun with
      applying := true } }

theorem restartWith_refused {c : State} (hlanes : beaconLanesOk b s = true) (htry : restartConfig b t s = .ok c)
    (hwhole : wholeOk b s c = false) : restartWith r b t s = refuseAt s stLimit 13 0xFFFF := by
  unfold restartConfig at htry
  rw [restartWith, if_neg (by simp [hlanes])]
  simp only [htry]
  exact if_pos (by simp [hwhole])

theorem restartWith_leaves {c : State} (hlanes : beaconLanesOk b s = true) (htry : restartConfig b t s = .ok c)
    (hwhole : wholeOk b s c = true) (hrun : dpRun s = true) : restartWith r b t s =
      { st := leaveRun .activate false { s with bun := { s.bun with coming := some b } }, stay := some .staged } := by
  unfold restartConfig at htry
  rw [restartWith, if_neg (by simp [hlanes])]
  simp only [htry]
  exact (if_neg (by simp [hwhole])).trans (if_pos hrun)

end

/-- Settles O52: what each command means, and for the changeover that the images registered leave the active bundle. -/
theorem deviceAndBundles : Obligations.DeviceAndBundles := by
  unfold Obligations.DeviceAndBundles
  constructor
  · intro r t s u
    refine ⟨fun htakes => ?info, fun htakes => ?status, fun htakes => ?echo, fun htakes => ?digest, fun b htakes hactive => ?layout,
      fun htakes hactive => ?noLayout, fun htakes h24 hg hg' hq hbw hbw' hc hc' => ?triangle,
      fun htakes h24 hg hg' hq hbw hbw' hc hc' hp => ?pairs, fun b htakes h24 hactive => ?running, fun htakes h => ?badBudget,
      fun o htakes hfind hphase => ?aborts, fun o htakes hfind hphase => ?committed,
      fun htakes hopen hplace hring => ?unknown, fun e c htakes hopen hplace hdone hop => ?done⟩
    case info => exact takes_ended (k := 0) devInfo htakes rfl
    case status => exact takes_ended (k := 0) devStatus htakes rfl
    case echo => exact takes_ended (k := 0) echo htakes rfl
    case digest =>
      obtain ⟨da, ea, ds, es, k, hmeaning, hactive, hstaged⟩ :=
        configDigest_fields (r := { r with opcode := 0x0203 }) t (s := u)
      refine ⟨_, takes_ended (k := 0) configDigest htakes hmeaning, fun b h hlen => ?_, fun b h hlen => ?_⟩
      · obtain ⟨rfl, rfl⟩ := hactive b h
        exact digestFields_active hlen
      · obtain ⟨rfl, rfl⟩ := hstaged b h
        exact digestFields_staged hlen
    case layout => exact takes_ended (k := 0) arrayLayout htakes (arrayLayout_active t hactive)
    case noLayout => exact takes_ended (k := 0) arrayLayout htakes (arrayLayout_none t hactive)
    case triangle =>
      exact takes_ended (k := 0) frameBudget htakes (frameBudget_described (r := { r with opcode := 0x0405 }) t (Nat.le_of_lt h24)
        hg hg' hq hbw hbw' hc hc' (fun h => absurd h (Nat.ne_of_lt h24)) (if_neg (Nat.ne_of_lt h24)))
    case pairs =>
      exact takes_ended (k := 0) frameBudget htakes (frameBudget_described (r := { r with opcode := 0x0405 }) t (Nat.le_of_eq h24)
        hg hg' hq hbw hbw' hc hc' (fun _ => hp) (if_pos h24))
    case running =>
      exact takes_ended (k := 0) frameBudget htakes (frameBudget_running (r := { r with opcode := 0x0405 }) t h24 hactive)
    case badBudget => exact takes_ended (k := 0) frameBudget htakes (frameBudget_bad (r := { r with opcode := 0x0405 }) t h)
    case aborts => exact takes_ended (k := 0) abort htakes (abort_open (r := { r with opcode := 0x0104 }) t hfind hphase)
    case committed => exact takes_ended (k := 0) abort htakes (abort_committed (r := { r with opcode := 0x0104 }) t hfind hphase)
    case unknown => exact takes_ended (k := 0) abort htakes (abort_unknown (r := { r with opcode := 0x0104 }) t hopen hplace hring)
    case done => exact takes_ended (k := 0) abort htakes (abort_done (r := { r with opcode := 0x0104 }) t hopen hplace hdone hop)
  · intro r t s u b old
    refine ⟨fun htakes hup h28 h29 h24 => ?first, fun htakes hup h28 h29 h24 => ?next,
      fun htakes hup h28 h29 h24 hheader hjobs => ?whole, fun htakes hup => ?noStaging, fun htakes hup h28 h29 h24 => ?outOfOrder,
      fun htakes h32 h33 h34 hrun hstaged => ?noBundle,
      fun htakes h32 h33 h34 hrun hstaged hchange hleave hreturn hdigest => ?wrongDigest,
      fun htakes h32 h33 h34 hrun hstaged hchange hleave hreturn hdigest hactive hhop => ?changeover,
      fun htakes h32 h33 h34 hrun hdev hdp hstaged hchange hleave hreturn hdigest hcool hlanes c htry hwhole => ?limit,
      fun c htakes h32 h33 h34 hrun hstaged hchange hleave hreturn hdigest hcool hlanes htry hwhole => ?restart⟩
    case first =>
      have hmeaning := bundleLoad_segment (r := { r with opcode := 0x0201 }) t hup h29
        (show b8 r 28 < 2 by omega) (by rw [show b8 { r with opcode := 0x0201 } 28 = 1 from h28]; exact h24)
      rw [heldWith_first (r := { r with opcode := 0x0201 }) h28, show b8 { r with opcode := 0x0201 } 28 = 1 from h28] at hmeaning
      exact takes_ended (k := 0) bundleLoad htakes hmeaning
    case next =>
      have hmeaning := bundleLoad_segment (r := { r with opcode := 0x0201 }) t hup h29
        (show b8 r 28 < 2 by omega) (by rw [show b8 { r with opcode := 0x0201 } 28 = 0 from h28]; exact h24)
      rw [heldWith_next (r := { r with opcode := 0x0201 }) h28 (.inl rfl), show b8 { r with opcode := 0x0201 } 28 = 0 from h28]
        at hmeaning
      exact takes_ended (k := 0) bundleLoad htakes hmeaning
    case whole =>
      have hheld := heldWith_next (r := { r with opcode := 0x0201 }) (s := u) h28 (.inr rfl)
      have hmeaning := bundleLoad_whole (r := { r with opcode := 0x0201 }) t hup h29 h28 h24 (by rw [hheld]; exact hheader) hjobs
      rw [hheld] at hmeaning
      exact takes_stays bundleLoad htakes hmeaning
    case noStaging => exact takes_ended (k := 0) bundleLoad htakes (if_pos (by simp [hup]))
    case outOfOrder =>
      exact takes_ended (k := 0) bundleLoad htakes (bundleLoad_outOfOrder (r := { r with opcode := 0x0201 }) t hup h29 h28 h24)
    case noBundle =>
      exact takes_ended (k := 0) bundleActivate htakes
        (bundleActivate_none (r := { r with opcode := 0x0202 }) t h32 h33 h34 (.inl hrun) hstaged)
    case wrongDigest =>
      exact takes_ended (k := 0) bundleActivate htakes (bundleActivate_digest (r := { r with opcode := 0x0202 }) t h32 h33 h34
        (.inl hrun) hstaged hchange hleave hreturn hdigest)
    case changeover =>
      have hmeaning : bundleActivate { r with opcode := 0x0202 } t u = changeOver { r with opcode := 0x0202 } b old t u :=
        (bundleActivate_staged (r := { r with opcode := 0x0202 }) t (Nat.le_of_eq h32 |>.trans (by decide)) h33 h34
          (.inl hrun) hstaged hchange hleave hreturn hdigest).trans (activateStaged_changeOver t h32 hactive hhop)
      refine ⟨fun hepoch => ?_, fun hepoch h => ?_, fun c hepoch hgroup hahead hshape hlanes htry hwhole hframes => ?_⟩
      · exact takes_ended (k := 0) bundleActivate htakes (hmeaning.trans (if_pos hepoch))
      · exact takes_ended (k := 0) bundleActivate htakes
          (hmeaning.trans ((if_neg hepoch).trans (if_pos (h.imp_right id))))
      · have hregisters := changeOver_registers (r := { r with opcode := 0x0202 }) t hepoch hgroup hahead hshape hlanes htry
          hwhole hframes
        obtain ⟨hchangeover, hnone, hsame⟩ := changeRegistered_bun { r with opcode := 0x0202 } b old t u
        exact ⟨_, takes_ended (k := 0) bundleActivate htakes (hmeaning.trans hregisters), hchangeover, hnone, hsame.trans hactive⟩
    case limit =>
      exact takes_ended (k := 0) bundleActivate htakes ((bundleActivate_staged (r := { r with opcode := 0x0202 }) t
        (by exact Nat.le_of_eq h32) h33 h34 (.inr ⟨hdev, hdp⟩) hstaged hchange hleave hreturn hdigest).trans
        ((activateStaged_restart t h32 hcool).trans (restartWith_refused t hlanes htry hwhole)))
    case restart =>
      exact takes_stays bundleActivate htakes ((bundleActivate_staged (r := { r with opcode := 0x0202 }) t
        (by exact Nat.le_of_eq h32) h33 h34 (.inl hrun) hstaged hchange hleave hreturn hdigest).trans
        ((activateStaged_restart t h32 hcool).trans (restartWith_leaves t hlanes htry hwhole hrun)))

end Sys2Proof.Machine
end

section
/-! The monitor's sequencer, its urgent conversions and its commands (18 R407 to R416, R418; 16 Table 16.13). -/

namespace Sys2Proof.Machine
open Sys2Proof

section
variable {s u v : State} {m k : Nat}

/-! A converter changed, and read back. -/

theorem convAt_modConv (m k : Nat) (f : Conv → Conv) (s : State) :
    convAt (modConv m f s) k = if k = m ∧ m < s.mon.conv.length then f (convAt s m) else convAt s k := getD_upd _ _ _ _ _

theorem convAt_modConv_self {f : Conv → Conv} (h : m < s.mon.conv.length) : convAt (modConv m f s) m = f (convAt s m) := by
  rw [convAt_modConv, if_pos ⟨rfl, h⟩]

theorem convAt_modConv_other {f : Conv → Conv} (h : k ≠ m) : convAt (modConv m f s) k = convAt s k := by
  rw [convAt_modConv, if_neg (by simp [h])]

theorem length_modConv (m : Nat) (f : Conv → Conv) (s : State) : (modConv m f s).mon.conv.length = s.mon.conv.length :=
  length_upd _ _ _

/-- Only the converters of the monitor differ. -/
def ConvsOnly (s u : State) : Prop :=
  ∃ l : List Conv, u = { s with mon := { s.mon with conv := l } } ∧ l.length = s.mon.conv.length

theorem ConvsOnly.refl (s : State) : ConvsOnly s s := ⟨s.mon.conv, rfl, rfl⟩

theorem ConvsOnly.trans (s u v : State) (h₁ : ConvsOnly s u) (h₂ : ConvsOnly u v) : ConvsOnly s v := by
  obtain ⟨l, rfl, hl⟩ := h₁
  obtain ⟨l', rfl, hl'⟩ := h₂
  exact ⟨l', rfl, hl'.trans hl⟩

theorem ConvsOnly.modConv (m : Nat) (f : Conv → Conv) (s : State) : ConvsOnly s (modConv m f s) :=
  ⟨_, rfl, length_upd _ _ _⟩

theorem ConvsOnly.latchCal (m input : Nat) (s : State) : ConvsOnly s (latchCal m input s) := by
  rw [Sys2Proof.Machine.latchCal]
  split
  · exact .modConv _ _ _
  · exact .refl s

/-- Latching a calibration writes OFF and GAIN of its converter. -/
theorem convAt_latchCal (m input : Nat) (s : State) :
    (∃ o g, convAt (latchCal m input s) m = { convAt s m with off := o, gain := g }) ∧
      ∀ k, k ≠ m → convAt (latchCal m input s) k = convAt s k := by
  rw [latchCal]
  split
  · refine ⟨?_, fun k hk => convAt_modConv_other hk⟩
    rw [convAt_modConv]
    split
    · exact ⟨_, _, rfl⟩
    · exact ⟨_, _, rfl⟩
  · exact ⟨⟨_, _, rfl⟩, fun _ _ => rfl⟩

/-! The start of an entry of the table (R409). -/

/-- One converter of the entry's mask starts. -/
def startConv (e : List Byte) (s : State) (m : Nat) : State :=
  latchCal m (entInput e) (modConv m (fun c => { c with state := .table, left := entRepeat e, shifted := false }) s)

/-- A converter that has started on entry `e`. -/
def OnEntry (e : List Byte) (c : Conv) : Prop := c.state = .table ∧ c.left = entRepeat e ∧ c.shifted = false

theorem startConv_convsOnly (e : List Byte) (s : State) (m : Nat) : ConvsOnly s (startConv e s m) :=
  .trans _ _ _ (.modConv _ _ _) (.latchCal _ _ _)

theorem startConv_self {e : List Byte} (h : m < s.mon.conv.length) : OnEntry e (convAt (startConv e s m) m) := by
  obtain ⟨⟨o, g, hself⟩, -⟩ := convAt_latchCal m (entInput e)
    (modConv m (fun c => { c with state := .table, left := entRepeat e, shifted := false }) s)
  rw [startConv, hself, convAt_modConv_self h]
  exact ⟨rfl, rfl, rfl⟩

theorem startConv_other {e : List Byte} (h : k ≠ m) : convAt (startConv e s m) k = convAt s k :=
  ((convAt_latchCal m (entInput e) _).2 k h).trans (convAt_modConv_other h)

theorem startConvs (e : List Byte) (l : List Nat) (hk : k < s.mon.conv.length) :
    (k ∈ l → OnEntry e (convAt (l.foldl (startConv e) s) k)) ∧ (k ∉ l → convAt (l.foldl (startConv e) s) k = convAt s k) := by
  induction l generalizing s with
  | nil => exact ⟨fun h => absurd h List.not_mem_nil, fun _ => rfl⟩
  | cons m l ih =>
    obtain ⟨cv, hstart, hlen⟩ := startConv_convsOnly e s m
    have hk' : k < (startConv e s m).mon.conv.length := by
      rw [hstart]
      exact hlen.symm ▸ hk
    obtain ⟨hin, hout⟩ := ih hk'
    refine ⟨fun h => ?_, fun h => ?_⟩
    · by_cases hkl : k ∈ l
      · exact hin hkl
      · obtain rfl : k = m := (List.mem_cons.mp h).resolve_right hkl
        rw [List.foldl_cons, hout hkl]
        exact startConv_self hk
    · rw [List.foldl_cons, hout fun hkl => h (List.mem_cons_of_mem m hkl), startConv_other (List.ne_of_not_mem_cons h)]

/-- What the sequencer starts its entry from: the next entry, and a pass counted when it comes round. -/
def roundState (s : State) : State :=
  if s.mon.phase = .delay ∧ nextEntry s = 0 then monCause [16] (modMon (fun x => { x with passes := sat32 (x.passes + 1) }) s) else s

def entryStarted (s : State) : State :=
  (bitsSet 4 (entMask (s.mon.table.getD (nextEntry s) []))).foldl (startConv (s.mon.table.getD (nextEntry s) []))
    (modMon (fun x => { x with phase := .converting, entry := nextEntry s }) (roundState s))

theorem exec_sequencerEntryStart (hphase : s.mon.phase = .ready ∨ s.mon.phase = .delay) (hstaged : s.mon.staged = none)
    (hfree : ∀ k, k < 4 → bit (entMask (s.mon.table.getD (nextEntry s) [])) k = true → freeOfUrgent s k = true) :
    exec .sequencerEntryStart s = .next (entryStarted s) := by
  refine congrArg Host.Outcome.next (if_pos ⟨hphase, by simp [hstaged], List.all_eq_true.mpr fun k hk => ?_⟩)
  obtain ⟨hlt, hbit⟩ := (mem_bitsSet _ _ _).mp hk
  exact hfree k hlt hbit

theorem roundState_conv (s : State) : (roundState s).mon.conv = s.mon.conv := by
  unfold roundState
  split <;> rfl

theorem entryStarted_convsOnly (s : State) :
    ConvsOnly (modMon (fun x => { x with phase := .converting, entry := nextEntry s }) (roundState s)) (entryStarted s) :=
  foldl_rel ConvsOnly.refl ConvsOnly.trans (startConv_convsOnly _) _ _

theorem entryStarted_conv (hk : k < 4) (hlen : s.mon.conv.length = 4) :
    (bit (entMask (s.mon.table.getD (nextEntry s) [])) k = true →
      OnEntry (s.mon.table.getD (nextEntry s) []) (convAt (entryStarted s) k)) ∧
    (bit (entMask (s.mon.table.getD (nextEntry s) [])) k = false → convAt (entryStarted s) k = convAt s k) := by
  obtain ⟨hin, hout⟩ := startConvs (k := k) (s.mon.table.getD (nextEntry s) [])
    (bitsSet 4 (entMask (s.mon.table.getD (nextEntry s) [])))
    (s := modMon (fun x => { x with phase := .converting, entry := nextEntry s }) (roundState s))
    (by
      show k < (roundState s).mon.conv.length
      rw [roundState_conv]
      omega)
  refine ⟨fun h => hin ((mem_bitsSet _ _ _).mpr ⟨hk, h⟩), fun h => (hout fun hmem => ?_).trans ?_⟩
  · rw [((mem_bitsSet _ _ _).mp hmem).2] at h
    exact absurd h (by decide)
  · exact congrArg (fun l : List Conv => l.getD k {}) (roundState_conv s)

/-! The end of a conversion (R410 to R412). -/

/-- Of the monitor only converter `m` and what is common to the converters differ, and of `m` not its result or its count. -/
structure KeepsResult (m : Nat) (s u : State) : Prop where
  mon : ∃ x, u = { s with mon := x }
  others : ∀ k, k ≠ m → convAt u k = convAt s k
  kept : (convAt u m).res = (convAt s m).res ∧ (convAt u m).left = (convAt s m).left ∧
    (convAt u m).resStamp = (convAt s m).resStamp ∧ (convAt u m).resEntry = (convAt s m).resEntry

theorem KeepsResult.refl (s : State) : KeepsResult m s s := ⟨⟨s.mon, rfl⟩, fun _ _ => rfl, rfl, rfl, rfl, rfl⟩

theorem KeepsResult.trans (h₁ : KeepsResult m s u) (h₂ : KeepsResult m u v) : KeepsResult m s v := by
  obtain ⟨⟨x, rfl⟩, hothers, hres, hleft, hstamp, hentry⟩ := h₁
  obtain ⟨⟨y, rfl⟩, hothers', hres', hleft', hstamp', hentry'⟩ := h₂
  exact ⟨⟨y, rfl⟩, fun k hk => (hothers' k hk).trans (hothers k hk), hres'.trans hres, hleft'.trans hleft,
    hstamp'.trans hstamp, hentry'.trans hentry⟩

theorem KeepsResult.modConv {f : Conv → Conv} (hf : ∀ c, (f c).res = c.res ∧ (f c).left = c.left ∧
    (f c).resStamp = c.resStamp ∧ (f c).resEntry = c.resEntry) : KeepsResult m s (modConv m f s) := by
  refine ⟨⟨_, rfl⟩, fun k hk => convAt_modConv_other hk, ?_⟩
  rw [convAt_modConv]
  split
  · exact hf _
  · exact ⟨rfl, rfl, rfl, rfl⟩

theorem KeepsResult.modMon {f : Mon → Mon} (hf : (f s.mon).conv = s.mon.conv) : KeepsResult m s (modMon f s) := by
  have hconv : ∀ k, convAt (Sys2Proof.Machine.modMon f s) k = convAt s k := fun k =>
    congrArg (fun l : List Conv => l.getD k {}) hf
  refine ⟨⟨_, rfl⟩, fun k _ => hconv k, ?_⟩
  rw [hconv m]
  exact ⟨rfl, rfl, rfl, rfl⟩

theorem KeepsResult.latchCal (input : Nat) : KeepsResult m s (latchCal m input s) := by
  rw [Sys2Proof.Machine.latchCal]
  split
  · exact .modConv fun _ => ⟨rfl, rfl, rfl, rfl⟩
  · exact .refl s

theorem monCause_keeps (ks : List Nat) : KeepsResult m s (monCause ks s) := .modMon rfl

theorem refCheck_keeps (input : Nat) (x : Int) : KeepsResult m s (refCheck input x s) := by
  unfold refCheck
  split
  · exact .modMon rfl
  · exact .refl s

theorem winCheck_keeps (e : List Byte) (x : Int) : KeepsResult m s (winCheck e x s) := by
  unfold winCheck
  dsimp only
  split
  · exact .modMon rfl
  · exact .refl s

theorem pushFifo_keeps (e : List Byte) (x : Int) (ovr : Bool) (t : Nat) : KeepsResult m s (pushFifo m e x ovr t s) := by
  unfold pushFifo
  dsimp only
  split
  · exact .refl s
  · split
    · exact .trans (.modConv fun _ => by exact ⟨rfl, rfl, rfl, rfl⟩) (monCause_keeps _)
    · split
      · exact .trans (.modConv fun _ => by exact ⟨rfl, rfl, rfl, rfl⟩) (monCause_keeps _)
      · exact .modConv fun _ => ⟨rfl, rfl, rfl, rfl⟩

theorem resumeConv_keeps : KeepsResult m s (resumeConv m s) := by
  unfold resumeConv
  dsimp only
  split
  · exact .modConv fun _ => ⟨rfl, rfl, rfl, rfl⟩
  · split
    · exact .trans (.modConv fun _ => by exact ⟨rfl, rfl, rfl, rfl⟩) (.latchCal _)
    · exact .modConv fun _ => ⟨rfl, rfl, rfl, rfl⟩

theorem endEntry_keeps : KeepsResult m s (endEntry s) := by
  unfold endEntry
  split
  · exact .modMon rfl
  · exact .refl s

/-- The result of a conversion, stored. -/
def storeResult (m : Nat) (x : Int) (t : Nat) (s : State) : State :=
  modConv m (fun c => { c with res := x, resEntry := s.mon.entry, resStamp := some (fullTime s t), left := c.left - 1 }) s

theorem endTable_keeps (x : Int) (t : Nat) : KeepsResult m
    (storeResult m (resultOf m (entInput (curEntry s)) (entGain (curEntry s)) (convAt s m) x).1 t s) (endTable m x t s) :=
  ((((refCheck_keeps _ _).trans (winCheck_keeps _ _)).trans (pushFifo_keeps _ _ _ _)).trans resumeConv_keeps).trans endEntry_keeps

theorem endTable_result (x : Int) (t : Nat) (hm : m < s.mon.conv.length) :
    (convAt (endTable m x t s) m).res = (resultOf m (entInput (curEntry s)) (entGain (curEntry s)) (convAt s m) x).1 ∧
      (convAt (endTable m x t s) m).left = (convAt s m).left - 1 ∧ (convAt (endTable m x t s) m).resStamp = some (fullTime s t) ∧
      (convAt (endTable m x t s) m).resEntry = s.mon.entry ∧ (∀ k, k ≠ m → convAt (endTable m x t s) k = convAt s k) ∧
      endTable m x t s = { s with mon := (endTable m x t s).mon } := by
  obtain ⟨⟨y, hmon⟩, hothers, hres, hleft, hstamp, hentry⟩ := endTable_keeps (m := m) (s := s) x t
  rw [storeResult, convAt_modConv_self hm] at hres hleft hstamp hentry
  refine ⟨hres, hleft, hstamp, hentry, fun k hk => (hothers k hk).trans (convAt_modConv_other hk), ?_⟩
  rw [hmon]
  rfl

theorem resultOf_inside {c : Conv} {r : Int} {g i : Nat} (hi : i < 8)
    (hlo : -8388608 ≤ divHalfEven ((inputReferred r g - c.off) * c.gain) (2 ^ 32))
    (hhi : divHalfEven ((inputReferred r g - c.off) * c.gain) (2 ^ 32) ≤ 8388607) :
    (resultOf m i g c r).1 = divHalfEven ((inputReferred r g - c.off) * c.gain) (2 ^ 32) := by
  rw [resultOf, if_pos hi]
  dsimp only
  rw [clampI, min_eq_right hhi, max_eq_right hlo]

/-! The FIFO (R411). -/

theorem pushFifo_full {e : List Byte} {x : Int} {ovr : Bool} {t : Nat} (hm : m < s.mon.conv.length)
    (hdest : bit (entDest e) 4 = true) (hfull : 256 ≤ (convAt s m).fifo.length) :
    (convAt (pushFifo m e x ovr t s) m).fifo = (convAt s m).fifo ∧
      (convAt (pushFifo m e x ovr t s) m).lost = min 0xFFFF ((convAt s m).lost + 1) ∧
      bit (pushFifo m e x ovr t s).mon.cause (8 + m) = true := by
  have hread := convAt_modConv_self (f := fun c => { c with lost := min 0xFFFF (c.lost + 1), lostNext := true }) hm
  have hfifo := congrArg Conv.fifo hread
  have hlost := congrArg Conv.lost hread
  rw [pushFifo, if_neg (by simp [hdest]), if_pos hfull]
  exact ⟨hfifo, hlost, bit_setBits_self _ _⟩

theorem pushFifo_room {e : List Byte} {x : Int} {ovr : Bool} {t : Nat} (hm : m < s.mon.conv.length)
    (hdest : bit (entDest e) 4 = true) (hroom : (convAt s m).fifo.length < 256) :
    (convAt (pushFifo m e x ovr t s) m).fifo = (convAt s m).fifo ++
        [fifoWords s.mon.entry ovr (convAt s m).shifted (convAt s m).lostNext x t] ∧
      (convAt (pushFifo m e x ovr t s) m).lost = (convAt s m).lost ∧
      ((convAt s m).fifo.length = 127 → bit (pushFifo m e x ovr t s).mon.cause (12 + m) = true) := by
  have hread := convAt_modConv_self (s := s) (f := fun c => { c with
    fifo := c.fifo ++ [fifoWords s.mon.entry ovr c.shifted c.lostNext x t], lostNext := false }) hm
  have hfifo := congrArg Conv.fifo hread
  have hlost := congrArg Conv.lost hread
  rw [pushFifo, if_neg (by simp [hdest]), if_neg (by omega)]
  dsimp only
  split
  · exact ⟨hfifo, hlost, fun _ => bit_setBits_self _ _⟩
  · next h => exact ⟨hfifo, hlost, fun h127 => absurd (congrArg (· + 1) h127) h⟩

theorem monFifoRead_empty (h : (convAt s m).fifo = []) : monFifoRead m s = (0, s) := by
  simp only [monFifoRead, h]

theorem monFifoRead_first {w : Nat × Nat} {rest : List (Nat × Nat)} (h : (convAt s m).fifo = w :: rest) :
    monFifoRead m s = (w.1, modConv m (fun c => { c with fifo := rest, hi := w.2 }) s) := by
  simp only [monFifoRead, h]

/-! The sequencer's commit, and the end of a conversion by what it was for. -/

theorem exec_monSequenceCommit_none {t : Nat} (h : s.mon.staged = none) : exec (.monSequenceCommit t) s = .next s := by
  rw [show exec (.monSequenceCommit t) s = execMonSequenceCommit t s from rfl, execMonSequenceCommit]
  simp only [h]

theorem exec_monSequenceCommit_some {t : Nat} {es : List (List Byte)} {run : Bool} (h : s.mon.staged = some (es, run)) :
    exec (.monSequenceCommit t) s = .next (if s.mon.phase = .converting then s else
      finishOpen (fun o => isOp 0x0B01 o && decide (o.phase = .staged)) (fun _ => {}) t (commitTable es run s)) := by
  rw [show exec (.monSequenceCommit t) s = execMonSequenceCommit t s from rfl, execMonSequenceCommit]
  simp only [h]

theorem exec_conversionEnd_none {raw t : Nat} (h : (convAt s m).state = .idle ∨ (convAt s m).state = .paused) :
    exec (.conversionEnd m raw t) s = .next s := by
  rw [show exec (.conversionEnd m raw t) s = execConversionEnd m raw t s from rfl, execConversionEnd]
  rcases h with h | h
  · simp only [h]
  · simp only [h]

theorem exec_conversionEnd_table {raw t : Nat} (hraw : raw < 2 ^ 24) (h : (convAt s m).state = .table) :
    exec (.conversionEnd m raw t) s = .next (endTable m (signed 24 raw) t s) := by
  rw [show exec (.conversionEnd m raw t) s = execConversionEnd m raw t s from rfl, execConversionEnd]
  simp only [h, Nat.mod_eq_of_lt hraw]

theorem exec_conversionEnd_urgent {raw t : Nat} (hraw : raw < 2 ^ 24) (h : (convAt s m).state = .urgent) :
    exec (.conversionEnd m raw t) s = .next (endUrgent m (signed 24 raw) t s) := by
  rw [show exec (.conversionEnd m raw t) s = execConversionEnd m raw t s from rfl, execConversionEnd]
  simp only [h, Nat.mod_eq_of_lt hraw]

end

/-! The commands. -/

section
variable {r : Req} (t : Nat) {s : State}

/-- A table that MON_SEQUENCE takes. -/
theorem monSequence_table {es : List (List Byte)} (hn : 1 ≤ b8 r 24) (hn' : b8 r 24 ≤ 64) (hlen : r.arg.length = 16 * b8 r 24)
    (hrun : b8 r 25 ≤ 1) (hes : es = (upTo (b8 r 24)).map (fun i => (r.arg.drop (16 * i)).take 16))
    (hres : es.all entReserved = true) (hok : es.all entOk = true) :
    monSequence r t s = if s.mon.phase = .converting then
      { st := modMon (fun x => { x with staged := some (es, decide (b8 r 25 = 1)) }) s, stay := some .staged }
      else { st := commitTable es (decide (b8 r 25 = 1)) s } := by
  subst hes
  exact (if_neg (by omega)).trans ((if_neg (not_not.mpr hlen)).trans ((if_neg (by simp only [hres]; simp; omega)).trans
    (if_neg (by simp only [hok]; simp))))

theorem commitTable_run (es : List (List Byte)) (n : Nat) : commitTable es (decide (n = 1)) s = { s with mon := { s.mon with
    table := es, entry := 0, staged := none, phase := if n = 1 then .ready else .stopped } } := by
  by_cases h : n = 1
  · rw [decide_eq_true h, if_pos h]
    rfl
  · rw [decide_eq_false h, if_neg h]
    rfl

theorem monSequence_badCount (h : b8 r 24 = 0 ∨ 64 < b8 r 24) : monSequence r t s = badRange s := if_pos h

theorem queueUrgent_room {m : Nat} {q : UrgReq} (h : (convAt s m).queue.length < 4) :
    queueUrgent m q s = some (modConv m (fun c => { c with queue := c.queue ++ [q] }) s) := if_pos h

theorem queueUrgent_full {m : Nat} {q : UrgReq} (h : 4 ≤ (convAt s m).queue.length) : queueUrgent m q s = none :=
  if_neg (by omega)

theorem monCalibrate_measures (h24 : b8 r 24 ≤ 3) (h25 : b8 r 25 ≤ 7) (h26 : b8 r 26 = 0) (hidle : measuring s (b8 r 24) = false)
    (hroom : (convAt s (b8 r 24)).queue.length < 4) : monCalibrate r t s = {
      st := modConv (b8 r 24) (fun c => { c with queue := c.queue ++
        [{ source := .calibrate none (r.client * 65536 + r.tag), input := b8 r 25, rate := 2, finish := true, left := 16 }] }) s
      stay := some .staged, key := b8 r 24 } := by
  refine (if_neg (by omega)).trans ((if_pos h26).trans ?_)
  rw [measure, if_neg (by simp [hidle])]
  simp only [queueUrgent_room hroom]

section
variable {u0 u1 : Int} (h24 : b8 r 24 ≤ 3) (h25 : b8 r 25 ≤ 7) (h26 : b8 r 26 = 2)
  (h0 : (calAt s (b8 r 24) (b8 r 25)).u0 = some u0) (h1 : (calAt s (b8 r 24) (b8 r 25)).u1 = some u1)
include h24 h25 h26 h0 h1

theorem monCalibrate_close (hclose : (u1 - u0).natAbs < 2 ^ 16) : monCalibrate r t s = badRange s := by
  refine (if_neg (by omega)).trans ((if_neg (by omega)).trans ((if_neg (by omega)).trans ?_))
  simp only [computeCal, h0, h1, if_pos hclose]

theorem monCalibrate_computes {g : Int} (hfar : (2 : Int) ^ 16 ≤ u1 - u0)
    (hg : g = divHalfEven ((calAt s (b8 r 24) (b8 r 25)).full * 2 ^ 32) (u1 - u0).natAbs) (hlo : -(2 ^ 31) ≤ g) (hhi : g < 2 ^ 31) :
    monCalibrate r t s = {
      st := modMon (fun x => { x with cal := upd x.cal (8 * b8 r 24 + b8 r 25) (fun c => { c with
        off := u0, gain := g, u0 := none, u1 := none }) }) s
      reply := { result := fields [(24, leBytesI 4 u0), (28, leBytesI 4 g)] } } := by
  refine (if_neg (by omega)).trans ((if_neg (by omega)).trans ((if_neg (by omega)).trans ?_))
  have hrising : ¬u1 < u0 := by omega
  have hapart : ¬(u1 - u0).natAbs < 2 ^ 16 := by omega
  have hinside : ¬(g < -(2 ^ 31) ∨ 2 ^ 31 ≤ g) := by omega
  simp only [computeCal, h0, h1, if_neg hapart, if_neg hrising, ← hg, if_neg hinside]

end

theorem length_fields (l : List (Nat × List Byte)) : (fields l).length = 40 :=
  List.foldlRecOn (motive := fun b : List Byte => b.length = 40) _ _ rfl fun _ hb _ _ => (length_overlay _ _ _).trans hb

/-- Four records of 8 bytes, read back. -/
theorem fields_records {g : Nat → List Byte} (hg : ∀ k, (g k).length = 8) {k : Nat} (hk : k < 4) :
    ((fields ((upTo 4).map (fun m => (24 + 8 * m, g m)))).drop (8 * k)).take 8 = g k := by
  have hsame : ∀ {base : List Byte} {off j : Nat}, off + 8 ≤ base.length → ((overlay base off (g j)).drop off).take 8 = g j := by
    intro base off j h
    have h' := slice_overlay_same (base := base) (off := off) (b := g j) (by rw [hg]; exact h)
    rwa [hg] at h'
  have hbefore : ∀ {base : List Byte} {off i j : Nat}, i + 8 ≤ off → off ≤ base.length →
      ((overlay base off (g j)).drop i).take 8 = (base.drop i).take 8 := slice_overlay_before
  rw [show (upTo 4).map (fun m => (24 + 8 * m, g m)) = [(24, g 0), (32, g 1), (40, g 2), (48, g 3)] from rfl, fields]
  dsimp only [List.foldl]
  match k, hk with
  | 0, _ =>
    iterate 3 rw [hbefore (by decide) (by simp)]
    exact hsame (by simp)
  | 1, _ =>
    iterate 2 rw [hbefore (by decide) (by simp)]
    exact hsame (by simp)
  | 2, _ =>
    rw [hbefore (by decide) (by simp)]
    exact hsame (by simp)
  | 3, _ => exact hsame (by simp)

/-- A converter's record in MON_READ's answer. -/
def readRecord (t : Nat) (s : State) (m : Nat) : List Byte :=
  leBytesI 4 (convAt s m).res ++ leBytes 2 (convAt s m).resEntry ++ leBytes 2 (resAge (convAt s m) (fullTime s t))

theorem monRead_records : monRead r t s = answer s (fields ((upTo 4).map (fun m => (24 + 8 * m, readRecord t s m)))) := rfl

theorem length_readRecord (m : Nat) : (readRecord t s m).length = 8 := by
  simp [readRecord, length_leBytes, length_leBytesI]

section
variable (h24 : b8 r 24 ≤ 3) (h25 : b8 r 25 ≤ 11) (h26 : b8 r 26 ≤ 9) (h27 : b8 r 27 ≤ 1)
include h24 h25 h26 h27

theorem monUrgent_room (hroom : (convAt s (b8 r 24)).queue.length < 4) : monUrgent r t s = {
    st := modConv (b8 r 24) (fun c => { c with queue := c.queue ++
      [{ source := .command r.client r.tag, input := b8 r 25, rate := b8 r 26, finish := decide (b8 r 27 = 1) }] }) s
    stay := some .staged, key := b8 r 24 } := by
  refine (if_neg (by omega)).trans ?_
  simp only [queueUrgent_room hroom]

theorem monUrgent_full (hfull : 4 ≤ (convAt s (b8 r 24)).queue.length) : monUrgent r t s = refuse s stBusy 0 := by
  refine (if_neg (by omega)).trans ?_
  simp only [queueUrgent_full hfull]

end

end

/-! The start of urgent work (R413). -/

section
variable {s : State} {m t : Nat} {q : UrgReq} {rest : List UrgReq}

/-- A table conversion that the urgent work breaks off is counted, to be done again. -/
def redoCounted (m : Nat) (s : State) : State :=
  modMon (fun x => { x with redo := sat32 (x.redo + b2n (decide ((convAt s m).state = .table))) }) s

def toUrgent (q : UrgReq) (rest : List UrgReq) (c : Conv) : Conv := { c with
  state := .urgent, serving := some q, queue := rest, shifted := c.shifted || decide (c.left ≠ 0) }

/-- Converter `m` turns to the urgent request `q`. -/
def urgentStarted (m : Nat) (q : UrgReq) (rest : List UrgReq) (s : State) : State :=
  latchCal m q.input (modConv m (toUrgent q rest) (redoCounted m s))

theorem exec_urgentConversionStart_none (h : (convAt s m).queue = []) : exec (.urgentConversionStart m t) s = .next s := by
  rw [show exec (.urgentConversionStart m t) s = execUrgentConversionStart m t s from rfl, execUrgentConversionStart]
  simp only [h]

theorem exec_urgentConversionStart_waits (hstate : (convAt s m).state = .table) (h : (convAt s m).queue = q :: rest)
    (hfirst : finishFirst s m q = true) : exec (.urgentConversionStart m t) s = .next s := by
  rw [show exec (.urgentConversionStart m t) s = execUrgentConversionStart m t s from rfl, execUrgentConversionStart]
  simp only [h, hstate, hfirst, and_self, if_true, ite_self]

section
variable (hm : m < 4) (hserving : (convAt s m).serving = none) (h : (convAt s m).queue = q :: rest)
  (hnow : (convAt s m).state ≠ .table ∨ finishFirst s m q = false)
include hm hserving h hnow

theorem exec_urgentConversionStart_command {cl tag : Nat} (hsource : q.source = .command cl tag) :
    exec (.urgentConversionStart m t) s = .next (commitOpen (fun o => isOp 0x0B04 o && asksFor cl tag o && decide (o.phase = .staged)) t
      (urgentStarted m q rest s)) := by
  have hfree : ¬(m ≥ 4 ∨ (convAt s m).serving.isSome = true) := by simp [hserving, hm]
  have hgoes : ¬((convAt s m).state = .table ∧ finishFirst s m q = true) := by
    rcases hnow with h | h <;> simp [h]
  rw [show exec (.urgentConversionStart m t) s = execUrgentConversionStart m t s from rfl, execUrgentConversionStart]
  simp only [h, if_neg hfree, if_neg hgoes, hsource]
  rfl

theorem exec_urgentConversionStart_own (hsource : ∀ cl tag, q.source ≠ .command cl tag) :
    exec (.urgentConversionStart m t) s = .next (urgentStarted m q rest s) := by
  have hfree : ¬(m ≥ 4 ∨ (convAt s m).serving.isSome = true) := by simp [hserving, hm]
  have hgoes : ¬((convAt s m).state = .table ∧ finishFirst s m q = true) := by
    rcases hnow with h | h <;> simp [h]
  rw [show exec (.urgentConversionStart m t) s = execUrgentConversionStart m t s from rfl, execUrgentConversionStart]
  cases hq : q.source with
  | command cl tag => exact absurd hq (hsource cl tag)
  | tu =>
    simp only [h, if_neg hfree, if_neg hgoes, hq]
    rfl
  | calibrate full ref =>
    simp only [h, if_neg hfree, if_neg hgoes, hq]
    rfl

end

theorem urgentStarted_result (hm : m < s.mon.conv.length) :
    urgentStarted m q rest s = { s with mon := (urgentStarted m q rest s).mon } ∧
      (convAt (urgentStarted m q rest s) m).state = .urgent ∧ (convAt (urgentStarted m q rest s) m).serving = some q ∧
      (convAt (urgentStarted m q rest s) m).queue = rest ∧ (convAt (urgentStarted m q rest s) m).left = (convAt s m).left ∧
      (urgentStarted m q rest s).mon.redo = sat32 (s.mon.redo + b2n (decide ((convAt s m).state = .table))) ∧
      ∀ k, k ≠ m → convAt (urgentStarted m q rest s) k = convAt s k := by
  obtain ⟨⟨o, g, hself⟩, hothers⟩ := convAt_latchCal m q.input (modConv m (toUrgent q rest) (redoCounted m s))
  obtain ⟨l, honly, -⟩ := (ConvsOnly.modConv m (toUrgent q rest) (redoCounted m s)).trans _ _ _ (ConvsOnly.latchCal m q.input _)
  rw [convAt_modConv_self (show m < (redoCounted m s).mon.conv.length from hm)] at hself
  unfold urgentStarted
  rw [hself]
  refine ⟨?_, rfl, rfl, rfl, rfl, ?_, fun k hk => (hothers k hk).trans (convAt_modConv_other hk)⟩
  · rw [honly]
    rfl
  · rw [honly]
    rfl

end

/-! An entry started, from READY and after the delay. -/

section
variable {s : State}

theorem roundState_only (s : State) : ∃ x, roundState s = { s with mon := x } := by
  unfold roundState
  split
  · exact ⟨_, rfl⟩
  · exact ⟨s.mon, rfl⟩

theorem entryStarted_mon (s : State) : ∃ l, entryStarted s = { s with mon := { (roundState s).mon with
    phase := .converting, entry := nextEntry s, conv := l } } := by
  obtain ⟨l, e, -⟩ := entryStarted_convsOnly s
  obtain ⟨x, hround⟩ := roundState_only s
  rw [hround] at e ⊢
  exact ⟨l, e⟩

theorem entryStarted_ready (h : s.mon.phase = .ready) : nextEntry s = s.mon.entry ∧
    entryStarted s = { s with mon := (entryStarted s).mon } ∧ (entryStarted s).mon.phase = .converting ∧
    (entryStarted s).mon.entry = s.mon.entry ∧ (entryStarted s).mon.passes = s.mon.passes := by
  have hnext : nextEntry s = s.mon.entry := if_neg (by simp [h])
  have hround : roundState s = s := if_neg (by simp [h])
  obtain ⟨l, e⟩ := entryStarted_mon s
  rw [e, hround, hnext]
  exact ⟨rfl, rfl, rfl, rfl, rfl⟩

theorem entryStarted_delay (h : s.mon.phase = .delay) : (entryStarted s).mon.phase = .converting ∧
    (entryStarted s).mon.entry = (s.mon.entry + 1) % max 1 s.mon.table.length ∧
    ((entryStarted s).mon.entry = 0 → (entryStarted s).mon.passes = sat32 (s.mon.passes + 1) ∧
      bit (entryStarted s).mon.cause 16 = true) := by
  have hnext : nextEntry s = (s.mon.entry + 1) % max 1 s.mon.table.length := if_pos h
  obtain ⟨l, e⟩ := entryStarted_mon s
  rw [e]
  refine ⟨rfl, hnext, fun hzero => ?_⟩
  rw [show roundState s = monCause [16] (modMon (fun x => { x with passes := sat32 (x.passes + 1) }) s) from if_pos ⟨h, hzero⟩]
  exact ⟨rfl, bit_setBits_self _ _⟩

end

/-- Settles O53: the sequencer's start through `entryStarted`, a conversion's end through `endTable_keeps`, the urgent start
through `urgentStarted`, and what each command means. -/
theorem monitor : Obligations.Monitor := by
  unfold Obligations.Monitor
  constructor
  · intro s m raw t v x e es run ovr
    refine ⟨exec_monSequenceCommit_none, fun hstaged hphase => ?busy, fun hstaged hphase => ?commit,
      fun hphase hstaged hlen hfree => ?ready, fun hphase hstaged hfree => ?delay, fun hready hdelay => ?stopped,
      exec_conversionEnd_none, exec_conversionEnd_table, exec_conversionEnd_urgent, fun hm hlen => ?table,
      fun c r g hv hlo hhi => resultOf_inside hv hlo hhi, fun hwin hout => ?window, fun hlo hhi => ?inside,
      fun hm hlen hdest hfull => ?full, fun hm hlen hdest hroom => ?room, fun hempty => ?noFifo, fun w rest hfifo => ?fifo, rfl⟩
    case busy => exact (exec_monSequenceCommit_some hstaged).trans (congrArg Host.Outcome.next (if_pos hphase))
    case commit => exact (exec_monSequenceCommit_some hstaged).trans (congrArg Host.Outcome.next (if_neg hphase))
    case ready =>
      obtain ⟨hnext, honly, hconverting, hentry, hpasses⟩ := entryStarted_ready hphase
      refine ⟨_, exec_sequencerEntryStart (.inl hphase) hstaged (by rw [hnext]; exact hfree), honly, hconverting, hentry, hpasses,
        fun k hk => ?_⟩
      have hconv := entryStarted_conv (s := s) hk hlen
      rwa [hnext] at hconv
    case delay =>
      exact ⟨_, exec_sequencerEntryStart (.inr hphase) hstaged (fun k hk _ => hfree k hk), entryStarted_delay hphase⟩
    case stopped => exact congrArg Host.Outcome.next (if_neg (by simp [hready, hdelay]))
    case table => exact endTable_result x t (by omega)
    case window => exact if_pos ⟨hwin, hout⟩
    case inside => exact if_neg (by omega)
    case full => exact pushFifo_full (by omega) hdest hfull
    case room => exact pushFifo_room (by omega) hdest hroom
    case noFifo =>
      have hread := monFifoRead_empty hempty
      refine ⟨congrArg (fun p : Nat × State => Host.Outcome.next p.2) hread, congrArg Prod.fst hread, ?_⟩
      rw [hread]
    case fifo =>
      have hread := monFifoRead_first hfifo
      exact ⟨congrArg Prod.fst hread, congrArg (fun p : Nat × State => Host.Outcome.next p.2) hread⟩
  · intro r t m s u es q rest
    refine ⟨fun htakes hn hn' hlen hrun hes hres hok => ?sequence, fun htakes h => ?badCount,
      fun htakes h24 h25 h26 hidle hroom => ?measures, fun u0 u1 htakes h24 h25 h26 h0 h1 => ?calibrates, fun htakes => ?read,
      fun htakes h24 h25 h26 h27 hroom => ?urgent, fun htakes h24 h25 h26 h27 hfull => ?urgentFull,
      exec_urgentConversionStart_none, fun hm hlen hserving hqueue hnow => ?starts, exec_urgentConversionStart_waits⟩
    case sequence =>
      have hmeaning := monSequence_table (r := { r with opcode := 0x0B01 }) t (s := u) hn hn' hlen hrun hes hres hok
      refine ⟨fun hphase => ?_, fun hphase => ?_⟩
      · refine (takes_ended (k := 0) monSequence htakes (hmeaning.trans (if_neg hphase))).trans ?_
        rw [commitTable_run]
        rfl
      · exact takes_stays monSequence htakes (hmeaning.trans (if_pos hphase))
    case badCount => exact takes_ended (k := 0) monSequence htakes (monSequence_badCount (r := { r with opcode := 0x0B01 }) t h)
    case measures =>
      exact takes_stays monCalibrate htakes (monCalibrate_measures (r := { r with opcode := 0x0B02 }) t h24 h25 h26 hidle hroom)
    case calibrates =>
      refine ⟨fun hclose => ?_, fun g hfar hg hlo hhi => ?_⟩
      · exact takes_ended (k := 0) monCalibrate htakes
          (monCalibrate_close (r := { r with opcode := 0x0B02 }) t h24 h25 h26 h0 h1 hclose)
      · exact takes_ended (k := 0) monCalibrate htakes
          (monCalibrate_computes (r := { r with opcode := 0x0B02 }) t h24 h25 h26 h0 h1 hfar hg hlo hhi)
    case read =>
      refine ⟨_, takes_ended (k := 0) monRead htakes (monRead_records (r := { r with opcode := 0x0B03 }) t), length_fields _, ?_⟩
      exact fun k hk => fields_records (length_readRecord t) hk
    case urgent =>
      exact takes_stays monUrgent htakes (monUrgent_room (r := { r with opcode := 0x0B04 }) t h24 h25 h26 h27 hroom)
    case urgentFull =>
      exact takes_ended (k := 0) monUrgent htakes (monUrgent_full (r := { r with opcode := 0x0B04 }) t h24 h25 h26 h27 hfull)
    case starts =>
      obtain ⟨honly, hstate, hserved, hrest, hleft, hredo, hothers⟩ := urgentStarted_result (q := q) (rest := rest)
        (show m < s.mon.conv.length by omega)
      exact ⟨_, honly, hstate, hserved, hrest, hleft, hredo, hothers,
        fun hsource => exec_urgentConversionStart_own hm hserving hqueue hnow hsource,
        fun cl tag hsource => exec_urgentConversionStart_command hm hserving hqueue hnow hsource⟩

end Sys2Proof.Machine
end

section
/-! Constellations: the commands, realignment and beacons (19 R423 to R428, R430, R431, R433; 16 Table 16.14). -/

namespace Sys2Proof.Machine
open Sys2Proof

theorem eraseDups_of_nodup {l : List Nat} (h : l.Nodup) : l.eraseDups = l := by
  induction l with
  | nil => rfl
  | cons a l ih =>
    obtain ⟨ha, hl⟩ := List.nodup_cons.mp h
    have hkeeps : l.filter (fun b => !b == a) = l :=
      List.filter_eq_self.mpr fun b hb => by simpa using fun hba : b = a => ha (hba ▸ hb)
    rw [List.eraseDups_cons, hkeeps, ih hl]

/-! The commands of group 0x0C. -/

section
variable {r : Req} (t : Nat) {s : State} {cfg : ConstCfg} {l : List Nat}

section
variable (hn : 1 ≤ b8 r 26) (hn' : b8 r 26 ≤ 64) (hlen : r.arg.length = 4 * cdiv (2 * b8 r 26) 4)
include hn hn' hlen

theorem constJoin_noConstellation (hcfg : conCfg s = none) : constJoin r t s = notInState s := by
  have hcount : ¬(b8 r 26 = 0 ∨ 64 < b8 r 26) := by omega
  simp only [constJoin, if_neg hcount, if_neg (not_not.mpr hlen), hcfg]

/-- CONST_JOIN, past its checks of the request and of the device. -/
theorem constJoin_members (hcfg : conCfg s = some cfg) (hrun : dpRun s = true)
    (hl : l = (upTo (b8 r 26)).map (fun i => u16 r.arg (2 * i))) :
    constJoin r t s = if l.any (fun x => !cfg.members.contains x || decide (x = ownSource s)) || l.eraseDups.length < b8 r 26
      then badRange s
      else { st := modCon (fun c => { c with staged := some (b16 r 24, l) }) s, stay := some .staged
             reply := { result := fields [(24, leBytes 1 (b8 r 26))] } } := by
  have hcount : ¬(b8 r 26 = 0 ∨ 64 < b8 r 26) := by omega
  subst hl
  simp only [constJoin, if_neg hcount, if_neg (not_not.mpr hlen), hcfg, hrun, Bool.not_true, Bool.false_eq_true, if_false]

theorem constJoin_joins (hcfg : conCfg s = some cfg) (hrun : dpRun s = true)
    (hl : l = (upTo (b8 r 26)).map (fun i => u16 r.arg (2 * i))) (hall : ∀ x ∈ l, x ∈ cfg.members ∧ x ≠ ownSource s)
    (hnodup : l.Nodup) : constJoin r t s = {
      st := modCon (fun c => { c with staged := some (b16 r 24, l) }) s, stay := some .staged
      reply := { result := fields [(24, leBytes 1 (b8 r 26))] } } := by
  refine (constJoin_members t hn hn' hlen hcfg hrun hl).trans (if_neg ?_)
  have hcount : ¬l.eraseDups.length < b8 r 26 := by
    rw [eraseDups_of_nodup hnodup, hl, List.length_map, upTo, List.length_range]
    omega
  have hmembers : l.any (fun x => !cfg.members.contains x || decide (x = ownSource s)) = false := by
    rw [List.any_eq_false]
    intro x hx
    obtain ⟨hin, hother⟩ := hall x hx
    simp [hin, hother]
  rw [hmembers, decide_eq_false hcount]
  decide

theorem constJoin_stranger (hcfg : conCfg s = some cfg) (hrun : dpRun s = true)
    (hl : l = (upTo (b8 r 26)).map (fun i => u16 r.arg (2 * i))) (hsome : ∃ x ∈ l, x ∉ cfg.members ∨ x = ownSource s) :
    constJoin r t s = badRange s := by
  refine (constJoin_members t hn hn' hlen hcfg hrun hl).trans (if_pos ?_)
  obtain ⟨x, hx, hbad⟩ := hsome
  have hany : l.any (fun x => !cfg.members.contains x || decide (x = ownSource s)) = true := by
    refine List.any_eq_true.mpr ⟨x, hx, ?_⟩
    rcases hbad with hbad | hbad
    · simp [hbad]
    · simp [hbad]
  rw [hany, Bool.true_or]

end

/-- CONST_STATE's answer: whether joined and agreeing, the peers, and those in disagreement. -/
theorem constState_fields (a b c : Nat) :
    u8 (fields [(24, leBytes 1 a), (25, leBytes 1 b), (26, leBytes 2 c)]) 0 = a % 256 ∧
      u8 (fields [(24, leBytes 1 a), (25, leBytes 1 b), (26, leBytes 2 c)]) 1 = b % 256 ∧
      u16 (fields [(24, leBytes 1 a), (25, leBytes 1 b), (26, leBytes 2 c)]) 2 = c % 65536 := by
  have hbyte : ∀ (l : List Byte) (i : Nat), u8 l i = leAt l i 1 := fun l i => by rw [leAt, leAt, Nat.mul_zero, Nat.add_zero]
  have hsame : ∀ {base : List Byte} {off n v : Nat}, off + n ≤ base.length →
      ((overlay base off (leBytes n v)).drop off).take n = leBytes n v := by
    intro base off n v h
    have h' := slice_overlay_same (base := base) (off := off) (b := leBytes n v) (by rw [length_leBytes]; exact h)
    rwa [length_leBytes] at h'
  unfold fields
  dsimp only [List.foldl]
  refine ⟨?_, ?_, leAt_of_slice (hsame (by simp))⟩
  · rw [hbyte]
    refine leAt_of_slice ?_
    iterate 2 rw [slice_overlay_before (by decide) (by simp)]
    exact hsame (by simp)
  · rw [hbyte]
    refine leAt_of_slice ?_
    rw [slice_overlay_before (by decide) (by simp)]
    exact hsame (by simp)

theorem constPolicy_sets (hhold : b8 r 24 ≤ 1) (hlo : 20 ≤ b32 r 28) (hhi : b32 r 28 ≤ 1000000)
    (hleader : (peerOf s (b16 r 26)).isSome = true ∨ ownId s = some (b16 r 26)) : constPolicy r t s = {
      st := judgeLeader (modCon (fun c => { c with
        hold := decide (b8 r 24 = 1), leader := some (b16 r 26), bound := b32 r 28 }) s) } := by
  have hbound : inRange 20 1000000 (b32 r 28) = true := (inRange_iff _ _ _).mpr ⟨hlo, hhi⟩
  refine (if_neg (by rw [hbound]; simp; omega)).trans (if_neg ?_)
  rintro ⟨hnone, hother⟩
  rcases hleader with h | h
  · rw [← Option.not_isNone, hnone] at h
    exact absurd h (by decide)
  · exact hother h

theorem constPolicy_bad (h : 1 < b8 r 24 ∨ b32 r 28 < 20 ∨ 1000000 < b32 r 28) : constPolicy r t s = badRange s := by
  refine if_pos ?_
  rcases h with h | h
  · exact .inl h
  · refine .inr ?_
    rw [Bool.not_eq_true', ← Bool.not_eq_true, inRange_iff]
    omega

end

/-! Silence, realignment and the alarm. -/

section
variable {s : State}

theorem exec_peerSilent_some {n now : Nat} {p : Peer} (h : peerOf s n = some p) : exec (.peerSilent n now) s = .next
    (if dpRun s && s.con.joined && decide (p.state ≠ 3) &&
        decide (max (p.lastAt.getD 0) p.since + 3000000000 * 65536 ≤ now) then
      judgeLeader (judgeSuspect (conCause [2] (setPeer { p with state := 3, differ := [0, 0, 0, 0], agree := [0, 0, 0, 0] } s)))
    else s) := by
  rw [show exec (.peerSilent n now) s = execPeerSilent n now s from rfl, execPeerSilent]
  simp only [h]

theorem exec_peerSilent_none {n now : Nat} (h : peerOf s n = none) : exec (.peerSilent n now) s = .next s := by
  rw [show exec (.peerSilent n now) s = execPeerSilent n now s from rfl, execPeerSilent]
  simp only [h]

theorem exec_constRealign_notDue {t : Nat} (h : s.con.due = false) : exec (.constRealign t) s = .next s :=
  congrArg Host.Outcome.next (if_neg (by simp [h]))

section
variable {t : Nat} (hdue : s.con.due = true) (hrun : dpRun s = true) (hshift : s.shift.onShift < 2) (hjoined : s.con.joined = true)
include hdue hrun hshift hjoined

theorem exec_constRealign_again (hstops : hostStops s = true) : exec (.constRealign t) s = .next { s with
    con := { s.con with due := false, again := true } } :=
  congrArg Host.Outcome.next ((if_pos (by simp [hdue, hrun, hshift, hjoined])).trans (if_pos hstops))

theorem exec_constRealign_holds (hstops : hostStops s = false) (hhold : s.con.hold = true) :
    exec (.constRealign t) s = .next { s with
      con := { s.con with due := false, holding := true }, tal := { s.tal with ended := true, next := none } } :=
  congrArg Host.Outcome.next ((if_pos (by simp [hdue, hrun, hshift, hjoined])).trans
    ((if_neg (show ¬hostStops s = true by simp [hstops])).trans (if_pos hhold)))

theorem exec_constRealign_aligns {p : Peer} {b : Bundle} (hstops : hostStops s = false) (hhold : s.con.hold = false)
    (hleader : s.con.leader.bind (peerOf s) = some p) (hactive : s.bun.active = some b) :
    exec (.constRealign t) s = .next (realign b p t { s with con := { s.con with due := false } }) := by
  refine congrArg Host.Outcome.next ((if_pos (by simp [hdue, hrun, hshift, hjoined])).trans
    ((if_neg (show ¬hostStops s = true by simp [hstops])).trans
      ((if_neg (show ¬s.con.hold = true by simp [hhold])).trans ?_)))
  have hleader' : (modCon (fun c => { c with due := false }) s).con.leader.bind
      (peerOf (modCon (fun c => { c with due := false }) s)) = some p := hleader
  have hactive' : (modCon (fun c => { c with due := false }) s).bun.active = some b := hactive
  simp only [hleader', hactive']
  rfl

end

theorem exec_constAlarmPoll_quiet (h : s.con.newly = 0 ∨ 2 ≤ s.shift.onShift) : exec .constAlarmPoll s = .next s :=
  congrArg Host.Outcome.next (if_neg (by omega))

theorem exec_constAlarmPoll_alarms {cfg : ConstCfg} (hnew : s.con.newly ≠ 0) (hshift : s.shift.onShift < 2)
    (hcfg : conCfg s = some cfg) : exec .constAlarmPoll s = .next
      (swSet (cfg.alarmSource / 32) (2 ^ (cfg.alarmSource % 32)) { s with con := { s.con with newly := 0 } }) := by
  refine congrArg Host.Outcome.next ((if_pos ⟨hnew, hshift⟩).trans ?_)
  have hcfg' : conCfg (modCon (fun c => { c with newly := 0 }) s) = some cfg := hcfg
  simp only [hcfg']
  rfl

/-! A beacon received. -/

section
variable {u : State} {lane ingress : Nat} {b : List Byte}

theorem takeDelivered_same {typ : Nat} (h : takeDelivered lane typ s = some (b, u)) : ∃ x, u = { s with lanes := x } := by
  obtain ⟨p, -, -, -, -, rfl⟩ := takeDelivered_some h
  exact ⟨_, rfl⟩

theorem exec_beaconReceived_none (h : takeDelivered lane 4 s = none) : exec (.beaconReceived lane ingress) s = .next s := by
  rw [show exec (.beaconReceived lane ingress) s = execBeaconReceived lane ingress s from rfl, execBeaconReceived]
  simp only [h]

section
variable (h : takeDelivered lane 4 s = some (b, u))
include h

theorem exec_beaconReceived_stranger (hpeer : peerOf u (hSource b) = none) : exec (.beaconReceived lane ingress) s =
    .next { u with con := { u.con with foreign := sat32 (u.con.foreign + 1) } } := by
  rw [show exec (.beaconReceived lane ingress) s = execBeaconReceived lane ingress s from rfl, execBeaconReceived]
  simp only [h, hpeer]
  rfl

/-- A beacon of a peer is taken when this machine has joined, the beacon is for it, and of its constellation. -/
theorem exec_beaconReceived_peer {p : Peer} (hpeer : peerOf u (hSource b) = some p) : exec (.beaconReceived lane ingress) s = .next
    (if u.con.joined && (decide (ownId u = some (hDest b)) || decide (hDest b = 0xFFF)) &&
        decide (u16 (hPayload b) 6 = u.con.number) then
      takeBeacon p (hEpoch b) (hPayload b) (decide (hDest b ≠ 0xFFF)) ingress u
    else { u with con := { u.con with foreign := sat32 (u.con.foreign + 1) } }) := by
  obtain ⟨x, rfl⟩ := takeDelivered_same h
  rw [show exec (.beaconReceived lane ingress) s = execBeaconReceived lane ingress s from rfl, execBeaconReceived]
  simp only [h, hpeer]
  rfl

end

end

/-! Disagreement, suspicion and the time measurement. -/

theorem getD_upd_same {α : Type} {l : List α} {k : Nat} {f : α → α} {d : α} (h : k < l.length) :
    (upd l k f).getD k d = f (l.getD k d) := by rw [getD_upd, if_pos ⟨rfl, h⟩]

theorem getD_upd_other {α : Type} {l : List α} {j k : Nat} {f : α → α} {d : α} (h : j ≠ k) :
    (upd l k f).getD j d = l.getD j d := by rw [getD_upd, if_neg (by simp [h])]

theorem judgeKind_differs {k : Nat} {p : Peer} (hk : k < p.kinds.length) (hd : k < p.differ.length) (ha : k < p.agree.length) :
    (judgeKind k true p).differ.getD k 0 = min (p.differ.getD k 0 + 1) 3 ∧ (judgeKind k true p).agree.getD k 0 = 0 ∧
      (judgeKind k true p).kinds.getD k false = (p.kinds.getD k false || decide (2 ≤ p.differ.getD k 0)) := by
  rw [judgeKind, if_pos rfl]
  refine ⟨getD_upd_same hd, getD_upd_same ha, ?_⟩
  dsimp only
  by_cases h : 2 ≤ p.differ.getD k 0
  · rw [if_pos (by omega), getD_upd_same hk, decide_eq_true h, Bool.or_true]
  · rw [if_neg (by omega), decide_eq_false h, Bool.or_false]

theorem judgeKind_agrees {k : Nat} {p : Peer} (hk : k < p.kinds.length) (hd : k < p.differ.length) (ha : k < p.agree.length) :
    (judgeKind k false p).agree.getD k 0 = min (p.agree.getD k 0 + 1) 3 ∧ (judgeKind k false p).differ.getD k 0 = 0 ∧
      (judgeKind k false p).kinds.getD k false = (p.kinds.getD k false && decide (p.agree.getD k 0 < 2)) := by
  rw [judgeKind, if_neg (by decide)]
  refine ⟨getD_upd_same ha, getD_upd_same hd, ?_⟩
  dsimp only
  by_cases h : p.agree.getD k 0 < 2
  · rw [if_neg (by omega), decide_eq_true h, Bool.and_true]
  · rw [if_pos (by omega), getD_upd_same hk, decide_eq_false h, Bool.and_false]

theorem judgeKind_other {j k : Nat} (d : Bool) {p : Peer} (h : j ≠ k) :
    (judgeKind k d p).kinds.getD j false = p.kinds.getD j false ∧ (judgeKind k d p).differ.getD j 0 = p.differ.getD j 0 ∧
      (judgeKind k d p).agree.getD j 0 = p.agree.getD j 0 := by
  have hkinds : ∀ (c : Prop) [Decidable c] (v : Bool), (if c then upd p.kinds k (fun _ => v) else p.kinds).getD j false =
      p.kinds.getD j false := by
    intro c _ v
    split
    · exact getD_upd_other h
    · rfl
  cases d with
  | false => exact ⟨hkinds _ _, getD_upd_other h, getD_upd_other h⟩
  | true => exact ⟨hkinds _ _, getD_upd_other h, getD_upd_other h⟩

theorem judgeSuspect_result (s : State) : (judgeSuspect s).sys.suspect =
      decide ((heard s).length < 2 * ((heard s).filter (fun x => x.kinds.getD 0 false)).length) ∧
    judgeSuspect s = { s with sys := { s.sys with suspect := (judgeSuspect s).sys.suspect }, con := (judgeSuspect s).con } ∧
    (judgeSuspect s).con.peers = s.con.peers := by
  unfold judgeSuspect
  dsimp only
  split
  · next h => exact ⟨h.symm, rfl, rfl⟩
  · exact ⟨rfl, rfl, rfl⟩

/-- The receive time nearest to `t1` of those that agree with the 48 bits sent. -/
theorem nearestRx_near (t1 rx : Nat) : (nearestRx t1 rx - rx) % 2 ^ 48 = 0 ∧ 2 * (nearestRx t1 rx - t1) < 2 ^ 48 ∧
    -(2 ^ 48) ≤ 2 * (nearestRx t1 rx - t1) := by
  unfold nearestRx
  dsimp only
  split <;> omega

theorem measureTime_near {p : Peer} {body : List Byte} {asym : Int} {t1 ingress : Nat} {t2 t3 : Int}
    (hsent : p.sent.find? (fun x => x.1 == u16 body 56) = some (u16 body 56, t1)) (ht2 : t2 = nearestRx t1 (u48 body 58))
    (ht3 : t3 = ((u48 body 44 * 1000000000 + u32 body 50) * 65536 + u16 body 54 : Nat))
    (hnear : (t3 - ingress).natAbs < 1000000000 * 65536) : measureTime p body asym ingress =
      some ((t2 - t1) - (ingress - t3) - asym * 65536, (t2 - t1) + (ingress - t3), false) := by
  subst ht2 ht3
  have hclose : ¬(1000000000 * 65536 : Int) ≤ (((((u48 body 44 * 1000000000 + u32 body 50) * 65536 + u16 body 54 : Nat) : Int) -
      (ingress : Int)).natAbs : Int) := by omega
  simp only [measureTime, hsent, decide_eq_false hclose, Bool.false_eq_true, if_false]

end

/-- Settles O54: what each command of the group means, the branches of the beacon unit's events, and the arithmetic of its
measurements. -/
theorem constellation : Obligations.Constellation := by
  unfold Obligations.Constellation
  constructor
  · intro r t n now s u cfg l
    refine ⟨fun htakes hcfg hrun hn hn' hlen hl => ?join, fun htakes hcfg hn hn' hlen => ?noConstellation, fun htakes => ?state,
      fun htakes hhold hlo hhi hleader => ?policy, fun htakes h => ?badPolicy,
      fun p hpeer hrun hjoined hstate hdue => ?silent, fun p hpeer hearly => ?heard, exec_peerSilent_none,
      exec_constRealign_notDue, exec_constRealign_again, exec_constRealign_holds,
      fun p b hdue hrun hshift hjoined hstops hhold hleader hactive => ?aligns, exec_constAlarmPoll_quiet, exec_constAlarmPoll_alarms,
      fun hrun => ?registers, fun hrun => ?noRegisters⟩
    case join =>
      refine ⟨fun hall hnodup => ?_, fun hsome => ?_⟩
      · exact takes_stays constJoin htakes
          (constJoin_joins (r := { r with opcode := 0x0C01 }) t hn hn' hlen hcfg hrun hl hall hnodup)
      · exact takes_ended (k := 0) constJoin htakes
          (constJoin_stranger (r := { r with opcode := 0x0C01 }) t hn hn' hlen hcfg hrun hl hsome)
    case noConstellation =>
      exact takes_ended (k := 0) constJoin htakes (constJoin_noConstellation (r := { r with opcode := 0x0C01 }) t hn hn' hlen hcfg)
    case state =>
      obtain ⟨hflags, hcount, hdisagree⟩ := constState_fields
        (b2n u.con.joined + 2 * b2n (u.con.joined && u.con.peers.all (fun p => decide (p.state = 1)))) u.con.peers.length
        (disagreeing u)
      refine ⟨_, takes_ended (k := 0) constState htakes rfl, hflags.trans (Nat.mod_eq_of_lt ?_), hcount, hdisagree⟩
      have hbit : ∀ b : Bool, b2n b ≤ 1 := by decide
      have hjoined := hbit u.con.joined
      have hagree := hbit (u.con.joined && u.con.peers.all (fun p => decide (p.state = 1)))
      omega
    case policy =>
      exact takes_ended (k := 0) constPolicy htakes (constPolicy_sets (r := { r with opcode := 0x0C03 }) t hhold hlo hhi hleader)
    case badPolicy => exact takes_ended (k := 0) constPolicy htakes (constPolicy_bad (r := { r with opcode := 0x0C03 }) t h)
    case silent =>
      exact (exec_peerSilent_some hpeer).trans (congrArg Host.Outcome.next (if_pos (by simp [hrun, hjoined, hstate, hdue])))
    case heard =>
      exact (exec_peerSilent_some hpeer).trans (congrArg Host.Outcome.next (if_neg (by
        rw [decide_eq_false (Nat.not_le.mpr hearly), Bool.and_false]
        exact Bool.false_ne_true)))
    case aligns => exact exec_constRealign_aligns hdue hrun hshift hjoined hstops hhold hleader hactive
    case registers => exact ⟨congrArg Host.Outcome.next (if_pos hrun), congrArg Host.Outcome.next (if_pos hrun)⟩
    case noRegisters =>
      exact ⟨congrArg Host.Outcome.next (if_neg (by simp [hrun])), congrArg Host.Outcome.next (if_neg (by simp [hrun]))⟩
  · intro s u lane ingress k b p d
    refine ⟨exec_beaconReceived_none, exec_beaconReceived_stranger, fun htake hpeer hnumber => ?foreign,
      fun htake hpeer hjoined hnumber hdest => ?taken, fun hk hkinds hdiffer hagree => ?judges, judgeSuspect_result s,
      nearestRx_near, fun body asym t1 t2 t3 => measureTime_near⟩
    case foreign =>
      exact (exec_beaconReceived_peer htake hpeer).trans (congrArg Host.Outcome.next (if_neg (by simp [hnumber])))
    case taken =>
      refine (exec_beaconReceived_peer htake hpeer).trans (congrArg Host.Outcome.next (if_pos ?_))
      rw [hjoined, decide_eq_true hnumber]
      simpa using hdest
    case judges =>
      obtain ⟨hcount, hreset, hkind⟩ := judgeKind_differs (k := k) (p := p) (by omega) (by omega) (by omega)
      obtain ⟨hcount', hreset', hkind'⟩ := judgeKind_agrees (k := k) (p := p) (by omega) (by omega) (by omega)
      exact ⟨hcount, hreset, hkind, hcount', hreset', hkind', fun j hj => judgeKind_other d hj⟩

end Sys2Proof.Machine
end
